-- ==== Sys2Proof/Word.lean ====
section
/-!
DEFINITION. The word and byte types of the live registers (R1) and of packet payloads (R117), and their plainest
arithmetic.
-/

namespace Sys2Proof

/-- Every live register is 32 bits wide (R1). -/
abbrev Word := BitVec 32

/-- A byte of a payload or of a memory. -/
abbrev Byte := BitVec 8

/-- A 256-bit key (R366). -/
abbrev Key := BitVec 256

/-- A 128-bit device serial (R58). -/
abbrev Serial := BitVec 128

end Sys2Proof
end

