-- ==== Sys2Proof/Machine/Types.lean ====
section
/-!
DEFINITION. The small types that commands, plan and state share: the supplies, the initiators, the lanes and ports,
the items of the health record, the contents of the fuses and of the external NVM.
-/

namespace Sys2Proof.Machine

/-- The monitored supplies, in the bit order of `SUP_STAT` (R32). -/
inductive Supply where
  | vcore | vsram | vlane09 | vlane12 | vio18 | vio33 | vddq | vkeep
  deriving DecidableEq, Repr

/-- The bit of `SUP_STAT` and of `SUP_EVT.DIP` that stands for a supply. -/
def Supply.bit : Supply → Nat
  | .vcore => 0 | .vsram => 1 | .vlane09 => 2 | .vlane12 => 3
  | .vio18 => 4 | .vio33 => 5 | .vddq => 6 | .vkeep => 7

/-- The initiators of R343, in the order of their codes. -/
inductive Initiator where
  | keeper | a0 | a1 | service
  deriving DecidableEq, Repr

/-- An initiator's code (R343). -/
def Initiator.code : Initiator → Nat
  | .keeper => 0 | .a0 => 1 | .a1 => 2 | .service => 3

/-- The initiator with a code; codes are two bits wide, and 3 is the service agent. -/
def Initiator.ofCode : Nat → Initiator
  | 0 => .keeper | 1 => .a0 | 2 => .a1 | _ => .service

/-- The width of a bus access in bits (R1 refuses every width but 32 at a live register). -/
inductive AccessSize where
  | b8 | b16 | b32 | b64
  deriving DecidableEq, Repr

/-- The bytes an access of a width covers. -/
def AccessSize.bytes : AccessSize → Nat
  | .b8 => 1 | .b16 => 2 | .b32 => 4 | .b64 => 8

/-- What the error-correcting code of a 64-bit word shows at an access (R346). -/
inductive Ecc where
  | good | single | uncorrectable
  deriving DecidableEq, Repr

/-- An access to core memory, the tile store, the LPDDR window or a register block (R345). -/
structure MemAccess where
  who : Initiator
  write : Bool
  addr : Word
  size : AccessSize
  value : BitVec 64
  ecc : Ecc
  deriving DecidableEq, Repr

/-- The health record's items (R21): a lane of one of the Head's ports, a lane or a link between two devices, a Tile,
and the partner Head. Links carry the plan's number. -/
inductive HealthItem where
  | lane (link : Nat) (k : Fin 4)
  | link (link : Nat)
  | tile (id : Nat)
  | partner
  deriving DecidableEq, Repr

/-- An entry of a cover set (R21): one item, or an allowance of up to `k` lanes of one link. -/
inductive CoverEntry where
  | item (i : HealthItem)
  | allowance (link : Nat) (k : Nat)
  deriving DecidableEq, Repr

/-- The items of the fuse array (R58). -/
structure Fuses where
  serial : Serial := 0
  rootDigest : BitVec 384 := 0
  life : BitVec 8 := 0
  fwRollback : BitVec 64 := 0
  planRollback : BitVec 64 := 0
  /-- Bandgap, `IREF` reference, temperature sensors and PLLs; in the shadow registers they are applied. -/
  trims : BitVec 512 := 0
  options : BitVec 32 := 0
  /-- Sink trim codes by sink index; a sink not listed reads 0. -/
  sinkTrim : List (BitVec 6) := []
  deriving DecidableEq, Repr

/-- The evaluated-configuration lock of the options word (R58); its bit is bit 0 (DESIGN CHOICE, log entry 62). -/
def Fuses.evalLock (f : Fuses) : Bool := f.options.getLsbD 0

/-- The debug-disable option (R58, R383); its bit is bit 1 (DESIGN CHOICE, log entry 62). -/
def Fuses.debugDisable (f : Fuses) : Bool := f.options.getLsbD 1

/-- The key array (R364): the device secret and the device certificate. No address reads it. -/
structure KeyArray where
  secret : BitVec 256 := 0
  cert : List Byte := []
  deriving DecidableEq, Repr

/-- A certificate table (R369): the root public key and up to 15 certificates, each as its bytes (R368). -/
structure CertTable where
  root : List Byte := []
  certs : List (List Byte) := []
  deriving DecidableEq, Repr

/-- A signature block (R64, R186, R262, R391): the signer's certificate index and the signature (r, s). -/
structure SigBlock where
  signer : Nat := 0
  sig : List Byte := []
  deriving DecidableEq, Repr

/-- What fuse sensing met (R57): the words corrected and whether some word was uncorrectable. -/
structure FuseSense where
  corrected : Nat
  uncorrectable : Bool
  deriving DecidableEq, Repr

/-- What a directory copy of the NVM says (R61, R388): its fields beside magic and CRC. -/
structure DirCopy where
  serial : Word := 0
  active : Bool := false
  trial : Bool := false
  xclk : Byte := 0
  tries : Byte := 0
  wdlim : Byte := 0
  pkg : BitVec 64 := 0
  prev : BitVec 64 := 0
  deriving DecidableEq, Repr

/-- A firmware image (R62, R63, R369, R402): whether its header is well formed, its length, the bytes that its digest and
its signature cover, its certificate table, and the numbers its header carries, whose places the spec does not give (log
entry 62). `evaluated` says that its firmware certificate carries the evaluated version (R385). -/
structure FwImage where
  headerOk : Bool := false
  length : Nat := 0
  body : List Byte := []
  digest : BitVec 384 := 0
  sign : SigBlock := {}
  certs : CertTable := {}
  rollback : Nat := 0
  iface : Nat := 0
  settingsLo : Nat := 0
  settingsHi : Nat := 0
  evaluated : Bool := false
  /-- What it loads into core memory, by address (R63). -/
  code : List (Nat × Byte) := []
  deriving DecidableEq, Repr

/-- One item of a manifest (R391); `kind` 1 firmware, 2 plan, 3 factory region, 4 safety-pattern region. -/
structure UpdItem where
  kind : Nat
  target : Nat
  length : Nat
  digest : BitVec 384
  serialLimit : Serial
  deriving DecidableEq, Repr

/-- A package manifest (R391): the 4,096 bytes of block 0. -/
structure Manifest where
  bytes : List Byte
  deriving DecidableEq, Repr

/-- A matrix set (R260, R262): the words listed, the others as `identity` says: the words of identity entries, or 0. -/
structure MatrixSet where
  identity : Bool := false
  words : List (Nat × Word) := []
  deriving DecidableEq, Repr

/-- The factory region of the NVM (R262): the fields of its panel record, its sets and its signer. `signed` says that its
signature over the record and the sets present verifies under the signer's key. -/
structure FactoryRegion where
  signed : Bool := false
  signer : Nat := 0
  magic : Word := 0
  version : Nat := 0
  panelSerial : BitVec 128 := 0
  whites : List Nat := []
  sets : Nat := 0
  set0 : MatrixSet := {}
  set1 : MatrixSet := {}
  crc0 : Word := 0
  crc1 : Word := 0
  deriving DecidableEq, Repr

/-- The safety-pattern region (R186): the fields of its header, its patterns as their bytes, rows top first, and its
signer. `signed` says that its signature over the header and the patterns present verifies under the signer's key. -/
structure PatternRegion where
  signed : Bool := false
  signer : Nat := 0
  magic : Word := 0
  version : Nat := 0
  count : Nat := 0
  patterns : List (List Byte) := []
  deriving DecidableEq, Repr

/-- A link's, an encoder's or a decoder's picture position: one slice of one Tile's image of one facet (R216). -/
structure BlockJob where
  tile : Nat
  slice : Fin 32
  facet : Fin 4
  image : Word
  deriving DecidableEq, Repr

/-- A burst that a read engine has fetched (R156, R159): the engine, the plane and its line, where in the line it begins, and
its length in bytes. -/
structure Burst where
  engine : Fin 64
  plane : Fin 2
  line : Nat
  offset : Nat
  len : Nat
  deriving DecidableEq, Repr

/-- What a memory client bases its latency tolerance on (R160): a read engine the bytes buffered in each plane share; a
capture writer the time to its source's next active pixel, the bytes in its capture queue and the source's active byte rate
in bytes per µs; another client states its tolerance. -/
inductive MemClient where
  | engine (e : Fin 64) (shares : List Nat)
  | capture (waitNs queued rate : Nat)
  | other (ns : Nat)
  deriving DecidableEq, Repr

end Sys2Proof.Machine
end

