-- ==== Sys2Proof/Machine/Plan.lean ====
section
/-!
DEFINITION. The plan (R64): one structure per parameter group of "Plan parameters by group", with the defaults of the
chapters' parameter tables, and the plan and firmware images as the boot ROM reads them. Times stand in the unit the
parameter's name ends in; frequencies, ratios and rates with a fraction stand as integers in the unit the docstring
names.
-/

namespace Sys2Proof.Machine

/-- `sys` (R53, R350). Routes are initiator codes by block index; a block not listed routes to the keeper. -/
structure SysPlan where
  watchdogMs : Nat := 500
  irqRoute : List Nat := []
  deriving DecidableEq, Repr

/-- `wall` (R16, R64): the frame rate is `rateNum / rateDen` frames per second. -/
structure WallPlan where
  id : BitVec 64 := 0
  serial : Word := 0
  pairId : BitVec 64 := 0
  rateNum : Nat := 60
  rateDen : Nat := 1
  facets : Nat := 1
  chains : Nat := 0
  tilesPerChain : List Nat := []
  heads : Nat := 1
  headNumber : Nat := 0
  deriving DecidableEq, Repr

/-- One placement variant (R20): its number is its place in the list. -/
structure Variant where
  cover : List CoverEntry := []
  deriving DecidableEq, Repr

/-- `gov` and the plan's variants (R20 to R24, R448), with the plan's links: the ports of this Head by link number,
the links between two Tiles by the identifiers at their ends. -/
structure GovPlan where
  recoverHoldMs : Nat := 1000
  startGraceMs : Nat := 5000
  variants : List Variant := [{}]
  /-- `(link, port)`: the link of each chain port of this Head. -/
  headLinks : List (Nat × Nat) := []
  /-- `(link, tile at its end-A side, tile at its end-B side)`; 0 stands for a Head. -/
  tileLinks : List (Nat × Nat × Nat) := []
  deriving DecidableEq, Repr

/-- A board table's entry for one lane (R93); swing in mV, de-emphasis in tenths of a dB. -/
structure BoardLane where
  adaptive : Bool := true
  peak : Nat := 8
  swingMv : Nat := 800
  deemph10 : Nat := 35
  deriving DecidableEq, Repr

/-- A board table (R93); `none` for a DisplayPort level stands for adaptive. -/
structure BoardTable where
  lanes : List BoardLane := []
  dpVswing : Option Nat := none
  dpPreemph : Option Nat := none
  deriving DecidableEq, Repr

/-- `lane` (R93, R102, R105). -/
structure LanePlan where
  boards : List BoardTable := []
  tables : List Nat := []
  dpAuxRdInterval : Nat := 0
  svcAnEnable : Bool := true
  deriving DecidableEq, Repr

/-- One entry of `link.tx.sched` (R132): the packet of a variant's schedule that leaves a port, by its place in the
image: the type code, the destination and the instant after the image boundary in ns. -/
structure SchedEntry where
  port : Nat
  variant : Nat
  facet : Nat
  typ : Nat
  dst : Nat
  slice : Nat
  atNs : Nat
  /-- The packet is one of the pair's: every feeding end emits it identically, under SRC 1,022 (R118, R128). -/
  pair : Bool := false
  deriving DecidableEq, Repr

/-- `link` (R107, R121, R132 to R140). Rates are the codes of `LAN_CFG.RATE`. -/
structure LinkPlan where
  roles : List Nat := []
  rates : List Nat := []
  /-- The chain number of each Head port. -/
  chain : List Nat := [0, 1, 2, 3, 4, 5, 6, 7]
  /-- The chains that are rings, by Head number and chain number (R17, R131). -/
  rings : List (Nat × Nat) := []
  prot : Nat := 2
  enumPeriodMs : Nat := 100
  statusPeriodImages : Nat := 8
  authLimit : Nat := 16
  recovProbeMs : Nat := 500
  sched : List SchedEntry := []
  deriving DecidableEq, Repr

/-- `ingest.src[s]` (R141 to R145) and its receiver (R102). -/
structure SourcePlan where
  enable : Bool := false
  stores : Nat := 4
  storeBase : List Nat := []
  maxW : Nat := 7680
  maxH : Nat := 4320
  format : Nat := 0
  depth : Nat := 0
  lanes : Nat := 4
  maxRate : Nat := 3
  winX : Nat := 0
  winY : Nat := 0
  winW : Nat := 64
  winH : Nat := 64
  edid : List Byte := []
  deriving DecidableEq, Repr

/-- `ingest.facet[f]` (R153); `shutter` names SHUTTER0 or SHUTTER1. -/
structure FacetPlan where
  offsetLines : Nat := 0
  offsetMin : Nat := 0
  offsetMax : Nat := 0
  shutter : Option (Fin 2) := none
  leadNs : Nat := 0
  deriving DecidableEq, Repr

/-- `ingest.glk.source` (R147). -/
inductive GlkSource where
  | triLevel | biLevel | pulse | none
  deriving DecidableEq, Repr

/-- `ingest.rd[e]` (R156). -/
structure ReadEnginePlan where
  linebufKib : Nat := 32
  burstBytes : Nat := 1024
  deriving DecidableEq, Repr

/-- `ingest` (R141 to R161). -/
structure IngestPlan where
  src : List SourcePlan := []
  glk : GlkSource := .triLevel
  fieldRef : Bool := false
  phaseNs : Nat := 0
  pipes : Nat := 1
  htotal : Nat := 64
  vtotal : Nat := 64
  leadLines : Nat := 8
  minTailLines : Nat := 16
  facet : List FacetPlan := []
  shutterPolarity : List Bool := []
  slewLines : Nat := 4
  rd : List ReadEnginePlan := []
  srEnable : Bool := true
  srMinUs : Nat := 100
  srGuardUs : Nat := 2
  deriving DecidableEq, Repr

/-- `comp.layer[l]` (R163, R172): the source is a capture number or a buffer. Transfer 0 BT.709, 1 BT.2020, 2 PQ,
3 HLG, 4 linear; gamma in thousandths. -/
structure LayerPlan where
  capture : Option (Fin 4) := none
  argb10 : Bool := false
  /-- Pixel format and depth of a planar buffer, coded as `ING_SCFG` codes them. -/
  fmt : Nat := 0
  depth : Nat := 0
  srcW : Nat := 1
  srcH : Nat := 1
  tf : Nat := 0
  sdrWhiteNits : Nat := 203
  hlgGamma1000 : Nat := 1200
  hlgPeakNits : Nat := 1000
  gamut : List Int := [8192, 0, 0, 0, 8192, 0, 0, 0, 8192]
  base : Nat := 0
  deriving DecidableEq, Repr

/-- A coefficient bank (R168, R169): horizontal taps, 8 for each of 64 phases, vertical taps, 6 for each phase, and the
vertical tap count. -/
structure CoefBank where
  h : List Int := []
  v : List Int := []
  vtaps : Nat := 6
  deriving DecidableEq, Repr

/-- `comp.vl[v]` (R165, R169, R171): `sclKib` is the line buffer in each pipe. -/
structure VideoPlan where
  onHold : Nat := 0
  holdMs : Nat := 0
  holdRgb : List Nat := [0, 0, 0]
  bankA : CoefBank := {}
  bankB : CoefBank := {}
  sclKib : List Nat := []
  deriving DecidableEq, Repr

/-- The live values of one layer at start (R70): the staged fields of R162 to R173. -/
structure LayerLive where
  x : Nat := 0
  y : Nat := 0
  w : Nat := 1
  h : Nat := 1
  stepH : Nat := 0x1000
  stepV : Nat := 0x1000
  alpha : Nat := 255
  bank : Nat := 0
  matrix : List Nat := []
  deriving DecidableEq, Repr

/-- One Geode block of a set (R179): the panel (0 for the own panel), the slice, the block position and its 192 code
values. -/
structure GeodeBlock where
  tile : Nat
  slice : Nat
  block : Nat
  samples : List Nat
  deriving DecidableEq, Repr

/-- A Geode set (R179): its number, its facet mask and its blocks. -/
structure GeodeSet where
  num : Nat
  facets : BitVec 4
  blocks : List GeodeBlock
  deriving DecidableEq, Repr

/-- A panel's map entry (R187) with the place on its chain that has the identifier (R118); identifier 0 is the own
panel. -/
structure PanelMap where
  id : Nat := 0
  x0 : Nat := 0
  y0 : Nat := 0
  orient : Nat := 0
  chain : Nat := 0
  pos : Nat := 0
  deriving DecidableEq, Repr

/-- `comp` (R162 to R189). -/
structure CompPlan where
  canvasW : Nat := 256
  canvasH : Nat := 256
  stripes : List (Nat × Nat) := [(0, 256)]
  z : List Nat := [0, 1, 2, 3, 4, 5, 6, 7, 8, 9, 10, 11, 12, 13, 14, 15]
  bg : List Nat := [0, 0, 0]
  layers : List LayerPlan := []
  live : List LayerLive := []
  enables : List Nat := []
  vl : List VideoPlan := []
  wsPrimaries : Nat := 1
  wsTransfer : Nat := 0
  wsSdrWhiteNits : Nat := 203
  /-- The wall's native primaries (R174): chromaticities of red, green, blue and white, x and y in 1/10,000. -/
  wsNative : List (Nat × Nat) := [(7080, 2920), (1700, 7970), (1310, 460), (3127, 3290)]
  outDepth : Nat := 2
  dither : Nat := 2
  flow : Option (Nat × Nat) := none
  flowBase : List (Nat × Nat) := []
  flowSettle : Nat := 4
  geodeSets : List GeodeSet := []
  geodeLead : Nat := 8
  geodePattern : Nat := 0
  geodeFault : List Nat := [128, 128, 128]
  tiles : List PanelMap := []
  own : PanelMap := {}
  ownBuf : List (Nat × Nat) := []
  deriving DecidableEq, Repr

/-- `codec` (R191, R194, R215 to R231). Lists by variant and facet; `budget` holds the slice budgets that differ from
the grade's default LEN as `(variant, facet, tile, slice, bytes)`. -/
structure CodecPlan where
  /-- `packed[v][f]`: the facet is Packed under the variant; a place not listed is Clear. -/
  packed : List (List Bool) := []
  clearBuf : List (Nat × Nat) := [(0, 1), (2, 3), (4, 5), (6, 7)]
  dripPeriod : Nat := 16
  facetDrip : List Nat := []
  dripMin : Nat := 8
  dripMax : Nat := 64
  grade : List (Nat × Nat × Nat × Nat) := []
  budget : List (Nat × Nat × Nat × Nat × Nat) := []
  /-- Grades whose search is not R220's: `(grade, candidate)`. -/
  gradeSearch : List (Nat × Bool) := []
  engine : List (Nat × Nat × Nat) := []
  reconBase : List (Nat × Nat × Nat) := []
  deriving DecidableEq, Repr

/-- `lamp` (R237 to R253). `delayNs` is `lamp.facet[f].slot_delay_ns`; gamma in thousandths. -/
structure LampPlan where
  greyDepth : Nat := 12
  shade : Nat := 4
  segLog : Nat := 0
  frameTicks : Nat := 416666
  lineBlankNs : Nat := 224
  gateOnNs : Nat := 160
  window : Nat := 270
  lineOrder : List Nat := List.range 64
  planeOrder : List Nat := [11, 10, 9, 8, 7, 6, 5, 4, 3, 2, 1, 0]
  place : List Nat := []
  delayNs : List Nat := []
  global : Nat := 255
  group : List (List Nat) := []
  chan : List Nat := []
  blimit : Nat := 255
  curve : Nat := 0
  whiteNits : Nat := 1000
  hlgGamma1000 : Nat := 1200
  /-- Curve tables A and B: 4,096 entries of three 24-bit values; an entry not listed is linear. -/
  tableA : List (Nat × Nat × Nat) := []
  tableB : List (Nat × Nat × Nat) := []
  deriving DecidableEq, Repr

/-- `corr` (R263 to R277). -/
structure CorrPlan where
  bank : Bool := false
  headBank : List Nat := []
  hrSampleTick : Nat := 16
  hrLowMv : Nat := 250
  minTicks : Nat := 8
  openMv : Nat := 60
  shortMv : Nat := 2000
  sagCount : Nat := 48
  confirm : Nat := 3
  windowFrames : Nat := 60
  shortAction : Bool := true
  probeOffset : Nat := 0
  probeLen : Nat := 100000
  probeUa : Nat := 100
  probeTicks : Nat := 32
  probePeriod : Nat := 600
  deriving DecidableEq, Repr

/-- `rail` (R281 to R297); slew rates in tenths of mV/µs. -/
structure RailPlan where
  period : Nat := 800
  phases : Nat := 4
  div : Nat := 1280
  law : Nat := 2
  coef : List Word := []
  dmin : Nat := 0
  dmax : Nat := 45875
  balK : Nat := 0
  ilimMv : Nat := 900
  rcEnable : Bool := true
  rcQ : Nat := 64225
  rcK : Int := 524288
  rcLead : Nat := 2
  rcLimit : Nat := 4096
  source : Nat := 0
  spMin : Nat := 2500
  spMax : Nat := 5500
  spFixed : Nat := 3800
  slew10 : Nat := 10
  hrTarget : Nat := 350
  hrBand : Nat := 20
  hrUp : Nat := 50
  hrDown : Nat := 10
  hrDarkMs : Nat := 100
  hrDarkMv : Nat := 3000
  auxOffset : Nat := 0
  auxGain : Nat := 4000
  auxSpan : Nat := 5000
  ss10 : Nat := 5
  feLimitMv : Nat := 150
  feTimeUs : Nat := 500
  ovpMv : Nat := 5800
  retryMs : Nat := 200
  retries : Nat := 3
  deriving DecidableEq, Repr

/-- `time` (R300 to R317): sources are the codes of `TIM_SRC`; bandwidths in hundredths of a Hz; asymmetries in units
of 1/256 ns. -/
structure TimePlan where
  source : List Nat := [1, 0, 0, 0]
  periodNs : List Nat := []
  asym : List Int := []
  dreqPeriodMs : Nat := 10
  servoBw100 : Nat := 100
  glkBw100 : Nat := 50
  lockNs : Nat := 5
  stepNs : Nat := 1000
  settleS : Nat := 2
  ptpDomain : Nat := 0
  /-- The longest packet of the chain schedule, in ns (R315). -/
  longestPacketNs : Nat := 0
  deriving DecidableEq, Repr

/-- `red` (R318 to R342); an end is `true` for B. -/
structure RedPlan where
  prefB : Bool := false
  wardenExternal : Bool := false
  wardenTile : Nat := 1
  endB : Bool := false
  sharedPorts : List (Fin 8) := []
  missUs : Nat := 40
  settleNs : Nat := 2000
  leaseUs : Nat := 25
  orphanUs : Nat := 500
  startWaitMs : Nat := 200
  fwAliveMs : Nat := 50
  copyPeriodMs : Nat := 1000
  copyTimeoutMs : Nat := 50
  sigLimit : Nat := 2
  holdMs : Nat := 2000
  deriving DecidableEq, Repr

/-- One mailbox channel of the plan (R351); the sender set has bit `c` for initiator `c`. -/
structure ChannelPlan where
  senders : BitVec 4 := 0
  receiver : Nat := 0
  lockReq : Bool := false
  deriving DecidableEq, Repr

/-- `mbx` (R351, R356, R358). -/
structure MbxPlan where
  ch : List ChannelPlan := []
  lockTimeoutUs : Nat := 0
  dbTarget : BitVec 16 := 0
  dbRingers : List (BitVec 4) := []
  deriving DecidableEq, Repr

/-- `sec` (R371 to R386). -/
structure SecPlan where
  enrolAllow : Bool := false
  enrolSerial : List (Nat × Nat × Serial) := []
  spares : List Serial := []
  deny : List Serial := []
  peerSerial : Serial := 0
  rekeyH : Nat := 8
  rekeyLead : Nat := 240
  rekeyPerImage : Nat := 2
  openRead : Bool := false
  /-- The table index of the Geode certificate (R382). -/
  geodeCert : Nat := 1
  deriving DecidableEq, Repr

/-- `upd` (R393 to R403). -/
structure UpdPlan where
  prepareMs : Nat := 60000
  blocksPerImage : Nat := 1
  needMs : Nat := 100
  minLeadMs : Nat := 3000
  trialStarts : Nat := 3
  wdtLimit : Nat := 3
  confirmS : Nat := 60
  settingsPolicy : Bool := false
  deriving DecidableEq, Repr

/-- `therm.head.zone` (R425). -/
inductive ThermZone where
  | tile | chain | head
  deriving DecidableEq, Repr

/-- `therm` (R421 to R427). -/
structure ThermPlan where
  warnC : Nat := 90
  hotC : Nat := 100
  tripC : Nat := 115
  periodMs : List Nat := []
  slope : Nat := 16
  floor : Nat := 64
  recoverPerS : Nat := 32
  rorCPerS : Nat := 5
  rorWindowMs : Nat := 1000
  rorAddC : Nat := 4
  graceMs : Nat := 500
  tripHoldMs : Nat := 5000
  brokenTrip : Nat := 3
  zone : ThermZone := .head
  leadImages : Nat := 8
  deriving DecidableEq, Repr

/-- The parameters of the wall, Tile-generic or Head sections that a device loads (R64, R65). -/
structure Plan where
  sys : SysPlan := {}
  wall : WallPlan := {}
  gov : GovPlan := {}
  lane : LanePlan := {}
  link : LinkPlan := {}
  ingest : IngestPlan := {}
  comp : CompPlan := {}
  codec : CodecPlan := {}
  lamp : LampPlan := {}
  corr : CorrPlan := {}
  rail : RailPlan := {}
  time : TimePlan := {}
  red : RedPlan := {}
  mbx : MbxPlan := {}
  sec : SecPlan := {}
  upd : UpdPlan := {}
  therm : ThermPlan := {}
  deriving DecidableEq, Repr

/-- A Tile's position section (R64, R73): the Head, the chain and the place it is for, and what depends on where the Tile
stands. -/
structure PositionSection where
  head : Nat := 0
  chain : Nat := 0
  pos : Nat := 0
  upOffsetNs : Nat := 0
  upWindowNs : Nat := 0
  /-- `codec.geode.digest[set][s]` (R209). -/
  geodeDigest : List (Nat × Nat × BitVec 384) := []
  deriving DecidableEq, Repr

/-- The owner key of a section (R64). -/
inductive SectionOwner where
  | wall
  | head (h : Nat)
  | tile (h chain pos : Nat)
  | generic
  deriving DecidableEq, Repr

/-- An entry of the section table (R64). -/
structure SectionEntry where
  typ : Nat := 0
  owner : SectionOwner := .wall
  offset : Nat := 0
  length : Nat := 0
  digest : BitVec 384 := 0
  deriving DecidableEq, Repr

/-- A survey image (R64 to R66): the bytes of its header, its section table, the bytes of its sections in the table's
order, its signature block, and what the sections of its role hold, whose coding the spec does not give: the parameters,
the position sections, and the tables that a Head places in its memory, by LPDDR address (R72). -/
structure PlanImage where
  header : List Byte := []
  table : List SectionEntry := []
  bodies : List (List Byte) := []
  sign : SigBlock := {}
  isHead : Bool := false
  plan : Plan := {}
  positions : List PositionSection := []
  tables : List (Nat × Byte) := []
  deriving DecidableEq, Repr

/-- A bank of the NVM (R62, R392): firmware and survey image, the manifest stored beside them, the package's blocks as they
were programmed, by number, and what a verified region package brings (R400). -/
structure Bank where
  fw : FwImage := {}
  image : PlanImage := {}
  manifest : Option Manifest := none
  blocks : List (Nat × List Byte) := []
  newFactory : Option FactoryRegion := none
  newPattern : Option PatternRegion := none
  deriving DecidableEq, Repr

/-- The external NVM (R59, R60): whether it answers, the capacity that it reports in Mbit, the two directory copies as
their first 64 bytes, the banks and the two regions. -/
structure Nvm where
  answers : Bool := false
  mbit : Nat := 0
  dirA : List Byte := []
  dirB : List Byte := []
  bank0 : Bank := {}
  bank1 : Bank := {}
  factory : FactoryRegion := {}
  pattern : PatternRegion := {}
  deriving DecidableEq, Repr

/-- The device answers and its capacity is one of the three (R59). -/
def Nvm.present (n : Nvm) : Bool := n.answers && (n.mbit == 512 || n.mbit == 1024 || n.mbit == 2048)

/-- What the NVM is divided into (R60). -/
inductive NvmPart where
  | dirA | dirB | reserved | factory | pattern | bank (b : Bool)
  deriving DecidableEq, Repr

/-- The size of a bank in bytes for a capacity in Mbit (R60). -/
def bankSize (mbit : Nat) : Nat := (mbit * 131072 - 4194304) / 2

/-- Offset and size of a part of the NVM (R60). -/
def nvmPart (mbit : Nat) : NvmPart → Nat × Nat
  | .dirA => (0x00000000, 65536)
  | .dirB => (0x00010000, 65536)
  | .reserved => (0x00020000, 917504)
  | .factory => (0x00100000, 2097152)
  | .pattern => (0x00300000, 1048576)
  | .bank false => (0x00400000, bankSize mbit)
  | .bank true => (0x00400000 + bankSize mbit, bankSize mbit)

/-- Offsets and greatest lengths of the images in a bank (R62, R392). -/
def fwOffset : Nat := 0x00000000
def fwMax : Nat := 2097152
def manifestOffset : Nat := 0x00200000
def planOffset : Nat := 0x00400000
def planMax : Nat := 27262976

/-- A bank by number. -/
def Nvm.bank (n : Nvm) : Bool → Bank
  | false => n.bank0
  | true => n.bank1

/-- The NVM with a bank rewritten. -/
def Nvm.setBank (n : Nvm) (b : Bool) (k : Bank) : Nvm :=
  if b then { n with bank1 := k } else { n with bank0 := k }

/-- The layers of the Flowstone group, lowest first (R176): those of `comp.z` from the first to the last one. -/
def CompPlan.group (p : CompPlan) : List Nat :=
  match p.flow with
  | some (a, b) => (p.z.drop (p.z.findIdx (· == a))).take (p.z.findIdx (· == b) + 1 - p.z.findIdx (· == a))
  | none => []

/-- A planned value by index, with the value that stands for a place not listed. -/
def nth {α : Type} (l : List α) (i : Nat) (d : α) : α := l.getD i d

end Sys2Proof.Machine
end

