-- ==== Sys2Proof/Machine/Packet.lean ====
section
/-!
DEFINITION. Packets, frames and messages: the packet header of R118 as a structure, a received packet as the bytes of
the wire, the messages whose bytes are signed or wrapped as their bytes, the other messages by their fields.
-/

namespace Sys2Proof.Machine

/-- The packet header (R118); `resBits` collects the header's reserved bits. -/
structure Hdr where
  typ : BitVec 4 := 0
  prot : BitVec 2 := 0
  hop : Bool := false
  res0 : Bool := false
  dst : BitVec 10 := 0
  keyEp : BitVec 6 := 0
  src : BitVec 10 := 0
  facet : BitVec 2 := 0
  res1 : BitVec 4 := 0
  seq : Word := 0
  image : Word := 0
  len : BitVec 16 := 0
  ver : BitVec 2 := 1
  geode : Bool := false
  last : Bool := false
  res2 : BitVec 4 := 0
  deriving DecidableEq, Repr

/-- A packet as it arrives (R117): `framed` says that it ran from /S/ to /T/ with no framing error, `wire` are its
bytes, header, payload, tag and CRC. -/
structure RxPacket where
  framed : Bool
  wire : List Byte
  deriving DecidableEq, Repr

/-- The lane marker of one lane (R112), with the characters by which it came later than the earliest lane's. -/
structure LaneMarker where
  lane : Fin 4
  m0 : Byte
  m1 : Byte
  skew : Nat
  deriving DecidableEq, Repr

/-- A request that a DisplayPort source sends over AUX (R101 to R104). Rates are the codes of `LAN_DPLINK.RATE`. -/
inductive DpAux where
  | begin (rate : Fin 4) (lanes : Nat)
  /-- A clock recovery or equalisation attempt with the training pattern TPS1 to TPS4 that the source sends. -/
  | clockRecovery (tps : Nat) (ok : Bool)
  | equalisation (tps : Nat) (ok : Bool) (maxSwing maxPre : Nat)
  | readCaps
  /-- What the DPCD says of stream compression, error correction and multi-stream transport. -/
  | readSupport
  | readAdjust
  | readLaneStatus
  | readEdid (offset : Nat) (length : Nat)
  | readHdcp
  deriving DecidableEq, Repr

/-- What a receiver answers to an AUX request (R102, R103). -/
inductive AuxReply where
  | ack
  | caps (maxRate maxLanes rdInterval : Nat)
  | support (dsc fec mst : Bool)
  | adjust (swing pre : Nat)
  | laneStatus (locked : BitVec 4) (aligned : Bool)
  | edid (bytes : List Byte)
  | hdcpNotCapable
  deriving DecidableEq, Repr

/-- A service-lane frame (R106): its length in bytes, whether its check sequence holds, and whether its address is the
device's own. -/
structure SvcFrame where
  length : Nat
  fcsOk : Bool
  toDevice : Bool
  deriving DecidableEq, Repr

/-- The contents of an ENUM (R134). -/
structure EnumMsg where
  wallId : BitVec 64
  planSerial : Word
  head : Byte
  chain : Byte
  tiles : Byte
  endB : Bool
  hops : Nat
  deriving DecidableEq, Repr

/-- A JOIN (R136, R370): its 488 bytes. -/
structure JoinMsg where
  bytes : List Byte
  deriving DecidableEq, Repr

/-- The contents of an ASSIGN (R136). -/
structure AssignMsg where
  serial : Serial
  id : BitVec 10
  pos : Nat
  chain : Fin 8
  deriving DecidableEq, Repr

/-- One live-register write of a CTRL packet or a management frame. -/
structure RegWrite where
  addr : Word
  value : Word
  deriving DecidableEq, Repr

/-- The CRC-protected fields of a STATUS (R138), as the register words it holds. -/
structure StatusMsg where
  src : BitVec 10 := 0
  bootStat : Word := 0
  pstatA : Word := 0
  pstatB : Word := 0
  errA : Word := 0
  errB : Word := 0
  dedup : Word := 0
  concealed : Word := 0
  lampFaults : Word := 0
  hottest : BitVec 16 := 0
  suspect : BitVec 8 := 0
  variant : BitVec 8 := 0
  epoch : Word := 0
  lastImage : Word := 0
  lnkId : Word := 0
  deriving DecidableEq, Repr

/-- The contents of a SYNC (R305, KIND 0). Times of TB0 stand in units of 1/256 ns modulo 2^40; offsets and period in
units of 1/16 ns. `badField` says that a reserved bit is set. -/
structure SyncMsg where
  kind : Nat := 0
  hops : Nat := 1
  valid : BitVec 4 := 0
  endB : Bool := false
  back : Bool := false
  settled : Bool := false
  seqId : Nat := 0
  tTx : Nat := 0
  tRx : Nat := 0
  tb1Diff : Nat := 0
  tb2Diff : Nat := 0
  tb3Diff : Nat := 0
  frame : Word := 0
  fb : Nat := 0
  period : Nat := 0
  ofs : List Nat := []
  wraps : Word := 0
  badField : Bool := false
  deriving DecidableEq, Repr

/-- A Head heartbeat (R322). -/
structure HeartMsg where
  endB : Bool
  duty : Nat
  ilkOut : Bool := false
  ilkIn : Bool := false
  peer : Bool := false
  ward : Bool := false
  yield : Bool := false
  conv : BitVec 4 := 0
  ready : Bool := false
  term : Word := 0
  pair : BitVec 64 := 0
  frame : Word := 0
  copy : Word := 0
  variant : Nat := 0
  sigFrame : Word := 0
  sigs : List Word := []
  epoch : Word := 0
  deriving DecidableEq, Repr

/-- A verdict of the Warden (R324). -/
structure VerdictMsg where
  owner : Nat
  aliveA : Bool := false
  aliveB : Bool := false
  ilkA : Bool := false
  ilkB : Bool := false
  term : Word := 0
  pair : BitVec 64 := 0
  deriving DecidableEq, Repr

/-- A Tile of the roster (R335) and its enrolment (R373): its enrolment key, the key epochs it has acknowledged, whether
an ASSIGN has been sent, whether an answer is awaited, and the count of keys wrapped for it (R372). -/
structure RosterEntry where
  id : BitVec 10
  serial : Serial
  chain : Fin 8
  pos : Nat
  ek : Option Key := none
  acks : List Nat := []
  assigned : Bool := false
  waiting : Bool := false
  wraps : Nat := 0
  deriving DecidableEq, Repr

/-- The records of a state copy (R335): variant and pending variant, roster, keys by chain and epoch with the epoch in force
and the next one with its switch image, frame and image, and the check record. -/
structure CopyRecords where
  variant : Nat := 0
  pendVariant : Option (Nat × Word) := none
  failed : List HealthItem := []
  roster : List RosterEntry := []
  keys : List ((Nat × Nat) × Key) := []
  curEp : Nat := 0
  nextEp : Option (Nat × Word) := none
  frame : Word := 0
  image : Word := 0
  cfgEpoch : Word := 0
  geodeSet : Nat := 31
  geodeCounter : BitVec 64 := 0
  deriving DecidableEq, Repr

/-- A part of a state copy (R335): its header, the bytes of its body, in the last part the digest over all bodies, and what
the bodies of its copy hold, whose coding the spec does not give. -/
structure CopyPart where
  epoch : Word
  part : Nat
  parts : Nat
  term : Word
  body : List Byte := []
  digest : BitVec 384 := 0
  recs : CopyRecords := {}
  deriving DecidableEq, Repr

/-- A KEYX message (R372): the SRC of its packet and its 496 bytes. `holds` says that the sender, a Head, already holds the
chain keys of the shared rings (R374, R451); the spec gives no byte for it. -/
structure KeyxMsg where
  src : BitVec 10
  bytes : List Byte
  holds : Bool := false
  deriving DecidableEq, Repr

/-- An update payload or frame (R394); `data` are the block's bytes. -/
structure UpdMsg where
  kind : Nat
  pkg : BitVec 64
  arg : Nat
  count : Nat
  data : List Byte := []
  deriving DecidableEq, Repr

/-- What the boot ROM reads in a bank whose package is whole (R392, R399): its images and its regions. -/
structure BankCheck where
  bank : Bank
  factory : Option FactoryRegion := none
  pattern : Option PatternRegion := none
  deriving DecidableEq, Repr

/-- A Geode command (R180): its 128 bytes. -/
structure GeodeMsg where
  bytes : List Byte
  deriving DecidableEq, Repr

/-- A signed command of R383 or R384: the signer's certificate, the bytes that it signs beside what the rule names, the
signature. -/
structure SignedCmd where
  cert : List Byte
  body : List Byte
  sig : List Byte
  deriving DecidableEq, Repr

/-- A management frame on the service port (R380, R381), or the answer that a Tile relays back. -/
inductive MgmtOp where
  | read (addr : Word)
  | write (addr : Word) (value : Word)
  | mem (a : MemAccess)
  | update (m : UpdMsg)
  | verdict (v : VerdictMsg)
  | answer (data : Word) (error : Bool)
  deriving DecidableEq, Repr

/-- A reading of a lamp's headroom in mV (R270), by sink index and row in the band. -/
structure LampSample where
  sink : Fin 3072
  row : Fin 64
  mv : Nat
  deriving DecidableEq, Repr

/-- A master as its announce messages describe it (R317): the port that sends them and the quantities that the default best
master clock algorithm compares. -/
structure PtpMaster where
  source : BitVec 80
  priority1 : Byte
  clockClass : Byte
  accuracy : Byte
  variance : BitVec 16
  priority2 : Byte
  grandmaster : BitVec 64
  stepsRemoved : BitVec 16
  deriving DecidableEq, Repr

/-- An IEEE 1588 message on the service lane (R317), of a domain and a sender. Times are the master's, in units of 1/256 ns; a
Sync without an origin time is the first of two steps. -/
inductive PtpMsg where
  | announce (domain : Byte) (m : PtpMaster)
  | sync (domain : Byte) (source : BitVec 80) (seq : BitVec 16) (origin : Option Nat) (sub : Fin 256)
  | followUp (domain : Byte) (source : BitVec 80) (seq : BitVec 16) (origin : Nat)
  | delayResp (domain : Byte) (source : BitVec 80) (seq : BitVec 16) (receipt : Nat)
  deriving DecidableEq, Repr

/-- A session setup (R380): the other side's certificate and ephemeral public key, the rest of the transcript, and its
signature. -/
structure SessionMsg where
  cert : List Byte
  pub : List Byte
  transcript : List Byte
  sig : List Byte
  deriving DecidableEq, Repr

/-- A frame within a session (R380): its counter, its ciphertext and tag, and what the plaintext asks, whose coding the spec
does not give. -/
structure SessionFrame where
  session : Nat
  counter : BitVec 64
  cipher : List Byte
  tag : List Byte
  deriving DecidableEq, Repr

/-- The contents of a packet that the device sends. -/
inductive Body where
  | bytes (l : List Byte)
  /-- The payload that the encoder holds, or will hold, for a slice of a Tile's image of a facet. -/
  | slice (facet tile k : Nat)
  | announce (variant : Nat) (first : Word)
  | status (m : StatusMsg)
  | enum (m : EnumMsg)
  | join (m : JoinMsg)
  | assign (m : AssignMsg)
  | keyx (m : KeyxMsg)
  | heart (m : HeartMsg)
  | verdict (m : VerdictMsg)
  | sync (m : SyncMsg)
  | copy (m : CopyPart)
  | geode (m : GeodeMsg) (target : Word)
  | blimit (limit : Nat) (target : Word)
  /-- Register writes with a target-mode commit at an image (R121, R425). -/
  | ctrl (writes : List RegWrite)
  | upd (m : UpdMsg)
  | relay (op : MgmtOp)
  | none
  deriving DecidableEq, Repr

/-- A packet that waits to be sent: out of which ports, its header before SEQ and key epoch are set, and its contents;
`due` is its scheduled instant in ns. -/
structure OutPkt where
  ports : List Nat
  hdr : Hdr
  body : Body
  due : Nat := 0
  /-- SEQ and key epoch are set: the packet has left by some port already. -/
  numbered : Bool := false
  deriving DecidableEq, Repr

/-- What the device puts on its outputs. A packet stands with the TXMASK under which it begins; a forwarded one with its
header at its start, and at its end with its bytes, where they are known, and whether /V/ ends it. A port's packets stand in
the order in which they leave, a forwarded one at its start. -/
inductive Emission where
  | packet (port : Nat) (mask : Nat) (hdr : Hdr) (body : Body) (key : Option Key)
  /-- A character that a Locked lane passes upward, with its control flag; none stands for the error flag (R92). -/
  | char (lane : Nat) (c : Option (Bool × Byte))
  | markers (port : Nat) (ms : List LaneMarker)
  | fwdStart (port : Nat) (hdr : Hdr)
  | fwdEnd (port : Nat) (stomped : Bool)
  | deliver (port : Nat) (hdr : Hdr) (payload : List Byte)
  | hpdPulse (receiver : Nat)
  | auxReply (receiver : Nat) (r : AuxReply)
  | svcToKeeper (length : Nat)
  /-- An IEEE 1588 delay request sent on the service lane (R317). -/
  | ptpDelayReq (seq : BitVec 16)
  /-- The base page of automatic negotiation that the service lane sends (R105). -/
  | svcPage (page : BitVec 16)
  /-- The device's part of a session setup (R380): its ephemeral public key, its certificate and its signature. -/
  | svcSession (session : Nat) (pub cert sig : List Byte)
  | svcReply (session : Nat) (data : Word) (error : Bool)
  | svcRelay (tile : BitVec 10) (data : Word) (error : Bool)
  | svcUpd (m : UpdMsg)
  deriving DecidableEq, Repr

end Sys2Proof.Machine
end

