-- ==== Sys2Proof/Machine/Bits.lean ====
section
/-!
DEFINITION. Bit and byte helpers: little-endian words, CRC-32 of R120, CRC-8 of R197, and the packet header of R118 as
its 16 bytes.
-/

namespace Sys2Proof.Machine

/-- `n` bytes of a number, little-endian. -/
def bytesLe (v : Nat) : Nat → List Byte
  | 0 => []
  | n + 1 => BitVec.ofNat 8 v :: bytesLe (v / 256) n

/-- The number that bytes give, little-endian. -/
def numLe : List Byte → Nat
  | [] => 0
  | b :: rest => b.toNat + 256 * numLe rest

/-- A number of `n` bytes at an offset. -/
def fieldAt (l : List Byte) (off n : Nat) : Nat := numLe ((l.drop off).take n)

/-- One bit step of the reflected CRC-32 of polynomial `0x04C1_1DB7`. -/
def crc32Bit (c : Word) : Word := if c.getLsbD 0 then (c >>> 1) ^^^ 0xEDB88320#32 else c >>> 1

/-- A function applied `n` times. -/
def iter {α : Type} (f : α → α) : Nat → α → α
  | 0, x => x
  | n + 1, x => iter f n (f x)

/-- One byte taken into the CRC-32. -/
def crc32Byte (c : Word) (b : Byte) : Word := iter crc32Bit 8 (c ^^^ b.setWidth 32)

/-- The CRC-32 of R120. -/
def crc32 (l : List Byte) : Word := (l.foldl crc32Byte 0xFFFFFFFF#32) ^^^ 0xFFFFFFFF#32

/-- One bit taken into the CRC-8 of R197, polynomial `0x07`, most significant bit first. -/
def crc8Bit (c : Byte) (b : Bool) : Byte :=
  let top := c.getLsbD 7 ^^ b
  if top then (c <<< 1) ^^^ 0x07#8 else c <<< 1

/-- The CRC-8 of a string of bits from an initial value. -/
def crc8 (init : Byte) (l : List Bool) : Byte := l.foldl crc8Bit init

/-- A number's bits, most significant first. -/
def bitsMsb (v : Nat) : Nat → List Bool
  | 0 => []
  | n + 1 => v.testBit n :: bitsMsb v n

/-- The bits of bytes, each most significant first. -/
def bitsOf (l : List Byte) : List Bool := l.flatMap (fun b => bitsMsb b.toNat 8)

/-- A number from bits, most significant first. -/
def numMsb (l : List Bool) : Nat := l.foldl (fun a b => 2 * a + b.toNat) 0

/-! ### The packet header (R118) -/

/-- The header's 16 bytes as one little-endian number of 128 bits. -/
def hdrBits (h : Hdr) : BitVec 128 :=
  h.res2 ++ BitVec.ofBool h.last ++ BitVec.ofBool h.geode ++ h.ver ++ h.len ++ h.image ++ h.seq ++ h.res1 ++ h.facet ++
    h.src ++ h.keyEp ++ h.dst ++ BitVec.ofBool h.res0 ++ BitVec.ofBool h.hop ++ h.prot ++ h.typ

/-- The header that 128 bits hold. -/
def hdrOfBits (v : BitVec 128) : Hdr where
  typ := v.extractLsb' 0 4
  prot := v.extractLsb' 4 2
  hop := v.getLsbD 6
  res0 := v.getLsbD 7
  dst := v.extractLsb' 8 10
  keyEp := v.extractLsb' 18 6
  src := v.extractLsb' 24 10
  facet := v.extractLsb' 34 2
  res1 := v.extractLsb' 36 4
  seq := v.extractLsb' 40 32
  image := v.extractLsb' 72 32
  len := v.extractLsb' 104 16
  ver := v.extractLsb' 120 2
  geode := v.getLsbD 122
  last := v.getLsbD 123
  res2 := v.extractLsb' 124 4

/-- The header's bytes on the wire. -/
def hdrBytes (h : Hdr) : List Byte := (List.range 16).map (fun i => (hdrBits h).extractLsb' (8 * i) 8)

/-- The header that the first 16 bytes of a packet hold. -/
def hdrParse (l : List Byte) : Hdr := hdrOfBits (BitVec.ofNat 128 (numLe (l.take 16)))

/-- The bytes of a packet's tag (R117). -/
def tagLen (h : Hdr) : Nat := if h.prot = 1#2 ∨ h.prot = 2#2 then 16 else 0

end Sys2Proof.Machine
end

