-- ==== Sys2Proof/Machine/Crypto.lean ====
section
/-!
DEFINITION. The cryptographic functions that the spec names: SHA-384 and HKDF on it, AES-256 in Galois/Counter mode, and
ECDSA and ECDH on the curve P-384 (R63, R119, R209, R365 to R380). They are functions of public standards: FIPS 180-4, RFC 5869,
FIPS 197, NIST SP 800-38D, FIPS 186 and SEC 1. All run on natural numbers.
-/

namespace Sys2Proof.Machine

/-! ### Bytes -/

/-- The number that bytes give, most significant first. -/
def numBe (l : List Byte) : Nat := l.foldl (fun a b => 256 * a + b.toNat) 0

/-- `n` bytes of a number, most significant first. -/
def bytesBe (v : Nat) : Nat → List Byte
  | 0 => []
  | n + 1 => BitVec.ofNat 8 (v >>> (8 * n)) :: bytesBe v n

/-- Consecutive pieces of `k` elements, `n` of them. -/
def piecesOf {α : Type} (k : Nat) (l : List α) : Nat → List (List α)
  | 0 => []
  | n + 1 => l.take k :: piecesOf k (l.drop k) n

/-! ### SHA-384 -/

/-- The round constants of SHA-512, which SHA-384 uses. -/
def shaK : List Nat :=
  [0x428A2F98D728AE22, 0x7137449123EF65CD, 0xB5C0FBCFEC4D3B2F, 0xE9B5DBA58189DBBC,
   0x3956C25BF348B538, 0x59F111F1B605D019, 0x923F82A4AF194F9B, 0xAB1C5ED5DA6D8118,
   0xD807AA98A3030242, 0x12835B0145706FBE, 0x243185BE4EE4B28C, 0x550C7DC3D5FFB4E2,
   0x72BE5D74F27B896F, 0x80DEB1FE3B1696B1, 0x9BDC06A725C71235, 0xC19BF174CF692694] ++
  [0xE49B69C19EF14AD2, 0xEFBE4786384F25E3, 0x0FC19DC68B8CD5B5, 0x240CA1CC77AC9C65,
   0x2DE92C6F592B0275, 0x4A7484AA6EA6E483, 0x5CB0A9DCBD41FBD4, 0x76F988DA831153B5,
   0x983E5152EE66DFAB, 0xA831C66D2DB43210, 0xB00327C898FB213F, 0xBF597FC7BEEF0EE4,
   0xC6E00BF33DA88FC2, 0xD5A79147930AA725, 0x06CA6351E003826F, 0x142929670A0E6E70] ++
  [0x27B70A8546D22FFC, 0x2E1B21385C26C926, 0x4D2C6DFC5AC42AED, 0x53380D139D95B3DF,
   0x650A73548BAF63DE, 0x766A0ABB3C77B2A8, 0x81C2C92E47EDAEE6, 0x92722C851482353B,
   0xA2BFE8A14CF10364, 0xA81A664BBC423001, 0xC24B8B70D0F89791, 0xC76C51A30654BE30,
   0xD192E819D6EF5218, 0xD69906245565A910, 0xF40E35855771202A, 0x106AA07032BBD1B8] ++
  [0x19A4C116B8D2D0C8, 0x1E376C085141AB53, 0x2748774CDF8EEB99, 0x34B0BCB5E19B48A8,
   0x391C0CB3C5C95A63, 0x4ED8AA4AE3418ACB, 0x5B9CCA4F7763E373, 0x682E6FF3D6B2B8A3,
   0x748F82EE5DEFB2FC, 0x78A5636F43172F60, 0x84C87814A1F0AB72, 0x8CC702081A6439EC,
   0x90BEFFFA23631E28, 0xA4506CEBDE82BDE9, 0xBEF9A3F7B2C67915, 0xC67178F2E372532B] ++
  [0xCA273ECEEA26619C, 0xD186B8C721C0C207, 0xEADA7DD6CDE0EB1E, 0xF57D4F7FEE6ED178,
   0x06F067AA72176FBA, 0x0A637DC5A2C898A6, 0x113F9804BEF90DAE, 0x1B710B35131C471B,
   0x28DB77F523047D84, 0x32CAAB7B40C72493, 0x3C9EBE0A15C9BEBC, 0x431D67C49C100D4C,
   0x4CC5D4BECB3E42B6, 0x597F299CFC657E2A, 0x5FCB6FAB3AD6FAEC, 0x6C44198C4A475817]

/-- The eight words of the hash value. -/
structure Sha where
  a : Nat
  b : Nat
  c : Nat
  d : Nat
  e : Nat
  f : Nat
  g : Nat
  h : Nat
  deriving DecidableEq, Repr

/-- The initial hash value of SHA-384. -/
def shaInit : Sha :=
  ⟨0xCBBB9D5DC1059ED8, 0x629A292A367CD507, 0x9159015A3070DD17, 0x152FECD8F70E5939, 0x67332667FFC00B31, 0x8EB44A8768581511, 0xDB0C2E0D64F98FA7, 0x47B5481DBEFA4FA4⟩

/-- Addition of 64-bit words. -/
def add64 (x y : Nat) : Nat := (x + y) % 2 ^ 64

/-- A 64-bit word rotated right. -/
def rotr (n x : Nat) : Nat := (x >>> n) ||| ((x <<< (64 - n)) % 2 ^ 64)

/-- The next word of the message schedule, from the last sixteen, oldest first. -/
def shaNext (w : List Nat) : Nat :=
  let x := w.getD 14 0
  let y := w.getD 1 0
  let s1 := (rotr 19 x ^^^ rotr 61 x) ^^^ (x >>> 6)
  let s0 := (rotr 1 y ^^^ rotr 8 y) ^^^ (y >>> 7)
  (s1 + w.getD 9 0 + s0 + w.getD 0 0) % 2 ^ 64

/-- One round: the words of the hash value and the window of the schedule. -/
def shaRound (v : Sha × List Nat) (k : Nat) : Sha × List Nat :=
  let s := v.1
  let ch := (s.e &&& s.f) ^^^ ((2 ^ 64 - 1 - s.e) &&& s.g)
  let mj := ((s.a &&& s.b) ^^^ (s.a &&& s.c)) ^^^ (s.b &&& s.c)
  let big1 := (rotr 14 s.e ^^^ rotr 18 s.e) ^^^ rotr 41 s.e
  let big0 := (rotr 28 s.a ^^^ rotr 34 s.a) ^^^ rotr 39 s.a
  let t1 := (s.h + big1 + ch + k + v.2.headD 0) % 2 ^ 64
  (⟨add64 t1 (big0 + mj), s.a, s.b, s.c, add64 s.d t1, s.e, s.f, s.g⟩, v.2.drop 1 ++ [shaNext v.2])

/-- One block of 128 bytes taken into the hash value. -/
def shaBlock (s : Sha) (block : List Byte) : Sha :=
  let r := (shaK.foldl shaRound (s, (piecesOf 8 block 16).map numBe)).1
  ⟨add64 s.a r.a, add64 s.b r.b, add64 s.c r.c, add64 s.d r.d, add64 s.e r.e, add64 s.f r.f, add64 s.g r.g, add64 s.h r.h⟩

/-- The message with its padding: a one bit, zeros, and its length in bits. -/
def shaPad (l : List Byte) : List Byte :=
  l ++ 0x80#8 :: (List.replicate ((239 - l.length % 128) % 128) 0 ++ bytesBe (8 * l.length) 16)

/-- The SHA-384 digest as its 48 bytes. -/
def sha384Bytes (l : List Byte) : List Byte :=
  let m := shaPad l
  let s := (piecesOf 128 m (m.length / 128)).foldl shaBlock shaInit
  [s.a, s.b, s.c, s.d, s.e, s.f].flatMap (fun w => bytesBe w 8)

/-- The SHA-384 digest. -/
def sha384 (l : List Byte) : BitVec 384 := BitVec.ofNat 384 (numBe (sha384Bytes l))

/-- HMAC with SHA-384, for a key of at most 128 bytes. -/
def hmac384 (key msg : List Byte) : List Byte :=
  let k := key ++ List.replicate (128 - key.length) 0
  sha384Bytes (k.map (fun b => b ^^^ 0x5C#8) ++ sha384Bytes (k.map (fun b => b ^^^ 0x36#8) ++ msg))

/-- HKDF with SHA-384, for an output of at most 48 bytes. No salt is a salt of 48 zero bytes (RFC 5869). -/
def hkdf384 (ikm salt info : List Byte) (n : Nat) : List Byte :=
  (hmac384 (hmac384 (if salt.isEmpty then List.replicate 48 0 else salt) ikm) (info ++ [1#8])).take n

/-! ### AES-256 in Galois/Counter mode -/

/-- The substitution box, 32 entries a number, the first entry least significant. -/
def sboxRows : List Nat :=
  [0xC072A49CAFA2D4ADF04759FA7DC982CA76ABD7FE2B670130C56F6BF27B777C63,
   0x75B227EBE28012079A059618C323C7041531D871F1E5A534CCF73F362693FDB7,
   0xCF584C4A39BECB6A5BB1FC20ED00D153842FE329B3D63B52A05A6E1B1A2C8309,
   0xD2F3FF1021DAB6BCF5389D928F40A351A89F3C507F02F94585334D43FBAAEFD0,
   0xDB0B5EDE14B8EE4688902A22DC4F816073195D643D7EA7C41744975FEC130CCD,
   0x08AE7A65EAF4566CA94ED58D6D37C8E779E4959162ACD3C25C2406490A3A32E0,
   0x9E1DC186B95735610EF6034866B53E708A8BBD4B1F74DDE8C6B4A61C2E2578BA,
   0x16BB54B00F2D99416842E6BF0D89A18CDF2855CEE9871E9B948ED9691198F8E1]

/-- An entry of the substitution box. -/
def sbox (x : Nat) : Nat := (sboxRows.getD (x / 32) 0 >>> (8 * (x % 32))) % 256

/-- A byte times x in the field of AES. -/
def xtime (x : Nat) : Nat := if x < 128 then 2 * x else (2 * x) ^^^ 0x11B

/-- Words added bit by bit. -/
def xorWords (a b : List Nat) : List Nat := List.zipWith (fun x y => x ^^^ y) a b

/-- The next four bytes of the key schedule, at place `i`, from the words so far, newest first. -/
def aesWord (i rcon : Nat) (ws : List (List Nat)) : List Nat :=
  let t := ws.headD []
  let u := if i % 8 = 0 then
      (match (t.drop 1 ++ t.take 1).map sbox with
        | x :: rest => (x ^^^ rcon) :: rest
        | [] => [])
    else if i % 8 = 4 then t.map sbox else t
  xorWords (ws.getD 7 []) u

/-- The key schedule extended by `n` words, newest first. -/
def aesExpand : Nat → Nat → Nat → List (List Nat) → List (List Nat)
  | 0, _, _, ws => ws
  | n + 1, i, rcon, ws => aesExpand n (i + 1) (if i % 8 = 7 then xtime rcon else rcon) (aesWord i rcon ws :: ws)

/-- The fifteen round keys of a 256-bit key. -/
def aesKeys (key : Key) : List (List Nat) :=
  let k := (bytesBe key.toNat 32).map BitVec.toNat
  let ws := (aesExpand 52 8 1 (piecesOf 4 k 8).reverse).reverse
  (piecesOf 4 ws 15).map List.flatten

/-- ShiftRows on the state's 16 bytes, column by column. -/
def shiftRows (s : List Nat) : List Nat :=
  (List.range 16).map (fun i => s.getD ((4 * (i / 4 + i % 4) + i % 4) % 16) 0)

/-- MixColumns on one column. -/
def mixColumn (c : List Nat) : List Nat :=
  let t := c.foldl (fun x y => x ^^^ y) 0
  List.zipWith (fun a b => (a ^^^ t) ^^^ xtime (a ^^^ b)) c (c.drop 1 ++ c.take 1)

/-- One block of 16 bytes encrypted under round keys. -/
def aesBlock (keys : List (List Nat)) (b : List Nat) : List Nat :=
  let s0 := xorWords b (keys.headD [])
  let s1 := ((keys.drop 1).take 13).foldl
    (fun s k => xorWords ((piecesOf 4 (shiftRows (s.map sbox)) 4).flatMap mixColumn) k) s0
  xorWords (shiftRows (s1.map sbox)) (keys.getD 14 [])

/-- One bit step of a product in the field of GHASH: the factor's next bit, the product so far and the other factor. -/
def ghashBit (x : Nat) (v : Nat × Nat) (i : Nat) : Nat × Nat :=
  (if x.testBit (127 - i) then v.1 ^^^ v.2 else v.1,
    if v.2 % 2 = 1 then (v.2 / 2) ^^^ (0xE1 <<< 120) else v.2 / 2)

/-- A product in the field of GHASH. -/
def ghashMul (x y : Nat) : Nat := ((List.range 128).foldl (ghashBit x) (0, y)).1

/-- Bytes as blocks of 16, the last one filled with zeros, each as a number. -/
def gcmBlocks (l : List Byte) : List Nat :=
  let n := (l.length + 15) / 16
  (piecesOf 16 (l ++ List.replicate (16 * n - l.length) 0) n).map numBe

/-- GHASH of associated data and ciphertext. -/
def ghash (h : Nat) (aad c : List Byte) : Nat :=
  (gcmBlocks aad ++ gcmBlocks c ++ [(8 * aad.length) * 2 ^ 64 + 8 * c.length]).foldl (fun y x => ghashMul (y ^^^ x) h) 0

/-- A block of key stream: the cipher of a 12-byte nonce and a counter. -/
def gcmStream (keys : List (List Nat)) (nonce : List Byte) (ctr : Nat) : List Nat :=
  aesBlock keys ((nonce ++ bytesBe ctr 4).map BitVec.toNat)

/-- Bytes under the key stream from counter 2 on: encryption and decryption alike. -/
def gcmCrypt (key : Key) (nonce l : List Byte) : List Byte :=
  let keys := aesKeys key
  let n := (l.length + 15) / 16
  let ks := (List.range n).flatMap (fun i => gcmStream keys nonce (i + 2))
  List.zipWith (fun b k => b ^^^ BitVec.ofNat 8 k) l ks

/-- The 16-byte tag over associated data and ciphertext. -/
def gcmTag (key : Key) (nonce aad c : List Byte) : List Byte :=
  let keys := aesKeys key
  let h := (aesBlock keys (List.replicate 16 0)).foldl (fun a b => 256 * a + b) 0
  let m := (gcmStream keys nonce 1).foldl (fun a b => 256 * a + b) 0
  bytesBe (ghash h aad c ^^^ m) 16

/-! ### The curve P-384 -/

/-- The field's prime. -/
def p384 : Nat := 2 ^ 384 - 2 ^ 128 - 2 ^ 96 + 2 ^ 32 - 1

/-- The order of the base point. -/
def n384 : Nat := 0xFFFFFFFFFFFFFFFFFFFFFFFFFFFFFFFFFFFFFFFFFFFFFFFFC7634D81F4372DDF581A0DB248B0A77AECEC196ACCC52973

/-- The curve's constant b. -/
def b384 : Nat := 0xB3312FA7E23EE7E4988E056BE3F82D19181D9C6EFE8141120314088F5013875AC656398D8A2ED19D2A85C8EDD3EC2AEF

/-- The base point. -/
def g384 : Nat × Nat :=
  (0xAA87CA22BE8B05378EB1C71EF320AD746E1D3B628BA79B9859F741E082542A385502F25DBF55296C3A545E3872760AB7,
   0x3617DE4A96262C6F5D9E98BF9292DC29F8F41DBD289A147CE9DA3113B5F0B8C00A60B1CE1D7E819D7A431D7C90EA0E5F)

/-- A difference in the field. -/
def fsub (a b : Nat) : Nat := (a + (p384 - b % p384)) % p384

/-- A product in the field. -/
def fmul (a b : Nat) : Nat := a * b % p384

/-- A power modulo a number, for an exponent of `n` bits. -/
def powMod (m b e : Nat) (n : Nat) : Nat :=
  (List.range n).foldl (fun r i => if e.testBit (n - 1 - i) then r * r % m * b % m else r * r % m) 1

/-- A point in Jacobian coordinates; z = 0 is the point at infinity. -/
structure Pt where
  x : Nat
  y : Nat
  z : Nat
  deriving DecidableEq, Repr

/-- A point doubled. -/
def Pt.dbl (p : Pt) : Pt :=
  let delta := fmul p.z p.z
  let gamma := fmul p.y p.y
  let beta := fmul p.x gamma
  let alpha := 3 * fmul (fsub p.x delta) (p.x + delta) % p384
  let x := fsub (fmul alpha alpha) (8 * beta)
  let yz := p.y + p.z
  ⟨x, fsub (fmul alpha (fsub (4 * beta) x)) (8 * fmul gamma gamma), fsub (fsub (fmul yz yz) gamma) delta⟩

/-- Two points added. -/
def Pt.add (p q : Pt) : Pt :=
  if p.z = 0 then q
  else if q.z = 0 then p
  else
    let zz1 := fmul p.z p.z
    let zz2 := fmul q.z q.z
    let u1 := fmul p.x zz2
    let u2 := fmul q.x zz1
    let s1 := fmul (fmul p.y q.z) zz2
    let s2 := fmul (fmul q.y p.z) zz1
    let h := fsub u2 u1
    let r := fsub s2 s1
    if h = 0 then (if r = 0 then p.dbl else ⟨1, 1, 0⟩)
    else
      let hh := fmul h h
      let hhh := fmul h hh
      let v := fmul u1 hh
      let x := fsub (fsub (fmul r r) hhh) (2 * v)
      ⟨x, fsub (fmul r (fsub v x)) (fmul s1 hhh), fmul (fmul p.z q.z) h⟩

/-- A point added to itself `k` times, for `k` of 384 bits. -/
def Pt.mul (k : Nat) (p : Pt) : Pt :=
  (List.range 384).foldl (fun r i => if k.testBit (383 - i) then r.dbl.add p else r.dbl) ⟨1, 1, 0⟩

/-- A point's affine coordinates, none at infinity. -/
def Pt.affine (p : Pt) : Option (Nat × Nat) :=
  if p.z % p384 = 0 then none
  else
    let i := powMod p384 p.z (p384 - 2) 384
    let ii := fmul i i
    some (fmul p.x ii, fmul p.y (fmul i ii))

/-- A pair of numbers is a point of the curve. -/
def onCurve (q : Nat × Nat) : Bool :=
  decide (q.1 < p384) && decide (q.2 < p384) && fmul q.2 q.2 == (fmul (fmul q.1 q.1) q.1 + (p384 - 3) * q.1 + b384) % p384

/-- The 97 bytes of an uncompressed public key (R368). -/
def encodePoint (q : Nat × Nat) : List Byte := 0x04#8 :: (bytesBe q.1 48 ++ bytesBe q.2 48)

/-- The point that an uncompressed public key names, none where it names none. -/
def decodePoint (l : List Byte) : Option (Nat × Nat) :=
  let q := (numBe ((l.drop 1).take 48), numBe ((l.drop 49).take 48))
  if l.length = 97 ∧ l.head? = some 0x04#8 ∧ onCurve q = true then some q else none

/-- The public key of a private key. -/
def publicKey (d : Nat) : List Byte := encodePoint (((Pt.mul d ⟨g384.1, g384.2, 1⟩).affine).getD (0, 0))

/-- The 48 bytes of the x-coordinate that a private key and a public key share, none where the public key is none. A private
key lies in 1 .. n − 1, so that no multiple of a point of the curve by it is the point at infinity. -/
def ecdh (d : Nat) (pub : List Byte) : Option (List Byte) :=
  (decodePoint pub).map (fun q => bytesBe (((Pt.mul d ⟨q.1, q.2, 1⟩).affine).getD (0, 0)).1 48)

/-- An ECDSA signature with SHA-384, of a message under a private key, with the nonce `k`: r and s in 48 bytes each, least
significant first (R368; DESIGN CHOICE for signatures elsewhere, log entry 5). -/
def ecdsaSign (d k : Nat) (msg : List Byte) : List Byte :=
  let r := (((Pt.mul k ⟨g384.1, g384.2, 1⟩).affine).getD (0, 0)).1 % n384
  let s := powMod n384 k (n384 - 2) 384 * (numBe (sha384Bytes msg) + r * d) % n384
  (bytesBe r 48).reverse ++ (bytesBe s 48).reverse

/-- An ECDSA signature with SHA-384 verifies: over a message, under a public key of 97 bytes. -/
def ecdsaOk (pub msg sig : List Byte) : Bool :=
  let r := numBe (sig.take 48).reverse
  let s := numBe ((sig.drop 48).take 48).reverse
  match decodePoint pub with
  | none => false
  | some q =>
    if sig.length = 96 ∧ 0 < r ∧ r < n384 ∧ 0 < s ∧ s < n384 then
      let w := powMod n384 s (n384 - 2) 384
      let u1 := numBe (sha384Bytes msg) * w % n384
      let u2 := r * w % n384
      match (((Pt.mul u1 ⟨g384.1, g384.2, 1⟩).add (Pt.mul u2 ⟨q.1, q.2, 1⟩)).affine) with
      | some p => p.1 % n384 == r
      | none => false
    else false

end Sys2Proof.Machine
end

