-- ==== Sys2Proof/Machine/Layout.lean ====
section
/-!
DEFINITION. Byte layouts: directory copies (R61, R388), the survey image's header and section table (R64), certificates and
the certificate table (R368, R369), manifests (R391), JOIN and KEYX (R370, R372), Geode commands (R180), update payloads (R394),
and packets under their tag and CRC (R117 to R120).
-/

namespace Sys2Proof.Machine

/-! ### Bytes -/

/-- `n` zero bytes. -/
def zeros (n : Nat) : List Byte := List.replicate n 0

/-- Bytes cut, or filled with zeros, to a length. -/
def padTo (n : Nat) (l : List Byte) : List Byte := (l ++ zeros (n - l.length)).take n

/-- `n` bytes from an offset. -/
def bytesAt (l : List Byte) (off n : Nat) : List Byte := (l.drop off).take n

/-- Every byte is 0. -/
def allZero (l : List Byte) : Bool := l.all (fun b => b == 0)

/-- A key's bytes. -/
def keyBytes (k : Key) : List Byte := bytesBe k.toNat 32

/-- The key that bytes give. -/
def keyOf (l : List Byte) : Key := BitVec.ofNat 256 (numBe (l.take 32))

/-- A serial's bytes. -/
def serialBytes (x : Serial) : List Byte := bytesLe x.toNat 16

/-- The serial at an offset. -/
def serialAt (l : List Byte) (off : Nat) : Serial := BitVec.ofNat 128 (fieldAt l off 16)

/-- A digest's 48 bytes. -/
def digestBytes (d : BitVec 384) : List Byte := bytesBe d.toNat 48

/-- The digest at an offset. -/
def digestAt (l : List Byte) (off : Nat) : BitVec 384 := BitVec.ofNat 384 (numBe (bytesAt l off 48))

/-! ### The directory (R61, R388) -/

/-- The 60 bytes that the CRC of a directory copy covers. -/
def DirCopy.body (d : DirCopy) : List Byte :=
  bytesLe 0x53524B44 4 ++ bytesLe d.serial.toNat 4 ++ [BitVec.ofNat 8 d.active.toNat, BitVec.ofNat 8 d.trial.toNat] ++
    [d.xclk, d.tries, d.wdlim] ++ zeros 3 ++ bytesLe d.pkg.toNat 8 ++ bytesLe d.prev.toNat 8 ++ zeros 28

/-- A directory copy as its 64 bytes. -/
def DirCopy.bytes (d : DirCopy) : List Byte := d.body ++ bytesLe (crc32 d.body).toNat 4

/-- What a directory copy says; none where its magic or its CRC is wrong (R61). -/
def dirRead (l : List Byte) : Option DirCopy :=
  if fieldAt l 0 4 = 0x53524B44 ∧ l.length = 64 ∧ (crc32 (l.take 60)).toNat = fieldAt l 60 4 then
    some {
      serial := BitVec.ofNat 32 (fieldAt l 4 4), active := fieldAt l 8 1 == 1, trial := fieldAt l 9 1 == 1
      xclk := BitVec.ofNat 8 (fieldAt l 10 1), tries := BitVec.ofNat 8 (fieldAt l 11 1), wdlim := BitVec.ofNat 8 (fieldAt l 12 1)
      pkg := BitVec.ofNat 64 (fieldAt l 16 8), prev := BitVec.ofNat 64 (fieldAt l 24 8) }
  else none

/-! ### Certificates (R368, R369) -/

/-- The roles of R368 by their bits. -/
inductive Role where
  | firmware | plan | factory | pattern | geode | manage | deviceCa | update | arbiter | debug
  deriving DecidableEq, Repr

/-- A role's bit. -/
def Role.bit : Role → Nat
  | .firmware => 0 | .plan => 1 | .factory => 2 | .pattern => 3 | .geode => 4
  | .manage => 5 | .deviceCa => 6 | .update => 7 | .arbiter => 8 | .debug => 9

/-- Fields of a certificate (R368). -/
def certIndex (c : List Byte) : Nat := fieldAt c 4 1
def certIssuer (c : List Byte) : Nat := fieldAt c 5 1
def certRole (c : List Byte) (r : Role) : Bool := (fieldAt c 6 2).testBit r.bit
def certWall (c : List Byte) : Nat := fieldAt c 8 8
def certSerial (c : List Byte) : Serial := serialAt c 16
def certKey (c : List Byte) : List Byte := bytesAt c 32 97
def certSig (c : List Byte) : List Byte := bytesAt c 160 96

/-- A certificate is well formed (R368): its length, its magic, its reserved bytes. -/
def certForm (c : List Byte) : Bool :=
  c.length == 256 && fieldAt c 0 4 == 0x47434552 && allZero (bytesAt c 129 31)

/-- A certificate's wall and serial limits hold for a wall and a device (R368, R369). -/
def certLimits (c : List Byte) (wall : BitVec 64) (serial : Serial) : Bool :=
  (certWall c == 0 || certWall c == wall.toNat) && (certSerial c == 0 || certSerial c == serial)

/-- The entry of a certificate table with an index; index 0 is the root key and names none. -/
def CertTable.entry (t : CertTable) (i : Nat) : Option (List Byte) :=
  if i = 0 then none else (t.certs.take 15).find? (fun c => certIndex c == i)

/-- The certificates from one up to the root verify, at most `n` of them, each with the role and within its limits (R369). -/
def CertTable.path (t : CertTable) (role : Role) (wall : BitVec 64) (serial : Serial) : Nat → List Byte → Bool
  | 0, _ => false
  | n + 1, c =>
    certForm c && certRole c role && certLimits c wall serial &&
      (if certIssuer c = 0 then ecdsaOk t.root (c.take 160) (certSig c)
      else
        match t.entry (certIssuer c) with
        | some d => ecdsaOk (certKey d) (c.take 160) (certSig c) && t.path role wall serial n d
        | none => false)

/-- The table's root key is the one whose digest is fused (R369). -/
def CertTable.rootOk (t : CertTable) (fused : BitVec 384) : Bool := sha384 t.root == fused

/-- A certificate's key chains to the fused root key digest for a use (R369). -/
def CertTable.chains (t : CertTable) (fused : BitVec 384) (role : Role) (wall : BitVec 64) (serial : Serial) (c : List Byte) :
    Bool := t.rootOk fused && t.path role wall serial 3 c

/-- A signature over bytes under the certificate that a signature block names (R369). -/
def CertTable.signed (t : CertTable) (fused : BitVec 384) (role : Role) (wall : BitVec 64) (serial : Serial) (b : SigBlock)
    (msg : List Byte) : Bool :=
  match t.entry b.signer with
  | some c => t.chains fused role wall serial c && ecdsaOk (certKey c) msg b.sig
  | none => false

/-- A device certificate chains (R369): its index is 255, its issuer is a table entry with the device CA role, and its serial
limit is the device's serial. The certificate itself needs no role (DEDUCED, log entry 63). -/
def CertTable.device (t : CertTable) (fused : BitVec 384) (wall : BitVec 64) (serial : Serial) (c : List Byte) : Bool :=
  t.rootOk fused && certForm c && certIndex c == 255 && certSerial c == serial && certLimits c wall serial &&
    (match t.entry (certIssuer c) with
    | some d => ecdsaOk (certKey d) (c.take 160) (certSig c) && t.path .deviceCa wall serial 2 d
    | none => false)

/-! ### The firmware image (R62, R63) -/

/-- Digest and signature of a firmware image verify (R63). -/
def FwImage.sigOk (x : FwImage) (fused : BitVec 384) (wall : BitVec 64) (serial : Serial) : Bool :=
  sha384 x.body == x.digest && x.certs.signed fused .firmware wall serial x.sign x.body

/-! ### The survey image (R62, R64, R65) -/

/-- Fields of the survey image's header (R64). -/
def PlanImage.count (p : PlanImage) : Nat := fieldAt p.header 6 2
def PlanImage.wallId (p : PlanImage) : BitVec 64 := BitVec.ofNat 64 (fieldAt p.header 8 8)
def PlanImage.serial (p : PlanImage) : Word := BitVec.ofNat 32 (fieldAt p.header 16 4)
def PlanImage.pairId (p : PlanImage) : BitVec 64 := BitVec.ofNat 64 (fieldAt p.header 20 8)
def PlanImage.length (p : PlanImage) : Nat := fieldAt p.header 28 4
def PlanImage.ifaceLo (p : PlanImage) : Nat := fieldAt p.header 32 2
def PlanImage.ifaceHi (p : PlanImage) : Nat := fieldAt p.header 34 2
def PlanImage.rollback (p : PlanImage) : Nat := fieldAt p.header 36 4

/-- The header is well formed (R64, R65): magic, format 3, the section count of the table, an image length that holds header,
table and signature block and keeps within R62, reserved bytes 0. -/
def PlanImage.headerOk (p : PlanImage) : Bool :=
  p.header.length == 4096 && fieldAt p.header 0 4 == 0x53555256 && fieldAt p.header 4 2 == 3 && decide (1 ≤ p.count) &&
    decide (p.count ≤ 4096) && p.count == p.table.length && decide (4096 + 64 * p.count + 256 ≤ p.length) &&
    decide (p.length ≤ planMax) && allZero (p.header.drop 40)

/-- An owner key as its four bytes (DESIGN CHOICE, log entry 62). -/
def SectionOwner.bytes : SectionOwner → List Byte
  | .wall => [0, 0, 0, 0]
  | .head h => [1, BitVec.ofNat 8 h, 0, 0]
  | .tile h c p => [2, BitVec.ofNat 8 h, BitVec.ofNat 8 c, BitVec.ofNat 8 p]
  | .generic => [3, 0, 0, 0]

/-- An entry of the section table as its 64 bytes (R64): type, owner key, offset and length in four bytes each, the digest
(DESIGN CHOICE, log entry 62). -/
def SectionEntry.bytes (e : SectionEntry) : List Byte :=
  bytesLe e.typ 4 ++ e.owner.bytes ++ bytesLe e.offset 4 ++ bytesLe e.length 4 ++ digestBytes e.digest

/-- What the signature of a survey image covers: the header and the section table (R65). -/
def PlanImage.signedBytes (p : PlanImage) : List Byte := p.header ++ p.table.flatMap SectionEntry.bytes

/-- A section's bytes have the length and the digest of its entry (R65). -/
def sectionOk (e : SectionEntry) (b : List Byte) : Bool := b.length == e.length && sha384 b == e.digest

/-- The sections with an owner key out of some have their digests (R65). -/
def PlanImage.ownedOk (p : PlanImage) (owners : SectionOwner → Bool) : Bool :=
  (List.range p.table.length).all (fun i =>
    match p.table[i]? with
    | some e => !(owners e.owner) || sectionOk e (p.bodies.getD i [])
    | none => true)

/-- The owner keys that a role uses before a Tile knows its place (R64, R65). -/
def PlanImage.roleOwner (p : PlanImage) (o : SectionOwner) : Bool :=
  o == .wall || (if p.isHead then o == .head p.plan.wall.headNumber else o == .generic)

/-- The sections of the device's role have their digests (R65). -/
def PlanImage.sectionsOk (p : PlanImage) : Bool := p.ownedOk p.roleOwner

/-- A place has a section (R73). -/
def PlanImage.hasPlace (p : PlanImage) (h c n : Nat) : Bool := p.table.any (fun e => e.owner == .tile h c n)

/-- The sections of a place have their digests (R65). -/
def PlanImage.placeOk (p : PlanImage) (h c n : Nat) : Bool := p.ownedOk (fun o => o == .tile h c n)

/-- The plan with what the header gives it (R64). -/
def PlanImage.loaded (p : PlanImage) : Plan :=
  { p.plan with wall := { p.plan.wall with id := p.wallId, serial := p.serial, pairId := p.pairId } }

/-! ### Manifests (R391) -/

/-- Fields of a manifest (R391). -/
def Manifest.pkg (m : Manifest) : BitVec 64 := BitVec.ofNat 64 (fieldAt m.bytes 8 8)
def Manifest.wallId (m : Manifest) : BitVec 64 := BitVec.ofNat 64 (fieldAt m.bytes 16 8)
def Manifest.planSerial (m : Manifest) : Word := BitVec.ofNat 32 (fieldAt m.bytes 24 4)
def Manifest.count (m : Manifest) : Nat := fieldAt m.bytes 28 4

/-- Item `i` of a manifest (R391). -/
def Manifest.item (m : Manifest) (i : Nat) : UpdItem :=
  let o := 32 + 72 * i
  { kind := fieldAt m.bytes o 1, target := fieldAt m.bytes (o + 1) 1, length := fieldAt m.bytes (o + 4) 4,
    digest := digestAt m.bytes (o + 8), serialLimit := serialAt m.bytes (o + 56) }

/-- The items of a manifest; a count beyond 4 is not read. -/
def Manifest.items (m : Manifest) : List UpdItem := (List.range (min 4 m.count)).map m.item

/-- The signature block of a manifest: the signer's index in its first byte, then the signature (DESIGN CHOICE, log entry
62). -/
def Manifest.sign (m : Manifest) : SigBlock := { signer := fieldAt m.bytes 3840 1, sig := bytesAt m.bytes 3841 96 }

/-- A manifest's magic, format, count and kinds (R391). -/
def Manifest.wellFormed (m : Manifest) : Bool :=
  m.bytes.length == 4096 && fieldAt m.bytes 0 4 == 0x55504B47 && fieldAt m.bytes 4 4 == 1 && decide (1 ≤ m.count) &&
    decide (m.count ≤ 4) && m.items.all (fun i => decide (1 ≤ i.kind) && decide (i.kind ≤ 4) && decide (i.target ≤ 2))

/-- A manifest's signer and signature (R391). -/
def Manifest.sigOk (m : Manifest) (t : CertTable) (fused : BitVec 384) (wall : BitVec 64) (serial : Serial) : Bool :=
  t.signed fused .update wall serial m.sign (m.bytes.take 3840)

/-! ### JOIN (R370) -/

/-- Fields of a JOIN (R370). -/
def JoinMsg.serial (m : JoinMsg) : Serial := serialAt m.bytes 0
def JoinMsg.hopsA (m : JoinMsg) : Nat := fieldAt m.bytes 16 1
def JoinMsg.hopsB (m : JoinMsg) : Nat := fieldAt m.bytes 17 1
def JoinMsg.chainByte (m : JoinMsg) : Nat := fieldAt m.bytes 18 1
def JoinMsg.chain (m : JoinMsg) : Fin 8 := Fin.ofNat 8 m.chainByte
def JoinMsg.wallId (m : JoinMsg) : BitVec 64 := BitVec.ofNat 64 (fieldAt m.bytes 20 8)
def JoinMsg.planSerial (m : JoinMsg) : Word := BitVec.ofNat 32 (fieldAt m.bytes 28 4)
def JoinMsg.held (m : JoinMsg) : Nat := fieldAt m.bytes 32 2
def JoinMsg.pub (m : JoinMsg) : List Byte := bytesAt m.bytes 36 97
def JoinMsg.cert (m : JoinMsg) : List Byte := bytesAt m.bytes 136 256
def JoinMsg.sig (m : JoinMsg) : List Byte := bytesAt m.bytes 392 96

/-- The 392 bytes of a JOIN that its signature covers (R370). -/
def joinBody (serial : Serial) (a b chain : Nat) (wall : BitVec 64) (plan : Word) (held : Nat) (pub cert : List Byte) :
    List Byte :=
  serialBytes serial ++ [BitVec.ofNat 8 a, BitVec.ofNat 8 b, BitVec.ofNat 8 chain, 0] ++ bytesLe wall.toNat 8 ++
    bytesLe plan.toNat 4 ++ bytesLe held 2 ++ zeros 2 ++ padTo 97 pub ++ zeros 3 ++ padTo 256 cert

/-! ### KEYX (R372) -/

/-- Fields of a KEYX (R372). -/
def KeyxMsg.step (m : KeyxMsg) : Nat := fieldAt m.bytes 0 1
def KeyxMsg.chain (m : KeyxMsg) : Fin 8 := Fin.ofNat 8 (fieldAt m.bytes 1 1)
def KeyxMsg.id (m : KeyxMsg) : BitVec 10 := BitVec.ofNat 10 (fieldAt m.bytes 2 2)
def KeyxMsg.toSerial (m : KeyxMsg) : Serial := serialAt m.bytes 4
def KeyxMsg.fromSerial (m : KeyxMsg) : Serial := serialAt m.bytes 20
def KeyxMsg.ep (m : KeyxMsg) : BitVec 6 := BitVec.ofNat 6 (fieldAt m.bytes 36 1)
def KeyxMsg.switch (m : KeyxMsg) : Word := BitVec.ofNat 32 (fieldAt m.bytes 40 4)
def KeyxMsg.pub (m : KeyxMsg) : List Byte := bytesAt m.bytes 44 97
def KeyxMsg.cert (m : KeyxMsg) : List Byte := bytesAt m.bytes 144 256
def KeyxMsg.sig (m : KeyxMsg) : List Byte := bytesAt m.bytes 400 96
def KeyxMsg.nonce (m : KeyxMsg) : List Byte := bytesAt m.bytes 44 12
def KeyxMsg.wrapped (m : KeyxMsg) : List Byte := bytesAt m.bytes 56 32
def KeyxMsg.wrapTag (m : KeyxMsg) : List Byte := bytesAt m.bytes 88 16
def KeyxMsg.ackTag (m : KeyxMsg) : List Byte := bytesAt m.bytes 44 16

/-- The sender is a Head (R118). -/
def KeyxMsg.fromHead (m : KeyxMsg) : Bool := m.src == 1020 || m.src == 1021

/-- Bytes 0 to 43 of a KEYX (R372). -/
def keyxHead (step chain id : Nat) (dest src : Serial) (ep : Nat) (switch : Word) : List Byte :=
  [BitVec.ofNat 8 step, BitVec.ofNat 8 chain] ++ bytesLe id 2 ++ serialBytes dest ++ serialBytes src ++
    [BitVec.ofNat 8 ep] ++ zeros 3 ++ bytesLe switch.toNat 4

/-- Bytes 0 to 399 of a KEYX of step 1 or 2 (R372). -/
def keyxOffer (head pub cert : List Byte) : List Byte := head ++ padTo 97 pub ++ zeros 3 ++ padTo 256 cert

/-- A wrapping nonce (R372): the count in 12 bytes, little-endian (DESIGN CHOICE, log entry 63). -/
def wrapNonce (n : Nat) : List Byte := bytesLe n 12

/-- A KEYX of step 3 (R372): a key wrapped under another. -/
def keyxKey (head : List Byte) (under : Key) (n : Nat) (k : Key) : List Byte :=
  let c := gcmCrypt under (wrapNonce n) (keyBytes k)
  padTo 496 (head ++ wrapNonce n ++ c ++ gcmTag under (wrapNonce n) head c)

/-- The key that a step 3 delivers, none where its wrapping tag fails (R372). -/
def KeyxMsg.unwrap (m : KeyxMsg) (under : Key) : Option Key :=
  if gcmTag under m.nonce (m.bytes.take 44) m.wrapped = m.wrapTag then some (keyOf (gcmCrypt under m.nonce m.wrapped)) else none

/-- The nonce of a step 4's tag, which the spec does not give: the epoch, then eleven bytes of ones, which no wrapping count
reaches (DESIGN CHOICE, log entry 63). -/
def ackNonce (ep : Nat) : List Byte := BitVec.ofNat 8 ep :: List.replicate 11 0xFF

/-- A KEYX of step 4 (R372). -/
def keyxAck (head : List Byte) (under : Key) (ep : Nat) : List Byte := padTo 496 (head ++ gcmTag under (ackNonce ep) head [])

/-- The tag of a step 4 verifies (R372). -/
def KeyxMsg.ackOk (m : KeyxMsg) (under : Key) : Bool := gcmTag under (ackNonce m.ep.toNat) (m.bytes.take 44) [] == m.ackTag

/-- The enrolment key of an ECDH secret (R372): salt Tile serial ‖ Head serial, info "SRK enrol" ‖ wall identifier. -/
def enrolKey (secret : List Byte) (tile head : Serial) (wall : BitVec 64) : Key :=
  keyOf (hkdf384 secret (serialBytes tile ++ serialBytes head)
    ([0x53, 0x52, 0x4B, 0x20, 0x65, 0x6E, 0x72, 0x6F, 0x6C] ++ bytesLe wall.toNat 8) 32)

/-- The pair key of an ECDH secret (R372): salt end-A serial ‖ end-B serial, info "SRK pair". -/
def pairKeyOf (secret : List Byte) (a b : Serial) : Key :=
  keyOf (hkdf384 secret (serialBytes a ++ serialBytes b) [0x53, 0x52, 0x4B, 0x20, 0x70, 0x61, 0x69, 0x72] 32)

/-- The link key (R375): info "SRK hop" ‖ src ‖ dir, under a chain key, without salt. -/
def linkKey (ck : Key) (src dir : Nat) : Key :=
  keyOf (hkdf384 (keyBytes ck) []
    ([0x53, 0x52, 0x4B, 0x20, 0x68, 0x6F, 0x70] ++ bytesLe src 2 ++ [BitVec.ofNat 8 dir]) 32)

/-- The session key of a shared secret (R380): info "SRK svc". -/
def sessionKey (secret : List Byte) : Key := keyOf (hkdf384 secret [] [0x53, 0x52, 0x4B, 0x20, 0x73, 0x76, 0x63] 32)

/-- A private key from 64 drawn or derived bytes or fewer: reduced to 1 .. n − 1 (DESIGN CHOICE, log entry 63). -/
def scalarOf (v : Nat) : Nat := v % (n384 - 1) + 1

/-- The identity key of a device secret (R365): HKDF-SHA-384 with the info string "SRK id". -/
def identityOf (secret : BitVec 256) : Nat :=
  scalarOf (numBe (hkdf384 (bytesBe secret.toNat 32) [] [0x53, 0x52, 0x4B, 0x20, 0x69, 0x64] 48))

/-! ### Geode commands (R180) -/

/-- Fields of a Geode command (R180). -/
def GeodeMsg.set (m : GeodeMsg) : Nat := fieldAt m.bytes 4 1
def GeodeMsg.wallId (m : GeodeMsg) : BitVec 64 := BitVec.ofNat 64 (fieldAt m.bytes 8 8)
def GeodeMsg.counter (m : GeodeMsg) : BitVec 64 := BitVec.ofNat 64 (fieldAt m.bytes 16 8)
def GeodeMsg.target (m : GeodeMsg) : Word := BitVec.ofNat 32 (fieldAt m.bytes 24 4)
def GeodeMsg.sig (m : GeodeMsg) : List Byte := bytesAt m.bytes 32 96

/-- A Geode command's length, magic and reserved bytes (R180). -/
def GeodeMsg.form (m : GeodeMsg) : Bool :=
  m.bytes.length == 128 && fieldAt m.bytes 0 4 == 0x47454F44 && allZero (bytesAt m.bytes 5 3) && allZero (bytesAt m.bytes 28 4)

/-! ### Update payloads (R394) -/

/-- An update payload or frame as its bytes (R394). -/
def UpdMsg.bytes (m : UpdMsg) : List Byte :=
  [BitVec.ofNat 8 m.kind] ++ zeros 3 ++ bytesLe m.pkg.toNat 8 ++ bytesLe m.arg 4 ++ bytesLe m.count 4 ++
    (if m.kind = 0 then padTo 4096 m.data else [])

/-! ### Packets (R117 to R120) -/

/-- The nonce of a packet: header bytes 1 to 12 (R119). -/
def packetNonce (hdr : List Byte) : List Byte := bytesAt hdr 1 12

/-- The bytes that a packet's tag and CRC protect (R119): the payload as it stands on the wire. -/
def sealed (h : Hdr) (key : Option Key) (payload : List Byte) : List Byte :=
  match key with
  | some k => if h.prot = 2 then gcmCrypt k (packetNonce (hdrBytes h)) payload else payload
  | none => payload

/-- The tag over header and payload as they stand on the wire (R119): with PROT 2 the payload is ciphertext; with PROT 1 it is
plaintext and, like the header, additional data (DEDUCED, log entry 63). -/
def packetTag (prot : BitVec 2) (k : Key) (hdr wire : List Byte) : List Byte :=
  if prot = 2 then gcmTag k (packetNonce hdr) hdr wire else gcmTag k (packetNonce hdr) (hdr ++ wire) []

/-- The CRC of R120 as it is sent, least significant byte first. -/
def crcBytes (l : List Byte) : List Byte := bytesLe (crc32 l).toNat 4

/-- A packet's bytes on the wire (R117): header, payload, tag, CRC. -/
def packetBytes (h : Hdr) (key : Option Key) (payload : List Byte) : List Byte :=
  let w := sealed h key payload
  let l := hdrBytes h ++ w ++ (match key with | some k => packetTag h.prot k (hdrBytes h) w | none => [])
  l ++ crcBytes l

end Sys2Proof.Machine
end

