-- ==== Sys2Proof/Syntax.lean ====
section
/-!
DEFINITION. The commands: one constructor for each row of the opcode table, with the operands that the environment gives it.
-/

namespace Sys2Proof

open Machine

/-- The commands of the block. -/
inductive Instr where
  /-- `REGISTER_WRITE` (R9). A write to a live register that has no row of its own; each field acts by its access code. -/
  | registerWrite (who : Initiator) (addr : Word) (size : AccessSize) (value : Word)
  /-- `CORE_MEMORY_ACCESS` (R346). A core or service-agent access to core memory, tile store or the LPDDR window, with ECC correction and access checks. -/
  | coreMemoryAccess (a : MemAccess)
  /-- `SUPPLY_LEAVES_RANGE` (R37). A supply monitor qualifies a supply leaving its range for 1 µs or longer. -/
  | supplyLeavesRange (k : Supply)
  /-- `SUPPLY_RETURNS` (R32). A supply comes back within its range and its SUP_STAT bit is set. -/
  | supplyReturns (k : Supply)
  /-- `PORST_N_LOW` (R54). PORST_N is taken low, entering power-on reset once any Sump row in progress is written. -/
  | porstNLow (ns : Nat)
  /-- `PORST_N_HIGH` (R34). PORST_N returns high, restarting the 2 ms power-on qualification. -/
  | porstNHigh
  /-- `CKEEP_LOW` (R410). CKEEP falls below 4.5 V; before release this holds power-on reset, after release it sets SUP_EVT.CKEEP_LOW. -/
  | ckeepLow (mv : Nat)
  /-- `POWER_ON_RESET_END` (R34). No power-on reset condition has held for 2 ms on the KEEP clock; the device leaves power-on reset. -/
  | powerOnResetEnd (strapHead : Bool)
  /-- `SYSPLL_LOCK` (R50). SYSPLL locks, CORE, MGMT and TIME run and the keeper leaves reset 16 MGMT cycles later. -/
  | syspllLock
  /-- `SYSPLL_LOCK_TIMEOUT` (R50). SYSPLL is not locked 1 ms after enable; everything but the always-on domain stays in reset and RST_CAUSE.NOREF is set. -/
  | syspllLockTimeout
  /-- `REFCLK_RETRY` (R50). Every 100 ms without REFCLK the device retries SYSPLL lock. -/
  | refclkRetry
  /-- `SYSPLL_UNLOCK` (R45). SYSPLL loses lock and a device reset follows. -/
  | syspllUnlock
  /-- `MPLL_UNLOCK` (R45). MPLL loses lock; the memory controller stops and the Head acts as a failed Head. -/
  | mpllUnlock
  /-- `PORT_PLL_UNLOCK` (R45). A port transmit PLL loses lock and the port's lanes go to electrical idle. -/
  | portPllUnlock (n : Fin 8)
  /-- `SVC_PLL_UNLOCK` (R45). The service PLL loses lock and the service lane drops its link. -/
  | svcPllUnlock
  /-- `VPLL_UNLOCK` (R45). The VPLL loses lock; lamps blank at the next line boundary. -/
  | vpllUnlock
  /-- `VPLL_RELOCK` (R45). The VPLL regains lock to REFCLK; lamps relight at the next slot boundary. -/
  | vpllRelock
  /-- `WATCHDOG_EXPIRY` (R53). The watchdog count runs out and a device reset, preceded by a reset save, follows. -/
  | watchdogExpiry
  /-- `WATCHDOG_KICK` (R53). The keeper writes 0xC0DE to RST_WDT.KICK and the watchdog count restarts. -/
  | watchdogKick (who : Initiator) (kick : BitVec 16)
  /-- `DEVICE_RESET_REQUEST` (R55). The keeper writes RST_CTL.DEVICE with the key; a reset save then a device reset follow. -/
  | deviceResetRequest (who : Initiator) (key : BitVec 16)
  /-- `CORE_RESET_REQUEST` (R51). The keeper writes RST_CTL.A0 or A1 with the key and that application core is reset. -/
  | coreResetRequest (who : Initiator) (key : BitVec 16) (a0 : Bool) (a1 : Bool)
  /-- `TEST_RESET` (R51). TRST_N low resets the test logic only. -/
  | testReset
  /-- `FUSE_SENSING_DONE` (R57). Fuse sensing completes; single-bit errors are corrected, an uncorrectable word stops the start with 0x01. -/
  | fuseSensingDone (f : FuseSense)
  /-- `SUMP_FILL_DONE` (R416). The staging is filled from the newest valid copy of each Sump record at start. -/
  | sumpFillDone
  /-- `FIRMWARE_AND_PLAN_LOAD` (R63). The boot ROM reads the directory and one bank, checks firmware and plan and loads them. -/
  | firmwareAndPlanLoad (fitted : Option Nvm)
  /-- `MEMORY_BRING_UP` (R72). On a Head plan the keeper enables the MPLL, checks VDDQ and trains the LPDDR. -/
  | memoryBringUp (trained : Bool)
  /-- `MEMORY_HOLD_RETRY` (R68). Every 1,000 ms in memory hold the keeper retries the memory bring-up. -/
  | memoryHoldRetry (trained : Bool)
  /-- `POSITION_SECTION_LOADED` (R73). A Tile finishes reading and hashing its position section. -/
  | positionSectionLoaded
  /-- `START_GRACE_EXPIRY` (R448). gov.start_grace_ms passes after release and items never seen healthy count as failed. -/
  | startGraceExpiry
  /-- `RECOVER_HOLD_EXPIRY` (R24). An item leaving the cover set has stayed healthy for gov.recover_hold_ms. -/
  | recoverHoldExpiry (i : HealthItem)
  /-- `IMAGE_BOUNDARY` (R150). An image boundary of a facet occurs, where commits, variants and hand-overs act. -/
  | imageBoundary (f : Fin 4) (fetched : List Burst)
  /-- `COMMIT_REQUEST` (R77). A write of GO to CFG_COMMIT requests a commit, in MODE 0 or 1. -/
  | commitRequest (who : Initiator) (mode1 : Bool)
  /-- `COMMIT_CANCEL` (R81). A write of CANCEL withdraws a pending commit if latched 2 µs before its boundary. -/
  | commitCancel (who : Initiator)
  /-- `COMMIT_REVERT` (R81). A write of REVERT sets every staging value back to its active value. -/
  | commitRevert (who : Initiator)
  /-- `LANE_STOP` (R99). Setting a stop bit in LAN_CTL idles a port, receiver or service lane within 1 µs. -/
  | laneStop (who : Initiator) (units : BitVec 13)
  /-- `LANE_START` (R99). Clearing a stop bit in LAN_CTL starts acquisition on its lanes. -/
  | laneStart (who : Initiator) (units : BitVec 13)
  /-- `LANE_SIGNAL_DETECT` (R96). The signal-detect threshold is exceeded for 16 character times; the lane enters Acquire. -/
  | laneSignalDetect (m : Fin 49)
  /-- `LANE_CDR_LOCK` (R96). Clock recovery locks and the equaliser freezes; the lane enters Align. -/
  | laneCdrLock (m : Fin 49) (moves : List Bool)
  /-- `LANE_COMMA_ALIGN` (R96). Three commas at one 10-bit boundary put the lane in Qualify. -/
  | laneCommaAlign (m : Fin 49) (inverted : Bool)
  /-- `LANE_QUALIFIED` (R96). 1,024 consecutive characters without violation put the lane in Locked. -/
  | laneQualified (m : Fin 49)
  /-- `CODE_VIOLATION` (R91). A received 10-bit group violates the code table or running disparity. -/
  | codeViolation (m : Fin 49) (groups : List (BitVec 10))
  /-- `LANE_SIGNAL_LOST` (R97). The signal-detect threshold is not exceeded for 16 consecutive character times. -/
  | laneSignalLost (m : Fin 49)
  /-- `MISALIGNED_COMMA` (R97). Two consecutive commas arrive at another 10-bit boundary. -/
  | misalignedComma (m : Fin 49)
  /-- `DP_AUX_TRANSACTION` (R103). A DisplayPort source's AUX transaction, including link training requests, is served. -/
  | dpAuxTransaction (n : Fin 4) (r : DpAux)
  /-- `SVC_LINK_UP` (R105). Service-lane negotiation or PCS synchronisation completes and the link comes up. -/
  | svcLinkUp (page : BitVec 16)
  /-- `SVC_FRAME_RECEIVED` (R106). A service-lane frame is received, checked by FCS and passed to the keeper. -/
  | svcFrameReceived (f : SvcFrame)
  /-- `LANE_MARKER_DUE` (R111). A port's character count reaches a multiple of 1,024 and it sends /M/ on all lanes. -/
  | laneMarkerDue (n : Fin 8)
  /-- `MARKER_RECEIVED` (R112). A usable lane marker is received and used for de-skew and the partner's masks. -/
  | markerReceived (n : Fin 8) (ms : List LaneMarker)
  /-- `PACKET_START_RECEIVED` (R124). A Tile has DST and HOP of an arriving packet and starts forwarding it cut-through. -/
  | packetStartReceived (n : Fin 8) (h : Hdr)
  /-- `PACKET_RECEIVED` (R122). A whole packet arrives and is checked for framing, CRC, header, tag and duplication. -/
  | packetReceived (n : Fin 8) (p : RxPacket)
  /-- `SCHEDULED_PACKET_DUE` (R132). A Head packet's scheduled instant arrives and it starts when the port is free. -/
  | scheduledPacketDue (e : SchedEntry)
  /-- `TX_PACKET_LATE` (R132). A Head packet not begun one image after its instant is discarded and counted in LATE. -/
  | txPacketLate (n : Fin 8)
  /-- `UPSTREAM_WINDOW` (R133). A Tile's own-packet window opens after an image boundary. -/
  | upstreamWindow (fit : Nat)
  /-- `ENUM_PERIOD` (R134). A Head end port sends ENUM on becoming UP and every link.enum_period_ms. -/
  | enumPeriod (n : Fin 8)
  /-- `ENUM_RECEIVED` (R134). A Tile records HOPS from an ENUM and relays it with HOPS + 1. -/
  | enumReceived (n : Fin 8) (m : EnumMsg)
  /-- `JOIN_PERIOD` (R136). An unassigned Tile with a position sends JOIN every link.enum_period_ms. -/
  | joinPeriod
  /-- `JOIN_RECEIVED` (R371). The owner Head checks a JOIN and starts enrolment or refuses it. -/
  | joinReceived (m : JoinMsg)
  /-- `ASSIGN_RECEIVED` (R136). A Tile takes an ASSIGN matching its serial and position, or rejects it with CONFLICT. -/
  | assignReceived (m : AssignMsg)
  /-- `CONFLICT_QUIET_EXPIRY` (R450). Before release, three quiet enumeration periods clear CONFLICT. -/
  | conflictQuietExpiry
  /-- `STATUS_PERIOD` (R138). An assigned Tile sends STATUS in its window every link.status_period_images. -/
  | statusPeriod
  /-- `STATUS_RECEIVED` (R138). A Head receives a Tile's STATUS and updates its health record. -/
  | statusReceived (m : StatusMsg)
  /-- `STATUS_TIMEOUT` (R138). No STATUS from a Tile for three periods; the Tile counts as absent. -/
  | statusTimeout (id : BitVec 10)
  /-- `RECOVERY_PROBE_START` (R140). Signal without lock for link.recov_probe_ms starts a 100 ms probe at 1.25 Gbaud. -/
  | recoveryProbeStart (n : Fin 8)
  /-- `RECOVERY_PROBE_END` (R140). The 100 ms probe ends; the port stays in RECOVERY or returns to its plan rate. -/
  | recoveryProbeEnd (n : Fin 8)
  /-- `CTRL_RECEIVED` (R121). A CTRL packet's live-register writes and commit requests are applied. -/
  | ctrlReceived (writes : List RegWrite)
  /-- `ANNOUNCE_RECEIVED` (R23). An ANNOUNCE names the variant and first image that Tiles and the standby apply. -/
  | announceReceived (variant : Fin 64) (first : Word)
  /-- `MGMT_RELAYED` (R381). A MGMT packet relays service-port traffic to or from a Tile. -/
  | mgmtRelayed (src : BitVec 10) (dst : BitVec 10) (op : MgmtOp)
  /-- `SOURCE_FRAME_START` (R143). A source frame begins; ingest checks its format and takes a free store or drops it. -/
  | sourceFrameStart (s : Fin 4) (format : Fin 4) (depth : Fin 3) (interlaced : Bool) (sdps : Nat)
  /-- `STORE_COMPLETE` (R143). The last byte of a store is acknowledged and it becomes the newest complete store. -/
  | storeComplete (s : Fin 4)
  /-- `CAPTURE_STOP` (R146). Setting an ING_CTL.STOP bit stops capture at the end of the current source frame. -/
  | captureStop (who : Initiator) (mask : BitVec 4)
  /-- `CAPTURE_START` (R146). Clearing an ING_CTL.STOP bit resumes capture and may make the source retrain. -/
  | captureStart (who : Initiator) (mask : BitVec 4)
  /-- `GENLOCK_INSTANT` (R148). A genlock reference instant is timestamped and matched to an expected instant. -/
  | genlockInstant (src : GlkSource) (second : Bool)
  /-- `GENLOCK_INSTANT_MISSING` (R148). An expected genlock instant passes without a reference. -/
  | genlockInstantMissing
  /-- `SHUTTER_EDGE` (R152). A shutter input changes level and an exposure start and width are recorded. -/
  | shutterEdge (j : Fin 2) (level : Bool)
  /-- `SHUTTER_LOST` (R152). A shutter input has no exposure start for two frames. -/
  | shutterLost (j : Fin 2)
  /-- `READ_UNDERRUN` (R157). A plane share runs empty; the layer is transparent to the line end. -/
  | readUnderrun (e : Fin 64) (x : Nat)
  /-- `BUFFER_RETIRE` (R158). A replaced buffer's last fetch and rebuild finish and RETIRE advances. -/
  | bufferRetire (l : Fin 16)
  /-- `MEM_SELF_REFRESH_ENTRY` (R161). The lowest latency tolerance reaches sr_min_us with no request and the LPDDR enters self-refresh. -/
  | memSelfRefreshEntry (clients : List MemClient) (busy : Bool)
  /-- `MEM_SELF_REFRESH_EXIT` (R161). The lowest remaining tolerance falls to the threshold and self-refresh exit begins. -/
  | memSelfRefreshExit (clients : List MemClient)
  /-- `LAYER_HOLD_EXPIRY` (R165). A held video layer's hold_ms runs out and it turns transparent or to its hold colour. -/
  | layerHoldExpiry (v : Fin 8)
  /-- `COEF_WRITE` (R169). A coefficient write to CMP_COEFDATA loads an idle bank or is ignored on a busy one. -/
  | coefWrite (who : Initiator) (value : BitVec 12)
  /-- `COMP_STOP` (R174). Setting CMP_CTL.STOP stops composition after the image in progress, unless a Geode set is active. -/
  | compStop (who : Initiator)
  /-- `COMP_START` (R174). Clearing CMP_CTL.STOP restarts composition. -/
  | compStart (who : Initiator)
  /-- `FLOW_REQ` (R177). A write of CMP_CTL.FLOW_REQ starts or restarts a Flowstone rebuild. -/
  | flowReq (who : Initiator)
  /-- `FLOW_SETTLE_EXPIRY` (R177). No group commit has applied for comp.flow.settle_images and a rebuild starts. -/
  | flowSettleExpiry
  /-- `FLOW_REBUILD_DONE` (R177). A Flowstone rebuild completes; the group becomes cached at the next boundary. -/
  | flowRebuildDone
  /-- `GEODE_COMMAND` (R180). A Head keeper receives a signed Geode command and accepts or rejects it. -/
  | geodeCommand (m : GeodeMsg)
  /-- `GEODE_RELAY_RECEIVED` (R181). A Head receives a partner's relayed Geode command with its target. -/
  | geodeRelayReceived (m : GeodeMsg) (target : Word)
  /-- `OWN_BUFFER_COMPLETE` (R188). Composition finishes writing all rows of an own-panel buffer. -/
  | ownBufferComplete (f : Fin 4)
  /-- `SLICE_DECODED` (R212). A slice finishes decoding and, if valid, commits into its destination buffer. -/
  | sliceDecoded
  /-- `ENCODE_JOB_READY` (R217). A slice's last canvas line is composed and its block job is queued, or not created when full. -/
  | encodeJobReady (j : BlockJob)
  /-- `ENCODE_JOB_DONE` (R216). An engine finishes coding a block job within its budget. -/
  | encodeJobDone (e : Fin 8)
  /-- `ENCODE_JOB_SKIP` (R219). A queued job that cannot start before its packet's deadline is dropped uncoded. -/
  | encodeJobSkip (e : Fin 8)
  /-- `LINE_START` (R238). A lamp line starts: sinks off, column latch, gate timing and the window with its pieces. -/
  | lineStart (samples : List LampSample)
  /-- `SLOT_PRELOAD_START` (R245). A facet's preload begins; the lit buffer and current settings are taken for the slot. -/
  | slotPreloadStart (f : Fin 4)
  /-- `SLOT_END` (R243). The last line of a slot ends and every gate goes low. -/
  | slotEnd
  /-- `IREF_MEASUREMENT` (R252). The per-frame IREF measurement completes and blanks or relights the lamps. -/
  | irefMeasurement (na : Nat)
  /-- `LAMP_STOP` (R256). Writing LMP_CTL.STOP = 1 soft-blanks and stops the lamp engine. -/
  | lampStop (who : Initiator)
  /-- `LAMP_START` (R256). Writing LMP_CTL.STOP = 0 lets the next slot start. -/
  | lampStart (who : Initiator)
  /-- `HARD_BLANK_REQUEST` (R255). Setting LMP_CTL.HARD blanks sinks and gates within 100 ns. -/
  | hardBlankRequest (who : Initiator)
  /-- `HARD_BLANK_CLEAR` (R255). Clearing LMP_CTL.HARD lets the lamps relight from the next slot. -/
  | hardBlankClear (who : Initiator)
  /-- `LAMP_UNMEASURED_TIMEOUT` (R272). An OK lamp without a sample for corr.det.window_frames becomes UNMEASURED. -/
  | lampUnmeasuredTimeout (lamp : Fin 196608)
  /-- `FAULT_MAP_CLEAR` (R272). A write of CORR_CTL.FMAP_CLR sets every lamp to UNMEASURED. -/
  | faultMapClear (who : Initiator)
  /-- `PROBE_REQUEST` (R275). A write of CORR_CTL.PROBE, optionally with PROBE_ALL, makes a sweep pending. -/
  | probeRequest (who : Initiator) (all : Bool)
  /-- `PROBE_PERIOD_EXPIRY` (R275). corr.probe.period_frames pass with lamps UNMEASURED and a sweep becomes pending. -/
  | probePeriodExpiry
  /-- `PROBE_STEP` (R276). A probe step lights the targets of one row at the probe current and samples them. -/
  | probeStep (windowLeft : Nat) (preloadIn : Nat) (blanked : Bool) (samples : List LampSample)
  /-- `MATRIX_ADDRESS_WRITE` (R264). A write to CORR_MADDR sets the bank word address and invalidates that bank. -/
  | matrixAddressWrite (who : Initiator) (value : BitVec 19)
  /-- `MATRIX_WORD_WRITE` (R264). A write to CORR_MDATA stores a bank word and advances WORD. -/
  | matrixWordWrite (who : Initiator) (value : Word)
  /-- `BANK_SEAL` (R264). A write of CORR_CTL.SEAL computes the bank CRC against CORR_MCRC. -/
  | bankSeal (who : Initiator) (bank : Bool)
  /-- `BANK_SEAL_DONE` (R264). A seal completes; the bank becomes valid or SEAL_FAIL is set. -/
  | bankSealDone
  /-- `FACTORY_SET_LOAD` (R265). A write of CORR_CTL.LOAD copies a factory matrix set into a bank. -/
  | factorySetLoad (who : Initiator) (bank : Bool) (set1 : Bool)
  /-- `FACTORY_SET_LOAD_DONE` (R265). The copy and seal of a factory set complete. -/
  | factorySetLoadDone
  /-- `RAIL_TURN` (R283). A phase's turn begins: VSNS and ISNS are sampled and the next phase's duty computed. -/
  | railTurn (vsns : Fin 4096) (isns : List (Fin 1024)) (aux : Fin 1024) (tick : Nat)
  /-- `PHASE_CURRENT_LIMIT` (R287). A phase's ISNS reaches rail.phase.ilim_mv and its pulse ends early. -/
  | phaseCurrentLimit (n : Fin 4)
  /-- `AUXPWM_PERIOD_END` (R291). An AUXPWM period ends and its duty sets the target set-point. -/
  | auxpwmPeriodEnd (high : Nat) (period : Nat)
  /-- `AUX_LOST` (R293). No AUXPWM edge for 1 ms sets AUX_LOST and the target is held. -/
  | auxLost
  /-- `HEADROOM_VALUE` (R292). A line headroom value reaches the rail controller for segment and frame minima. -/
  | headroomValue (code : BitVec 8)
  /-- `HEADROOM_DARK_TIMEOUT` (R292). No headroom value for rail.hr.dark_ms moves the target to rail.hr.dark_mv. -/
  | headroomDarkTimeout
  /-- `FOLLOWING_ERROR_TRIP` (R296). The following-error timer reaches rail.fe.time_us and the controller enters state 3. -/
  | followingErrorTrip
  /-- `RAIL_FAULT_RETRY` (R297). rail.fault.retry_ms passes in state 3 and the controller retries soft start or latches. -/
  | railFaultRetry
  /-- `RAIL_RETRIES_RESET` (R297). 1 s without interruption in state 2 resets RETRIES. -/
  | railRetriesReset
  /-- `RAIL_CLEAR_FAULT` (R297). A write of RAIL_CTL.CLR_FAULT leaves a latched fault for soft start. -/
  | railClearFault (who : Initiator)
  /-- `RAIL_STOP` (R295). Setting RAIL_CTL.STOP drives the phases low and the panel goes dark. -/
  | railStop (who : Initiator)
  /-- `RAIL_START` (R294). Clearing RAIL_CTL.STOP enters soft start. -/
  | railStart (who : Initiator)
  /-- `RC_CLR` (R290). A write of RAIL_CTL.RC_CLR clears the repetitive tables. -/
  | rcClr (who : Initiator)
  /-- `TRACE_ARM` (R299). A write of RAIL_TCTL.ARM clears the trace buffer and starts recording. -/
  | traceArm (who : Initiator)
  /-- `TRACE_FORCE` (R299). A write of RAIL_TCTL.FORCE triggers the trace. -/
  | traceForce (who : Initiator)
  /-- `TRACE_DATA_READ` (R298). A read of RAIL_TDATA returns a sample and advances SAMPLE. -/
  | traceDataRead (who : Initiator)
  /-- `TIME_CAPTURE` (R302). A write of TIM_CTL.CAP copies all four time-base counters. -/
  | timeCapture (who : Initiator)
  /-- `TIME_BASE_WRAP` (R302). A time base's NS passes from 0xFFFF_FFFF to 0 and sets TIM_EVT.WRAP. -/
  | timeBaseWrap (i : Fin 4)
  /-- `DREQ_PERIOD` (R306). Every time.dreq_period_ms a device sends a DREQ on each UP port. -/
  | dreqPeriod
  /-- `DREQ_RECEIVED` (R306). A partner answers a DREQ with a DRESP. -/
  | dreqReceived (n : Fin 8) (seqId : Byte) (sub : Fin 256)
  /-- `DRESP_RECEIVED` (R306). A DRESP gives a mean path delay that enters the port's average. -/
  | drespReceived (n : Fin 8) (seqId : Byte) (tRx : BitVec 40) (tTx : BitVec 40) (sub : Fin 256)
  /-- `DRESP_TIMEOUT` (R306). A DREQ with no DRESP within 1 ms is dropped from the average. -/
  | drespTimeout (n : Fin 8)
  /-- `SYNC_RECEIVED` (R308). A SYNC arrives; the source choice, offset and time-base state are updated and it is relayed. -/
  | syncReceived (n : Fin 8) (m : SyncMsg) (sub : Fin 256)
  /-- `SYNC_SOURCE_TIMEOUT` (R307). No usable SYNC on a port for four image periods; the port drops out of the choice. -/
  | syncSourceTimeout (n : Fin 8)
  /-- `FRAME_BOUNDARY` (R314). TB0 reaches the announced frame boundary and a new frame begins. -/
  | frameBoundary (needPpb : Int)
  /-- `SETTLE_EXPIRY` (R316). TB0 has been LOCKED for time.settle_s and the device becomes settled. -/
  | settleExpiry
  /-- `PTP_MESSAGE_RECEIVED` (R317). An IEEE 1588 message on the service lane steers TB3. -/
  | ptpMessageReceived (m : PtpMsg)
  /-- `PTP_ANNOUNCE_TIMEOUT` (R317). Announce messages stop for three intervals and TB3 enters HOLDOVER. -/
  | ptpAnnounceTimeout
  /-- `HEART_PERIOD` (R322). Every 10 µs a Head of a pair sends a HEART on its shared ring ports. -/
  | heartPeriod
  /-- `HEART_RECEIVED` (R322). A Head or Tile receives a Head heartbeat and updates hearing, pairing and frame count. -/
  | heartReceived (m : HeartMsg)
  /-- `PEER_MISS_TIMEOUT` (R323). No HEART from the partner within red.hb.miss_us; the partner is lost. -/
  | peerMissTimeout (endB : Bool)
  /-- `VERDICT_PERIOD` (R324). Every 10 µs a Warden Tile chooses OWNER and sends a verdict. -/
  | verdictPeriod
  /-- `VERDICT_RECEIVED` (R326). A Head accepts or discards a verdict by pair and term. -/
  | verdictReceived (v : VerdictMsg)
  /-- `WARDEN_MISS_TIMEOUT` (R326). No verdict within red.hb.miss_us sets WARDEN_LOST. -/
  | wardenMissTimeout
  /-- `ILK_CLAIM_SETTLE` (R328). The settle time of a claim ends and the Head holds ILK or releases it. -/
  | ilkClaimSettle
  /-- `ILK_LEASE_EXPIRY` (R330). The ILK lease runs out, ILK_OUT is released and the Head enters the failed duty. -/
  | ilkLeaseExpiry
  /-- `REFCLK_STOP_DETECTED` (R330). The KEEP-clock detector sees REFCLK stopped and releases ILK_OUT. -/
  | refclkStopDetected
  /-- `ILK_ORPHAN_EXPIRY` (R332). Without Warden or partner, ILK_IN high for red.ilk.orphan_us lets the Head claim. -/
  | ilkOrphanExpiry
  /-- `FW_ALIVE` (R334). Device firmware writes RED_CTL.ALIVE. -/
  | fwAlive (who : Initiator)
  /-- `FW_ALIVE_TIMEOUT` (R334). No ALIVE write for red.fw_alive_ms puts the Head in the failed duty. -/
  | fwAliveTimeout
  /-- `FAIL_REQUEST` (R334). Device firmware writes RED_CTL.FAIL and the Head enters the failed duty. -/
  | failRequest (who : Initiator)
  /-- `YIELD_REQUEST` (R339). A write of RED_CTL.YIELD on the owner sets YIELD in its HEARTs. -/
  | yieldRequest (who : Initiator)
  /-- `YIELD_EXPIRY` (R339). The 100 ms YIELD period ends without handover and YIELD_REF is set. -/
  | yieldExpiry
  /-- `COPY_PERIOD` (R335). The owner sends a state copy every red.copy.period_ms or after a roster or key change. -/
  | copyPeriod
  /-- `COPY_PART_RECEIVED` (R336). The standby stores a copy part in its shadow store. -/
  | copyPartReceived (p : CopyPart)
  /-- `COPY_TIMEOUT` (R336). An incomplete copy passes red.copy.timeout_ms and is discarded. -/
  | copyTimeout
  /-- `EPOCH_DIFF_TIMEOUT` (R337). The two Heads' HEART EPOCH fields differ for 2 s and EPOCH_DIFF is set. -/
  | epochDiffTimeout
  /-- `HOLD_EXPIRY` (R340). A facet's hold time runs out and it goes dark or shows its stored pattern. -/
  | holdExpiry (f : Fin 4)
  /-- `MAILBOX_DATA_WRITE` (R353). A sender writes MBX_DATA and the word is accepted or refused. -/
  | mailboxDataWrite (who : Initiator) (n : Fin 16) (w : Word)
  /-- `MAILBOX_TAKE` (R353). The receiver writes 1 to FULL, emptying the channel and setting TAKEN. -/
  | mailboxTake (who : Initiator) (n : Fin 16)
  /-- `LOCK_READ` (R356). A read of MBX_LOCK acquires a free lock for a sender. -/
  | lockRead (who : Initiator) (n : Fin 16)
  /-- `LOCK_RELEASE` (R356). The holder writes RELEASE and the lock is freed. -/
  | lockRelease (who : Initiator) (n : Fin 16)
  /-- `LOCK_FORCE` (R356). The keeper writes FORCE and the lock is released whoever holds it. -/
  | lockForce (who : Initiator) (n : Fin 16)
  /-- `LOCK_TIMEOUT` (R356). A lock held for mbx.lock_timeout_us is released and LOCKTO is set. -/
  | lockTimeout (n : Fin 16)
  /-- `DOORBELL_RING` (R359). A write to MBX_DBSET sets the doorbell bits whose ringer set holds the writer. -/
  | doorbellRing (who : Initiator) (bits : Word)
  /-- `DOORBELL_CLEAR` (R359). A bit's target writes 1 to its MBX_DBPEND bit to clear it. -/
  | doorbellClear (who : Initiator) (bits : Word)
  /-- `ENTROPY_RETRY` (R367). After an entropy health failure the keeper retries every 100 ms. -/
  | entropyRetry (healthy : Bool)
  /-- `KEYX_RECEIVED` (R373). A KEYX step is received and enrolment or pair key exchange advances. -/
  | keyxReceived (m : KeyxMsg)
  /-- `KEYX_STEP_TIMEOUT` (R373). An enrolment step unanswered for 10 ms is dropped. -/
  | keyxStepTimeout (serial : Serial)
  /-- `REKEY_TIMER` (R377). sec.rekey_h passes since the epoch began and the owner starts a rekey. -/
  | rekeyTimer
  /-- `REKEY_REQUEST` (R377). The keeper writes SEC_CTL.REKEY and the owner starts a rekey. -/
  | rekeyRequest (who : Initiator)
  /-- `KEY_LOST_DETECT` (R379). A Tile with no packet passing its tag for one frame erases its keys and re-enrols. -/
  | keyLostDetect
  /-- `SESSION_SETUP` (R380). A session setup message on the service port opens a management session. -/
  | sessionSetup (m : SessionMsg)
  /-- `MANAGEMENT_FRAME` (R381). A management frame is authenticated and its accesses performed, or dropped. -/
  | managementFrame (frame : Option SessionFrame) (op : MgmtOp)
  /-- `KEY_ZEROISE` (R387). A write of SEC_CTL.ZERO erases every key except the identity key. -/
  | keyZeroise (who : Initiator)
  /-- `LIFECYCLE_COMMAND` (R383). A signed lifecycle command advances the lifecycle fuse state. -/
  | lifecycleCommand (bit : Fin 3) (c : SignedCmd)
  /-- `DEBUG_UNLOCK` (R384). A signed debug authorisation over the keeper's challenge unlocks debug at the next start. -/
  | debugUnlock (c : SignedCmd)
  /-- `UPDATE_MANIFEST_RECEIVED` (R393). A package manifest is validated and spare-bank erase starts, or it is refused. -/
  | updateManifestReceived (port : Option (Fin 8)) (m : Manifest)
  /-- `SPARE_ERASE_DONE` (R393). The spare-bank erase after a manifest completes. -/
  | spareEraseDone
  /-- `UPDATE_DATA_RECEIVED` (R396). An update DATA block is stored where it applies and passed on. -/
  | updateDataReceived (port : Option (Fin 8)) (m : UpdMsg)
  /-- `BLOCK_PROGRAMMED` (R396). A block is programmed and read back, and marked held or re-requested. -/
  | blockProgrammed (block : Nat) (equal : Bool)
  /-- `UPDATE_PREPARE_EXPIRY` (R395). upd.prepare_ms after block 0 the Head starts sending block 1 onward. -/
  | updatePrepareExpiry
  /-- `UPDATE_NEED_TIMER` (R397). A Tile lacking blocks sends a NEED every upd.need_ms. -/
  | updateNeedTimer
  /-- `UPDATE_NEED_RECEIVED` (R397). A partner serves a NEED from its stored copy or passes it upstream. -/
  | updateNeedReceived (n : Fin 8) (m : UpdMsg)
  /-- `SPARE_VERIFY` (R399). A device holding every block verifies its spare bank. -/
  | spareVerify
  /-- `SPARE_VERIFY_DONE` (R399). Verification completes with the spare bank ready or failed. -/
  | spareVerifyDone (c : BankCheck)
  /-- `UPDATE_ACTIVATE` (R400). An ACTIVATE with target image S writes the directory or copies regions and is passed on. -/
  | updateActivate (port : Option (Fin 8)) (pkg : BitVec 64) (target : Word)
  /-- `UPDATE_ABORT` (R400). An ABORT frame or UPD_CTL.ABORT removes the package from the spare bank. -/
  | updateAbort (port : Option (Fin 8)) (pkg : BitVec 64)
  /-- `UPDATE_CONFIRM` (R404). A write of UPD_CTL.CONFIRM on trial confirms the bank and advances rollback counters. -/
  | updateConfirm (who : Initiator)
  /-- `UPDATE_FALLBACK` (R403). A write of UPD_CTL.FALLBACK falls back with cause 5. -/
  | updateFallback (who : Initiator)
  /-- `CONFIRM_TIMEOUT` (R403). No CONFIRM within upd.confirm_s after release falls back with cause 4. -/
  | confirmTimeout
  /-- `SUMP_ROW_WRITTEN` (R407). The save engine writes one Sump row per KEEP cycle; the last row ends the save. -/
  | sumpRowWritten (ckeepMv : Nat)
  /-- `RECORD_WRITE` (R414). A write of SMP_CTL.WRITE writes a record from the staging into the Sump. -/
  | recordWrite (who : Initiator) (r : Fin 8)
  /-- `FAULT_POST` (R417). The keeper posts a fault slot through SMP_FPOST. -/
  | faultPost (who : Initiator) (slots : Word)
  /-- `FAULT_DRAIN` (R417). With no other write running, the engine drains pending fault slots into the ring. -/
  | faultDrain
  /-- `SENSOR_CONVERSION_START` (R421). A sensor starts a conversion every therm.s[i].period_ms. -/
  | sensorConversionStart (i : Fin 16)
  /-- `SENSOR_MEASURE_REQUEST` (R421). A write of THM_CTL.MEAS starts a conversion within 1 µs. -/
  | sensorMeasureRequest (who : Initiator) (mask : BitVec 16)
  /-- `SENSOR_CONVERSION_DONE` (R421). A conversion completes; effective temperature, demand and trip are updated. -/
  | sensorConversionDone (i : Fin 16) (t8 : Int)
  /-- `SENSOR_TIMEOUT` (R422). A conversion not complete within 100 µs marks the sensor broken. -/
  | sensorTimeout (i : Fin 16)
  /-- `DEMAND_RECOVER_STEP` (R424). The thermal demand rises towards raw at therm.recover_per_s. -/
  | demandRecoverStep
  /-- `GRACE_EXPIRY` (R426). The thermal grace timer ends and the device enforces TLIMIT if BLIMIT is still above demand. -/
  | graceExpiry
  /-- `TRIP_HOLD_EXPIRY` (R427). Sensors stay below trip minus 10 °C for therm.trip_hold_ms and the trip clears. -/
  | tripHoldExpiry
  /-- `CDR_FREQUENCY_LOCK_LOST` (R97). Clock recovery of a Locked lane loses frequency lock and the lane declares loss of lock. -/
  | cdrFrequencyLockLost (m : Fin 49) (signal : Bool)
  /-- `DP_ALIGNMENT_LOST` (R104). A trained DisplayPort receiver loses inter-lane alignment, clears its DPCD lane status, drives an HPD IRQ pulse and sets DP_LOST. -/
  | dpAlignmentLost (n : Fin 4)
  /-- `CKEEP_CHARGED` (R34). CKEEP rises to 4.5 V or above, so that condition of power-on reset ends and the 2 ms qualification can begin. -/
  | ckeepCharged (mv : Nat)
  /-- `ILK_IN_CHANGE` (R332). The ILK_IN net changes level, starting or stopping the orphan time and ending a claim's wait for ILK_IN high. -/
  | ilkInChange (outBall : Bool) (low : Bool)
  /-- `ACTIVATION_WRITE_DONE` (R400). The region copy or directory write of an accepted ACTIVATE completes, and the device reset follows at once if image S has already begun. -/
  | activationWriteDone
  deriving DecidableEq, Repr

end Sys2Proof
end

