-- ==== Sys2Proof/WellFormed.lean ====
section
/-!
DEFINITION. The commands that the environment can give: operands that lie in the ranges that the spec gives what they
stand for. The machine runs the others too; a test or a statement may leave them out.
-/

namespace Sys2Proof

open Machine

/-- A message names a chain position (R16, R134). -/
def EnumMsg.wf (m : EnumMsg) : Bool := decide (1 ≤ m.hops) && decide (m.hops ≤ 25) && decide (m.tiles.toNat ≤ 24)

/-- A frame or packet of updates names one of the four kinds (R394). -/
def UpdMsg.wf (m : UpdMsg) : Bool := decide (m.kind ≤ 3)

/-- A part of a copy: one of 1 to 48 (R335). -/
def CopyPart.wf (p : CopyPart) : Bool := decide (1 ≤ p.parts) && decide (p.parts ≤ 48) && decide (p.part < p.parts)

/-- A DisplayPort request names one, two or four lanes (R101). -/
def DpAux.wf : DpAux → Bool
  | .begin _ lanes => lanes == 1 || lanes == 2 || lanes == 4
  | .clockRecovery tps _ => decide (1 ≤ tps) && decide (tps ≤ 4)
  | .equalisation tps _ maxSwing maxPre => decide (1 ≤ tps) && decide (tps ≤ 4) && decide (maxSwing ≤ 3) && decide (maxPre ≤ 3)
  | _ => true

/-- An entry of a chain schedule: a port, a facet, a slice, a packet type, a destination (R118, R132). -/
def SchedEntry.wf (e : SchedEntry) : Bool :=
  decide (e.port < 8) && decide (e.variant < 64) && decide (e.facet < 4) && decide (e.slice < 64) && decide (e.typ < 16) &&
    decide (e.dst < 1024)

/-- Markers come from each lane of a port at most once (R111). -/
def markersWf (ms : List LaneMarker) : Bool := decide (ms.map (fun m => m.lane)).Nodup

/-- A packet is no longer than LEN, header, tag and CRC allow (R117, R122). -/
def RxPacket.wf (p : RxPacket) : Bool := decide (p.wire.length ≤ 16 + 12288 + 16 + 4)

/-- A burst has from 1 byte to a quarter of the largest line buffer, and a graphic layer has one plane (R156). -/
def fetchedWf (l : List Burst) : Bool :=
  l.all (fun b => decide (1 ≤ b.len) && decide (b.len ≤ 32768) && (decide (b.engine.val % 16 < 8) || b.plane == 0))

/-- A converter gives at most four phase currents and a tick of the frame (R281). -/
def railWf (isns : List (Fin 1024)) : Bool := decide (isns.length ≤ 4)

/-- A PWM period and the high part of it (R293). -/
def auxWf (high period : Nat) : Bool := decide (high ≤ period) && decide (0 < period)

/-- A Geode command names a set from 0 to 30, or 255 (R180). -/
def GeodeMsg.wf (m : GeodeMsg) : Bool := decide (m.set ≤ 30) || m.set == 255

/-- The operands of a command lie in their ranges. -/
def WellFormed : Instr → Bool
  | .imageBoundary _ fetched => fetchedWf fetched
  | .dpAuxTransaction _ r => DpAux.wf r
  | .markerReceived _ ms => markersWf ms
  | .packetReceived _ p => RxPacket.wf p
  | .scheduledPacketDue e => SchedEntry.wf e
  | .enumReceived _ m => EnumMsg.wf m
  | .railTurn _ isns _ _ => railWf isns
  | .auxpwmPeriodEnd high period => auxWf high period
  | .geodeCommand m => GeodeMsg.wf m
  | .geodeRelayReceived m _ => GeodeMsg.wf m
  | .copyPartReceived p => CopyPart.wf p
  | .updateDataReceived _ m => UpdMsg.wf m
  | .updateNeedReceived _ m => UpdMsg.wf m
  | _ => true

end Sys2Proof
end

