-- ==== Sys2Proof/Machine/Assoc.lean ====
section
/-!
DEFINITION. Finite tables: a list of keys and values, read with a default. `tabPut` replaces; `mapPut` keeps the one
canonical form that memories and register files have: keys rising, and no entry that equals what an unlisted key
reads as.
-/

namespace Sys2Proof.Machine

/-- The value a table holds for a key, or the default. -/
def tabGet {κ α : Type} [DecidableEq κ] (d : α) : List (κ × α) → κ → α
  | [], _ => d
  | (k, v) :: rest, j => if k = j then v else tabGet d rest j

/-- The table with a key's entries removed. -/
def tabDrop {κ α : Type} [DecidableEq κ] : List (κ × α) → κ → List (κ × α)
  | [], _ => []
  | (k, v) :: rest, j => if k = j then tabDrop rest j else (k, v) :: tabDrop rest j

/-- The table with a key's value replaced. -/
def tabPut {κ α : Type} [DecidableEq κ] (l : List (κ × α)) (k : κ) (v : α) : List (κ × α) :=
  (k, v) :: tabDrop l k

/-- The table with a key's value changed by a function. -/
def tabUpd {κ α : Type} [DecidableEq κ] (d : α) (l : List (κ × α)) (k : κ) (f : α → α) : List (κ × α) :=
  tabPut l k (f (tabGet d l k))

/-- An entry placed before the first higher key, where it differs from what an unlisted key reads as. -/
def mapInsert {α : Type} [DecidableEq α] (d : Nat → α) (k : Nat) (v : α) : List (Nat × α) → List (Nat × α)
  | [] => if v = d k then [] else [(k, v)]
  | (j, w) :: rest =>
    if k < j then (if v = d k then (j, w) :: rest else (k, v) :: (j, w) :: rest)
    else (j, w) :: mapInsert d k v rest

/-- The canonical map with the value at a key replaced; `d` is what an unlisted key reads as. -/
def mapPut {α : Type} [DecidableEq α] (d : Nat → α) (l : List (Nat × α)) (k : Nat) (v : α) : List (Nat × α) :=
  mapInsert d k v (tabDrop l k)

/-- The canonical form: keys rising from `lo`, and no entry equal to what an unlisted key reads as. -/
def mapWfFrom {α : Type} [DecidableEq α] (d : Nat → α) : Nat → List (Nat × α) → Bool
  | _, [] => true
  | lo, (k, v) :: rest => decide (lo ≤ k) && decide (v ≠ d k) && mapWfFrom d (k + 1) rest

/-- The canonical form of a whole map. -/
def mapWf {α : Type} [DecidableEq α] (d : Nat → α) (l : List (Nat × α)) : Bool := mapWfFrom d 0 l

/-- Every key of a table that satisfies a test removed. -/
def tabFilter {κ α : Type} (p : κ → Bool) : List (κ × α) → List (κ × α)
  | [] => []
  | (k, v) :: rest => if p k then tabFilter p rest else (k, v) :: tabFilter p rest

end Sys2Proof.Machine
end

