-- ==== Sys2Proof/Machine/Registers.lean ====
section
/-!
DEFINITION. The live registers: one `RegSpec` per register (or indexed run of registers) with the mask of each
access code, the idle-only mask and the reset value, and one `Fld` per field, both taken from the register tables
of the chapters (R1 to R9, R348). A register's address is its block base `0x4000_0000` + `0x1_0000` * index plus its
offset (R348).
-/

namespace Sys2Proof.Machine

/-- A field of a live register: the register's address, the field's lowest bit and its width. -/
structure Fld where
  addr : Nat
  lo : Nat
  width : Nat
  deriving DecidableEq, Repr

/-- One register, or `count` registers `stride` bytes apart. The masks say which bits carry which access code of
the table "Access codes and register conventions"; `idle` is the part of `rw` marked idle only (R75); a bit in no
mask is RO or reserved. `reset` is the Reset column read as one word (R8). -/
structure RegSpec where
  name : String
  addr : Nat
  stride : Nat
  count : Nat
  rw : Nat := 0
  idle : Nat := 0
  w1c : Nat := 0
  wo : Nat := 0
  rws : Nat := 0
  rwl : Nat := 0
  reset : Nat := 0
  deriving DecidableEq, Repr

/-- The registers of block 7 (`GOV_`). -/
def regTableGov : List RegSpec :=
  [ { name := "GOV_STAT", addr := 0x40070000, stride := 0, count := 1 },
    { name := "GOV_EVT", addr := 0x40070004, stride := 0, count := 1, w1c := 0xf },
    { name := "GOV_HOLD", addr := 0x40070008, stride := 0, count := 1, rws := 0xffff },
    { name := "GOV_OWN", addr := 0x4007000c, stride := 0, count := 1 } ]

/-- The registers of block 1 (`SUP_`). -/
def regTableSup : List RegSpec :=
  [ { name := "SUP_STAT", addr := 0x40010000, stride := 0, count := 1, reset := 0x1bf },
    { name := "SUP_EVT", addr := 0x40010004, stride := 0, count := 1, w1c := 0x1ff } ]

/-- The registers of block 2 (`CLK_`). -/
def regTableClk : List RegSpec :=
  [ { name := "CLK_STAT", addr := 0x40020000, stride := 0, count := 1 },
    { name := "CLK_EVT", addr := 0x40020004, stride := 0, count := 1, w1c := 0xff1e } ]

/-- The registers of block 3 (`RST_`). -/
def regTableRst : List RegSpec :=
  [ { name := "RST_CAUSE", addr := 0x40030000, stride := 0, count := 1, w1c := 0xf, reset := 0x1 },
    { name := "RST_CTL", addr := 0x40030004, stride := 0, count := 1, wo := 0xffff0007 },
    { name := "RST_WDT", addr := 0x40030008, stride := 0, count := 1, wo := 0xffff } ]

/-- The registers of block 4 (`CFG_`). -/
def regTableCfg : List RegSpec :=
  [ { name := "CFG_COMMIT", addr := 0x40040000, stride := 0, count := 1, wo := 0xf },
    { name := "CFG_TARGET", addr := 0x40040004, stride := 0, count := 1, rw := 0xffffffff },
    { name := "CFG_STAT", addr := 0x40040008, stride := 0, count := 1 },
    { name := "CFG_EPOCH", addr := 0x4004000c, stride := 0, count := 1 },
    { name := "CFG_EVT", addr := 0x40040010, stride := 0, count := 1, w1c := 0x7 } ]

/-- The registers of block 0 (`BOOT_`). -/
def regTableBoot : List RegSpec :=
  [ { name := "BOOT_STAT", addr := 0x40000000, stride := 0, count := 1 },
    { name := "BOOT_FAULT", addr := 0x40000004, stride := 0, count := 1 },
    { name := "BOOT_PLAN", addr := 0x40000008, stride := 0, count := 1 } ]

/-- The registers of block 8 (`LAN_`). -/
def regTableLan : List RegSpec :=
  [ { name := "LAN_CSTAT", addr := 0x40080000, stride := 4, count := 8 },
    { name := "LAN_DSTAT", addr := 0x40080020, stride := 4, count := 4 },
    { name := "LAN_SSTAT", addr := 0x40080030, stride := 0, count := 1 },
    { name := "LAN_CTL", addr := 0x40080040, stride := 0, count := 1, rw := 0x1fff, reset := 0x1fff },
    { name := "LAN_DPLINK", addr := 0x40080050, stride := 4, count := 4 },
    { name := "LAN_EVT", addr := 0x40080060, stride := 0, count := 1, w1c := 0x3fffff },
    { name := "LAN_MASK", addr := 0x40080064, stride := 0, count := 1, rw := 0x3fffff },
    { name := "LAN_ERR", addr := 0x40080100, stride := 4, count := 49, rw := 0xffffff },
    { name := "LAN_CFG", addr := 0x40080200, stride := 4, count := 49, rw := 0xf1f, idle := 0xf1f } ]

/-- The registers of block 9 (`LNK_`). -/
def regTableLnk : List RegSpec :=
  [ { name := "LNK_PCFG", addr := 0x40090000, stride := 4, count := 8, rw := 0x7f, idle := 0x3f },
    { name := "LNK_PSTAT", addr := 0x40090040, stride := 4, count := 8 },
    { name := "LNK_ID", addr := 0x40090080, stride := 0, count := 1 },
    { name := "LNK_RXERR", addr := 0x40090100, stride := 8, count := 8, rw := 0xffffffff },
    { name := "LNK_RXAUTH", addr := 0x40090104, stride := 8, count := 8, rw := 0xffffffff },
    { name := "LNK_DEDUPSTAT", addr := 0x40090180, stride := 0, count := 1, rw := 0xffffffff },
    { name := "LNK_KEEPSRC", addr := 0x40090184, stride := 0, count := 1, rw := 0xffffffff },
    { name := "LNK_TXSTAT", addr := 0x40090188, stride := 0, count := 1, rw := 0xffffffff },
    { name := "LNK_EVT", addr := 0x400901c0, stride := 0, count := 1, w1c := 0xfffffff },
    { name := "LNK_MASK", addr := 0x400901c4, stride := 0, count := 1, rw := 0xfffffff } ]

/-- The registers of block 10 (`ING_`). -/
def regTableIng : List RegSpec :=
  [ { name := "ING_CTL", addr := 0x400a0000, stride := 0, count := 1, rw := 0xf, reset := 0xf },
    { name := "ING_SCFG", addr := 0x400a0010, stride := 4, count := 4, rw := 0x1ff, idle := 0x1ff },
    { name := "ING_SSTAT", addr := 0x400a0020, stride := 4, count := 4, rw := 0xffff0000 },
    { name := "ING_WINPOS", addr := 0x400a0030, stride := 8, count := 4, rws := 0xffffffff },
    { name := "ING_WINSIZE", addr := 0x400a0034, stride := 8, count := 4, rws := 0xffffffff } ]

/-- The registers of block 11 (`SCN_`). -/
def regTableScn : List RegSpec :=
  [ { name := "SCN_STAT", addr := 0x400b0000, stride := 0, count := 1 },
    { name := "SCN_SHUT", addr := 0x400b0010, stride := 8, count := 2 },
    { name := "SCN_SHUTW", addr := 0x400b0014, stride := 8, count := 2 },
    { name := "SCN_FOFS", addr := 0x400b0020, stride := 4, count := 4 },
    { name := "SCN_LBASE", addr := 0x400b0100, stride := 4, count := 16, rws := 0x3fffff },
    { name := "SCN_LSTAT", addr := 0x400b0140, stride := 4, count := 16 },
    { name := "SCN_SIG", addr := 0x400b0180, stride := 4, count := 16 },
    { name := "SCN_UNDERRUN", addr := 0x400b01c0, stride := 0, count := 1, rw := 0xffff },
    { name := "SCN_MEMSR", addr := 0x400b01c4, stride := 0, count := 1 },
    { name := "SCN_EVT", addr := 0x400b01e0, stride := 0, count := 1, w1c := 0xffff },
    { name := "SCN_MASK", addr := 0x400b01e4, stride := 0, count := 1, rw := 0xffff } ]

/-- The registers of block 12 (`CMP_`). -/
def regTableCmp : List RegSpec :=
  [ { name := "CMP_CTL", addr := 0x400c0000, stride := 0, count := 1, rw := 0x1, wo := 0x2, reset := 0x1 },
    { name := "CMP_STAT", addr := 0x400c0004, stride := 0, count := 1 },
    { name := "CMP_REFUSE", addr := 0x400c0008, stride := 0, count := 1 },
    { name := "CMP_OUT", addr := 0x400c000c, stride := 0, count := 1, rw := 0xff, idle := 0xff },
    { name := "CMP_LEN", addr := 0x400c0010, stride := 4, count := 4, rws := 0xffff },
    { name := "CMP_FLOW", addr := 0x400c0020, stride := 0, count := 1 },
    { name := "CMP_COEFADDR", addr := 0x400c0030, stride := 0, count := 1, rw := 0x7fff },
    { name := "CMP_COEFDATA", addr := 0x400c0034, stride := 0, count := 1, wo := 0xfff },
    { name := "CMP_COEFCFG", addr := 0x400c0038, stride := 0, count := 1, rw := 0xffffffff },
    { name := "CMP_EVT", addr := 0x400c0040, stride := 0, count := 1, w1c := 0x3f },
    { name := "CMP_MASK", addr := 0x400c0044, stride := 0, count := 1, rw := 0x3f },
    { name := "CMP_LPOS", addr := 0x400c0100, stride := 64, count := 16, rws := 0xffffffff },
    { name := "CMP_LSIZE", addr := 0x400c0104, stride := 64, count := 16, rws := 0x3fff3fff },
    { name := "CMP_LSTEP", addr := 0x400c0108, stride := 64, count := 16, rws := 0xffffffff },
    { name := "CMP_LCTL", addr := 0x400c010c, stride := 64, count := 16, rws := 0x1ff },
    { name := "CMP_LCM_0", addr := 0x400c0110, stride := 64, count := 16, rws := 0xffffffff },
    { name := "CMP_LCM_1", addr := 0x400c0114, stride := 64, count := 16, rws := 0xffffffff },
    { name := "CMP_LCM_2", addr := 0x400c0118, stride := 64, count := 16, rws := 0xffffffff },
    { name := "CMP_LCM_3", addr := 0x400c011c, stride := 64, count := 16, rws := 0xffffffff },
    { name := "CMP_LCM_4", addr := 0x400c0120, stride := 64, count := 16, rws := 0xffffffff },
    { name := "CMP_LCM_5", addr := 0x400c0124, stride := 64, count := 16, rws := 0xffffffff } ]

/-- The registers of block 13 (`GEO_`). -/
def regTableGeo : List RegSpec :=
  [ { name := "GEO_STAT", addr := 0x400d0000, stride := 0, count := 1, reset := 0x1f },
    { name := "GEO_CNT", addr := 0x400d0004, stride := 0, count := 1 },
    { name := "GEO_EVT", addr := 0x400d0008, stride := 0, count := 1, w1c := 0x3f },
    { name := "GEO_MASK", addr := 0x400d000c, stride := 0, count := 1, rw := 0x3f } ]

/-- The registers of block 15 (`DEC_`). -/
def regTableDec : List RegSpec :=
  [ { name := "DEC_STAT", addr := 0x400f0000, stride := 0, count := 1, reset := 0xffff0 },
    { name := "DEC_BUF", addr := 0x400f0010, stride := 4, count := 12 },
    { name := "DEC_CNT0", addr := 0x400f0040, stride := 0, count := 1, rw := 0xffffffff },
    { name := "DEC_CNT1", addr := 0x400f0044, stride := 0, count := 1, rw := 0xffffffff },
    { name := "DEC_CNT2", addr := 0x400f0048, stride := 0, count := 1, rw := 0xffffffff },
    { name := "DEC_ERRLOG", addr := 0x400f004c, stride := 0, count := 1, rw := 0xf },
    { name := "DEC_EVT", addr := 0x400f0060, stride := 0, count := 1, w1c := 0x1ff },
    { name := "DEC_MASK", addr := 0x400f0064, stride := 0, count := 1, rw := 0x1ff } ]

/-- The registers of block 14 (`ENC_`). -/
def regTableEnc : List RegSpec :=
  [ { name := "ENC_STAT", addr := 0x400e0000, stride := 0, count := 1 },
    { name := "ENC_DRIP", addr := 0x400e0004, stride := 0, count := 1, rws := 0x7f7f7f7f },
    { name := "ENC_PHASE", addr := 0x400e0008, stride := 0, count := 1 },
    { name := "ENC_CNT0", addr := 0x400e0010, stride := 0, count := 1, rw := 0xffffffff },
    { name := "ENC_CNT1", addr := 0x400e0014, stride := 0, count := 1, rw := 0xffffffff },
    { name := "ENC_ENG", addr := 0x400e0020, stride := 4, count := 8 },
    { name := "ENC_SIG", addr := 0x400e0040, stride := 4, count := 4 },
    { name := "ENC_EVT", addr := 0x400e0060, stride := 0, count := 1, w1c := 0x7f },
    { name := "ENC_MASK", addr := 0x400e0064, stride := 0, count := 1, rw := 0x7f } ]

/-- The registers of block 16 (`LMP_`). -/
def regTableLmp : List RegSpec :=
  [ { name := "LMP_CTL", addr := 0x40100000, stride := 0, count := 1, rw := 0x3, reset := 0x1 },
    { name := "LMP_STAT", addr := 0x40100004, stride := 0, count := 1 },
    { name := "LMP_LINECFG", addr := 0x40100008, stride := 0, count := 1, rw := 0xfffffff, idle := 0xfffffff },
    { name := "LMP_PLANECFG", addr := 0x4010000c, stride := 0, count := 1, rw := 0x7ff, idle := 0x7ff },
    { name := "LMP_GREY", addr := 0x40100010, stride := 0, count := 1, rw := 0xffffff, idle := 0xffffff },
    { name := "LMP_PORD0", addr := 0x40100018, stride := 0, count := 1, rw := 0xffffffff, idle := 0xffffffff },
    { name := "LMP_PORD1", addr := 0x4010001c, stride := 0, count := 1, rw := 0xffffffff, idle := 0xffffffff },
    { name := "LMP_SPLACE", addr := 0x40100020, stride := 4, count := 4, rw := 0x3f3f3f3f, idle := 0x3f3f3f3f },
    { name := "LMP_SLOT", addr := 0x40100040, stride := 4, count := 4, rw := 0xffffff, idle := 0xffffff },
    { name := "LMP_CNT", addr := 0x40100050, stride := 0, count := 1, rw := 0xffffffff },
    { name := "LMP_CUR", addr := 0x40100060, stride := 0, count := 1, rws := 0x7ffff, reset := 0xff000000 },
    { name := "LMP_CGRP", addr := 0x40100070, stride := 4, count := 4, rws := 0xffffff },
    { name := "LMP_IREF", addr := 0x40100080, stride := 0, count := 1 },
    { name := "LMP_EVT", addr := 0x401000a0, stride := 0, count := 1, w1c := 0x3f },
    { name := "LMP_MASK", addr := 0x401000a4, stride := 0, count := 1, rw := 0x3f },
    { name := "LMP_CHADJ", addr := 0x40101000, stride := 4, count := 384, rws := 0xffffffff } ]

/-- The registers of block 17 (`CORR_`). -/
def regTableCorr : List RegSpec :=
  [ { name := "CORR_CTL", addr := 0x40110000, stride := 0, count := 1, wo := 0x7f },
    { name := "CORR_STAT", addr := 0x40110004, stride := 0, count := 1 },
    { name := "CORR_BANK", addr := 0x40110008, stride := 0, count := 1, rws := 0x1 },
    { name := "CORR_MADDR", addr := 0x4011000c, stride := 0, count := 1, rw := 0x7ffff },
    { name := "CORR_MDATA", addr := 0x40110010, stride := 0, count := 1, wo := 0xffffffff },
    { name := "CORR_MCRC", addr := 0x40110014, stride := 0, count := 1, rw := 0xffffffff },
    { name := "CORR_HR", addr := 0x40110020, stride := 4, count := 4, rw := 0xffff0000, reset := 0xff },
    { name := "CORR_FOPEN", addr := 0x40110030, stride := 0, count := 1 },
    { name := "CORR_FSHORT", addr := 0x40110034, stride := 0, count := 1 },
    { name := "CORR_FUNMEAS", addr := 0x40110038, stride := 0, count := 1, reset := 0x30000 },
    { name := "CORR_CNT", addr := 0x4011003c, stride := 0, count := 1, rw := 0xffffffff },
    { name := "CORR_PROBE", addr := 0x40110040, stride := 0, count := 1 },
    { name := "CORR_DSIG", addr := 0x40110050, stride := 4, count := 4 },
    { name := "CORR_LSIG", addr := 0x40110060, stride := 4, count := 4 },
    { name := "CORR_FRZ", addr := 0x40110070, stride := 0, count := 1, rw := 0xffffffff },
    { name := "CORR_LSTALE", addr := 0x40110074, stride := 0, count := 1, w1c := 0xffff },
    { name := "CORR_EVT", addr := 0x40110080, stride := 0, count := 1, w1c := 0xfff },
    { name := "CORR_MASK", addr := 0x40110084, stride := 0, count := 1, rw := 0xfff },
    { name := "CORR_TRIM", addr := 0x40111000, stride := 4, count := 768 },
    { name := "CORR_FMAP", addr := 0x40120000, stride := 4, count := 12288, reset := 0x55555555 } ]

/-- The registers of block 19 (`RAIL_`). -/
def regTableRail : List RegSpec :=
  [ { name := "RAIL_CTL", addr := 0x40130000, stride := 0, count := 1, rw := 0x1, wo := 0x6, reset := 0x1 },
    { name := "RAIL_STAT", addr := 0x40130004, stride := 0, count := 1 },
    { name := "RAIL_PWM", addr := 0x40130008, stride := 0, count := 1, rw := 0x7fff, idle := 0x7fff },
    { name := "RAIL_LAW", addr := 0x4013000c, stride := 0, count := 1, rws := 0x1f },
    { name := "RAIL_DLIM", addr := 0x40130010, stride := 0, count := 1, rws := 0xffffffff },
    { name := "RAIL_COEF", addr := 0x40130020, stride := 4, count := 7, rws := 0xffffffff },
    { name := "RAIL_SPFIX", addr := 0x40130040, stride := 0, count := 1, rws := 0x1fff },
    { name := "RAIL_SP", addr := 0x40130044, stride := 0, count := 1 },
    { name := "RAIL_MEAS", addr := 0x40130048, stride := 0, count := 1 },
    { name := "RAIL_ISNS", addr := 0x40130050, stride := 4, count := 4, rw := 0xffff0000 },
    { name := "RAIL_FE", addr := 0x40130060, stride := 0, count := 1, rw := 0xffffffff },
    { name := "RAIL_HR", addr := 0x40130064, stride := 0, count := 1, reset := 0xffff },
    { name := "RAIL_TCFG", addr := 0x40130070, stride := 0, count := 1, rw := 0x1fffffff },
    { name := "RAIL_TCTL", addr := 0x40130074, stride := 0, count := 1, rw := 0x1ffc, wo := 0x3 },
    { name := "RAIL_TADDR", addr := 0x40130078, stride := 0, count := 1, rw := 0x1fff },
    { name := "RAIL_TDATA", addr := 0x4013007c, stride := 0, count := 1 },
    { name := "RAIL_EVT", addr := 0x40130080, stride := 0, count := 1, w1c := 0xff },
    { name := "RAIL_MASK", addr := 0x40130084, stride := 0, count := 1, rw := 0xff },
    { name := "RAIL_RCTAB", addr := 0x40131000, stride := 4, count := 512 } ]

/-- The registers of block 20 (`TIM_`). -/
def regTableTim : List RegSpec :=
  [ { name := "TIM_CTL", addr := 0x40140000, stride := 0, count := 1, rw := 0xf0, wo := 0x1, reset := 0xf0 },
    { name := "TIM_SRC", addr := 0x40140004, stride := 0, count := 1, rw := 0xff, idle := 0xff },
    { name := "TIM_STAT", addr := 0x40140008, stride := 0, count := 1 },
    { name := "TIM_CNS", addr := 0x40140010, stride := 8, count := 4 },
    { name := "TIM_CFRAC", addr := 0x40140014, stride := 8, count := 4 },
    { name := "TIM_RATE", addr := 0x40140030, stride := 4, count := 4 },
    { name := "TIM_OFS", addr := 0x40140040, stride := 0, count := 1 },
    { name := "TIM_DELAY", addr := 0x40140050, stride := 4, count := 8 },
    { name := "TIM_ASYM", addr := 0x40140070, stride := 4, count := 8, rws := 0xffff },
    { name := "TIM_FRAME", addr := 0x40140090, stride := 0, count := 1 },
    { name := "TIM_FB", addr := 0x40140094, stride := 0, count := 1 },
    { name := "TIM_CNT", addr := 0x401400a0, stride := 0, count := 1, rw := 0xffffffff },
    { name := "TIM_PTPSTAT", addr := 0x401400a4, stride := 0, count := 1 },
    { name := "TIM_EVT", addr := 0x401400c0, stride := 0, count := 1, w1c := 0xffff },
    { name := "TIM_MASK", addr := 0x401400c4, stride := 0, count := 1, rw := 0xffff } ]

/-- The registers of block 21 (`RED_`). -/
def regTableRed : List RegSpec :=
  [ { name := "RED_STAT", addr := 0x40150000, stride := 0, count := 1 },
    { name := "RED_CTL", addr := 0x40150004, stride := 0, count := 1, wo := 0x7 },
    { name := "RED_TERM", addr := 0x40150008, stride := 0, count := 1 },
    { name := "RED_COPY", addr := 0x4015000c, stride := 0, count := 1 },
    { name := "RED_HOLD", addr := 0x40150010, stride := 0, count := 1, rws := 0xffff },
    { name := "RED_TSTAT", addr := 0x40150014, stride := 0, count := 1 },
    { name := "RED_CNT", addr := 0x40150018, stride := 0, count := 1, rw := 0xffffffff },
    { name := "RED_EVT", addr := 0x40150020, stride := 0, count := 1, w1c := 0x7fff },
    { name := "RED_MASK", addr := 0x40150024, stride := 0, count := 1, rw := 0x7fff } ]

/-- The registers of block 5 (`CORE_`). -/
def regTableCore : List RegSpec :=
  [ { name := "CORE_STAT", addr := 0x40050000, stride := 0, count := 1, rw := 0xffff00 },
    { name := "CORE_FAULT", addr := 0x40050004, stride := 0, count := 1, w1c := 0x8 },
    { name := "CORE_FADDR", addr := 0x40050008, stride := 0, count := 1 },
    { name := "CORE_EVT", addr := 0x4005000c, stride := 0, count := 1, w1c := 0x1 },
    { name := "CORE_WIN", addr := 0x40050010, stride := 4, count := 3, rw := 0x7 },
    { name := "CORE_ROUTE", addr := 0x40050020, stride := 4, count := 2, rwl := 0xffffffff } ]

/-- The registers of block 6 (`MBX_`). -/
def regTableMbx : List RegSpec :=
  [ { name := "MBX_DATA", addr := 0x40060000, stride := 16, count := 16, rw := 0xffffffff },
    { name := "MBX_CST", addr := 0x40060004, stride := 16, count := 16, rw := 0x60, w1c := 0x17 },
    { name := "MBX_LOCK", addr := 0x40060008, stride := 16, count := 16, wo := 0x30 },
    { name := "MBX_CCFG", addr := 0x4006000c, stride := 16, count := 16, rwl := 0x7f },
    { name := "MBX_DBSET", addr := 0x40060100, stride := 0, count := 1, wo := 0xffffffff },
    { name := "MBX_DBPEND", addr := 0x40060104, stride := 0, count := 1, w1c := 0xffffffff },
    { name := "MBX_DBMASK", addr := 0x40060108, stride := 0, count := 1, rw := 0xffffffff },
    { name := "MBX_DBTGT", addr := 0x4006010c, stride := 0, count := 1, rwl := 0xffff0000 },
    { name := "MBX_DBRING", addr := 0x40060110, stride := 4, count := 4, rwl := 0xffffffff },
    { name := "MBX_EVT", addr := 0x40060120, stride := 0, count := 1, w1c := 0x1ffff },
    { name := "MBX_MASK", addr := 0x40060124, stride := 0, count := 1, rw := 0x1ffff } ]

/-- The registers of block 22 (`SEC_`). -/
def regTableSec : List RegSpec :=
  [ { name := "SEC_STAT", addr := 0x40160000, stride := 0, count := 1 },
    { name := "SEC_KEYEP", addr := 0x40160004, stride := 0, count := 1 },
    { name := "SEC_SWITCH", addr := 0x40160008, stride := 0, count := 1 },
    { name := "SEC_SERIAL", addr := 0x40160010, stride := 4, count := 4 },
    { name := "SEC_CTL", addr := 0x40160020, stride := 0, count := 1, wo := 0x3 },
    { name := "SEC_CNT0", addr := 0x40160024, stride := 0, count := 1, rw := 0xffffffff },
    { name := "SEC_CNT1", addr := 0x40160028, stride := 0, count := 1, rw := 0xffffffff },
    { name := "SEC_EVT", addr := 0x40160040, stride := 0, count := 1, w1c := 0x1ff },
    { name := "SEC_MASK", addr := 0x40160044, stride := 0, count := 1, rw := 0x1ff } ]

/-- The registers of block 23 (`UPD_`). -/
def regTableUpd : List RegSpec :=
  [ { name := "UPD_STAT", addr := 0x40170000, stride := 0, count := 1 },
    { name := "UPD_PKGL", addr := 0x40170004, stride := 0, count := 1 },
    { name := "UPD_PKGH", addr := 0x40170008, stride := 0, count := 1 },
    { name := "UPD_PROG", addr := 0x4017000c, stride := 0, count := 1 },
    { name := "UPD_TGT", addr := 0x40170010, stride := 0, count := 1 },
    { name := "UPD_TRIAL", addr := 0x40170014, stride := 0, count := 1 },
    { name := "UPD_CTL", addr := 0x40170018, stride := 0, count := 1, wo := 0xffff0007 },
    { name := "UPD_CNT", addr := 0x4017001c, stride := 0, count := 1, rw := 0xffffffff },
    { name := "UPD_EVT", addr := 0x40170020, stride := 0, count := 1, w1c := 0x7f },
    { name := "UPD_MASK", addr := 0x40170024, stride := 0, count := 1, rw := 0x7f } ]

/-- The registers of block 25 (`SMP_`). -/
def regTableSmp : List RegSpec :=
  [ { name := "SMP_STAT", addr := 0x40190000, stride := 0, count := 1 },
    { name := "SMP_CTL", addr := 0x40190004, stride := 0, count := 1, wo := 0xf },
    { name := "SMP_DIRTY", addr := 0x40190008, stride := 0, count := 1 },
    { name := "SMP_FPOST", addr := 0x4019000c, stride := 0, count := 1, wo := 0xffffffff },
    { name := "SMP_FPEND", addr := 0x40190010, stride := 0, count := 1 },
    { name := "SMP_FSEQ", addr := 0x40190014, stride := 0, count := 1 },
    { name := "SMP_EVT", addr := 0x40190020, stride := 0, count := 1, w1c := 0x1f },
    { name := "SMP_MASK", addr := 0x40190024, stride := 0, count := 1, rw := 0x1f } ]

/-- The registers of block 24 (`THM_`). -/
def regTableThm : List RegSpec :=
  [ { name := "THM_T", addr := 0x40180000, stride := 4, count := 16 },
    { name := "THM_STAT", addr := 0x40180040, stride := 0, count := 1, reset := 0xff00 },
    { name := "THM_LIM", addr := 0x40180044, stride := 0, count := 1, rwl := 0xffffffff, reset := 0x4073645a },
    { name := "THM_CTL", addr := 0x40180048, stride := 0, count := 1, wo := 0xffff },
    { name := "THM_GRACE", addr := 0x4018004c, stride := 0, count := 1 },
    { name := "THM_CNT", addr := 0x40180050, stride := 0, count := 1, rw := 0xffffffff },
    { name := "THM_EVT", addr := 0x40180060, stride := 0, count := 1, w1c := 0x7f },
    { name := "THM_MASK", addr := 0x40180064, stride := 0, count := 1, rw := 0x7f } ]

/-- The table of block `i` (R348); block 17 holds index 18 too. -/
def regTableOf (i : Nat) : List RegSpec :=
  match i with
  | 7 => regTableGov
  | 1 => regTableSup
  | 2 => regTableClk
  | 3 => regTableRst
  | 4 => regTableCfg
  | 0 => regTableBoot
  | 8 => regTableLan
  | 9 => regTableLnk
  | 10 => regTableIng
  | 11 => regTableScn
  | 12 => regTableCmp
  | 13 => regTableGeo
  | 15 => regTableDec
  | 14 => regTableEnc
  | 16 => regTableLmp
  | 17 => regTableCorr
  | 18 => regTableCorr
  | 19 => regTableRail
  | 20 => regTableTim
  | 21 => regTableRed
  | 5 => regTableCore
  | 6 => regTableMbx
  | 22 => regTableSec
  | 23 => regTableUpd
  | 25 => regTableSmp
  | 24 => regTableThm
  | _ => []

namespace F

def GOV_STAT_VARIANT : Fld := ⟨0x40070000, 0, 6⟩
def GOV_STAT_PENDING : Fld := ⟨0x40070000, 6, 6⟩
def GOV_STAT_PEND_VALID : Fld := ⟨0x40070000, 12, 1⟩
def GOV_STAT_UNCOVERED : Fld := ⟨0x40070000, 13, 1⟩
def GOV_STAT_RECDIFF : Fld := ⟨0x40070000, 14, 1⟩
def GOV_STAT_SWITCHES : Fld := ⟨0x40070000, 16, 16⟩
def GOV_EVT_CHANGED : Fld := ⟨0x40070004, 0, 1⟩
def GOV_EVT_UNCOV : Fld := ⟨0x40070004, 1, 1⟩
def GOV_EVT_RECOVERED : Fld := ⟨0x40070004, 2, 1⟩
def GOV_EVT_RECDIFF : Fld := ⟨0x40070004, 3, 1⟩
def GOV_HOLD_MS : Fld := ⟨0x40070008, 0, 16⟩
def GOV_OWN_VARIANT : Fld := ⟨0x4007000c, 0, 6⟩
def SUP_STAT_VCORE_OK : Fld := ⟨0x40010000, 0, 1⟩
def SUP_STAT_VSRAM_OK : Fld := ⟨0x40010000, 1, 1⟩
def SUP_STAT_VLANE09_OK : Fld := ⟨0x40010000, 2, 1⟩
def SUP_STAT_VLANE12_OK : Fld := ⟨0x40010000, 3, 1⟩
def SUP_STAT_VIO18_OK : Fld := ⟨0x40010000, 4, 1⟩
def SUP_STAT_VIO33_OK : Fld := ⟨0x40010000, 5, 1⟩
def SUP_STAT_VDDQ_OK : Fld := ⟨0x40010000, 6, 1⟩
def SUP_STAT_VKEEP_OK : Fld := ⟨0x40010000, 7, 1⟩
def SUP_STAT_CKEEP_OK : Fld := ⟨0x40010000, 8, 1⟩
def SUP_STAT_ROLE : Fld := ⟨0x40010000, 9, 1⟩
def SUP_STAT_CKEEP_MV : Fld := ⟨0x40010000, 16, 13⟩
def SUP_EVT_DIP : Fld := ⟨0x40010004, 0, 8⟩
def SUP_EVT_CKEEP_LOW : Fld := ⟨0x40010004, 8, 1⟩
def CLK_STAT_SYS_LOCK : Fld := ⟨0x40020000, 0, 1⟩
def CLK_STAT_MEM_LOCK : Fld := ⟨0x40020000, 1, 1⟩
def CLK_STAT_SVC_LOCK : Fld := ⟨0x40020000, 2, 1⟩
def CLK_STAT_VID_LOCK : Fld := ⟨0x40020000, 3, 1⟩
def CLK_STAT_VID_STEER : Fld := ⟨0x40020000, 4, 1⟩
def CLK_STAT_VID_LIMIT : Fld := ⟨0x40020000, 5, 1⟩
def CLK_STAT_PORT_LOCK : Fld := ⟨0x40020000, 8, 8⟩
def CLK_STAT_VID_OFFS : Fld := ⟨0x40020000, 16, 12⟩
def CLK_EVT_MEM_UNLOCK : Fld := ⟨0x40020004, 1, 1⟩
def CLK_EVT_SVC_UNLOCK : Fld := ⟨0x40020004, 2, 1⟩
def CLK_EVT_VID_UNLOCK : Fld := ⟨0x40020004, 3, 1⟩
def CLK_EVT_HOLDOVER : Fld := ⟨0x40020004, 4, 1⟩
def CLK_EVT_PORT_UNLOCK : Fld := ⟨0x40020004, 8, 8⟩
def RST_CAUSE_POR : Fld := ⟨0x40030000, 0, 1⟩
def RST_CAUSE_WDT : Fld := ⟨0x40030000, 1, 1⟩
def RST_CAUSE_SOFT : Fld := ⟨0x40030000, 2, 1⟩
def RST_CAUSE_SYSCLK : Fld := ⟨0x40030000, 3, 1⟩
def RST_CAUSE_NOREF : Fld := ⟨0x40030000, 4, 1⟩
def RST_CAUSE_WDT_COUNT : Fld := ⟨0x40030000, 8, 4⟩
def RST_CTL_DEVICE : Fld := ⟨0x40030004, 0, 1⟩
def RST_CTL_A0 : Fld := ⟨0x40030004, 1, 1⟩
def RST_CTL_A1 : Fld := ⟨0x40030004, 2, 1⟩
def RST_CTL_KEY : Fld := ⟨0x40030004, 16, 16⟩
def RST_WDT_KICK : Fld := ⟨0x40030008, 0, 16⟩
def RST_WDT_REMAIN_MS : Fld := ⟨0x40030008, 16, 16⟩
def CFG_COMMIT_GO : Fld := ⟨0x40040000, 0, 1⟩
def CFG_COMMIT_MODE : Fld := ⟨0x40040000, 1, 1⟩
def CFG_COMMIT_CANCEL : Fld := ⟨0x40040000, 2, 1⟩
def CFG_COMMIT_REVERT : Fld := ⟨0x40040000, 3, 1⟩
def CFG_TARGET_IMAGE : Fld := ⟨0x40040004, 0, 32⟩
def CFG_STAT_PENDING : Fld := ⟨0x40040008, 0, 1⟩
def CFG_STAT_DIRTY : Fld := ⟨0x40040008, 1, 1⟩
def CFG_STAT_SRC : Fld := ⟨0x40040008, 2, 1⟩
def CFG_STAT_RESULT : Fld := ⟨0x40040008, 8, 4⟩
def CFG_STAT_BLOCK : Fld := ⟨0x40040008, 12, 8⟩
def CFG_STAT_BUSY_BLK : Fld := ⟨0x40040008, 20, 8⟩
def CFG_EPOCH_EPOCH : Fld := ⟨0x4004000c, 0, 32⟩
def CFG_EVT_APPLIED : Fld := ⟨0x40040010, 0, 1⟩
def CFG_EVT_REFUSED : Fld := ⟨0x40040010, 1, 1⟩
def CFG_EVT_BUSYWR : Fld := ⟨0x40040010, 2, 1⟩
def BOOT_STAT_STEP : Fld := ⟨0x40000000, 0, 3⟩
def BOOT_STAT_BANK : Fld := ⟨0x40000000, 3, 1⟩
def BOOT_STAT_ALT_BANK : Fld := ⟨0x40000000, 4, 1⟩
def BOOT_STAT_ROLE_PLAN : Fld := ⟨0x40000000, 5, 1⟩
def BOOT_STAT_ROLE_DIFF : Fld := ⟨0x40000000, 6, 1⟩
def BOOT_STAT_RECOVERY : Fld := ⟨0x40000000, 7, 1⟩
def BOOT_STAT_WAIT_HEAD : Fld := ⟨0x40000000, 8, 1⟩
def BOOT_STAT_PLAN_DIFF : Fld := ⟨0x40000000, 9, 1⟩
def BOOT_STAT_RELEASED : Fld := ⟨0x40000000, 10, 1⟩
def BOOT_STAT_FUSE_CORR : Fld := ⟨0x40000000, 11, 4⟩
def BOOT_STAT_START_MS : Fld := ⟨0x40000000, 16, 16⟩
def BOOT_FAULT_FIRST : Fld := ⟨0x40000004, 0, 8⟩
def BOOT_FAULT_SECOND : Fld := ⟨0x40000004, 8, 8⟩
def BOOT_FAULT_FIRST_BANK : Fld := ⟨0x40000004, 16, 1⟩
def BOOT_PLAN_SERIAL : Fld := ⟨0x40000008, 0, 32⟩
def LAN_CSTAT_STATE0 (n : Nat) : Fld := ⟨0x40080000 + 4 * n, 0, 3⟩
def LAN_CSTAT_POL_SUSPECT0 (n : Nat) : Fld := ⟨0x40080000 + 4 * n, 3, 1⟩
def LAN_CSTAT_EQ_LIMIT0 (n : Nat) : Fld := ⟨0x40080000 + 4 * n, 4, 1⟩
def LAN_CSTAT_LANE1 (n : Nat) : Fld := ⟨0x40080000 + 4 * n, 8, 8⟩
def LAN_CSTAT_LANE2 (n : Nat) : Fld := ⟨0x40080000 + 4 * n, 16, 8⟩
def LAN_CSTAT_LANE3 (n : Nat) : Fld := ⟨0x40080000 + 4 * n, 24, 8⟩
def LAN_DSTAT_STATE0 (n : Nat) : Fld := ⟨0x40080020 + 4 * n, 0, 3⟩
def LAN_DSTAT_POL_SUSPECT0 (n : Nat) : Fld := ⟨0x40080020 + 4 * n, 3, 1⟩
def LAN_DSTAT_EQ_LIMIT0 (n : Nat) : Fld := ⟨0x40080020 + 4 * n, 4, 1⟩
def LAN_DSTAT_LANE1 (n : Nat) : Fld := ⟨0x40080020 + 4 * n, 8, 8⟩
def LAN_DSTAT_LANE2 (n : Nat) : Fld := ⟨0x40080020 + 4 * n, 16, 8⟩
def LAN_DSTAT_LANE3 (n : Nat) : Fld := ⟨0x40080020 + 4 * n, 24, 8⟩
def LAN_SSTAT_STATE0 : Fld := ⟨0x40080030, 0, 3⟩
def LAN_SSTAT_POL_SUSPECT0 : Fld := ⟨0x40080030, 3, 1⟩
def LAN_SSTAT_EQ_LIMIT0 : Fld := ⟨0x40080030, 4, 1⟩
def LAN_SSTAT_LANE1 : Fld := ⟨0x40080030, 8, 8⟩
def LAN_SSTAT_LANE2 : Fld := ⟨0x40080030, 16, 8⟩
def LAN_SSTAT_LANE3 : Fld := ⟨0x40080030, 24, 8⟩
def LAN_CTL_PSTOP : Fld := ⟨0x40080040, 0, 8⟩
def LAN_CTL_DSTOP : Fld := ⟨0x40080040, 8, 4⟩
def LAN_CTL_SSTOP : Fld := ⟨0x40080040, 12, 1⟩
def LAN_DPLINK_RATE (n : Nat) : Fld := ⟨0x40080050 + 4 * n, 0, 2⟩
def LAN_DPLINK_LANES (n : Nat) : Fld := ⟨0x40080050 + 4 * n, 2, 3⟩
def LAN_DPLINK_TRAIN (n : Nat) : Fld := ⟨0x40080050 + 4 * n, 5, 3⟩
def LAN_DPLINK_HPD (n : Nat) : Fld := ⟨0x40080050 + 4 * n, 8, 1⟩
def LAN_DPLINK_ALIGNED (n : Nat) : Fld := ⟨0x40080050 + 4 * n, 9, 1⟩
def LAN_DPLINK_RETRAINS (n : Nat) : Fld := ⟨0x40080050 + 4 * n, 16, 8⟩
def LAN_DPLINK_SDP_DROP (n : Nat) : Fld := ⟨0x40080050 + 4 * n, 24, 8⟩
def LAN_EVT_LOST : Fld := ⟨0x40080060, 0, 8⟩
def LAN_EVT_REGAINED : Fld := ⟨0x40080060, 8, 8⟩
def LAN_EVT_DP_LOST : Fld := ⟨0x40080060, 16, 4⟩
def LAN_EVT_SVC_LOST : Fld := ⟨0x40080060, 20, 1⟩
def LAN_EVT_EQ_LIMIT : Fld := ⟨0x40080060, 21, 1⟩
def LAN_MASK_LOST : Fld := ⟨0x40080064, 0, 8⟩
def LAN_MASK_REGAINED : Fld := ⟨0x40080064, 8, 8⟩
def LAN_MASK_DP_LOST : Fld := ⟨0x40080064, 16, 4⟩
def LAN_MASK_SVC_LOST : Fld := ⟨0x40080064, 20, 1⟩
def LAN_MASK_EQ_LIMIT : Fld := ⟨0x40080064, 21, 1⟩
def LAN_ERR_CV (n : Nat) : Fld := ⟨0x40080100 + 4 * n, 0, 16⟩
def LAN_ERR_LOSS (n : Nat) : Fld := ⟨0x40080100 + 4 * n, 16, 8⟩
def LAN_CFG_RX_INV (n : Nat) : Fld := ⟨0x40080200 + 4 * n, 0, 1⟩
def LAN_CFG_TX_INV (n : Nat) : Fld := ⟨0x40080200 + 4 * n, 1, 1⟩
def LAN_CFG_RATE (n : Nat) : Fld := ⟨0x40080200 + 4 * n, 2, 3⟩
def LAN_CFG_TABLE (n : Nat) : Fld := ⟨0x40080200 + 4 * n, 8, 4⟩
def LAN_CFG_PEAK (n : Nat) : Fld := ⟨0x40080200 + 4 * n, 12, 4⟩
def LAN_CFG_ADAPT (n : Nat) : Fld := ⟨0x40080200 + 4 * n, 16, 1⟩
def LNK_PCFG_RATE (n : Nat) : Fld := ⟨0x40090000 + 4 * n, 0, 3⟩
def LNK_PCFG_ROLE (n : Nat) : Fld := ⟨0x40090000 + 4 * n, 3, 3⟩
def LNK_PCFG_FWD_EN (n : Nat) : Fld := ⟨0x40090000 + 4 * n, 6, 1⟩
def LNK_PSTAT_STATE (n : Nat) : Fld := ⟨0x40090040 + 4 * n, 0, 2⟩
def LNK_PSTAT_RXMASK (n : Nat) : Fld := ⟨0x40090040 + 4 * n, 2, 4⟩
def LNK_PSTAT_PRXMASK (n : Nat) : Fld := ⟨0x40090040 + 4 * n, 6, 4⟩
def LNK_PSTAT_TXMASK (n : Nat) : Fld := ⟨0x40090040 + 4 * n, 10, 4⟩
def LNK_PSTAT_PFWD (n : Nat) : Fld := ⟨0x40090040 + 4 * n, 14, 1⟩
def LNK_PSTAT_PRECOV (n : Nat) : Fld := ⟨0x40090040 + 4 * n, 15, 1⟩
def LNK_PSTAT_PROLE (n : Nat) : Fld := ⟨0x40090040 + 4 * n, 16, 1⟩
def LNK_PSTAT_SKEW (n : Nat) : Fld := ⟨0x40090040 + 4 * n, 17, 1⟩
def LNK_PSTAT_SUSPECT (n : Nat) : Fld := ⟨0x40090040 + 4 * n, 18, 1⟩
def LNK_ID_TILE_ID : Fld := ⟨0x40090080, 0, 10⟩
def LNK_ID_CHAIN : Fld := ⟨0x40090080, 10, 3⟩
def LNK_ID_POS : Fld := ⟨0x40090080, 13, 5⟩
def LNK_ID_HOPS_A : Fld := ⟨0x40090080, 18, 5⟩
def LNK_ID_HOPS_B : Fld := ⟨0x40090080, 23, 5⟩
def LNK_ID_ASSIGNED : Fld := ⟨0x40090080, 28, 1⟩
def LNK_ID_CONFLICT : Fld := ⟨0x40090080, 29, 1⟩
def LNK_RXERR_CRC (n : Nat) : Fld := ⟨0x40090100 + 8 * n, 0, 16⟩
def LNK_RXERR_FRAME (n : Nat) : Fld := ⟨0x40090100 + 8 * n, 16, 16⟩
def LNK_RXAUTH_AUTH (n : Nat) : Fld := ⟨0x40090104 + 8 * n, 0, 16⟩
def LNK_RXAUTH_LANE_DROP (n : Nat) : Fld := ⟨0x40090104 + 8 * n, 16, 16⟩
def LNK_DEDUPSTAT_DUP : Fld := ⟨0x40090180, 0, 16⟩
def LNK_DEDUPSTAT_OLD : Fld := ⟨0x40090180, 16, 16⟩
def LNK_KEEPSRC_FROM_A : Fld := ⟨0x40090184, 0, 16⟩
def LNK_KEEPSRC_FROM_B : Fld := ⟨0x40090184, 16, 16⟩
def LNK_TXSTAT_LATE : Fld := ⟨0x40090188, 0, 16⟩
def LNK_TXSTAT_FWD_DROP : Fld := ⟨0x40090188, 16, 16⟩
def LNK_EVT_DOWN : Fld := ⟨0x400901c0, 0, 8⟩
def LNK_EVT_UP : Fld := ⟨0x400901c0, 8, 8⟩
def LNK_EVT_RESTRIPE : Fld := ⟨0x400901c0, 16, 8⟩
def LNK_EVT_AUTH : Fld := ⟨0x400901c0, 24, 1⟩
def LNK_EVT_CONFLICT : Fld := ⟨0x400901c0, 25, 1⟩
def LNK_EVT_ASSIGNED : Fld := ⟨0x400901c0, 26, 1⟩
def LNK_EVT_LATE : Fld := ⟨0x400901c0, 27, 1⟩
def LNK_MASK_DOWN : Fld := ⟨0x400901c4, 0, 8⟩
def LNK_MASK_UP : Fld := ⟨0x400901c4, 8, 8⟩
def LNK_MASK_RESTRIPE : Fld := ⟨0x400901c4, 16, 8⟩
def LNK_MASK_AUTH : Fld := ⟨0x400901c4, 24, 1⟩
def LNK_MASK_CONFLICT : Fld := ⟨0x400901c4, 25, 1⟩
def LNK_MASK_ASSIGNED : Fld := ⟨0x400901c4, 26, 1⟩
def LNK_MASK_LATE : Fld := ⟨0x400901c4, 27, 1⟩
def ING_CTL_STOP : Fld := ⟨0x400a0000, 0, 4⟩
def ING_SCFG_FORMAT (n : Nat) : Fld := ⟨0x400a0010 + 4 * n, 0, 2⟩
def ING_SCFG_DEPTH (n : Nat) : Fld := ⟨0x400a0010 + 4 * n, 2, 2⟩
def ING_SCFG_LANES (n : Nat) : Fld := ⟨0x400a0010 + 4 * n, 4, 3⟩
def ING_SCFG_MAXRATE (n : Nat) : Fld := ⟨0x400a0010 + 4 * n, 7, 2⟩
def ING_SSTAT_STATE (n : Nat) : Fld := ⟨0x400a0020 + 4 * n, 0, 3⟩
def ING_SSTAT_WRITING (n : Nat) : Fld := ⟨0x400a0020 + 4 * n, 3, 2⟩
def ING_SSTAT_NEWEST (n : Nat) : Fld := ⟨0x400a0020 + 4 * n, 5, 2⟩
def ING_SSTAT_HAVE (n : Nat) : Fld := ⟨0x400a0020 + 4 * n, 7, 1⟩
def ING_SSTAT_DROPS (n : Nat) : Fld := ⟨0x400a0020 + 4 * n, 16, 8⟩
def ING_SSTAT_FMT_ERR (n : Nat) : Fld := ⟨0x400a0020 + 4 * n, 24, 8⟩
def ING_WINPOS_X (n : Nat) : Fld := ⟨0x400a0030 + 8 * n, 0, 16⟩
def ING_WINPOS_Y (n : Nat) : Fld := ⟨0x400a0030 + 8 * n, 16, 16⟩
def ING_WINSIZE_W (n : Nat) : Fld := ⟨0x400a0034 + 8 * n, 0, 16⟩
def ING_WINSIZE_H (n : Nat) : Fld := ⟨0x400a0034 + 8 * n, 16, 16⟩
def SCN_STAT_GLK : Fld := ⟨0x400b0000, 0, 2⟩
def SCN_STAT_FACET : Fld := ⟨0x400b0000, 2, 2⟩
def SCN_STAT_LINE : Fld := ⟨0x400b0000, 4, 14⟩
def SCN_STAT_SHUT0_OK : Fld := ⟨0x400b0000, 18, 1⟩
def SCN_STAT_SHUT1_OK : Fld := ⟨0x400b0000, 19, 1⟩
def SCN_STAT_MEM_SR : Fld := ⟨0x400b0000, 20, 1⟩
def SCN_SHUT_START (n : Nat) : Fld := ⟨0x400b0010 + 8 * n, 0, 24⟩
def SCN_SHUTW_WIDTH (n : Nat) : Fld := ⟨0x400b0014 + 8 * n, 0, 24⟩
def SCN_FOFS_LINES (n : Nat) : Fld := ⟨0x400b0020 + 4 * n, 0, 16⟩
def SCN_LBASE_ADDR (n : Nat) : Fld := ⟨0x400b0100 + 4 * n, 0, 22⟩
def SCN_LSTAT_FLIPS (n : Nat) : Fld := ⟨0x400b0140 + 4 * n, 0, 16⟩
def SCN_LSTAT_RETIRE (n : Nat) : Fld := ⟨0x400b0140 + 4 * n, 16, 16⟩
def SCN_SIG_CRC (n : Nat) : Fld := ⟨0x400b0180 + 4 * n, 0, 32⟩
def SCN_UNDERRUN_COUNT : Fld := ⟨0x400b01c0, 0, 16⟩
def SCN_UNDERRUN_ENGINE : Fld := ⟨0x400b01c0, 16, 6⟩
def SCN_MEMSR_RESID : Fld := ⟨0x400b01c4, 0, 14⟩
def SCN_MEMSR_ENTRIES : Fld := ⟨0x400b01c4, 16, 16⟩
def SCN_EVT_GLK_VALID : Fld := ⟨0x400b01e0, 0, 1⟩
def SCN_EVT_GLK_LOST : Fld := ⟨0x400b01e0, 1, 1⟩
def SCN_EVT_GLK_RATE : Fld := ⟨0x400b01e0, 2, 1⟩
def SCN_EVT_SHUT_LOST : Fld := ⟨0x400b01e0, 3, 2⟩
def SCN_EVT_SHUT_CLAMP : Fld := ⟨0x400b01e0, 5, 1⟩
def SCN_EVT_UNDERRUN : Fld := ⟨0x400b01e0, 6, 1⟩
def SCN_EVT_SRC_DROP : Fld := ⟨0x400b01e0, 7, 4⟩
def SCN_EVT_SRC_HOLD : Fld := ⟨0x400b01e0, 11, 4⟩
def SCN_EVT_RETIRED : Fld := ⟨0x400b01e0, 15, 1⟩
def SCN_MASK_GLK_VALID : Fld := ⟨0x400b01e4, 0, 1⟩
def SCN_MASK_GLK_LOST : Fld := ⟨0x400b01e4, 1, 1⟩
def SCN_MASK_GLK_RATE : Fld := ⟨0x400b01e4, 2, 1⟩
def SCN_MASK_SHUT_LOST : Fld := ⟨0x400b01e4, 3, 2⟩
def SCN_MASK_SHUT_CLAMP : Fld := ⟨0x400b01e4, 5, 1⟩
def SCN_MASK_UNDERRUN : Fld := ⟨0x400b01e4, 6, 1⟩
def SCN_MASK_SRC_DROP : Fld := ⟨0x400b01e4, 7, 4⟩
def SCN_MASK_SRC_HOLD : Fld := ⟨0x400b01e4, 11, 4⟩
def SCN_MASK_RETIRED : Fld := ⟨0x400b01e4, 15, 1⟩
def CMP_CTL_STOP : Fld := ⟨0x400c0000, 0, 1⟩
def CMP_CTL_FLOW_REQ : Fld := ⟨0x400c0000, 1, 1⟩
def CMP_STAT_STATE : Fld := ⟨0x400c0004, 0, 2⟩
def CMP_STAT_FLOW : Fld := ⟨0x400c0004, 2, 2⟩
def CMP_REFUSE_LAYER : Fld := ⟨0x400c0008, 0, 4⟩
def CMP_REFUSE_PIPE : Fld := ⟨0x400c0008, 4, 2⟩
def CMP_REFUSE_REASON : Fld := ⟨0x400c0008, 6, 3⟩
def CMP_REFUSE_NEED_KIB : Fld := ⟨0x400c0008, 16, 8⟩
def CMP_REFUSE_HAVE_KIB : Fld := ⟨0x400c0008, 24, 8⟩
def CMP_OUT_DEPTH : Fld := ⟨0x400c000c, 0, 2⟩
def CMP_OUT_TRANSFER : Fld := ⟨0x400c000c, 2, 2⟩
def CMP_OUT_PRIM : Fld := ⟨0x400c000c, 4, 2⟩
def CMP_OUT_DITHER : Fld := ⟨0x400c000c, 6, 2⟩
def CMP_LEN_LAYERS (n : Nat) : Fld := ⟨0x400c0010 + 4 * n, 0, 16⟩
def CMP_FLOW_BUILDS : Fld := ⟨0x400c0020, 0, 16⟩
def CMP_FLOW_ABANDONED : Fld := ⟨0x400c0020, 16, 16⟩
def CMP_COEFADDR_LAYER : Fld := ⟨0x400c0030, 0, 3⟩
def CMP_COEFADDR_BANK : Fld := ⟨0x400c0030, 3, 1⟩
def CMP_COEFADDR_DIR : Fld := ⟨0x400c0030, 4, 1⟩
def CMP_COEFADDR_PHASE : Fld := ⟨0x400c0030, 5, 6⟩
def CMP_COEFADDR_TAP : Fld := ⟨0x400c0030, 11, 3⟩
def CMP_COEFADDR_INC : Fld := ⟨0x400c0030, 14, 1⟩
def CMP_COEFDATA_COEF : Fld := ⟨0x400c0034, 0, 12⟩
def CMP_COEFCFG_VTAPS : Fld := ⟨0x400c0038, 0, 32⟩
def CMP_EVT_FLOW_CACHED : Fld := ⟨0x400c0040, 0, 1⟩
def CMP_EVT_FLOW_LIVE : Fld := ⟨0x400c0040, 1, 1⟩
def CMP_EVT_FLOW_ABANDON : Fld := ⟨0x400c0040, 2, 1⟩
def CMP_EVT_COEF_BUSY : Fld := ⟨0x400c0040, 3, 1⟩
def CMP_EVT_HOLD_FILL : Fld := ⟨0x400c0040, 4, 1⟩
def CMP_EVT_STOP_GUARD : Fld := ⟨0x400c0040, 5, 1⟩
def CMP_MASK_FLOW_CACHED : Fld := ⟨0x400c0044, 0, 1⟩
def CMP_MASK_FLOW_LIVE : Fld := ⟨0x400c0044, 1, 1⟩
def CMP_MASK_FLOW_ABANDON : Fld := ⟨0x400c0044, 2, 1⟩
def CMP_MASK_COEF_BUSY : Fld := ⟨0x400c0044, 3, 1⟩
def CMP_MASK_HOLD_FILL : Fld := ⟨0x400c0044, 4, 1⟩
def CMP_MASK_STOP_GUARD : Fld := ⟨0x400c0044, 5, 1⟩
def CMP_LPOS_X (n : Nat) : Fld := ⟨0x400c0100 + 64 * n, 0, 16⟩
def CMP_LPOS_Y (n : Nat) : Fld := ⟨0x400c0100 + 64 * n, 16, 16⟩
def CMP_LSIZE_W (n : Nat) : Fld := ⟨0x400c0104 + 64 * n, 0, 14⟩
def CMP_LSIZE_H (n : Nat) : Fld := ⟨0x400c0104 + 64 * n, 16, 14⟩
def CMP_LSTEP_STEP_H (n : Nat) : Fld := ⟨0x400c0108 + 64 * n, 0, 16⟩
def CMP_LSTEP_STEP_V (n : Nat) : Fld := ⟨0x400c0108 + 64 * n, 16, 16⟩
def CMP_LCTL_ALPHA (n : Nat) : Fld := ⟨0x400c010c + 64 * n, 0, 8⟩
def CMP_LCTL_BANK (n : Nat) : Fld := ⟨0x400c010c + 64 * n, 8, 1⟩
def GEO_STAT_ACTIVE : Fld := ⟨0x400d0000, 0, 5⟩
def GEO_STAT_SHOW : Fld := ⟨0x400d0000, 5, 2⟩
def GEO_STAT_PAT_OK : Fld := ⟨0x400d0000, 7, 1⟩
def GEO_STAT_PAT_COUNT : Fld := ⟨0x400d0000, 8, 3⟩
def GEO_STAT_FSHOW : Fld := ⟨0x400d0000, 11, 8⟩
def GEO_CNT_COUNTER : Fld := ⟨0x400d0004, 0, 32⟩
def GEO_EVT_ACCEPT : Fld := ⟨0x400d0008, 0, 1⟩
def GEO_EVT_REJECT : Fld := ⟨0x400d0008, 1, 1⟩
def GEO_EVT_APPLIED : Fld := ⟨0x400d0008, 2, 1⟩
def GEO_EVT_LATE : Fld := ⟨0x400d0008, 3, 1⟩
def GEO_EVT_PATTERN : Fld := ⟨0x400d0008, 4, 1⟩
def GEO_EVT_PAT_BAD : Fld := ⟨0x400d0008, 5, 1⟩
def GEO_MASK_ACCEPT : Fld := ⟨0x400d000c, 0, 1⟩
def GEO_MASK_REJECT : Fld := ⟨0x400d000c, 1, 1⟩
def GEO_MASK_APPLIED : Fld := ⟨0x400d000c, 2, 1⟩
def GEO_MASK_LATE : Fld := ⟨0x400d000c, 3, 1⟩
def GEO_MASK_PATTERN : Fld := ⟨0x400d000c, 4, 1⟩
def GEO_MASK_PAT_BAD : Fld := ⟨0x400d000c, 5, 1⟩
def DEC_STAT_LIT : Fld := ⟨0x400f0000, 0, 4⟩
def DEC_STAT_LITBUF0 : Fld := ⟨0x400f0000, 4, 4⟩
def DEC_STAT_LITBUF1 : Fld := ⟨0x400f0000, 8, 4⟩
def DEC_STAT_LITBUF2 : Fld := ⟨0x400f0000, 12, 4⟩
def DEC_STAT_LITBUF3 : Fld := ⟨0x400f0000, 16, 4⟩
def DEC_STAT_STAGING : Fld := ⟨0x400f0000, 20, 3⟩
def DEC_BUF_IMAGE (n : Nat) : Fld := ⟨0x400f0010 + 4 * n, 0, 16⟩
def DEC_BUF_FACET (n : Nat) : Fld := ⟨0x400f0010 + 4 * n, 16, 2⟩
def DEC_BUF_HOLDS (n : Nat) : Fld := ⟨0x400f0010 + 4 * n, 18, 1⟩
def DEC_BUF_LITNOW (n : Nat) : Fld := ⟨0x400f0010 + 4 * n, 19, 1⟩
def DEC_BUF_UNCLEAN (n : Nat) : Fld := ⟨0x400f0010 + 4 * n, 21, 11⟩
def DEC_CNT0_CONCEAL : Fld := ⟨0x400f0040, 0, 16⟩
def DEC_CNT0_SYNTAX : Fld := ⟨0x400f0040, 16, 16⟩
def DEC_CNT1_NOREF : Fld := ⟨0x400f0044, 0, 16⟩
def DEC_CNT1_LATE : Fld := ⟨0x400f0044, 16, 16⟩
def DEC_CNT2_GEODE_FAIL : Fld := ⟨0x400f0048, 0, 16⟩
def DEC_CNT2_MISSING : Fld := ⟨0x400f0048, 16, 16⟩
def DEC_ERRLOG_CODE : Fld := ⟨0x400f004c, 0, 4⟩
def DEC_ERRLOG_SLICE : Fld := ⟨0x400f004c, 4, 5⟩
def DEC_ERRLOG_FACET : Fld := ⟨0x400f004c, 9, 2⟩
def DEC_ERRLOG_BLOCK : Fld := ⟨0x400f004c, 11, 5⟩
def DEC_ERRLOG_IMAGE : Fld := ⟨0x400f004c, 16, 16⟩
def DEC_EVT_SYNTAX : Fld := ⟨0x400f0060, 0, 1⟩
def DEC_EVT_CONCEAL : Fld := ⟨0x400f0060, 1, 1⟩
def DEC_EVT_NOREF : Fld := ⟨0x400f0060, 2, 1⟩
def DEC_EVT_LATE : Fld := ⟨0x400f0060, 3, 1⟩
def DEC_EVT_GEODE_FAIL : Fld := ⟨0x400f0060, 4, 1⟩
def DEC_EVT_FIRST_LIT : Fld := ⟨0x400f0060, 5, 4⟩
def DEC_MASK_SYNTAX : Fld := ⟨0x400f0064, 0, 1⟩
def DEC_MASK_CONCEAL : Fld := ⟨0x400f0064, 1, 1⟩
def DEC_MASK_NOREF : Fld := ⟨0x400f0064, 2, 1⟩
def DEC_MASK_LATE : Fld := ⟨0x400f0064, 3, 1⟩
def DEC_MASK_GEODE_FAIL : Fld := ⟨0x400f0064, 4, 1⟩
def DEC_MASK_FIRST_LIT : Fld := ⟨0x400f0064, 5, 4⟩
def ENC_STAT_CONV : Fld := ⟨0x400e0000, 0, 4⟩
def ENC_STAT_BUSY : Fld := ⟨0x400e0000, 4, 8⟩
def ENC_STAT_JOBS : Fld := ⟨0x400e0000, 12, 15⟩
def ENC_DRIP_P0 : Fld := ⟨0x400e0004, 0, 7⟩
def ENC_DRIP_P1 : Fld := ⟨0x400e0004, 8, 7⟩
def ENC_DRIP_P2 : Fld := ⟨0x400e0004, 16, 7⟩
def ENC_DRIP_P3 : Fld := ⟨0x400e0004, 24, 7⟩
def ENC_PHASE_PH0 : Fld := ⟨0x400e0008, 0, 6⟩
def ENC_PHASE_PH1 : Fld := ⟨0x400e0008, 8, 6⟩
def ENC_PHASE_PH2 : Fld := ⟨0x400e0008, 16, 6⟩
def ENC_PHASE_PH3 : Fld := ⟨0x400e0008, 24, 6⟩
def ENC_CNT0_FLOOR : Fld := ⟨0x400e0010, 0, 16⟩
def ENC_CNT0_JOBFULL : Fld := ⟨0x400e0010, 16, 16⟩
def ENC_CNT1_SKIPJOB : Fld := ⟨0x400e0014, 0, 16⟩
def ENC_CNT1_INTRA_ONLY : Fld := ⟨0x400e0014, 16, 16⟩
def ENC_ENG_LOAD (n : Nat) : Fld := ⟨0x400e0020 + 4 * n, 0, 14⟩
def ENC_ENG_TILES (n : Nat) : Fld := ⟨0x400e0020 + 4 * n, 16, 8⟩
def ENC_SIG_CRC (n : Nat) : Fld := ⟨0x400e0040 + 4 * n, 0, 32⟩
def ENC_EVT_FLOOR : Fld := ⟨0x400e0060, 0, 1⟩
def ENC_EVT_JOBFULL : Fld := ⟨0x400e0060, 1, 1⟩
def ENC_EVT_SKIPJOB : Fld := ⟨0x400e0060, 2, 1⟩
def ENC_EVT_CONV : Fld := ⟨0x400e0060, 3, 4⟩
def ENC_MASK_FLOOR : Fld := ⟨0x400e0064, 0, 1⟩
def ENC_MASK_JOBFULL : Fld := ⟨0x400e0064, 1, 1⟩
def ENC_MASK_SKIPJOB : Fld := ⟨0x400e0064, 2, 1⟩
def ENC_MASK_CONV : Fld := ⟨0x400e0064, 3, 4⟩
def LMP_CTL_STOP : Fld := ⟨0x40100000, 0, 1⟩
def LMP_CTL_HARD : Fld := ⟨0x40100000, 1, 1⟩
def LMP_STAT_STATE : Fld := ⟨0x40100004, 0, 2⟩
def LMP_STAT_FACET : Fld := ⟨0x40100004, 2, 2⟩
def LMP_STAT_INSLOT : Fld := ⟨0x40100004, 4, 1⟩
def LMP_STAT_SEG : Fld := ⟨0x40100004, 5, 6⟩
def LMP_STAT_LINE : Fld := ⟨0x40100004, 11, 6⟩
def LMP_STAT_ICLAMP : Fld := ⟨0x40100004, 17, 1⟩
def LMP_LINECFG_WINDOW : Fld := ⟨0x40100008, 0, 12⟩
def LMP_LINECFG_BLANK : Fld := ⟨0x40100008, 12, 8⟩
def LMP_LINECFG_GATE_ON : Fld := ⟨0x40100008, 20, 8⟩
def LMP_PLANECFG_DEPTH : Fld := ⟨0x4010000c, 0, 5⟩
def LMP_PLANECFG_SHADE : Fld := ⟨0x4010000c, 5, 3⟩
def LMP_PLANECFG_SEGLOG : Fld := ⟨0x4010000c, 8, 3⟩
def LMP_GREY_FRAME_TICKS : Fld := ⟨0x40100010, 0, 24⟩
def LMP_SLOT_DELAY (n : Nat) : Fld := ⟨0x40100040 + 4 * n, 0, 24⟩
def LMP_CNT_SLOT_LATE : Fld := ⟨0x40100050, 0, 16⟩
def LMP_CNT_BLANKS : Fld := ⟨0x40100050, 16, 16⟩
def LMP_CUR_GLOBAL : Fld := ⟨0x40100060, 0, 8⟩
def LMP_CUR_BLIMIT : Fld := ⟨0x40100060, 8, 8⟩
def LMP_CUR_CURVE : Fld := ⟨0x40100060, 16, 3⟩
def LMP_CUR_TLIMIT : Fld := ⟨0x40100060, 24, 8⟩
def LMP_CGRP_R (n : Nat) : Fld := ⟨0x40100070 + 4 * n, 0, 8⟩
def LMP_CGRP_G (n : Nat) : Fld := ⟨0x40100070 + 4 * n, 8, 8⟩
def LMP_CGRP_B (n : Nat) : Fld := ⟨0x40100070 + 4 * n, 16, 8⟩
def LMP_IREF_NA : Fld := ⟨0x40100080, 0, 17⟩
def LMP_IREF_BAD : Fld := ⟨0x40100080, 17, 1⟩
def LMP_EVT_SLOT_LATE : Fld := ⟨0x401000a0, 0, 1⟩
def LMP_EVT_BLANKED : Fld := ⟨0x401000a0, 1, 1⟩
def LMP_EVT_HARD : Fld := ⟨0x401000a0, 2, 1⟩
def LMP_EVT_ICLAMP : Fld := ⟨0x401000a0, 3, 1⟩
def LMP_EVT_IREF_BAD : Fld := ⟨0x401000a0, 4, 1⟩
def LMP_EVT_TLIMIT : Fld := ⟨0x401000a0, 5, 1⟩
def LMP_MASK_SLOT_LATE : Fld := ⟨0x401000a4, 0, 1⟩
def LMP_MASK_BLANKED : Fld := ⟨0x401000a4, 1, 1⟩
def LMP_MASK_HARD : Fld := ⟨0x401000a4, 2, 1⟩
def LMP_MASK_ICLAMP : Fld := ⟨0x401000a4, 3, 1⟩
def LMP_MASK_IREF_BAD : Fld := ⟨0x401000a4, 4, 1⟩
def LMP_MASK_TLIMIT : Fld := ⟨0x401000a4, 5, 1⟩
def CORR_CTL_PROBE : Fld := ⟨0x40110000, 0, 1⟩
def CORR_CTL_PROBE_ALL : Fld := ⟨0x40110000, 1, 1⟩
def CORR_CTL_FMAP_CLR : Fld := ⟨0x40110000, 2, 1⟩
def CORR_CTL_SEAL : Fld := ⟨0x40110000, 3, 1⟩
def CORR_CTL_LOAD : Fld := ⟨0x40110000, 4, 1⟩
def CORR_CTL_BANK : Fld := ⟨0x40110000, 5, 1⟩
def CORR_CTL_SET : Fld := ⟨0x40110000, 6, 1⟩
def CORR_STAT_FACT_OK : Fld := ⟨0x40110004, 0, 1⟩
def CORR_STAT_FACT_SETS : Fld := ⟨0x40110004, 1, 2⟩
def CORR_STAT_VALID_A : Fld := ⟨0x40110004, 3, 1⟩
def CORR_STAT_VALID_B : Fld := ⟨0x40110004, 4, 1⟩
def CORR_STAT_BUSY_A : Fld := ⟨0x40110004, 5, 1⟩
def CORR_STAT_BUSY_B : Fld := ⟨0x40110004, 6, 1⟩
def CORR_STAT_INUSE : Fld := ⟨0x40110004, 7, 1⟩
def CORR_STAT_SEALING : Fld := ⟨0x40110004, 8, 1⟩
def CORR_STAT_PROBING : Fld := ⟨0x40110004, 9, 1⟩
def CORR_BANK_SEL : Fld := ⟨0x40110008, 0, 1⟩
def CORR_MADDR_WORD : Fld := ⟨0x4011000c, 0, 18⟩
def CORR_MADDR_BANK : Fld := ⟨0x4011000c, 18, 1⟩
def CORR_MDATA_DATA : Fld := ⟨0x40110010, 0, 32⟩
def CORR_MCRC_CRC : Fld := ⟨0x40110014, 0, 32⟩
def CORR_HR_MIN (n : Nat) : Fld := ⟨0x40110020 + 4 * n, 0, 8⟩
def CORR_HR_LOWLINES (n : Nat) : Fld := ⟨0x40110020 + 4 * n, 16, 16⟩
def CORR_FOPEN_COUNT : Fld := ⟨0x40110030, 0, 18⟩
def CORR_FSHORT_COUNT : Fld := ⟨0x40110034, 0, 18⟩
def CORR_FUNMEAS_COUNT : Fld := ⟨0x40110038, 0, 18⟩
def CORR_CNT_SAG : Fld := ⟨0x4011003c, 0, 16⟩
def CORR_CNT_SWEEPS : Fld := ⟨0x4011003c, 16, 16⟩
def CORR_PROBE_LAMPS : Fld := ⟨0x40110040, 0, 18⟩
def CORR_PROBE_NEXT_ROW : Fld := ⟨0x40110040, 18, 6⟩
def CORR_PROBE_PENDING : Fld := ⟨0x40110040, 24, 1⟩
def CORR_DSIG_SIG (n : Nat) : Fld := ⟨0x40110050 + 4 * n, 0, 32⟩
def CORR_LSIG_SIG (n : Nat) : Fld := ⟨0x40110060 + 4 * n, 0, 32⟩
def CORR_FRZ_FREEZE : Fld := ⟨0x40110070, 0, 16⟩
def CORR_FRZ_MISMATCH : Fld := ⟨0x40110070, 16, 16⟩
def CORR_LSTALE_LAYER : Fld := ⟨0x40110074, 0, 16⟩
def CORR_EVT_FACT_BAD : Fld := ⟨0x40110080, 0, 1⟩
def CORR_EVT_BANK_BUSY : Fld := ⟨0x40110080, 1, 1⟩
def CORR_EVT_SEALED : Fld := ⟨0x40110080, 2, 1⟩
def CORR_EVT_SEAL_FAIL : Fld := ⟨0x40110080, 3, 1⟩
def CORR_EVT_OPEN : Fld := ⟨0x40110080, 4, 1⟩
def CORR_EVT_SHORT : Fld := ⟨0x40110080, 5, 1⟩
def CORR_EVT_UNMEAS : Fld := ⟨0x40110080, 6, 1⟩
def CORR_EVT_SAG : Fld := ⟨0x40110080, 7, 1⟩
def CORR_EVT_SWEEP_DONE : Fld := ⟨0x40110080, 8, 1⟩
def CORR_EVT_FREEZE : Fld := ⟨0x40110080, 9, 1⟩
def CORR_EVT_MISMATCH : Fld := ⟨0x40110080, 10, 1⟩
def CORR_EVT_STALE : Fld := ⟨0x40110080, 11, 1⟩
def CORR_MASK_FACT_BAD : Fld := ⟨0x40110084, 0, 1⟩
def CORR_MASK_BANK_BUSY : Fld := ⟨0x40110084, 1, 1⟩
def CORR_MASK_SEALED : Fld := ⟨0x40110084, 2, 1⟩
def CORR_MASK_SEAL_FAIL : Fld := ⟨0x40110084, 3, 1⟩
def CORR_MASK_OPEN : Fld := ⟨0x40110084, 4, 1⟩
def CORR_MASK_SHORT : Fld := ⟨0x40110084, 5, 1⟩
def CORR_MASK_UNMEAS : Fld := ⟨0x40110084, 6, 1⟩
def CORR_MASK_SAG : Fld := ⟨0x40110084, 7, 1⟩
def CORR_MASK_SWEEP_DONE : Fld := ⟨0x40110084, 8, 1⟩
def CORR_MASK_FREEZE : Fld := ⟨0x40110084, 9, 1⟩
def CORR_MASK_MISMATCH : Fld := ⟨0x40110084, 10, 1⟩
def CORR_MASK_STALE : Fld := ⟨0x40110084, 11, 1⟩
def RAIL_CTL_STOP : Fld := ⟨0x40130000, 0, 1⟩
def RAIL_CTL_CLR_FAULT : Fld := ⟨0x40130000, 1, 1⟩
def RAIL_CTL_RC_CLR : Fld := ⟨0x40130000, 2, 1⟩
def RAIL_STAT_STATE : Fld := ⟨0x40130004, 0, 2⟩
def RAIL_STAT_LATCHED : Fld := ⟨0x40130004, 2, 1⟩
def RAIL_STAT_AUX_LOST : Fld := ⟨0x40130004, 3, 1⟩
def RAIL_STAT_SRC : Fld := ⟨0x40130004, 4, 2⟩
def RAIL_STAT_RETRIES : Fld := ⟨0x40130004, 6, 4⟩
def RAIL_PWM_PERIOD : Fld := ⟨0x40130008, 0, 12⟩
def RAIL_PWM_PHASES : Fld := ⟨0x40130008, 12, 3⟩
def RAIL_LAW_LAW : Fld := ⟨0x4013000c, 0, 2⟩
def RAIL_LAW_RC_EN : Fld := ⟨0x4013000c, 2, 1⟩
def RAIL_LAW_SRC : Fld := ⟨0x4013000c, 3, 2⟩
def RAIL_DLIM_DMIN : Fld := ⟨0x40130010, 0, 16⟩
def RAIL_DLIM_DMAX : Fld := ⟨0x40130010, 16, 16⟩
def RAIL_COEF_COEF (n : Nat) : Fld := ⟨0x40130020 + 4 * n, 0, 32⟩
def RAIL_SPFIX_MV : Fld := ⟨0x40130040, 0, 13⟩
def RAIL_SP_TARGET : Fld := ⟨0x40130044, 0, 13⟩
def RAIL_SP_RAMP : Fld := ⟨0x40130044, 16, 13⟩
def RAIL_MEAS_VSNS_MV : Fld := ⟨0x40130048, 0, 13⟩
def RAIL_MEAS_DUTY : Fld := ⟨0x40130048, 16, 16⟩
def RAIL_ISNS_CODE (n : Nat) : Fld := ⟨0x40130050 + 4 * n, 0, 10⟩
def RAIL_ISNS_ILIM (n : Nat) : Fld := ⟨0x40130050 + 4 * n, 16, 16⟩
def RAIL_FE_TRIPS : Fld := ⟨0x40130060, 0, 8⟩
def RAIL_FE_OVP : Fld := ⟨0x40130060, 8, 8⟩
def RAIL_FE_PEAK_MV : Fld := ⟨0x40130060, 16, 16⟩
def RAIL_HR_FRAME_MIN : Fld := ⟨0x40130064, 0, 8⟩
def RAIL_HR_SEG_MIN : Fld := ⟨0x40130064, 8, 8⟩
def RAIL_TCFG_DIV : Fld := ⟨0x40130070, 16, 8⟩
def RAIL_TCFG_SRC : Fld := ⟨0x40130070, 24, 5⟩
def RAIL_TCTL_ARM : Fld := ⟨0x40130074, 0, 1⟩
def RAIL_TCTL_FORCE : Fld := ⟨0x40130074, 1, 1⟩
def RAIL_TCTL_PRE : Fld := ⟨0x40130074, 2, 11⟩
def RAIL_TCTL_TSTATE : Fld := ⟨0x40130074, 16, 2⟩
def RAIL_TCTL_CAUSE : Fld := ⟨0x40130074, 18, 3⟩
def RAIL_TADDR_SAMPLE : Fld := ⟨0x40130078, 0, 11⟩
def RAIL_TADDR_CH : Fld := ⟨0x40130078, 11, 2⟩
def RAIL_TDATA_DATA : Fld := ⟨0x4013007c, 0, 16⟩
def RAIL_EVT_REGULATE : Fld := ⟨0x40130080, 0, 1⟩
def RAIL_EVT_FAULT : Fld := ⟨0x40130080, 1, 1⟩
def RAIL_EVT_LATCHED : Fld := ⟨0x40130080, 2, 1⟩
def RAIL_EVT_OVP : Fld := ⟨0x40130080, 3, 1⟩
def RAIL_EVT_ILIM : Fld := ⟨0x40130080, 4, 1⟩
def RAIL_EVT_AUX_LOST : Fld := ⟨0x40130080, 5, 1⟩
def RAIL_EVT_TRACE_DONE : Fld := ⟨0x40130080, 6, 1⟩
def RAIL_EVT_SP_LIMIT : Fld := ⟨0x40130080, 7, 1⟩
def RAIL_MASK_REGULATE : Fld := ⟨0x40130084, 0, 1⟩
def RAIL_MASK_FAULT : Fld := ⟨0x40130084, 1, 1⟩
def RAIL_MASK_LATCHED : Fld := ⟨0x40130084, 2, 1⟩
def RAIL_MASK_OVP : Fld := ⟨0x40130084, 3, 1⟩
def RAIL_MASK_ILIM : Fld := ⟨0x40130084, 4, 1⟩
def RAIL_MASK_AUX_LOST : Fld := ⟨0x40130084, 5, 1⟩
def RAIL_MASK_TRACE_DONE : Fld := ⟨0x40130084, 6, 1⟩
def RAIL_MASK_SP_LIMIT : Fld := ⟨0x40130084, 7, 1⟩
def RAIL_RCTAB_E0 (n : Nat) : Fld := ⟨0x40131000 + 4 * n, 0, 16⟩
def RAIL_RCTAB_E1 (n : Nat) : Fld := ⟨0x40131000 + 4 * n, 16, 16⟩
def TIM_CTL_CAP : Fld := ⟨0x40140000, 0, 1⟩
def TIM_CTL_STOP : Fld := ⟨0x40140000, 4, 4⟩
def TIM_STAT_STATE : Fld := ⟨0x40140008, 0, 8⟩
def TIM_STAT_PORT : Fld := ⟨0x40140008, 8, 1⟩
def TIM_STAT_HOPS : Fld := ⟨0x40140008, 9, 5⟩
def TIM_STAT_END : Fld := ⟨0x40140008, 14, 1⟩
def TIM_STAT_SETTLED : Fld := ⟨0x40140008, 15, 1⟩
def TIM_CNS_NS (n : Nat) : Fld := ⟨0x40140010 + 8 * n, 0, 32⟩
def TIM_CFRAC_FRAC (n : Nat) : Fld := ⟨0x40140014 + 8 * n, 0, 8⟩
def TIM_RATE_RATE (n : Nat) : Fld := ⟨0x40140030 + 4 * n, 0, 32⟩
def TIM_OFS_OFS : Fld := ⟨0x40140040, 0, 32⟩
def TIM_DELAY_MEAN (n : Nat) : Fld := ⟨0x40140050 + 4 * n, 0, 24⟩
def TIM_ASYM_ASYM (n : Nat) : Fld := ⟨0x40140070 + 4 * n, 0, 16⟩
def TIM_FRAME_FRAME : Fld := ⟨0x40140090, 0, 32⟩
def TIM_FB_NS : Fld := ⟨0x40140094, 0, 32⟩
def TIM_CNT_STEPS : Fld := ⟨0x401400a0, 0, 16⟩
def TIM_CNT_ANN_MISS : Fld := ⟨0x401400a0, 16, 16⟩
def TIM_PTPSTAT_DOMAIN : Fld := ⟨0x401400a4, 0, 8⟩
def TIM_PTPSTAT_STEPS_REMOVED : Fld := ⟨0x401400a4, 8, 8⟩
def TIM_PTPSTAT_MASTER : Fld := ⟨0x401400a4, 16, 1⟩
def TIM_EVT_LOCK : Fld := ⟨0x401400c0, 0, 4⟩
def TIM_EVT_LOST : Fld := ⟨0x401400c0, 4, 4⟩
def TIM_EVT_WRAP : Fld := ⟨0x401400c0, 8, 4⟩
def TIM_EVT_STEP : Fld := ⟨0x401400c0, 12, 1⟩
def TIM_EVT_ANN_MISS : Fld := ⟨0x401400c0, 13, 1⟩
def TIM_EVT_SWITCH : Fld := ⟨0x401400c0, 14, 1⟩
def TIM_EVT_FRAME_DIFF : Fld := ⟨0x401400c0, 15, 1⟩
def TIM_MASK_LOCK : Fld := ⟨0x401400c4, 0, 4⟩
def TIM_MASK_LOST : Fld := ⟨0x401400c4, 4, 4⟩
def TIM_MASK_WRAP : Fld := ⟨0x401400c4, 8, 4⟩
def TIM_MASK_STEP : Fld := ⟨0x401400c4, 12, 1⟩
def TIM_MASK_ANN_MISS : Fld := ⟨0x401400c4, 13, 1⟩
def TIM_MASK_SWITCH : Fld := ⟨0x401400c4, 14, 1⟩
def TIM_MASK_FRAME_DIFF : Fld := ⟨0x401400c4, 15, 1⟩
def RED_STAT_DUTY : Fld := ⟨0x40150000, 0, 2⟩
def RED_STAT_END : Fld := ⟨0x40150000, 2, 1⟩
def RED_STAT_PAIRED : Fld := ⟨0x40150000, 3, 1⟩
def RED_STAT_PAIR_REFUSED : Fld := ⟨0x40150000, 4, 1⟩
def RED_STAT_PEER : Fld := ⟨0x40150000, 5, 1⟩
def RED_STAT_WARDEN : Fld := ⟨0x40150000, 6, 1⟩
def RED_STAT_ILK_OUT : Fld := ⟨0x40150000, 7, 1⟩
def RED_STAT_ILK_IN : Fld := ⟨0x40150000, 8, 1⟩
def RED_STAT_READY : Fld := ⟨0x40150000, 9, 1⟩
def RED_STAT_WAS_OWNER : Fld := ⟨0x40150000, 10, 1⟩
def RED_STAT_IS_WARDEN : Fld := ⟨0x40150000, 11, 1⟩
def RED_STAT_CAUSE : Fld := ⟨0x40150000, 12, 4⟩
def RED_CTL_YIELD : Fld := ⟨0x40150004, 0, 1⟩
def RED_CTL_FAIL : Fld := ⟨0x40150004, 1, 1⟩
def RED_CTL_ALIVE : Fld := ⟨0x40150004, 2, 1⟩
def RED_TERM_TERM : Fld := ⟨0x40150008, 0, 32⟩
def RED_COPY_EPOCH : Fld := ⟨0x4015000c, 0, 32⟩
def RED_HOLD_MS : Fld := ⟨0x40150010, 0, 16⟩
def RED_TSTAT_HOLDING : Fld := ⟨0x40150014, 0, 4⟩
def RED_TSTAT_EXPIRED : Fld := ⟨0x40150014, 4, 4⟩
def RED_CNT_SWITCHES : Fld := ⟨0x40150018, 0, 8⟩
def RED_CNT_PEER_LOSS : Fld := ⟨0x40150018, 8, 8⟩
def RED_CNT_COPY_ABORT : Fld := ⟨0x40150018, 16, 8⟩
def RED_CNT_SIG_DIFF : Fld := ⟨0x40150018, 24, 8⟩
def RED_EVT_OWNER : Fld := ⟨0x40150020, 0, 1⟩
def RED_EVT_STANDBY : Fld := ⟨0x40150020, 1, 1⟩
def RED_EVT_PEER_LOST : Fld := ⟨0x40150020, 2, 1⟩
def RED_EVT_PEER_BACK : Fld := ⟨0x40150020, 3, 1⟩
def RED_EVT_WARDEN_LOST : Fld := ⟨0x40150020, 4, 1⟩
def RED_EVT_VERDICT : Fld := ⟨0x40150020, 5, 1⟩
def RED_EVT_CLAIM_FAIL : Fld := ⟨0x40150020, 6, 1⟩
def RED_EVT_COPY_DONE : Fld := ⟨0x40150020, 7, 1⟩
def RED_EVT_COPY_ABORT : Fld := ⟨0x40150020, 8, 1⟩
def RED_EVT_SIG_DIFF : Fld := ⟨0x40150020, 9, 1⟩
def RED_EVT_EPOCH_DIFF : Fld := ⟨0x40150020, 10, 1⟩
def RED_EVT_PAIR_REFUSED : Fld := ⟨0x40150020, 11, 1⟩
def RED_EVT_HOLD_EXPIRED : Fld := ⟨0x40150020, 12, 1⟩
def RED_EVT_YIELD_REF : Fld := ⟨0x40150020, 13, 1⟩
def RED_EVT_FAILED : Fld := ⟨0x40150020, 14, 1⟩
def RED_MASK_OWNER : Fld := ⟨0x40150024, 0, 1⟩
def RED_MASK_STANDBY : Fld := ⟨0x40150024, 1, 1⟩
def RED_MASK_PEER_LOST : Fld := ⟨0x40150024, 2, 1⟩
def RED_MASK_PEER_BACK : Fld := ⟨0x40150024, 3, 1⟩
def RED_MASK_WARDEN_LOST : Fld := ⟨0x40150024, 4, 1⟩
def RED_MASK_VERDICT : Fld := ⟨0x40150024, 5, 1⟩
def RED_MASK_CLAIM_FAIL : Fld := ⟨0x40150024, 6, 1⟩
def RED_MASK_COPY_DONE : Fld := ⟨0x40150024, 7, 1⟩
def RED_MASK_COPY_ABORT : Fld := ⟨0x40150024, 8, 1⟩
def RED_MASK_SIG_DIFF : Fld := ⟨0x40150024, 9, 1⟩
def RED_MASK_EPOCH_DIFF : Fld := ⟨0x40150024, 10, 1⟩
def RED_MASK_PAIR_REFUSED : Fld := ⟨0x40150024, 11, 1⟩
def RED_MASK_HOLD_EXPIRED : Fld := ⟨0x40150024, 12, 1⟩
def RED_MASK_YIELD_REF : Fld := ⟨0x40150024, 13, 1⟩
def RED_MASK_FAILED : Fld := ⟨0x40150024, 14, 1⟩
def CORE_STAT_A0 : Fld := ⟨0x40050000, 0, 2⟩
def CORE_STAT_A1 : Fld := ⟨0x40050000, 2, 2⟩
def CORE_STAT_ECC_CORR : Fld := ⟨0x40050000, 8, 16⟩
def CORE_FAULT_INIT : Fld := ⟨0x40050004, 0, 2⟩
def CORE_FAULT_WRITE : Fld := ⟨0x40050004, 2, 1⟩
def CORE_FAULT_VALID : Fld := ⟨0x40050004, 3, 1⟩
def CORE_FAULT_KIND : Fld := ⟨0x40050004, 4, 2⟩
def CORE_FADDR_ADDR : Fld := ⟨0x40050008, 0, 32⟩
def CORE_EVT_ECC_BAD : Fld := ⟨0x4005000c, 0, 1⟩
def CORE_WIN_WIN (n : Nat) : Fld := ⟨0x40050010 + 4 * n, 0, 3⟩
def MBX_DATA_WORD (n : Nat) : Fld := ⟨0x40060000 + 16 * n, 0, 32⟩
def MBX_CST_FULL (n : Nat) : Fld := ⟨0x40060004 + 16 * n, 0, 1⟩
def MBX_CST_TAKEN (n : Nat) : Fld := ⟨0x40060004 + 16 * n, 1, 1⟩
def MBX_CST_LOST (n : Nat) : Fld := ⟨0x40060004 + 16 * n, 2, 1⟩
def MBX_CST_SNDRST (n : Nat) : Fld := ⟨0x40060004 + 16 * n, 3, 1⟩
def MBX_CST_REFUSED (n : Nat) : Fld := ⟨0x40060004 + 16 * n, 4, 1⟩
def MBX_CST_RXIE (n : Nat) : Fld := ⟨0x40060004 + 16 * n, 5, 1⟩
def MBX_CST_TXIE (n : Nat) : Fld := ⟨0x40060004 + 16 * n, 6, 1⟩
def MBX_CST_LASTSND (n : Nat) : Fld := ⟨0x40060004 + 16 * n, 8, 2⟩
def MBX_CST_COUNT (n : Nat) : Fld := ⟨0x40060004 + 16 * n, 16, 16⟩
def MBX_LOCK_GOT (n : Nat) : Fld := ⟨0x40060008 + 16 * n, 0, 1⟩
def MBX_LOCK_HOLDER (n : Nat) : Fld := ⟨0x40060008 + 16 * n, 1, 2⟩
def MBX_LOCK_HELD (n : Nat) : Fld := ⟨0x40060008 + 16 * n, 3, 1⟩
def MBX_LOCK_RELEASE (n : Nat) : Fld := ⟨0x40060008 + 16 * n, 4, 1⟩
def MBX_LOCK_FORCE (n : Nat) : Fld := ⟨0x40060008 + 16 * n, 5, 1⟩
def MBX_CCFG_SENDERS (n : Nat) : Fld := ⟨0x4006000c + 16 * n, 0, 4⟩
def MBX_CCFG_RECEIVER (n : Nat) : Fld := ⟨0x4006000c + 16 * n, 4, 2⟩
def MBX_CCFG_LOCK_REQ (n : Nat) : Fld := ⟨0x4006000c + 16 * n, 6, 1⟩
def MBX_DBSET_RING : Fld := ⟨0x40060100, 0, 32⟩
def MBX_DBPEND_PEND : Fld := ⟨0x40060104, 0, 32⟩
def MBX_DBMASK_MASK : Fld := ⟨0x40060108, 0, 32⟩
def MBX_DBTGT_TGT : Fld := ⟨0x4006010c, 16, 16⟩
def MBX_EVT_LOCKTO : Fld := ⟨0x40060120, 0, 16⟩
def MBX_EVT_DB_DENY : Fld := ⟨0x40060120, 16, 1⟩
def MBX_MASK_LOCKTO : Fld := ⟨0x40060124, 0, 16⟩
def MBX_MASK_DB_DENY : Fld := ⟨0x40060124, 16, 1⟩
def SEC_STAT_LIFE : Fld := ⟨0x40160000, 0, 2⟩
def SEC_STAT_EVAL_LOCK : Fld := ⟨0x40160000, 2, 1⟩
def SEC_STAT_EVAL : Fld := ⟨0x40160000, 3, 1⟩
def SEC_STAT_DEBUG : Fld := ⟨0x40160000, 4, 1⟩
def SEC_STAT_CHAINKEY : Fld := ⟨0x40160000, 5, 1⟩
def SEC_STAT_PAIRKEY : Fld := ⟨0x40160000, 6, 1⟩
def SEC_STAT_SESSIONS : Fld := ⟨0x40160000, 7, 3⟩
def SEC_KEYEP_CUR : Fld := ⟨0x40160004, 0, 6⟩
def SEC_KEYEP_NEXT : Fld := ⟨0x40160004, 6, 6⟩
def SEC_KEYEP_NEXT_VALID : Fld := ⟨0x40160004, 12, 1⟩
def SEC_SWITCH_IMAGE : Fld := ⟨0x40160008, 0, 32⟩
def SEC_SERIAL_SERIAL (n : Nat) : Fld := ⟨0x40160010 + 4 * n, 0, 32⟩
def SEC_CTL_REKEY : Fld := ⟨0x40160020, 0, 1⟩
def SEC_CTL_ZERO : Fld := ⟨0x40160020, 1, 1⟩
def SEC_CNT0_ENROL_FAIL : Fld := ⟨0x40160024, 0, 16⟩
def SEC_CNT0_SESS_FAIL : Fld := ⟨0x40160024, 16, 16⟩
def SEC_CNT1_REKEYS : Fld := ⟨0x40160028, 0, 16⟩
def SEC_CNT1_KEYX_FAIL : Fld := ⟨0x40160028, 16, 16⟩
def SEC_EVT_ENROL_FAIL : Fld := ⟨0x40160040, 0, 1⟩
def SEC_EVT_CLONE : Fld := ⟨0x40160040, 1, 1⟩
def SEC_EVT_PAIR_AUTH : Fld := ⟨0x40160040, 2, 1⟩
def SEC_EVT_SESS_FAIL : Fld := ⟨0x40160040, 3, 1⟩
def SEC_EVT_REKEY_DONE : Fld := ⟨0x40160040, 4, 1⟩
def SEC_EVT_KEY_LOST : Fld := ⟨0x40160040, 5, 1⟩
def SEC_EVT_ENTROPY : Fld := ⟨0x40160040, 6, 1⟩
def SEC_EVT_EVAL_REFUSED : Fld := ⟨0x40160040, 7, 1⟩
def SEC_EVT_ZEROISED : Fld := ⟨0x40160040, 8, 1⟩
def SEC_MASK_ENROL_FAIL : Fld := ⟨0x40160044, 0, 1⟩
def SEC_MASK_CLONE : Fld := ⟨0x40160044, 1, 1⟩
def SEC_MASK_PAIR_AUTH : Fld := ⟨0x40160044, 2, 1⟩
def SEC_MASK_SESS_FAIL : Fld := ⟨0x40160044, 3, 1⟩
def SEC_MASK_REKEY_DONE : Fld := ⟨0x40160044, 4, 1⟩
def SEC_MASK_KEY_LOST : Fld := ⟨0x40160044, 5, 1⟩
def SEC_MASK_ENTROPY : Fld := ⟨0x40160044, 6, 1⟩
def SEC_MASK_EVAL_REFUSED : Fld := ⟨0x40160044, 7, 1⟩
def SEC_MASK_ZEROISED : Fld := ⟨0x40160044, 8, 1⟩
def UPD_STAT_RUNBANK : Fld := ⟨0x40170000, 0, 1⟩
def UPD_STAT_TRIAL : Fld := ⟨0x40170000, 1, 1⟩
def UPD_STAT_SPARE : Fld := ⟨0x40170000, 2, 3⟩
def UPD_STAT_FBCAUSE : Fld := ⟨0x40170000, 5, 3⟩
def UPD_STAT_STARTS : Fld := ⟨0x40170000, 8, 4⟩
def UPD_STAT_LATE : Fld := ⟨0x40170000, 12, 1⟩
def UPD_STAT_VCODE : Fld := ⟨0x40170000, 16, 8⟩
def UPD_PKGL_PKG : Fld := ⟨0x40170004, 0, 32⟩
def UPD_PKGH_PKG : Fld := ⟨0x40170008, 0, 32⟩
def UPD_PROG_HAVE : Fld := ⟨0x4017000c, 0, 16⟩
def UPD_PROG_TOTAL : Fld := ⟨0x4017000c, 16, 16⟩
def UPD_TGT_IMAGE : Fld := ⟨0x40170010, 0, 32⟩
def UPD_TRIAL_LEFT_S : Fld := ⟨0x40170014, 0, 16⟩
def UPD_CTL_CONFIRM : Fld := ⟨0x40170018, 0, 1⟩
def UPD_CTL_FALLBACK : Fld := ⟨0x40170018, 1, 1⟩
def UPD_CTL_ABORT : Fld := ⟨0x40170018, 2, 1⟩
def UPD_CTL_KEY : Fld := ⟨0x40170018, 16, 16⟩
def UPD_CNT_RELAYED : Fld := ⟨0x4017001c, 0, 16⟩
def UPD_CNT_REPAIRS : Fld := ⟨0x4017001c, 16, 16⟩
def UPD_EVT_READY : Fld := ⟨0x40170020, 0, 1⟩
def UPD_EVT_VERIFY_FAIL : Fld := ⟨0x40170020, 1, 1⟩
def UPD_EVT_REFUSED : Fld := ⟨0x40170020, 2, 1⟩
def UPD_EVT_TRIAL : Fld := ⟨0x40170020, 3, 1⟩
def UPD_EVT_CONFIRMED : Fld := ⟨0x40170020, 4, 1⟩
def UPD_EVT_FELL_BACK : Fld := ⟨0x40170020, 5, 1⟩
def UPD_EVT_SETTINGS_LOST : Fld := ⟨0x40170020, 6, 1⟩
def UPD_MASK_READY : Fld := ⟨0x40170024, 0, 1⟩
def UPD_MASK_VERIFY_FAIL : Fld := ⟨0x40170024, 1, 1⟩
def UPD_MASK_REFUSED : Fld := ⟨0x40170024, 2, 1⟩
def UPD_MASK_TRIAL : Fld := ⟨0x40170024, 3, 1⟩
def UPD_MASK_CONFIRMED : Fld := ⟨0x40170024, 4, 1⟩
def UPD_MASK_FELL_BACK : Fld := ⟨0x40170024, 5, 1⟩
def UPD_MASK_SETTINGS_LOST : Fld := ⟨0x40170024, 6, 1⟩
def SMP_STAT_STATE : Fld := ⟨0x40190000, 0, 2⟩
def SMP_STAT_RECBAD : Fld := ⟨0x40190000, 2, 5⟩
def SMP_STAT_LASTROWS : Fld := ⟨0x40190000, 7, 7⟩
def SMP_STAT_LASTCUT : Fld := ⟨0x40190000, 14, 1⟩
def SMP_STAT_SAVES : Fld := ⟨0x40190000, 16, 16⟩
def SMP_CTL_WRITE : Fld := ⟨0x40190004, 0, 1⟩
def SMP_CTL_REC : Fld := ⟨0x40190004, 1, 3⟩
def SMP_DIRTY_REC : Fld := ⟨0x40190008, 0, 5⟩
def SMP_FPOST_POST : Fld := ⟨0x4019000c, 0, 32⟩
def SMP_FPEND_PEND : Fld := ⟨0x40190010, 0, 32⟩
def SMP_FSEQ_COUNT : Fld := ⟨0x40190014, 0, 32⟩
def SMP_EVT_SAVED : Fld := ⟨0x40190020, 0, 1⟩
def SMP_EVT_CUT : Fld := ⟨0x40190020, 1, 1⟩
def SMP_EVT_RECBAD : Fld := ⟨0x40190020, 2, 1⟩
def SMP_EVT_WRITTEN : Fld := ⟨0x40190020, 3, 1⟩
def SMP_EVT_FPOST_IGN : Fld := ⟨0x40190020, 4, 1⟩
def SMP_MASK_SAVED : Fld := ⟨0x40190024, 0, 1⟩
def SMP_MASK_CUT : Fld := ⟨0x40190024, 1, 1⟩
def SMP_MASK_RECBAD : Fld := ⟨0x40190024, 2, 1⟩
def SMP_MASK_WRITTEN : Fld := ⟨0x40190024, 3, 1⟩
def SMP_MASK_FPOST_IGN : Fld := ⟨0x40190024, 4, 1⟩
def THM_T_TEMP (n : Nat) : Fld := ⟨0x40180000 + 4 * n, 0, 12⟩
def THM_T_VALID (n : Nat) : Fld := ⟨0x40180000 + 4 * n, 12, 1⟩
def THM_T_BROKEN (n : Nat) : Fld := ⟨0x40180000 + 4 * n, 13, 1⟩
def THM_T_ROR (n : Nat) : Fld := ⟨0x40180000 + 4 * n, 14, 1⟩
def THM_T_TEFF (n : Nat) : Fld := ⟨0x40180000 + 4 * n, 16, 12⟩
def THM_STAT_HOTTEST : Fld := ⟨0x40180040, 0, 4⟩
def THM_STAT_STATE : Fld := ⟨0x40180040, 4, 3⟩
def THM_STAT_DEMAND : Fld := ⟨0x40180040, 8, 8⟩
def THM_STAT_NBROKEN : Fld := ⟨0x40180040, 16, 5⟩
def THM_LIM_WARN : Fld := ⟨0x40180044, 0, 8⟩
def THM_LIM_HOT : Fld := ⟨0x40180044, 8, 8⟩
def THM_LIM_TRIP : Fld := ⟨0x40180044, 16, 8⟩
def THM_LIM_FLOOR : Fld := ⟨0x40180044, 24, 8⟩
def THM_CTL_MEAS : Fld := ⟨0x40180048, 0, 16⟩
def THM_GRACE_LEFT_MS : Fld := ⟨0x4018004c, 0, 16⟩
def THM_CNT_ENFORCED : Fld := ⟨0x40180050, 0, 16⟩
def THM_CNT_TRIPS : Fld := ⟨0x40180050, 16, 16⟩
def THM_EVT_WARN : Fld := ⟨0x40180060, 0, 1⟩
def THM_EVT_DEMAND : Fld := ⟨0x40180060, 1, 1⟩
def THM_EVT_ENFORCE : Fld := ⟨0x40180060, 2, 1⟩
def THM_EVT_TRIP : Fld := ⟨0x40180060, 3, 1⟩
def THM_EVT_TRIP_CLEAR : Fld := ⟨0x40180060, 4, 1⟩
def THM_EVT_BROKEN : Fld := ⟨0x40180060, 5, 1⟩
def THM_EVT_ROR : Fld := ⟨0x40180060, 6, 1⟩
def THM_MASK_WARN : Fld := ⟨0x40180064, 0, 1⟩
def THM_MASK_DEMAND : Fld := ⟨0x40180064, 1, 1⟩
def THM_MASK_ENFORCE : Fld := ⟨0x40180064, 2, 1⟩
def THM_MASK_TRIP : Fld := ⟨0x40180064, 3, 1⟩
def THM_MASK_TRIP_CLEAR : Fld := ⟨0x40180064, 4, 1⟩
def THM_MASK_BROKEN : Fld := ⟨0x40180064, 5, 1⟩
def THM_MASK_ROR : Fld := ⟨0x40180064, 6, 1⟩

/-- Plane at order position `i` (LMP_PORD0 and LMP_PORD1). -/
def LMP_PORD_POS (i : Nat) : Fld := ⟨0x40100018 + 4 * (i / 8), 4 * (i % 8), 4⟩
/-- Segment of placed plane `k` (LMP_SPLACE). -/
def LMP_SPLACE_SEG (k : Nat) : Fld := ⟨0x40100020 + 4 * (k / 4), 8 * (k % 4), 6⟩
/-- Attenuation of sink `s` (LMP_CHADJ). -/
def LMP_CHADJ_A (s : Nat) : Fld := ⟨0x40101000 + 4 * (s / 8), 4 * (s % 8), 4⟩
/-- Trim code of sink `s` (CORR_TRIM). -/
def CORR_TRIM_T (s : Nat) : Fld := ⟨0x40111000 + 4 * (s / 4), 8 * (s % 4), 6⟩
/-- State of lamp `i` (CORR_FMAP). -/
def CORR_FMAP_L (i : Nat) : Fld := ⟨0x40120000 + 4 * (i / 16), 2 * (i % 16), 2⟩
/-- Channel code of trace channel `c` (RAIL_TCFG). -/
def RAIL_TCFG_CH (c : Nat) : Fld := ⟨0x40130070, 4 * c, 4⟩
/-- Source of time base `i` (TIM_SRC). -/
def TIM_SRC_SRC (i : Nat) : Fld := ⟨0x40140004, 2 * i, 2⟩
/-- State of time base `i` (TIM_STAT). -/
def TIM_STAT_TB (i : Nat) : Fld := ⟨0x40140008, 2 * i, 2⟩
/-- Core that takes block `i`'s interrupt (CORE_ROUTE). -/
def CORE_ROUTE_IRQ (i : Nat) : Fld := ⟨0x40050020 + 4 * (i / 16), 2 * (i % 16), 2⟩
/-- Ringer set of doorbell bit `i` (MBX_DBRING). -/
def MBX_DBRING_RING (i : Nat) : Fld := ⟨0x40060110 + 4 * (i / 8), 4 * (i % 8), 4⟩
/-- Matrix element or offset `i`, 0 to 11, of layer `l` (CMP_LCM). -/
def CMP_LCM_E (l i : Nat) : Fld := ⟨0x400c0110 + 64 * l + 4 * (i / 2), 16 * (i % 2), 16⟩
/-- State of lane index `m` (R87), in LAN_CSTAT, LAN_DSTAT or LAN_SSTAT. -/
def LAN_STATE (m : Nat) : Fld := ⟨0x40080000 + 4 * (m / 4), 8 * (m % 4), 3⟩
/-- Lane `m` found inverted commas. -/
def LAN_POL_SUSPECT (m : Nat) : Fld := ⟨0x40080000 + 4 * (m / 4), 8 * (m % 4) + 3, 1⟩
/-- Lane `m`'s adaptation ended at code 0 or 15. -/
def LAN_EQ_LIMIT (m : Nat) : Fld := ⟨0x40080000 + 4 * (m / 4), 8 * (m % 4) + 4, 1⟩
/-- Drip period of facet `f` (ENC_DRIP). -/
def ENC_DRIP_P (f : Nat) : Fld := ⟨0x400e0004, 8 * f, 7⟩
/-- Drip phase of facet `f` (ENC_PHASE). -/
def ENC_PHASE_PH (f : Nat) : Fld := ⟨0x400e0008, 8 * f, 6⟩
/-- Buffer lit for facet `f` (DEC_STAT). -/
def DEC_STAT_LITBUF (f : Nat) : Fld := ⟨0x400f0000, 4 + 4 * f, 4⟩
/-- Show state of facet `f` (GEO_STAT). -/
def GEO_STAT_FSHOWf (f : Nat) : Fld := ⟨0x400d0000, 11 + 2 * f, 2⟩
/-- Colour setting `k` of band `b` (LMP_CGRP). -/
def LMP_CGRP_C (b k : Nat) : Fld := ⟨0x40100070 + 4 * b, 8 * k, 8⟩
/-- Entry `c` of facet `f`'s repetitive table (RAIL_RCTAB). -/
def RAIL_RCTAB_E (f c : Nat) : Fld := ⟨0x40131000 + 4 * (128 * f + c / 2), 16 * (c % 2), 16⟩
/-- Tap count of bank `b` of layer `v` (CMP_COEFCFG). -/
def CMP_COEFCFG_V (v b : Nat) : Fld := ⟨0x400c0038, 4 * v + 2 * b, 2⟩

end F

namespace A

def GOV_STAT : Nat := 0x40070000
def GOV_EVT : Nat := 0x40070004
def GOV_HOLD : Nat := 0x40070008
def GOV_OWN : Nat := 0x4007000c
def SUP_STAT : Nat := 0x40010000
def SUP_EVT : Nat := 0x40010004
def CLK_STAT : Nat := 0x40020000
def CLK_EVT : Nat := 0x40020004
def RST_CAUSE : Nat := 0x40030000
def RST_CTL : Nat := 0x40030004
def RST_WDT : Nat := 0x40030008
def CFG_COMMIT : Nat := 0x40040000
def CFG_TARGET : Nat := 0x40040004
def CFG_STAT : Nat := 0x40040008
def CFG_EPOCH : Nat := 0x4004000c
def CFG_EVT : Nat := 0x40040010
def BOOT_STAT : Nat := 0x40000000
def BOOT_FAULT : Nat := 0x40000004
def BOOT_PLAN : Nat := 0x40000008
def LAN_CSTAT (n : Nat) : Nat := 0x40080000 + 4 * n
def LAN_DSTAT (n : Nat) : Nat := 0x40080020 + 4 * n
def LAN_SSTAT : Nat := 0x40080030
def LAN_CTL : Nat := 0x40080040
def LAN_DPLINK (n : Nat) : Nat := 0x40080050 + 4 * n
def LAN_EVT : Nat := 0x40080060
def LAN_MASK : Nat := 0x40080064
def LAN_ERR (n : Nat) : Nat := 0x40080100 + 4 * n
def LAN_CFG (n : Nat) : Nat := 0x40080200 + 4 * n
def LNK_PCFG (n : Nat) : Nat := 0x40090000 + 4 * n
def LNK_PSTAT (n : Nat) : Nat := 0x40090040 + 4 * n
def LNK_ID : Nat := 0x40090080
def LNK_RXERR (n : Nat) : Nat := 0x40090100 + 8 * n
def LNK_RXAUTH (n : Nat) : Nat := 0x40090104 + 8 * n
def LNK_DEDUPSTAT : Nat := 0x40090180
def LNK_KEEPSRC : Nat := 0x40090184
def LNK_TXSTAT : Nat := 0x40090188
def LNK_EVT : Nat := 0x400901c0
def LNK_MASK : Nat := 0x400901c4
def ING_CTL : Nat := 0x400a0000
def ING_SCFG (n : Nat) : Nat := 0x400a0010 + 4 * n
def ING_SSTAT (n : Nat) : Nat := 0x400a0020 + 4 * n
def ING_WINPOS (n : Nat) : Nat := 0x400a0030 + 8 * n
def ING_WINSIZE (n : Nat) : Nat := 0x400a0034 + 8 * n
def SCN_STAT : Nat := 0x400b0000
def SCN_SHUT (n : Nat) : Nat := 0x400b0010 + 8 * n
def SCN_SHUTW (n : Nat) : Nat := 0x400b0014 + 8 * n
def SCN_FOFS (n : Nat) : Nat := 0x400b0020 + 4 * n
def SCN_LBASE (n : Nat) : Nat := 0x400b0100 + 4 * n
def SCN_LSTAT (n : Nat) : Nat := 0x400b0140 + 4 * n
def SCN_SIG (n : Nat) : Nat := 0x400b0180 + 4 * n
def SCN_UNDERRUN : Nat := 0x400b01c0
def SCN_MEMSR : Nat := 0x400b01c4
def SCN_EVT : Nat := 0x400b01e0
def SCN_MASK : Nat := 0x400b01e4
def CMP_CTL : Nat := 0x400c0000
def CMP_STAT : Nat := 0x400c0004
def CMP_REFUSE : Nat := 0x400c0008
def CMP_OUT : Nat := 0x400c000c
def CMP_LEN (n : Nat) : Nat := 0x400c0010 + 4 * n
def CMP_FLOW : Nat := 0x400c0020
def CMP_COEFADDR : Nat := 0x400c0030
def CMP_COEFDATA : Nat := 0x400c0034
def CMP_COEFCFG : Nat := 0x400c0038
def CMP_EVT : Nat := 0x400c0040
def CMP_MASK : Nat := 0x400c0044
def CMP_LPOS (n : Nat) : Nat := 0x400c0100 + 64 * n
def CMP_LSIZE (n : Nat) : Nat := 0x400c0104 + 64 * n
def CMP_LSTEP (n : Nat) : Nat := 0x400c0108 + 64 * n
def CMP_LCTL (n : Nat) : Nat := 0x400c010c + 64 * n
def CMP_LCM (l i : Nat) : Nat := 0x400c0110 + 64 * l + 4 * i
def GEO_STAT : Nat := 0x400d0000
def GEO_CNT : Nat := 0x400d0004
def GEO_EVT : Nat := 0x400d0008
def GEO_MASK : Nat := 0x400d000c
def DEC_STAT : Nat := 0x400f0000
def DEC_BUF (n : Nat) : Nat := 0x400f0010 + 4 * n
def DEC_CNT0 : Nat := 0x400f0040
def DEC_CNT1 : Nat := 0x400f0044
def DEC_CNT2 : Nat := 0x400f0048
def DEC_ERRLOG : Nat := 0x400f004c
def DEC_EVT : Nat := 0x400f0060
def DEC_MASK : Nat := 0x400f0064
def ENC_STAT : Nat := 0x400e0000
def ENC_DRIP : Nat := 0x400e0004
def ENC_PHASE : Nat := 0x400e0008
def ENC_CNT0 : Nat := 0x400e0010
def ENC_CNT1 : Nat := 0x400e0014
def ENC_ENG (n : Nat) : Nat := 0x400e0020 + 4 * n
def ENC_SIG (n : Nat) : Nat := 0x400e0040 + 4 * n
def ENC_EVT : Nat := 0x400e0060
def ENC_MASK : Nat := 0x400e0064
def LMP_CTL : Nat := 0x40100000
def LMP_STAT : Nat := 0x40100004
def LMP_LINECFG : Nat := 0x40100008
def LMP_PLANECFG : Nat := 0x4010000c
def LMP_GREY : Nat := 0x40100010
def LMP_PORD0 : Nat := 0x40100018
def LMP_PORD1 : Nat := 0x4010001c
def LMP_SPLACE (n : Nat) : Nat := 0x40100020 + 4 * n
def LMP_SLOT (n : Nat) : Nat := 0x40100040 + 4 * n
def LMP_CNT : Nat := 0x40100050
def LMP_CUR : Nat := 0x40100060
def LMP_CGRP (n : Nat) : Nat := 0x40100070 + 4 * n
def LMP_IREF : Nat := 0x40100080
def LMP_EVT : Nat := 0x401000a0
def LMP_MASK : Nat := 0x401000a4
def LMP_CHADJ (n : Nat) : Nat := 0x40101000 + 4 * n
def CORR_CTL : Nat := 0x40110000
def CORR_STAT : Nat := 0x40110004
def CORR_BANK : Nat := 0x40110008
def CORR_MADDR : Nat := 0x4011000c
def CORR_MDATA : Nat := 0x40110010
def CORR_MCRC : Nat := 0x40110014
def CORR_HR (n : Nat) : Nat := 0x40110020 + 4 * n
def CORR_FOPEN : Nat := 0x40110030
def CORR_FSHORT : Nat := 0x40110034
def CORR_FUNMEAS : Nat := 0x40110038
def CORR_CNT : Nat := 0x4011003c
def CORR_PROBE : Nat := 0x40110040
def CORR_DSIG (n : Nat) : Nat := 0x40110050 + 4 * n
def CORR_LSIG (n : Nat) : Nat := 0x40110060 + 4 * n
def CORR_FRZ : Nat := 0x40110070
def CORR_LSTALE : Nat := 0x40110074
def CORR_EVT : Nat := 0x40110080
def CORR_MASK : Nat := 0x40110084
def CORR_TRIM (n : Nat) : Nat := 0x40111000 + 4 * n
def CORR_FMAP (n : Nat) : Nat := 0x40120000 + 4 * n
def RAIL_CTL : Nat := 0x40130000
def RAIL_STAT : Nat := 0x40130004
def RAIL_PWM : Nat := 0x40130008
def RAIL_LAW : Nat := 0x4013000c
def RAIL_DLIM : Nat := 0x40130010
def RAIL_COEF (n : Nat) : Nat := 0x40130020 + 4 * n
def RAIL_SPFIX : Nat := 0x40130040
def RAIL_SP : Nat := 0x40130044
def RAIL_MEAS : Nat := 0x40130048
def RAIL_ISNS (n : Nat) : Nat := 0x40130050 + 4 * n
def RAIL_FE : Nat := 0x40130060
def RAIL_HR : Nat := 0x40130064
def RAIL_TCFG : Nat := 0x40130070
def RAIL_TCTL : Nat := 0x40130074
def RAIL_TADDR : Nat := 0x40130078
def RAIL_TDATA : Nat := 0x4013007c
def RAIL_EVT : Nat := 0x40130080
def RAIL_MASK : Nat := 0x40130084
def RAIL_RCTAB (n : Nat) : Nat := 0x40131000 + 4 * n
def TIM_CTL : Nat := 0x40140000
def TIM_SRC : Nat := 0x40140004
def TIM_STAT : Nat := 0x40140008
def TIM_CNS (n : Nat) : Nat := 0x40140010 + 8 * n
def TIM_CFRAC (n : Nat) : Nat := 0x40140014 + 8 * n
def TIM_RATE (n : Nat) : Nat := 0x40140030 + 4 * n
def TIM_OFS : Nat := 0x40140040
def TIM_DELAY (n : Nat) : Nat := 0x40140050 + 4 * n
def TIM_ASYM (n : Nat) : Nat := 0x40140070 + 4 * n
def TIM_FRAME : Nat := 0x40140090
def TIM_FB : Nat := 0x40140094
def TIM_CNT : Nat := 0x401400a0
def TIM_PTPSTAT : Nat := 0x401400a4
def TIM_EVT : Nat := 0x401400c0
def TIM_MASK : Nat := 0x401400c4
def RED_STAT : Nat := 0x40150000
def RED_CTL : Nat := 0x40150004
def RED_TERM : Nat := 0x40150008
def RED_COPY : Nat := 0x4015000c
def RED_HOLD : Nat := 0x40150010
def RED_TSTAT : Nat := 0x40150014
def RED_CNT : Nat := 0x40150018
def RED_EVT : Nat := 0x40150020
def RED_MASK : Nat := 0x40150024
def CORE_STAT : Nat := 0x40050000
def CORE_FAULT : Nat := 0x40050004
def CORE_FADDR : Nat := 0x40050008
def CORE_EVT : Nat := 0x4005000c
def CORE_WIN (n : Nat) : Nat := 0x40050010 + 4 * n
def CORE_ROUTE (n : Nat) : Nat := 0x40050020 + 4 * n
def MBX_DATA (n : Nat) : Nat := 0x40060000 + 16 * n
def MBX_CST (n : Nat) : Nat := 0x40060004 + 16 * n
def MBX_LOCK (n : Nat) : Nat := 0x40060008 + 16 * n
def MBX_CCFG (n : Nat) : Nat := 0x4006000c + 16 * n
def MBX_DBSET : Nat := 0x40060100
def MBX_DBPEND : Nat := 0x40060104
def MBX_DBMASK : Nat := 0x40060108
def MBX_DBTGT : Nat := 0x4006010c
def MBX_DBRING (n : Nat) : Nat := 0x40060110 + 4 * n
def MBX_EVT : Nat := 0x40060120
def MBX_MASK : Nat := 0x40060124
def SEC_STAT : Nat := 0x40160000
def SEC_KEYEP : Nat := 0x40160004
def SEC_SWITCH : Nat := 0x40160008
def SEC_SERIAL (n : Nat) : Nat := 0x40160010 + 4 * n
def SEC_CTL : Nat := 0x40160020
def SEC_CNT0 : Nat := 0x40160024
def SEC_CNT1 : Nat := 0x40160028
def SEC_EVT : Nat := 0x40160040
def SEC_MASK : Nat := 0x40160044
def UPD_STAT : Nat := 0x40170000
def UPD_PKGL : Nat := 0x40170004
def UPD_PKGH : Nat := 0x40170008
def UPD_PROG : Nat := 0x4017000c
def UPD_TGT : Nat := 0x40170010
def UPD_TRIAL : Nat := 0x40170014
def UPD_CTL : Nat := 0x40170018
def UPD_CNT : Nat := 0x4017001c
def UPD_EVT : Nat := 0x40170020
def UPD_MASK : Nat := 0x40170024
def SMP_STAT : Nat := 0x40190000
def SMP_CTL : Nat := 0x40190004
def SMP_DIRTY : Nat := 0x40190008
def SMP_FPOST : Nat := 0x4019000c
def SMP_FPEND : Nat := 0x40190010
def SMP_FSEQ : Nat := 0x40190014
def SMP_EVT : Nat := 0x40190020
def SMP_MASK : Nat := 0x40190024
def THM_T (n : Nat) : Nat := 0x40180000 + 4 * n
def THM_STAT : Nat := 0x40180040
def THM_LIM : Nat := 0x40180044
def THM_CTL : Nat := 0x40180048
def THM_GRACE : Nat := 0x4018004c
def THM_CNT : Nat := 0x40180050
def THM_EVT : Nat := 0x40180060
def THM_MASK : Nat := 0x40180064
/-- The base of block `i` (R348). -/
def block (i : Nat) : Nat := 0x40000000 + 0x10000 * i

end A

end Sys2Proof.Machine
end

