-- ==== Sys2Proof/Machine/Blocks.lean ====
section
/-!
DEFINITION. The state of the blocks beside their live registers: what each chapter gives a block that no register
shows. Times stand in ns of `State.now`; tables are lists of keys and values (`tabGet`).
-/

namespace Sys2Proof.Machine

/-- Where the power sequence stands: power-on reset (R34), waiting for SYSPLL, waiting to retry it (R50), running with
the keeper out of reset, or in the supply-loss sequence (R406). -/
inductive Phase where
  | por | sysPll | noRef | run | lossSave
  deriving DecidableEq, Repr

/-- Power, clocks, watchdog and the delayed resets of R54. -/
structure PwrState where
  phase : Phase := .por
  /-- `PORST_N` is low. -/
  porstLow : Bool := false
  /-- A power-on reset waits for the Sump row in progress (R54). -/
  porAfterRow : Bool := false
  /-- The end of the last power-on reset, for START_MS. -/
  porEnd : Nat := 0
  /-- The release, for the loss record. -/
  releaseAt : Nat := 0
  wdtArmed : Bool := false
  wdtMs : Nat := 2000
  wdtAt : Nat := 0
  /-- The chain and service transmitters are in electrical idle (R38, R407). -/
  txIdle : Bool := true
  /-- The steering correction of the VPLL in parts per 10^9 (R44). -/
  vidPpb : Int := 0
  /-- The levels of the interlock nets: `ILK_IN` reads low, and the `ILK_OUT` ball of a Warden Tile reads low (R327). -/
  ilkInLow : Bool := false
  ilkOutLow : Bool := false
  deriving DecidableEq, Repr

/-- What the start has done so far (R56 to R74). -/
structure BootState where
  fusesDone : Bool := false
  fuseBad : Bool := false
  sumpDone : Bool := false
  /-- The sections of the device's role are loaded and checked. -/
  loaded : Bool := false
  image : PlanImage := {}
  fw : FwImage := {}
  memReady : Bool := false
  memFault : Bool := false
  posLoaded : Bool := false
  position : PositionSection := {}
  /-- The octal DDR clock of the NVM in MHz; 0 while it is read in single-bit SPI mode at 25 MHz (R59). -/
  xspi : Nat := 0
  /-- A debug authorisation waits for the next start (R384). It outlasts resets, the power-on reset included (DESIGN CHOICE,
  log entry 64). -/
  debugNext : Bool := false
  deriving DecidableEq, Repr

/-- The pending set of a commit (R77): the target image of MODE 1, when the request was latched, and whether the
comparison for lateness is deferred (R78). -/
structure PendingCommit where
  vals : List (Nat × Word) := []
  target : Option Word := none
  latched : Nat := 0
  deferred : Bool := false
  /-- When a CANCEL was latched (R81): it withdraws the commit unless its boundary comes within 2 µs. -/
  cancelAt : Option Nat := none
  deriving DecidableEq, Repr

/-- The configuration block. -/
structure CommitState where
  pending : Option PendingCommit := none
  deriving DecidableEq, Repr

/-- One item of the health record: its changes, newest first, when it was first healthy since release (R448), and
whether the recovery hold has run since it became healthy (R24). -/
structure HealthRec where
  item : HealthItem
  hist : List (Nat × Bool) := []
  seen : Option Nat := none
  held : Bool := false
  deriving DecidableEq, Repr

/-- The placement governor. -/
structure GovState where
  items : List HealthRec := []
  graceOver : Bool := false
  /-- The first image of the announced variant (R23), and whether some failed item lies outside its cover set. -/
  pendFirst : Word := 0
  pendUncov : Bool := false
  /-- The variants put in force, newest first, each with its first image (R191). -/
  applied : List (Word × Nat) := []
  deriving DecidableEq, Repr

/-- A lane beside its registers. `gaps` are the character counts between the last code violations (R97), `since` the
characters since the last one. -/
structure LaneX where
  lost : Bool := false
  frozen : Option Nat := none
  gaps : List Nat := []
  since : Nat := 0
  /-- The running disparity that the receiver has computed, `true` positive; none before its first group (R91). -/
  rd : Option Bool := none
  /-- The transmitter's running disparity, negative when it leaves electrical idle (R91). -/
  txRd : Bool := false
  deriving DecidableEq, Repr

/-- A DisplayPort receiver beside its registers (R102 to R104). -/
structure DpX where
  rate : Nat := 0
  lanes : Nat := 0
  ever : Bool := false
  swing : Nat := 0
  pre : Nat := 0
  deriving DecidableEq, Repr

/-- The lane complex. -/
structure LanState where
  lanes : List (Nat × LaneX) := []
  dp : List (Nat × DpX) := []
  svcUp : Bool := false
  deriving DecidableEq, Repr

/-- A packet in a Tile's forward queue (R126). Amounts stand in sixteenths of a byte, in which every lane rate moves a whole
number in 1 ns. -/
structure FwdPkt where
  hdr : Hdr
  /-- The packet's bytes, those that have come and those that have left. -/
  total : Nat
  got : Nat := 0
  sent : Nat := 0
  /-- The outgoing copy has begun. -/
  begun : Bool := false
  /-- The incoming packet has ended, and passed steps 1 and 2 of R122 or not. -/
  ended : Option Bool := none
  /-- Its bytes, once it has ended. -/
  wire : List Byte := []
  deriving DecidableEq, Repr

/-- A chain port beside its registers. -/
structure PortX where
  /-- A usable marker has arrived since the port last left DOWN (R115). -/
  prxSeen : Bool := false
  /-- The TXMASK that the partner's last usable marker carried. -/
  partnerTx : Nat := 0
  /-- Lanes excluded for skew (R113). -/
  skewMask : Nat := 0
  markCount : Nat := 0
  /-- Step 4 failures in this frame (R139). -/
  authFrame : Nat := 0
  probing : Bool := false
  /-- The rate the probe of R140 uses in place of the plan rate. -/
  slow : Bool := false
  hopSeq : Nat := 0
  seqId : Nat := 0
  /-- The DREQ that awaits its answer: SEQID and T_TX (R306). -/
  dreq : Option (Nat × Nat) := none
  /-- The last 16 path-delay results, in 1/256 ns. -/
  delays : List Int := []
  /-- The instant, in ns, at which the packet in progress ends. -/
  busyUntil : Nat := 0
  wait : List OutPkt := []
  /-- The forward queue towards this port, oldest first, and the time up to which it has been worked out (R126). -/
  fq : List FwdPkt := []
  fqAt : Nat := 0
  /-- A packet is arriving on this port: it has started and not ended. -/
  rxPkt : Bool := false
  /-- A framing error fell inside it (R110); it was striped across a lane outside the own RXMASK (R116). -/
  rxBad : Bool := false
  rxStriped : Bool := false
  /-- The last usable SYNC of the port while it counts for the choice of R307. -/
  sync : Option SyncMsg := none
  deriving DecidableEq, Repr

/-- A packet waits or leaves in the forward queue towards the port. -/
def PortX.fwd (p : PortX) : Bool := !p.fq.isEmpty

/-- A de-duplication context (R129). -/
structure Dedup where
  keyEp : BitVec 6 := 0
  high : Word := 0
  seen : BitVec 64 := 0
  deriving DecidableEq, Repr

/-- A Tile as its Head sees it (R138): the last STATUS and the image at which it arrived. -/
structure TileSeen where
  status : StatusMsg
  present : Bool := true
  deriving DecidableEq, Repr

/-- A kept packet as R130 compares it with its other copy: stream, key epoch, SEQ, the port and the time. -/
structure Kept where
  key : Nat × Nat
  keyEp : BitVec 6
  seq : Word
  port : Nat
  at_ : Nat
  deriving DecidableEq, Repr

/-- The Plathaist link. -/
structure LnkState where
  ports : List (Nat × PortX) := []
  ctx : List ((Nat × Nat) × Dedup) := []
  /-- The packet kept last (R130). -/
  lastKept : Option Kept := none
  /-- The next SEQ of each stream the device sends, by kind of destination, and the key epoch it counts under. -/
  seq : List (Nat × (Nat × Nat)) := []
  own : List OutPkt := []
  /-- The Tiles on the chain, from ENUM (R134). -/
  tilesOnChain : Nat := 0
  /-- The number of the Head that sent the last ENUM recorded (R134). -/
  headNumber : Nat := 0
  extraStatus : Bool := false
  /-- The registers as STATUS reports them, at the last image boundary (R138). -/
  snap : StatusMsg := {}
  /-- The counts at the previous STATUS (R138). -/
  prev : List Nat := []
  tiles : List (Nat × TileSeen) := []
  framePass : Bool := false
  frameFail : Bool := false
  deriving DecidableEq, Repr

/-- One frame store of a source (R143, R145): whether it is complete, and the format, the sample depth in bits and the window
it was captured with. -/
structure Store where
  complete : Bool := false
  /-- Tells one captured frame from another. -/
  stamp : Nat := 0
  fmt : Nat := 0
  bits : Nat := 8
  x : Nat := 0
  y : Nat := 0
  w : Nat := 0
  h : Nat := 0
  deriving DecidableEq, Repr

/-- A source beside its registers. -/
structure SrcX where
  stores : List (Nat × Store) := []
  /-- The stores whose frames the memory has not acknowledged to their last byte, oldest first (R143). -/
  filling : List Nat := []
  stopAtEnd : Bool := false
  /-- The store the read engines took at the last latch line (R154). -/
  held : Option Nat := none
  /-- LANES or MAXRATE has changed since the receiver last trained (R146). -/
  changed : Bool := false
  /-- The time at which STATE left 2 (R165). -/
  holdFrom : Option Nat := none
  deriving DecidableEq, Repr

/-- A shutter input (R152): the level, the exposure in progress, the exposures of this frame and of the last. -/
structure ShutX where
  level : Bool := false
  openAt : Option Nat := none
  thisStart : Option Nat := none
  lastStart : Option Nat := none
  deriving DecidableEq, Repr

/-- Ingest and scan-out. -/
structure IngState where
  src : List (Nat × SrcX) := []
  shut : List (Nat × ShutX) := []
  /-- The last genlock instant received and the expected instants missed since (R148). -/
  glkLast : Option Nat := none
  glkMiss : Nat := 0
  /-- When the image in scan-out began (R150). -/
  imgAt : Option Nat := none
  /-- Lines of that image cut short by an underrun (R157): pipe, layer, canvas line and column. -/
  cuts : List (Nat × Nat × Nat × Nat) := []
  srIn : Option Nat := none
  srSum : Nat := 0
  srEntries : Nat := 0
  /-- Flips whose buffers are not retired, oldest first, by layer (R158). -/
  unretired : List (Nat × List Nat) := []
  /-- Layers that flipped or took a newer store in the image in scan-out, and their last signatures (R280). -/
  fresh : List Nat := []
  sigOf : List ((Nat × Nat) × Word) := []
  deriving DecidableEq, Repr

/-- Composition. -/
structure CmpState where
  /-- The coefficients by the address of `CMP_COEFADDR` (R169). -/
  coef : List (Nat × BitVec 12) := []
  /-- The rebuild completed at this time (R177). -/
  flowDone : Option Nat := none
  /-- The cache is in use (R177). -/
  flowShown : Bool := false
  /-- The half of the cache in use, and the layers and buffers that the rebuild in progress reads (R176, R178). -/
  flowHalf : Nat := 0
  flowReads : List (Nat × Nat) := []
  /-- Video layers whose hold time ran out, with the frame they held, and those that show it (R165). -/
  holdOut : List (Nat × Nat) := []
  holdShown : List Nat := []
  /-- The image that an own-panel buffer holds complete, by facet and half (R188). -/
  ownDone : List ((Nat × Nat) × Word) := []
  deriving DecidableEq, Repr

/-- An accepted Geode command that waits for its target (R181). -/
structure GeodePending where
  set : Nat
  counter : BitVec 64
  target : Word
  deriving DecidableEq, Repr

/-- The Geode layer. -/
structure GeoState where
  counter : BitVec 64 := 0
  pending : List GeodePending := []
  /-- The facet's last lit image was a Geode image (R184). -/
  wasGeode : BitVec 4 := 0
  patterns : List (List Byte) := []
  deriving DecidableEq, Repr

/-- An image buffer of the pool (R193): tag and HOLDS stand in `DEC_BUF`. -/
structure DecBuf where
  present : BitVec 32 := 0
  depth : List (Nat × Nat) := []
  clean : BitVec 1024 := 0
  /-- 192 stored samples by block position `32 * slice + block`. -/
  pix : List (Nat × List Nat) := []
  sig : Word := 0
  deriving DecidableEq, Repr

/-- The image of a facet that is arriving (R213). -/
structure FacetImg where
  image : Word := 0
  any : Bool := false
  dest : Option Nat := none
  geode : Bool := false
  geodeFail : Bool := false
  plain : BitVec 32 := 0
  deriving DecidableEq, Repr

/-- A slice that waits to be decoded (R212). -/
structure SliceIn where
  hdr : Hdr
  payload : List Byte
  deriving DecidableEq, Repr

/-- The decoder. -/
structure DecState where
  bufs : List (Nat × DecBuf) := []
  img : List (Nat × FacetImg) := []
  staging : List SliceIn := []
  everSlice : BitVec 4 := 0
  handed : List (Nat × Word) := []
  litImage : Word := 0
  deriving DecidableEq, Repr

/-- Where a slice's payload stands: its engine has not finished it, it is there to send, or its job was dropped (R218, R219). -/
inductive PayState where
  | coding | ready | dropped
  deriving DecidableEq, Repr

/-- A SLICE payload (R235): its image and its bytes. -/
structure SlicePayload where
  image : Word := 0
  bytes : List Byte := []
  state : PayState := .dropped
  deriving DecidableEq, Repr

/-- A block job in an engine's queue (R217): when it became ready, its place in the plan, the boundary of its image, and what
its coding came to: floor mode, REF 15. -/
structure EncJob where
  job : BlockJob
  ready : Nat
  place : Nat
  imageAt : Nat
  floor : Bool
  intra : Bool
  /-- When an engine took it. -/
  begun : Nat := 0
  deriving DecidableEq, Repr

/-- The image of a facet that the encoder codes: whether it is Packed and has REF 15 (R231), and how many of its jobs were
created and how many of those dropped. -/
structure EncImage where
  image : Word
  packed : Bool
  intra : Bool
  made : Nat := 0
  dropped : Nat := 0
  deriving DecidableEq, Repr

/-- The encoder. Payloads stand by facet, Tile and slice, the slices of odd frame counts from 32 on. -/
structure EncState where
  queue : List (Nat × List EncJob) := []
  running : List (Nat × EncJob) := []
  /-- The block jobs in flight, each with the copies of its packet that have not left (R218). -/
  inflight : List (BlockJob × Nat) := []
  payloads : List ((Nat × Nat × Nat) × SlicePayload) := []
  /-- The vectors chosen in a slice of the image in coding, by facet, Tile and slice (R225). -/
  vectors : List ((Nat × Nat × Nat) × Word × List (Nat × Int × Int)) := []
  nb : List (Nat × Nat) := []
  /-- The image of each facet in coding, the last Packed one that was coded, and how many were since the encoder started. -/
  image : List (Nat × EncImage) := []
  lastCoded : List (Nat × Word) := []
  coded : List (Nat × Nat) := []
  /-- CORE cycles each engine spent coding in this frame. -/
  busy : List (Nat × Nat) := []
  /-- Facets whose SLICE packets a standby holds back for a signature difference (R338). -/
  held : BitVec 4 := 0
  deriving DecidableEq, Repr

/-- What a slot takes at its preload (R245, R253, R267, R273). -/
structure SlotX where
  facet : Nat
  /-- What it shows: 0 the lit buffer, 1 the stored pattern, 2 the fault colour (R184). -/
  shown : Nat := 0
  /-- The buffer taken: of the pool, or an own-panel buffer. -/
  buf : Nat := 15
  dsig : Word := 0
  bank : Nat := 0
  cur : Word := 0
  cgrp : List Word := []
  chadj : List Word := []
  shorts : List Nat := []
  /-- The current codes of the sinks, by sink index (R251). -/
  codes : List Nat := []
  /-- The slot lights its lamps; a slot of a facet that is not shown runs dark. -/
  lit : Bool := false
  preload : Bool := true
  /-- Line gates have been driven in it (R254). -/
  driven : Bool := false
  deriving DecidableEq, Repr

/-- The lamp engine. Blank causes: the VPLL, the rail, IREF, a step of TB0, the failed duty and stops. -/
structure LmpState where
  slot : Option SlotX := none
  /-- Facets whose preload fell into another slot (R246). -/
  waiting : List Nat := []
  vidDark : Bool := false
  failDark : Bool := false
  debugDark : Bool := false
  softPend : Bool := false
  /-- TB0 has been LOCKED at least once since the start (R309). -/
  tb0Once : Bool := false
  tripHard : Bool := false
  lossHard : Bool := false
  lineOrder : List Nat := []
  /-- The gate of the line in progress, and the pieces of its window as (plane, ticks). -/
  gate : Option Nat := none
  pieces : List (Nat × Nat) := []
  /-- The latched grey values of the line in progress, by sink index (R239). -/
  latch : List Nat := []
  /-- The values that the column chains have loaded for the next line, left-aligned to 16 bits, by sink index (R239). -/
  chain : List Nat := []
  /-- Signatures of the facet's previous slot: the buffer's decode signature and LSIG (R279). -/
  prevSig : List (Nat × (Word × Word)) := []
  deriving DecidableEq, Repr

/-- A lamp's entry of the fault map beside its state (R272). -/
structure LampX where
  opens : Nat := 0
  shorts : Nat := 0
  deriving DecidableEq, Repr

/-- A SEAL or LOAD in progress (R264, R265). -/
structure SealJob where
  bank : Bool
  /-- The CRC of the panel record, for a LOAD; a SEAL compares with `CORR_MCRC`. -/
  load : Option Word
  deriving DecidableEq, Repr

/-- What a probe step drives (R276): the gate of its row, the sinks of its targets, and their current code. -/
structure ProbeStep where
  row : Nat
  sinks : List Nat
  code : Nat
  deriving DecidableEq, Repr

/-- Correction and diagnosis. The matrix banks lie in the memory behind the bus (R261). -/
structure CorrState where
  /-- Lamps in state SHORT (R273). -/
  shorts : List Nat := []
  factory : FactoryRegion := {}
  sealing : List SealJob := []
  lamps : List (Nat × LampX) := []
  /-- Targets of the running sweep: all lamps, or the unmeasured ones (R275). -/
  probeAll : Bool := false
  probeTargets : Nat := 0
  /-- The last probe step that ran (R276). -/
  probe : Option ProbeStep := none
  hrMin : List (Nat × Nat) := []
  deriving DecidableEq, Repr

/-- The rail controller. The ramped set-point stands in 1/8,000 mV (an update moves it by the rate in tenths of mV/µs
times the update period in CORE cycles); the PID states to 16 fractional bits. -/
structure RailState where
  ramp : Nat := 0
  /-- The last errors and the law's stored outputs, newest first. -/
  e : List Int := []
  u : List Int := []
  integ : Int := 0
  deriv : Int := 0
  uTot : Nat := 0
  /-- The law's output and the repetitive controller's at the last update, for the trace. -/
  uRaw : Int := 0
  rcNow : Int := 0
  /-- The law in force: 0 2P2Z, 1 3P3Z, 2 PID. -/
  law : Nat := 0
  /-- The phase whose turn begins next. -/
  phase : Nat := 0
  duty : List (Nat × Nat) := []
  /-- For how many CORE cycles each `PH` stays high in the period it has begun (R282); a phase not listed stays low. -/
  pulse : List (Nat × Nat) := []
  bal : List (Nat × Int) := []
  /-- Phases whose pulse was cut short in this period (R287). -/
  cut : BitVec 4 := 0
  /-- The repetitive tables by `256 * facet + cell`. -/
  rc : List (Nat × Int) := []
  feTicks : Nat := 0
  ovCount : Nat := 0
  /-- Updates since the ramp of state 1 ended, that update included; 0 before. -/
  rampDone : Nat := 0
  /-- Consecutive updates within the following-error limit. -/
  steady : Nat := 0
  segMin : Option Nat := none
  frameMin : Option Nat := none
  lineHr : Option Nat := none
  /-- The last 64 samples of `AUXREF`, newest first, and how many of the last samples or periods were valid. -/
  aux : List Nat := []
  auxGood : Nat := 0
  /-- The trace's samples, newest first, each of four channels. -/
  trace : List (List Nat) := []
  traceDiv : Nat := 0
  traceLeft : Nat := 0
  deriving DecidableEq, Repr

/-- A time base (R301): its value at the instant `ref` (ns of `State.now`), modulo 2^32 ns, in units of 2^-40 of 1/256 ns:
the hidden fraction that makes the long-run rate exact. `good` and `bad` count SYNC packets within and beyond the bounds
of R308; `integ` is the servo's integral. -/
structure TbX where
  base : Nat := 0
  ref : Nat := 0
  good : Nat := 0
  bad : Nat := 0
  integ : Int := 0
  deriving DecidableEq, Repr

/-- The IEEE 1588 ordinary clock (R317): the masters heard, by sender; the Sync whose origin time is still to come, with its
arrival; the last sync's origin and arrival; the delay request on the way, with its departure; and twice the path delay. Times
are in 1/256 ns, an origin as the master counts it, the others as TB3 does. -/
structure PtpState where
  masters : List PtpMaster := []
  wait : Option (BitVec 16 × Nat) := none
  last : Option (Nat × Nat) := none
  asked : Option (BitVec 16 × Nat) := none
  seq : BitVec 16 := 0
  delay2 : Int := 0
  deriving DecidableEq, Repr

/-- Chain time. -/
structure TimState where
  ptp : PtpState := {}
  tb : List (Nat × TbX) := []
  /-- TIME runs, and since when. -/
  running : Bool := false
  startAt : Nat := 0
  /-- The followed port, and the port that may take its place with the SYNC packets for which it has held (R307). -/
  follow : Option Nat := none
  challenger : Option (Nat × Nat) := none
  /-- The last SYNC of the followed port, and whether it announces a frame not yet begun (R315). -/
  ann : Option SyncMsg := none
  annFresh : Bool := false
  /-- The frame boundary in TB0 units of 1/256 ns, the frame period and the facet offsets of the frame in 1/16 ns, and
  the offsets of the next frame in lines, on a Head. -/
  fb : Nat := 0
  period : Nat := 0
  ofs : List Nat := []
  nextLines : List Nat := []
  /-- The current image sequence number, once a boundary has given one. -/
  image : Option Word := none
  frameAt : Nat := 0
  /-- TB0 has been LOCKED for `time.settle_s` without interruption. -/
  settled : Bool := false
  wraps : Word := 0
  /-- The exposure starts counted for TB1 and TB2 (R313). -/
  shutRef : List (Nat × Nat) := []
  /-- The standby has taken its frame count from the owner (R337). -/
  frameTaken : Bool := false
  deriving DecidableEq, Repr

/-- A state copy being assembled (R336). -/
structure CopyIn where
  epoch : Word
  parts : Nat
  got : List Nat := []
  /-- The bodies that have arrived, by part. -/
  bodies : List (Nat × List Byte) := []
  last : CopyPart
  deriving DecidableEq, Repr

/-- Redundancy. -/
structure RedState where
  /-- Consecutive HEARTs since the partner was lost (R323), and whether it has been lost. -/
  back : Nat := 0
  lostOnce : Bool := false
  /-- The pair identifiers have been compared (R321). -/
  pairSeen : Bool := false
  /-- A first state copy has been applied (R331). -/
  hadCopy : Bool := false
  copyIn : Option CopyIn := none
  /-- The roster and the chain keys of the last copy sent (R335). -/
  copied : Option (List RosterEntry × List ((Nat × Nat) × Key)) := none
  copyReady : Option CopyIn := none
  /-- A claim that waits for its settle time, and whether it is in its second wait (R328). -/
  claim : Option Bool := none
  /-- The end of the ILK lease and the last write of ALIVE (R330, R334). -/
  leaseAt : Nat := 0
  aliveAt : Nat := 0
  yieldOn : Bool := false
  /-- The partner's HEART as last received. -/
  peerHeart : Option HeartMsg := none
  /-- The stream signatures of the last completed frame (R322), the owner's frame last compared, and the consecutive
  frames that differ and agree, by facet (R338). -/
  sigFrame : Word := 0
  sigs : List Word := []
  sigSeen : Option Word := none
  sigBad : List (Nat × Nat) := []
  sigGood : List (Nat × Nat) := []
  /-- A Warden's view (R325): the last HEART of each end, the last one with PEER set of each end, owner, term and pair. -/
  seenA : Option HeartMsg := none
  seenB : Option HeartMsg := none
  vouchA : Option Nat := none
  vouchB : Option Nat := none
  owner : Nat := 0
  term : Word := 0
  wpair : Option (BitVec 64) := none
  /-- An unpaired Head that lost its MPLL behaves as a failed Head (R45). -/
  dead : Bool := false
  deriving DecidableEq, Repr

/-- Memories behind the core bus (R345) and the last access's answer. -/
structure CoreState where
  mem : List (Nat × Byte) := []
  /-- 64-bit words whose code is uncorrectable, by word address (R346). -/
  badWords : List Nat := []
  deriving DecidableEq, Repr

/-- A management session (R380): its key, the highest counter accepted and those seen below it, and the roles of the
other side. -/
structure Session where
  id : Nat
  key : Key
  high : Nat := 0
  seen : BitVec 65 := 0
  arbiter : Bool := false
  manage : Bool := true
  deriving DecidableEq, Repr

/-- Security. Chain keys by chain and epoch. -/
structure SecState where
  /-- The private half of the identity key (R365); none under a debug unlock (R384). -/
  identity : Option Nat := none
  keys : List ((Nat × Nat) × Key) := []
  /-- Key epochs to erase, each at the end of an image (R367). -/
  eraseAt : List (Nat × Word) := []
  ek : Option Key := none
  pairKey : Option Key := none
  /-- The own ephemeral private key while its exchange runs, and, at a Head, that an answer of the partner is awaited. -/
  share : Option Nat := none
  shareAt : Nat := 0
  pairWait : Bool := false
  /-- Keys wrapped under the pair key (R372). -/
  pairWraps : Nat := 0
  /-- The 32-byte challenge for a debug authorisation (R384). -/
  challenge : Option Key := none
  /-- The ephemeral public key of the partner that this device has answered: it comes on every shared ring (R374). -/
  peerPub : List Byte := []
  /-- The partner said that it holds the chain keys of the shared rings (R374, R451). -/
  peerHolds : Bool := false
  sessions : List Session := []
  sessionNext : Nat := 0
  roster : List RosterEntry := []
  rekeyOn : Bool := false
  /-- The image in which the current epoch began (R377). -/
  epochAt : Word := 0
  entropyBad : Bool := false
  /-- A restarted Head of a pair sends none of its own streams before the image of a rekey (R451). -/
  quiet : Bool := false
  deriving DecidableEq, Repr

/-- The update block (R393 to R400). The package itself, its manifest and blocks, stands in the spare bank of the NVM. -/
structure UpdState where
  /-- The registers show the Sump record, and a save takes them back into it (R401). -/
  filled : Bool := false
  /-- Blocks programmed and read back equal. -/
  held : List Nat := []
  /-- Blocks being programmed, oldest first. -/
  prog : List (Nat × List Byte) := []
  erased : Bool := false
  verifying : Bool := false
  /-- The target image of an accepted ACTIVATE, and its write in progress. -/
  activate : Option Word := none
  writing : Bool := false
  /-- The chain port that the package comes from; none for the service port (R395, R397). -/
  source : Option Nat := none
  /-- The package whose blocks have been seen, and which (R396). -/
  seenPkg : BitVec 64 := 0
  seen : List Nat := []
  /-- Blocks that a partner downstream lacks and this device passes on when they come (R397). -/
  wanted : List Nat := []
  /-- A Head has sent block 0 of a pass and waits to send the rest (R395). -/
  preparing : Bool := false
  /-- A confirmation waits for its record to be written in the Sump (R404, R414). -/
  confirming : Bool := false
  deriving DecidableEq, Repr

/-- The update record that the Sump carries across starts (R390, R401). -/
structure UpdRecord where
  valid : Bool := false
  pkg : BitVec 64 := 0
  spare : Nat := 0
  vcode : Nat := 0
  starts : Nat := 0
  confirmed : BitVec 64 := 0
  oldPkg : BitVec 64 := 0
  cause : Nat := 0
  late : Bool := false
  held : List Nat := []
  confirmedIface : Option Nat := none
  trialIface : Option Nat := none
  /-- The device fell back, and no start has shown it yet. -/
  fell : Bool := false
  deriving DecidableEq, Repr

/-- Record 1 (R412): the redundancy and Geode records (R182, R342) and the thermal summary. -/
structure SysRecord where
  term : Word := 0
  duty : Nat := 0
  copy : Word := 0
  geodeSet : Nat := 31
  geodeCounter : BitVec 64 := 0
  /-- The thermal summary (R412): `THM_STAT` and `THM_CNT` as the last save found them. -/
  thermStat : Word := 0
  thermCnt : Word := 0
  deriving DecidableEq, Repr

/-- The loss record (R418), field by field. -/
structure LossRecord where
  saves : Nat := 0
  cause : Nat := 0
  rows : Nat := 0
  dip : Nat := 0
  flags : Nat := 0
  ckeepMv : Nat := 0
  keepCycles : Nat := 0
  tb0 : Word := 0
  frame : Word := 0
  duty : Nat := 0
  thermal : Nat := 0
  deriving DecidableEq, Repr

/-- The hidden tag of a row in the Sump (R413): a write sequence and a CRC-32 over its 512 bytes. -/
structure RowTag where
  seq : Word := 0
  crc : Word := 0
  deriving DecidableEq, Repr

/-- One copy of a record in the Sump (R413): the tags of its rows, by row, and its bytes, at the addresses that they have in
the staging. -/
structure SumpCopy where
  tags : List (Nat × RowTag) := []
  bytes : List (Nat × Byte) := []
  deriving DecidableEq, Repr

/-- What the save engine is writing: rows still to come as (record, row), the copy it writes, and what ends it. -/
inductive SaveKind where
  | loss | reset (por : Bool) | record (r : Nat)
  deriving DecidableEq, Repr

/-- A write of the save engine in progress (R407, R414, R418). -/
structure SaveX where
  kind : SaveKind
  rows : List (Nat × Nat)
  done : Nat := 0
  cut : Bool := false
  deriving DecidableEq, Repr

/-- The Sump (R411 to R418). The staging and the copies are bytes. `loss`, `upd` and `sys` are the working values of the
records that the device itself fills: the keeper and the save engine read them from the staging at the start and put their
bytes there as they fill them. -/
structure SumpState where
  staging : List (Nat × Byte) := []
  /-- Copies by record, copy A before copy B. -/
  copyA : List (Nat × SumpCopy) := []
  copyB : List (Nat × SumpCopy) := []
  loss : LossRecord := {}
  lossSaved : LossRecord := {}
  upd : UpdRecord := {}
  sys : SysRecord := {}
  /-- Posted fault slots, oldest first, and the ring's entries, newest last, each 64 bytes. -/
  posts : List Nat := []
  ring : List (Nat × List Byte) := []
  ringNext : Nat := 0
  save : Option SaveX := none
  lastSaved : Bool := false
  lastCut : Bool := false
  deriving DecidableEq, Repr

/-- A temperature sensor beside its register (R421 to R423, R427). -/
structure SensorX where
  converting : Bool := false
  good : Nat := 0
  /-- Readings of the last window, newest first, with their times. -/
  past : List (Nat × Int) := []
  hot : Nat := 0
  deriving DecidableEq, Repr

/-- Thermal protection. -/
structure ThmState where
  sensors : List (Nat × SensorX) := []
  raw : Nat := 255
  graceAt : Option Nat := none
  enforcing : Bool := false
  tripped : Bool := false
  /-- A grace timer has been started since the demand last stood at 255. -/
  graced : Bool := false
  /-- What R424 gives for the Tiles, as the owner Head works it out from their reports (R425): raw and demand by
  identifier; and the limit last sent to each group. -/
  raws : List (Nat × Nat) := []
  demands : List (Nat × Nat) := []
  sent : List (Nat × Nat) := []
  deriving DecidableEq, Repr

end Sys2Proof.Machine
end

