-- ==== Sys2Proof/Machine/State.lean ====
section
/-!
DEFINITION. The machine's state (all the spec gives the device), the reasons a command can stop, and the state after
reset.
-/

namespace Sys2Proof.Machine

/-- The reasons a command can end in a fault. -/
inductive Fault where
  /-- Raised by nothing: the spec gives every command an effect, and a refused access is the bus error of R344, which is
  a next state. Safe. -/
  | noEffect
  deriving DecidableEq, Repr

/-- The reasons a command can be refused. -/
inductive Refusal where
  /-- Raised by the arm of a command that has no meaning yet. Safe. -/
  | notModelled (mnemonic : String)
  deriving DecidableEq, Repr

/-- The answer of the last bus access: the data a read returned and whether it completed with a bus error (R1, R344). -/
structure BusReply where
  data : BitVec 64 := 0
  error : Bool := false
  deriving DecidableEq, Repr

/-- The device. `regs` holds the live registers (for a staged field its staging value, R6) and `active` the active
values of staged fields (R77), both canonical: an address not listed reads as the register's reset value. -/
structure State where
  pending : List Instr
  now : Nat
  /-- Advanced by each random draw and each value the spec leaves open; the model's own (no register). -/
  fresh : Nat
  bus : BusReply
  regs : List (Nat × Word)
  active : List (Nat × Word)
  fuses : Fuses
  shadow : Fuses
  /-- The key array (R364). -/
  kar : KeyArray
  nvm : Nvm
  plan : Plan
  pwr : PwrState
  boot : BootState
  cfg : CommitState
  gov : GovState
  lan : LanState
  lnk : LnkState
  ing : IngState
  cmp : CmpState
  geo : GeoState
  dec : DecState
  enc : EncState
  lmp : LmpState
  corr : CorrState
  rail : RailState
  tim : TimState
  red : RedState
  core : CoreState
  sec : SecState
  upd : UpdState
  smp : SumpState
  thm : ThmState
  /-- What the device has put on its outputs, newest first. -/
  out : List Emission
  deriving DecidableEq, Repr

/-- The device in power-on reset (R51): every register at its Reset column, every supply in range, no command waiting.
The fuses are unblown and the external NVM is absent until a command places one (DESIGN CHOICE, log entry 2). -/
def State.reset : State :=
  { pending := [], now := 0, fresh := 0, bus := {}, regs := [], active := [], fuses := {}, shadow := {}, kar := {},
    nvm := {}, plan := {}, pwr := {}, boot := {}, cfg := {}, gov := {}, lan := {}, lnk := {}, ing := {}, cmp := {}, geo := {},
    dec := {}, enc := {}, lmp := {}, corr := {}, rail := {}, tim := {}, red := {}, core := {},
    sec := {}, upd := {}, smp := {}, thm := {}, out := [] }

end Sys2Proof.Machine
end

