-- ==== Sys2Proof/Config.lean ====
section
/-!
DEFINITION. The values that the spec leaves open: opaque constants, so that no proof can see a value of theirs.
-/

namespace Sys2Proof

/-- The n-th random draw of the DRBG (R367): a key, a share, a challenge. A free value. -/
opaque Config.draw : Nat → Key

/-- The n-th choice that the spec leaves open. A free value. -/
opaque Config.free : Nat → Nat

/-- Whether a `PORST_N` low level of a width in ns between 100 ns and 1 µs is recognised (R431). A free value. -/
opaque Config.porstSeen : Nat → Bool

/-- The bytes of a payload whose coding the spec does not give (R121). A free value. -/
opaque Config.bodyBytes : Machine.Body → List Byte

/-- The bytes of the records of a state copy (R335), whose coding the spec does not give. A free value. -/
opaque Config.copyBytes : Machine.CopyRecords → List Byte

/-- Where the entry of a table of R172 lies within the error that the spec allows it: transfer, SDR white, HLG gamma in
thousandths, HLG peak, colour, the three codes. A free value. -/
opaque Config.linearise : List Nat → Nat

/-- The same for the encoding of R174: transfer, SDR white, gamma, peak, colour, the three 24-bit linear values. -/
opaque Config.encodeTf : List Nat → Nat

/-- The same for the built-in curves of R249: curve, depth, white in cd/m², gamma, colour, the three codes. -/
opaque Config.curve : List Nat → Nat

/-- The encoder's measure of a coding (R226): the spec keeps it to itself. A free value. -/
opaque Config.encCost : List Nat → Nat

/-- The starting quantiser of a slice, a function of its input and budget (R232); the QP that a block's residual is coded with;
the INTRA prediction, as a place among those allowed; the colour of a FLAT block. Free values. -/
opaque Config.encQbase : List Nat → Nat
opaque Config.encQp : List Nat → Nat
opaque Config.encPred : List Nat → Nat
opaque Config.encFlat : List Nat → Nat

/-- The level that the engine's quantiser gives a coefficient: QP, scan index, coefficient. A free value. -/
opaque Config.encLevel : List Int → Int

/-- The steering that the PI servo of R308 and R311 gives: bandwidth in hundredths of a Hz, offset in 1/256 ns and
integral. The spec gives its bandwidth, not its coefficients. A free value. -/
opaque Config.servoRate : Nat → Int → Int → Int

/-- A sample of a captured source frame: frame stamp, component, column, line. The picture comes from outside. -/
opaque Config.sample : List Nat → Nat

/-- The payload length of the packet types whose layout the spec does not give, by type code (R121). A free value. -/
opaque Config.payloadLen : Nat → BitVec 16

/-- Which neighbour a rounding that the spec does not state takes, for a numerator and a denominator that does not divide
it. A free value. -/
opaque Config.roundDiv : Int → Int → Int

/-- The bytes of the boot ROM, by address (R345). A free value. -/
opaque Config.rom : Nat → Byte

/-- The bytes of external memory fitted to the board (R347). A free value. -/
opaque Config.memFitted : Nat

/-- Two blocks of a package lie in one erase sector of the NVM (R396). A free value. -/
opaque Config.sameSector : Nat → Nat → Bool

end Sys2Proof
end

