-- ==== Sys2Proof/Machine/Line.lean ====
section
/-!
DEFINITION. Characters on a serial lane (R91, R92, R110, R114): the 8b/10b code with running disparity, and the columns of a
packet over the lanes of a mask.

The spec names the clause 36 code table of IEEE 802.3 and does not print it: the table here is that of the standard
(PRESUMED, log entry 66). A group is written with bit `a`, the first on the line, as its most significant bit.
-/

namespace Sys2Proof.Machine

/-- A character with its control flag. -/
structure LineChar where
  ctl : Bool
  byte : Byte
  deriving DecidableEq, Repr

/-- A data character. -/
def LineChar.data (b : Byte) : LineChar := ⟨false, b⟩

/-- A control character by its code. -/
def LineChar.k (b : Byte) : LineChar := ⟨true, b⟩

/-- The special characters of R110: comma of the idle pair, marker, start, end, stomp, fill. -/
def kComma : LineChar := .k 0xBC#8
def kMarker : LineChar := .k 0x3C#8
def kStart : LineChar := .k 0xFB#8
def kEnd : LineChar := .k 0xFD#8
def kStomp : LineChar := .k 0xFE#8
def kFill : LineChar := .k 0xF7#8

/-- The control characters that a chain lane knows (R110). -/
def linkControls : List LineChar := [kComma, kMarker, kStart, kEnd, kStomp, kFill]

/-! ### The code table -/

/-- The 6-bit sub-block of the five low bits at negative disparity. -/
def code6 (x : Nat) : Nat :=
  [0b100111, 0b011101, 0b101101, 0b110001, 0b110101, 0b101001, 0b011001, 0b111000,
   0b111001, 0b100101, 0b010101, 0b110100, 0b001101, 0b101100, 0b011100, 0b010111,
   0b011011, 0b100011, 0b010011, 0b110010, 0b001011, 0b101010, 0b011010, 0b111010,
   0b110011, 0b100110, 0b010110, 0b110110, 0b001110, 0b101110, 0b011110, 0b101011].getD x 0

/-- The 4-bit sub-block of the three high bits at negative disparity; `alt` chooses the alternate form of 7. -/
def code4 (y : Nat) (alt : Bool) : Nat :=
  if y = 7 then (if alt then 0b0111 else 0b1110) else [0b1011, 0b1001, 0b0101, 0b1100, 0b1101, 0b1010, 0b0110].getD y 0

/-- The number of 1 bits among the low `w` bits. -/
def onesOf (w v : Nat) : Nat := ((List.range w).filter (fun i => v.testBit i)).length

/-- A sub-block as it is sent at a disparity (`true` positive): an unbalanced one, or one of the two balanced ones with two
forms, is complemented at positive disparity. -/
def subBlock (w v : Nat) (rd : Bool) : Nat :=
  if rd && (2 * onesOf w v != w || v == 0b111000 || (w == 4 && v == 0b1100)) then 2 ^ w - 1 - v else v

/-- The disparity after a sub-block. -/
def rdAfter (w v : Nat) (rd : Bool) : Bool := if 2 * onesOf w v = w then rd else !rd

/-- The groups of the twelve control characters at negative disparity. -/
def ctlCodes : List (Byte × Nat) :=
  [(0x1C#8, 0b0011110100), (0x3C#8, 0b0011111001), (0x5C#8, 0b0011110101), (0x7C#8, 0b0011110011),
   (0x9C#8, 0b0011110010), (0xBC#8, 0b0011111010), (0xDC#8, 0b0011110110), (0xFC#8, 0b0011111000),
   (0xF7#8, 0b1110101000), (0xFB#8, 0b1101101000), (0xFD#8, 0b1011101000), (0xFE#8, 0b0111101000)]

/-- The alternate form of 7 is used (it keeps runs of five equal bits out). -/
def altSeven (x : Nat) (rd4 : Bool) : Bool := if rd4 then [11, 13, 14].contains x else [17, 18, 20].contains x

/-- A character encoded at a running disparity: its group and the disparity after it. -/
def encode10 (rd : Bool) (c : LineChar) : Nat × Bool :=
  if c.ctl then
    let g := ((ctlCodes.find? (fun p => p.1 == c.byte)).map (fun p => p.2)).getD 0
    (if rd then 1023 - g else g, if 2 * onesOf 10 g = 10 then rd else !rd)
  else
    let x := c.byte.toNat % 32
    let y := c.byte.toNat / 32
    let s6 := subBlock 6 (code6 x) rd
    let r4 := rdAfter 6 s6 rd
    let s4 := subBlock 4 (code4 y (altSeven x r4)) r4
    (16 * s6 + s4, rdAfter 4 s4 r4)

/-- Every character that the table holds and whose group at the disparity is the given one. -/
def decodeAt (rd : Bool) (g : Nat) : Option LineChar :=
  match ctlCodes.find? (fun p => (encode10 rd (.k p.1)).1 == g) with
  | some p => some (.k p.1)
  | none =>
    match (List.range 32).find? (fun x => subBlock 6 (code6 x) rd == g / 16) with
    | none => none
    | some x =>
      ((List.range 8).map (fun y => LineChar.data (BitVec.ofNat 8 (x + 32 * y)))).find? (fun c => (encode10 rd c).1 == g)

/-- The disparity that a received group itself shows (R91): that of its last unbalanced sub-block, or the one before it. -/
def groupRd (g : Nat) (rd : Bool) : Bool :=
  let sub := fun (w v : Nat) (r : Bool) =>
    if w < 2 * onesOf w v then true else if 2 * onesOf w v < w then false
    else if w = 6 then (if v = 0b000111 then true else if v = 0b111000 then false else r)
    else (if v = 0b0011 then true else if v = 0b1100 then false else r)
  sub 4 (g % 16) (sub 6 (g / 16) rd)

/-- A group decoded against the running disparity (R91): the character, none for a code violation, and the disparity after
it. A receiver that has not computed a disparity yet takes the one at which the group is in the table (DESIGN CHOICE, log
entry 66). -/
def decode10 (rd : Option Bool) (g : Nat) : Option LineChar × Bool :=
  match rd with
  | some r =>
    match decodeAt r g with
    | some c => (some c, (encode10 r c).2)
    | none => (none, groupRd g r)
  | none =>
    match decodeAt false g with
    | some c => (some c, (encode10 false c).2)
    | none =>
      match decodeAt true g with
      | some c => (some c, (encode10 true c).2)
      | none => (none, groupRd g false)

/-- Characters encoded one after another. -/
def encodeLine (rd : Bool) : List LineChar → List Nat × Bool
  | [] => ([], rd)
  | c :: rest =>
    let g := encode10 rd c
    let t := encodeLine g.2 rest
    (g.1 :: t.1, t.2)

/-! ### Columns (R110, R111, R114) -/

/-- A packet's characters (R114): /S/, its bytes, /T/ or, where the sender knows it to be bad, /V/. -/
def packetChars (l : List Byte) (bad : Bool) : List LineChar :=
  kStart :: (l.map LineChar.data ++ [if bad then kStomp else kEnd])

/-- The lanes of a mask in ascending order. -/
def maskLanes (mask : Nat) : List Nat := [0, 1, 2, 3].filter (fun k => mask.testBit k)

/-- Columns of a packet over `w` lanes: each takes the next `w` characters, the last is filled with /F/ (R114). -/
def columns (w : Nat) : Nat → List LineChar → List (List LineChar)
  | 0, _ => []
  | n + 1, l =>
    if l.isEmpty then []
    else (l.take w ++ List.replicate (w - l.length) kFill) :: columns w n (l.drop w)

/-- What a packet puts on each lane of a mask (R114). -/
def laneColumns (mask : Nat) (l : List LineChar) : List (Nat × List LineChar) :=
  let lanes := maskLanes mask
  let cols := columns lanes.length l.length l
  (List.range lanes.length).map (fun j => (lanes.getD j 0, cols.map (fun c => c.getD j kFill)))

/-- The columns that a packet of some characters takes over some lanes. -/
def columnCount (chars lanes : Nat) : Nat := (chars + lanes - 1) / lanes

/-- The characters of a lane marker (R112). -/
def markerChars (m : LaneMarker) : List LineChar := [kMarker, .data m.m0, .data m.m1]

end Sys2Proof.Machine
end

