-- ==== Sys2Proof/Machine/Wire.lean ====
section
/-!
DEFINITION. What the device's packets hold on the wire: the payload layouts of ANNOUNCE (R121), STATUS (R138), SYNC (R305),
ENUM (R134), HEART and verdict (R322, R324) and state copies (R335), and a sent packet as bytes and as characters on its lanes
(R114, R117).
-/

namespace Sys2Proof.Machine

/-- Flags as a byte, bit 0 first. -/
def flagByte (l : List Bool) : Byte := BitVec.ofNat 8 (l.foldr (fun b a => b.toNat + 2 * a) 0)

/-- A time of 1/256 ns as its ns in four bytes and its fraction in one (R305). -/
def timeBytes (t : Nat) : List Byte := bytesLe (t / 256) 4 ++ [BitVec.ofNat 8 t]

/-- The 64 bytes of a STATUS (R138). -/
def StatusMsg.bytes (m : StatusMsg) : List Byte :=
  padTo 64 (bytesLe m.bootStat.toNat 4 ++ bytesLe m.pstatA.toNat 4 ++ bytesLe m.pstatB.toNat 4 ++ bytesLe m.errA.toNat 4 ++
    bytesLe m.errB.toNat 4 ++ bytesLe m.dedup.toNat 4 ++ bytesLe m.concealed.toNat 4 ++ bytesLe m.lampFaults.toNat 4 ++
    bytesLe m.hottest.toNat 2 ++ [m.suspect, m.variant] ++ bytesLe m.epoch.toNat 4 ++ bytesLe m.lastImage.toNat 4 ++
    bytesLe m.lnkId.toNat 4)

/-- The 32 bytes of an ENUM (R134). -/
def EnumMsg.bytes (m : EnumMsg) : List Byte :=
  padTo 32 (bytesLe m.wallId.toNat 8 ++ bytesLe m.planSerial.toNat 4 ++ [m.head, m.chain, m.tiles, flagByte [m.endB],
    BitVec.ofNat 8 m.hops])

/-- The 64 bytes of a SYNC, DREQ or DRESP (R305). -/
def SyncMsg.bytes (m : SyncMsg) : List Byte :=
  padTo 64 ([BitVec.ofNat 8 (m.kind % 4), BitVec.ofNat 8 m.hops,
      BitVec.ofNat 8 (m.valid.toNat + 16 * m.endB.toNat + 32 * m.back.toNat + 64 * m.settled.toNat), BitVec.ofNat 8 m.seqId] ++
    timeBytes m.tTx ++ [BitVec.ofNat 8 m.fb, 0, 0] ++ timeBytes (if m.kind = 2 then m.tRx else m.tb1Diff) ++
    timeBytes m.tb2Diff ++ timeBytes m.tb3Diff ++ [0] ++ bytesLe m.frame.toNat 4 ++ bytesLe (m.fb / 256) 4 ++
    bytesLe m.period 4 ++ (List.range 4).flatMap (fun f => bytesLe (m.ofs.getD f 0) 4) ++ bytesLe m.wraps.toNat 4)

/-- The 64 bytes of a Head's HEART (R322). -/
def HeartMsg.bytes (m : HeartMsg) : List Byte :=
  padTo 64 ([0, flagByte [m.endB, m.duty.testBit 0, m.duty.testBit 1, m.ilkOut, m.ilkIn, m.peer, m.ward, m.yield],
      BitVec.ofNat 8 (m.conv.toNat + 16 * m.ready.toNat), 0] ++ bytesLe m.term.toNat 4 ++ bytesLe m.pair.toNat 8 ++
    bytesLe m.frame.toNat 4 ++ bytesLe m.copy.toNat 4 ++ [BitVec.ofNat 8 (m.variant % 64), 0, 0, 0] ++ bytesLe m.sigFrame.toNat 4 ++
    (List.range 4).flatMap (fun f => bytesLe (m.sigs.getD f 0).toNat 4) ++ bytesLe m.epoch.toNat 4)

/-- The 64 bytes of a verdict (R324). -/
def VerdictMsg.bytes (m : VerdictMsg) : List Byte :=
  padTo 64 ([1, flagByte [m.owner.testBit 0, m.owner.testBit 1, m.aliveA, m.aliveB, m.ilkA, m.ilkB], 0, 0] ++
    bytesLe m.term.toNat 4 ++ bytesLe m.pair.toNat 8)

/-- A part of a state copy (R335): its 16-byte header, its body, and in the last part the digest. -/
def CopyPart.bytes (m : CopyPart) : List Byte :=
  bytesLe 0x434F5059 4 ++ bytesLe m.epoch.toNat 4 ++ bytesLe m.part 2 ++ bytesLe m.parts 2 ++ bytesLe m.term.toNat 4 ++ m.body ++
    (if m.part + 1 = m.parts then digestBytes m.digest else [])

/-- A packet's payload as bytes. Where the spec gives no layout (ASSIGN, CTRL, MGMT and a relayed command), the bytes are
open. -/
def Body.payload : Body → List Byte
  | .bytes l => l
  | .announce v first => padTo 8 ([BitVec.ofNat 8 (v % 64), 0, 0, 0] ++ bytesLe first.toNat 4)
  | .status m => m.bytes
  | .enum m => m.bytes
  | .join m => m.bytes
  | .keyx m => m.bytes
  | .heart m => m.bytes
  | .verdict m => m.bytes
  | .sync m => m.bytes
  | .copy m => m.bytes
  | .upd m => m.bytes
  | b => Config.bodyBytes b

/-- The payload of a packet, of the length that its header gives. -/
def payloadOn (h : Hdr) (b : Body) : List Byte := padTo h.len.toNat b.payload

/-- What a packet that the device sends puts on its lanes (R114, R117), by lane. -/
def Emission.lanes : Emission → List (Nat × List LineChar)
  | .packet _ mask h b key => laneColumns mask (packetChars (packetBytes h key (payloadOn h b)) false)
  | .markers _ ms => ms.map (fun m => (m.lane.val, markerChars m))
  | _ => []

end Sys2Proof.Machine
end

