-- ==== Sys2Proof/Machine/Ops.lean ====
section
/-!
DEFINITION. The named operations on registers and state that every block shares: reading and writing registers and
fields, staged values, saturating counters and event bits, the role, random draws, outputs, blanking, memory.
-/

namespace Sys2Proof.Machine

/-- The outcome of a command. -/
abbrev Res := Host.Outcome State Fault Refusal

/-! ### Registers -/

/-- The register run holds this address. -/
def RegSpec.covers (r : RegSpec) (a : Nat) : Bool :=
  if r.count ≤ 1 then a == r.addr
  else decide (r.addr ≤ a) && (a - r.addr) % r.stride == 0 && decide ((a - r.addr) / r.stride < r.count)

/-- The block index of an address of the register region (R348). -/
def blockOf (a : Nat) : Nat := a / 0x10000 % 0x100

/-- The specification of the register at an address, if one is there. -/
def specOf (a : Nat) : Option RegSpec := (regTableOf (blockOf a)).find? (fun r => r.covers a)

/-- What a register reads as until something changes it (R8). -/
def resetOf (a : Nat) : Word :=
  match specOf a with
  | some r => BitVec.ofNat 32 r.reset
  | none => 0

/-- A field of a word. -/
def Fld.of (f : Fld) (w : Word) : Nat := (w.toNat >>> f.lo) % 2 ^ f.width

/-- The mask of a field. -/
def Fld.mask (f : Fld) : Word := BitVec.ofNat 32 ((2 ^ f.width - 1) <<< f.lo)

/-- A word with a field replaced; the value is cut to the field's width. -/
def Fld.put (f : Fld) (w : Word) (v : Nat) : Word :=
  (w &&& ~~~ f.mask) ||| BitVec.ofNat 32 ((v % 2 ^ f.width) <<< f.lo)

/-- A live register as it stands: the staging value where it is staged (R6). -/
def State.getW (s : State) (a : Nat) : Word := tabGet (resetOf a) s.regs a

/-- The state with a live register replaced. -/
def State.setW (s : State) (a : Nat) (w : Word) : State := { s with regs := mapPut resetOf s.regs a w }

/-- The active value of a staged register (R77). -/
def State.actW (s : State) (a : Nat) : Word := tabGet (resetOf a) s.active a

/-- The state with the active value of a staged register replaced. -/
def State.setActW (s : State) (a : Nat) (w : Word) : State := { s with active := mapPut resetOf s.active a w }

/-- A field of a live register. -/
def State.getF (s : State) (f : Fld) : Nat := f.of (s.getW f.addr)

/-- The state with a field replaced. -/
def State.setF (s : State) (f : Fld) (v : Nat) : State := s.setW f.addr (f.put (s.getW f.addr) v)

/-- The active value of a staged field. -/
def State.actF (s : State) (f : Fld) : Nat := f.of (s.actW f.addr)

/-- Staging and active value of a staged field written together, as the keeper does at a start (R70). -/
def State.setBoth (s : State) (f : Fld) (v : Nat) : State :=
  (s.setF f v).setActW f.addr (f.put (s.actW f.addr) v)

/-- A field as a flag. -/
def State.flag (s : State) (f : Fld) : Bool := s.getF f != 0

/-- A one-bit field set from a flag. -/
def State.setB (s : State) (f : Fld) (b : Bool) : State := s.setF f b.toNat

/-- An event bit, or any one-bit field, set. -/
def State.raise (s : State) (f : Fld) : State := s.setF f 1

/-- Bit `i` of a field. -/
def State.bit (s : State) (f : Fld) (i : Nat) : Bool := (s.getF f).testBit i

/-- Bit `i` of a field set. -/
def State.raiseBit (s : State) (f : Fld) (i : Nat) : State := s.setF f (s.getF f ||| 2 ^ i)

/-- Bit `i` of a field written. -/
def State.putBit (s : State) (f : Fld) (i : Nat) (b : Bool) : State :=
  s.setF f (if b then s.getF f ||| 2 ^ i else s.getF f &&& (2 ^ f.width - 1 - 2 ^ i))

/-- A counter that stops at its maximum, raised by `n`. -/
def State.bumpBy (s : State) (f : Fld) (n : Nat) : State := s.setF f (min (s.getF f + n) (2 ^ f.width - 1))

/-- A counter that stops at its maximum, raised by one. -/
def State.bump (s : State) (f : Fld) : State := s.bumpBy f 1

/-- A value read as two's complement of a width. -/
def toSigned (w v : Nat) : Int := if v < 2 ^ (w - 1) then (v : Int) else (v : Int) - 2 ^ w

/-- An integer as an unsigned value of a width, two's complement. -/
def ofSigned (w : Nat) (i : Int) : Nat := (i % (2 ^ w : Int)).toNat

/-- The signed 32-bit difference of two words. -/
def diff32 (a b : Word) : Int := toSigned 32 (a - b).toNat

/-- An integer held between two bounds. -/
def clampI (i lo hi : Int) : Int := max lo (min i hi)

/-- The state with a function applied to it where a condition holds. -/
def State.when (s : State) (c : Bool) (f : State → State) : State := if c then f s else s

/-- A function applied for each element of a list, first to last. -/
def State.forEach {α : Type} (s : State) (l : List α) (f : α → State → State) : State :=
  l.foldl (fun t x => f x t) s

/-- A quotient rounded to the nearest integer; which neighbour an exact half gives is open. -/
def roundNear (n d : Nat) : Nat :=
  let r := n % d
  if 2 * r < d then n / d
  else if d < 2 * r then n / d + 1
  else if Config.roundDiv n d = (n / d : Nat) then n / d else n / d + 1

/-- A quotient rounded to one of its neighbours, the rounding not stated. -/
def roundOpen (n d : Nat) : Nat :=
  if n % d = 0 then n / d else if Config.roundDiv n d = (n / d : Nat) then n / d else n / d + 1

/-- The same of an integer. -/
def roundOpenI (n : Int) (d : Nat) : Int :=
  if n % d = 0 then n / d else if Config.roundDiv n d = n / d then n / d else n / d + 1

/-! ### Role and start -/

/-- The device runs as a Head (R10, R11). -/
def State.isHead (s : State) : Bool := s.flag F.SUP_STAT_ROLE && s.flag F.BOOT_STAT_ROLE_PLAN

/-- Release has taken place (R74). -/
def State.released (s : State) : Bool := s.flag F.BOOT_STAT_RELEASED

/-- The device is in recovery mode (R67). -/
def State.recovering (s : State) : Bool := s.flag F.BOOT_STAT_RECOVERY

/-- The keeper is out of reset and its clock runs (event 4 of R50, R45). -/
def State.running (s : State) : Bool := decide (s.pwr.phase = .run) && s.flag F.CLK_STAT_SYS_LOCK

/-- The keeper keeps the watchdog kicked (R53): in memory hold (R68) and in recovery mode (R67). -/
def State.keeperKicks (s : State) : Bool := s.boot.memFault || s.recovering

/-- The memory controller and scan-out run: the MPLL is locked (R45, R72). -/
def State.memRuns (s : State) : Bool := s.flag F.CLK_STAT_MEM_LOCK

/-- A supply that both roles require is out of its range (R32, R34). -/
def State.supplyOut (s : State) : Bool := (s.getW A.SUP_STAT &&& 0xBF) != 0xBF

/-- A condition of R34 holds the device in power-on reset: a supply, CKEEP below 4.5 V, or `PORST_N` low. -/
def State.porHeld (s : State) : Bool := (s.getW A.SUP_STAT &&& 0x1BF) != 0x1BF || s.pwr.porstLow

/-- The clamps of R38 hold the outputs: in power-on reset, in the supply-loss sequence (R407), and while a supply that R34
requires is out of range. CKEEP alone leaves a released device running (R410). -/
def State.clamped (s : State) : Bool := decide (s.pwr.phase = .por) || decide (s.pwr.phase = .lossSave) || s.supplyOut

/-- The Head belongs to a pair (R318); under a debug unlock it joins none (R384). -/
def State.paired (s : State) : Bool := s.isHead && s.plan.wall.pairId != 0 && !(s.flag F.SEC_STAT_DEBUG)

/-- The duty of a Head of a pair (R318). -/
def State.duty (s : State) : Nat := s.getF F.RED_STAT_DUTY

/-- The Head does what only an owner does (R319): it owns, it has no partner, or it is the end-A Head of a refused pair,
which runs its rings as lines (R321). -/
def State.owns (s : State) : Bool :=
  s.isHead && (s.plan.wall.pairId == 0 || s.duty == 2 || (s.flag F.RED_STAT_PAIR_REFUSED && !s.plan.red.endB))

/-- The Head is a failed Head, or behaves as one (R45, R334). -/
def State.failedHead (s : State) : Bool := (s.paired && s.duty == 3) || s.red.dead

/-- The number of facets (R16). -/
def State.facets (s : State) : Nat := max 1 (min 4 s.plan.wall.facets)

/-- The current image sequence number, 0 where none is known. -/
def State.imageNow (s : State) : Word := s.tim.image.getD 0

/-- The identifier a device sends under: a Tile's own, or the Head's end (R118). -/
def State.srcId (s : State) : BitVec 10 :=
  if s.isHead then (if s.plan.red.endB then 1021 else 1020) else BitVec.ofNat 10 (s.getF F.LNK_ID_TILE_ID)

/-! ### Draws and outputs -/

/-- A random draw (R367). -/
def State.draw (s : State) : Key × State := (Config.draw s.fresh, { s with fresh := s.fresh + 1 })

/-- A private key or a signature nonce drawn (R367): two draws, reduced to the range of the curve's order. -/
def State.drawScalar (s : State) : Nat × State :=
  let a := s.draw
  let b := a.2.draw
  (scalarOf (a.1.toNat * 2 ^ 256 + b.1.toNat), b.2)

/-- A choice the spec leaves open, among `n` possibilities. -/
def State.choose (s : State) (n : Nat) : Nat × State := (Config.free s.fresh % n, { s with fresh := s.fresh + 1 })

/-- The state with something put on an output. -/
def State.emit (s : State) (e : Emission) : State := { s with out := e :: s.out }

/-! ### Ports -/

/-- What the link holds for a port beside its registers. -/
def State.port (s : State) (n : Nat) : PortX := tabGet {} s.lnk.ports n

/-- The state with a port's part replaced. -/
def State.setPort (s : State) (n : Nat) (p : PortX) : State :=
  { s with lnk := { s.lnk with ports := tabPut s.lnk.ports n p } }

/-- A port is UP (R115). -/
def State.portUp (s : State) (n : Nat) : Bool := s.getF (F.LNK_PSTAT_STATE n) == 2

/-- The chain ports of the role (R14). -/
def State.portList (s : State) : List Nat := if s.isHead then List.range 8 else [0, 1]

/-- The chain that a Tile is on is a ring (R17): the plan says so for the Head and the chain that ENUM named. -/
def State.onRing (s : State) : Bool := s.plan.link.rings.contains (s.lnk.headNumber, s.getF F.LNK_ID_CHAIN)

/-- The device's own ports at which its packets leave: a Tile's on a line port A, on a ring both (R131). -/
def State.ownPorts (s : State) : List Nat := if s.onRing then [0, 1] else [0]

/-- The chain that a port belongs to. -/
def State.chainOf (s : State) (n : Nat) : Nat :=
  if s.isHead then nth s.plan.link.chain n n else s.getF F.LNK_ID_CHAIN

/-- The ring ports that a Head shares with its partner (R322). -/
def State.sharedList (s : State) : List Nat := s.plan.red.sharedPorts.map (fun n => n.val)

/-- A chain is a dual-Head ring of the pair. -/
def State.sharedChain (s : State) (c : Nat) : Bool := s.sharedList.any (fun n => s.chainOf n == c)

/-- The Head owns a chain (R136): the only Head of a line or single-Head ring, or the owner of a dual-Head ring. -/
def State.ownsChain (s : State) (c : Nat) : Bool := s.isHead && (s.owns || !(s.sharedChain c))

/-- A packet put in the queue of the device's own packets (R133). -/
def State.queueOwn (s : State) (p : OutPkt) : State := { s with lnk := { s.lnk with own := s.lnk.own ++ [p] } }

/-! ### Health record (R21, R448) -/

/-- The record of an item, empty where it has none. -/
def healthOf (l : List HealthRec) (i : HealthItem) : HealthRec := (l.find? (fun r => decide (r.item = i))).getD { item := i }

/-- The record with an item's entry replaced, in its place or at the end. -/
def healthPut : List HealthRec → HealthRec → List HealthRec
  | [], r => [r]
  | x :: rest, r => if x.item = r.item then r :: rest else x :: healthPut rest r

/-- The changes kept: those of the last 2 µs and the one before them (R22). -/
def histTrim (now : Nat) : List (Nat × Bool) → List (Nat × Bool)
  | [] => []
  | (t, b) :: rest => if t + 2000 ≤ now then [(t, b)] else (t, b) :: histTrim now rest

/-- An entry with its health latched at a time. -/
def HealthRec.latch (r : HealthRec) (now : Nat) (ok : Bool) : HealthRec :=
  let seen := if ok && r.seen.isNone then some now else r.seen
  match r.hist with
  | (t, b) :: rest =>
    if b = ok then r
    else { r with hist := (now, ok) :: histTrim now ((t, b) :: rest), seen := seen, held := false }
  | [] => { r with hist := [(now, ok)], seen := seen, held := false }

/-- An item's health latched as it stands now. -/
def State.latchHealth (s : State) (i : HealthItem) (ok : Bool) : State :=
  let items := healthPut s.gov.items ((healthOf s.gov.items i).latch s.now ok)
  { s with gov := { s.gov with items := items } }

/-- The link of a chain port of this Head. -/
def State.linkOf (s : State) (n : Nat) : Option Nat := (s.plan.gov.headLinks.find? (fun p => p.2 == n)).map (fun p => p.1)

/-- What one end of a link says of it (R21): its port's state and the lanes it uses. -/
structure LinkView where
  state : Nat
  mask : Nat
  deriving DecidableEq, Repr

/-- The view that a Tile's reported port word gives (R138): state and TXMASK. -/
def viewOfPstat (w : Word) : LinkView := ⟨w.toNat % 4, w.toNat / 1024 % 16⟩

/-- The report of a Tile that is present, none for a Head or an absent Tile. -/
def State.tileReport (s : State) (id : Nat) : Option StatusMsg :=
  match s.lnk.tiles.find? (fun p => p.1 == id) with
  | some p => if p.2.present && id != 0 then some p.2.status else none
  | none => none

/-- What this Head's own port on a link says (R21): the lanes that both its RXMASK and its TXMASK in force hold. -/
def State.ownViews (s : State) (l : Nat) : List LinkView :=
  (s.plan.gov.headLinks.filter (fun p => p.1 == l)).map (fun p =>
    (⟨s.getF (F.LNK_PSTAT_STATE p.2), s.getF (F.LNK_PSTAT_RXMASK p.2) &&& s.getF (F.LNK_PSTAT_TXMASK p.2)⟩ : LinkView))

/-- What the Tiles at either end of a link say in STATUS (R21, R138). -/
def State.tileViews (s : State) (l : Nat) : List LinkView :=
  let ends := s.plan.gov.tileLinks.filter (fun p => p.1 == l)
  let a := ends.filterMap (fun p => (s.tileReport p.2.1).map (fun m => viewOfPstat m.pstatB))
  let b := ends.filterMap (fun p => (s.tileReport p.2.2).map (fun m => viewOfPstat m.pstatA))
  a ++ b

/-- What the ends of a link say: this Head's own port, and the Tiles at either end from their STATUS (R21). -/
def State.linkViews (s : State) (l : Nat) : List LinkView := s.ownViews l ++ s.tileViews l

/-- The Tiles of a chain that report a port suspect: end A's side reports port A, end B's side port B (R139). -/
def State.suspects (s : State) (chain : Nat) (b : Bool) : List (Nat × Nat) :=
  (s.lnk.tiles.filter (fun p => p.2.present && p.2.status.lnkId.toNat / 1024 % 8 == chain &&
    p.2.status.suspect.getLsbD b.toNat)).map (fun p => (p.2.status.lnkId.toNat / 8192 % 32, p.1))

/-- The element with the least, or the greatest, first component. -/
def nearest (greatest : Bool) : List (Nat × Nat) → Option (Nat × Nat)
  | [] => none
  | x :: rest =>
    match nearest greatest rest with
    | none => some x
    | some y => if (if greatest then decide (y.1 < x.1) else decide (x.1 < y.1)) then some x else some y

/-- The link is the one that R139 takes as failed: that of the suspect port nearest the Head on its side. -/
def State.linkSuspect (s : State) (l : Nat) : Bool :=
  (List.range 8).any (fun c =>
    (match nearest false (s.suspects c false) with
      | some x => s.plan.gov.tileLinks.any (fun p => p.1 == l && p.2.2 == x.2)
      | none => false) ||
    (match nearest true (s.suspects c true) with
      | some x => s.plan.gov.tileLinks.any (fun p => p.1 == l && p.2.1 == x.2)
      | none => false))

/-- The views that judge the lanes of a link (R21): on a port of this Head its own masks alone, between two Tiles what
both report. -/
def State.laneViews (s : State) (l : Nat) : List LinkView :=
  if s.plan.gov.headLinks.any (fun p => p.1 == l) then s.ownViews l else s.tileViews l

/-- A link and its four lanes latched from what its ends say (R21); a link that nobody has reported yet is left. -/
def State.latchLink (s : State) (l : Nat) : State :=
  let v := s.linkViews l
  if !s.isHead || v.isEmpty then s
  else
    let s1 := s.latchHealth (.link l) (v.all (fun x => x.state != 0) && !s.linkSuspect l)
    [(0 : Fin 4), 1, 2, 3].foldl
      (fun t k => t.latchHealth (.lane l k) ((s.laneViews l).all (fun x => x.mask.testBit k.val))) s1

/-- The link of a port of this Head latched (R21). -/
def State.latchPort (s : State) (n : Nat) : State :=
  match s.linkOf n with
  | some l => s.latchLink l
  | none => s

/-- Every link of the plan. -/
def Plan.allLinks (p : Plan) : List Nat :=
  (p.gov.headLinks.map (fun x => x.1) ++ p.gov.tileLinks.map (fun x => x.1)).dedup

/-! ### Blanking (R254 to R256) -/

/-- Some request for a hard blank holds (R255). -/
def State.hardHeld (s : State) : Bool :=
  s.lmp.tripHard || s.lmp.lossHard || s.flag F.LMP_CTL_HARD

/-- `LMP_STAT.STATE` as STOP and the hard blanks give it (R255, R256); a stopped engine clears the repetitive tables of
the rail (R290). -/
def State.lampState (s : State) : State :=
  let v := if s.hardHeld then 3
    else if s.flag F.LMP_CTL_STOP then (if s.lmp.slot.isSome then 1 else 0) else 2
  let s1 := s.setF F.LMP_STAT_STATE v
  if v = 0 then { s1 with rail := { s1.rail with rc := [] } } else s1

/-- The slot in progress ended: gates low, sinks off, and the blank counted where the slot drove gates (R254). -/
def State.dropSlot (s : State) : State :=
  match s.lmp.slot with
  | none => s
  | some x =>
    let s1 := { s with lmp := { s.lmp with slot := none, softPend := false, gate := none, pieces := [], latch := [], chain := [] } }
    let s2 := s1.setB F.LMP_STAT_INSLOT false
    if x.driven then s2.bump F.LMP_CNT_BLANKS else s2

/-- A soft blank takes effect at the next line boundary while a slot is in progress (R254). -/
def State.softBlank (s : State) : State :=
  { s with lmp := { s.lmp with softPend := s.lmp.slot.isSome } }

/-- The soft blank at the line boundary. -/
def State.softBlankNow (s : State) : State :=
  let driven := match s.lmp.slot with | some x => x.driven | none => false
  (s.dropSlot.when driven (fun t => t.raise F.LMP_EVT_BLANKED)).lampState

/-- A hard blank applied at once (R255). -/
def State.hardBlank (s : State) : State :=
  ((s.dropSlot).raise F.LMP_EVT_HARD).lampState

/-! ### Memory (R345, R346) -/

/-- The byte at an address; a byte nothing has written reads 0 (R51; DESIGN CHOICE for the LPDDR, log entry 6). -/
def memGet (m : List (Nat × Byte)) (a : Nat) : Byte := tabGet 0 m a

/-- A memory with a byte written. -/
def memPut (m : List (Nat × Byte)) (a : Nat) (b : Byte) : List (Nat × Byte) := mapPut (fun _ => 0) m a b

/-- The canonical form of a memory. -/
def Memory.wf (m : List (Nat × Byte)) : Bool := mapWf (fun _ => (0 : Byte)) m

/-- A value of `n` bytes at an address, little-endian. -/
def memRead (m : List (Nat × Byte)) (a : Nat) : Nat → Nat
  | 0 => 0
  | n + 1 => (memGet m a).toNat + 256 * memRead m (a + 1) n

/-- A value of `n` bytes written at an address, little-endian. -/
def memWrite (m : List (Nat × Byte)) (a : Nat) (v : Nat) : Nat → List (Nat × Byte)
  | 0 => m
  | n + 1 => memWrite (memPut m a (BitVec.ofNat 8 v)) (a + 1) (v / 256) n

/-- Some bytes as entries of a memory from an address on. -/
def memCells (a : Nat) : List Byte → List (Nat × Byte)
  | [] => []
  | b :: rest => if b = 0 then memCells (a + 1) rest else (a, b) :: memCells (a + 1) rest

/-- Some bytes written from an address on. -/
def memPuts (m : List (Nat × Byte)) (a : Nat) (bytes : List Byte) : List (Nat × Byte) :=
  m.filter (fun c => decide (c.1 < a)) ++ (memCells a bytes ++ m.filter (fun c => decide (a + bytes.length ≤ c.1)))

/-- The bytes from an address on. -/
def memBytes (m : List (Nat × Byte)) (a n : Nat) : List Byte := (List.range n).map (fun i => memGet m (a + i))

/-- The memory key of a byte of the LPDDR. -/
def lpddr (a : Nat) : Nat := 0x100000000 + a

/-- Some bytes of the LPDDR written by a block of the device. -/
def State.lpddrPut (s : State) (a : Nat) (bytes : List Byte) : State :=
  { s with core := { s.core with mem := memPuts s.core.mem (lpddr a) bytes } }

end Sys2Proof.Machine
end

