-- ==== Sys2Proof/Machine/Access.lean ====
section
/-!
DEFINITION. Who may access what (R12, R55, R343 to R348): denials, the record of a bus error, and the guard that every
register write passes, by whatever row it comes.
-/

namespace Sys2Proof.Machine

/-- A block whose registers a Tile holds off (R12). -/
def headOnlyBlock (i : Nat) : Bool := i == 10 || i == 11 || i == 12 || i == 14

/-- The register belongs to a block that a Tile holds off, the DisplayPort receivers and their lanes 32 to 47 among them
(R12, R87). -/
def headOnlyReg (a : Nat) : Bool :=
  headOnlyBlock (blockOf a) || (decide (A.LAN_DSTAT 0 ≤ a) && decide (a ≤ A.LAN_DSTAT 3)) ||
    (decide (A.LAN_DPLINK 0 ≤ a) && decide (a ≤ A.LAN_DPLINK 3)) ||
    (decide (A.LAN_CFG 32 ≤ a) && decide (a ≤ A.LAN_CFG 47)) || (decide (A.LAN_ERR 32 ≤ a) && decide (a ≤ A.LAN_ERR 47))

/-- The staging row of an address of the Sump block, if it lies in the staging (R412). -/
def stagingRow (a : Nat) : Option Nat :=
  if 0x40198000 ≤ a ∧ a < 0x401A0000 then some ((a - 0x40198000) / 512) else none

/-- A write to a register block that its initiator is denied (R348 and the chapters it names). The mailbox block has
denials of its own. -/
def writeDenied (who : Initiator) (a : Nat) : Bool :=
  let b := blockOf a
  if b ≥ 26 then true
  else if b = 3 ∨ b = 5 ∨ b = 22 ∨ b = 24 then decide (who ≠ .keeper)
  else if b = 23 then decide (who = .service)
  else if b = 25 then
    match stagingRow a with
    | some r => if r = 0 then true else if r < 30 then decide (who ≠ .keeper) else decide (who = .service)
    | none => decide (who ≠ .keeper)
  else false

/-- The access completed with a bus error, and recorded where no record stands (R344). -/
def State.busFault (s : State) (who : Initiator) (write : Bool) (a : Word) (kind : Nat) : State :=
  let s1 := { s with bus := ⟨0, true⟩ }
  if s.flag F.CORE_FAULT_VALID then s1
  else
    ((((s1.setF F.CORE_FAULT_INIT who.code).setB F.CORE_FAULT_WRITE write).raise F.CORE_FAULT_VALID).setF
      F.CORE_FAULT_KIND kind).setF F.CORE_FADDR_ADDR a.toNat

/-- The access completed without an error. -/
def State.busOk (s : State) (data : Word) : State := { s with bus := ⟨data.setWidth 64, false⟩ }

/-- A write of an initiator to a register, through the checks of R12 and R344, with what it does where it passes. No
initiator runs before the keeper leaves reset (R50). -/
def State.guarded (s : State) (who : Initiator) (a : Nat) (f : State → State) : State :=
  if s.running then
    if writeDenied who a then s.busFault who true (BitVec.ofNat 32 a) 0
    else if headOnlyReg a && !s.isHead then s.busOk 0
    else f (s.busOk 0)
  else s

/-- An idle-only write while its block is not idle (R86). -/
def State.busyWrite (s : State) (block : Nat) : State :=
  (s.raise F.CFG_EVT_BUSYWR).setF F.CFG_STAT_BUSY_BLK block

end Sys2Proof.Machine
end

