-- ==== Sys2Proof/Machine/Mail.lean ====
section
/-!
DEFINITION. Mailbox channels, locks and doorbells, and what the reset of an initiator does to them (R351 to R363).
-/

namespace Sys2Proof.Machine

/-! ### Endpoints and denials (R351, R352) -/

/-- An initiator is a sender of a channel. -/
def State.isSender (s : State) (who : Initiator) (n : Nat) : Bool := s.bit (F.MBX_CCFG_SENDERS n) who.code

/-- An initiator is the receiver of a channel. -/
def State.isReceiver (s : State) (who : Initiator) (n : Nat) : Bool := s.getF (F.MBX_CCFG_RECEIVER n) == who.code

/-- The channel and the register offset that an address of the mailbox block names. -/
def mbxChan (a : Nat) : Option (Nat × Nat) :=
  if A.MBX_DATA 0 ≤ a ∧ a < A.MBX_DATA 0 + 256 then some ((a - A.MBX_DATA 0) / 16, (a - A.MBX_DATA 0) % 16) else none

/-- An access to a channel's register that R352 denies; `force` says that it is a write with FORCE at 1. -/
def State.chanDenied (s : State) (who : Initiator) (write force : Bool) (n off : Nat) : Bool :=
  if s.isSender who n || s.isReceiver who n then false
  else if who = .keeper ∧ off = 8 ∧ write = true ∧ force = true then false
  else if n < 8 then write || off == 0 || who != .keeper
  else off == 0

/-- An access to the mailbox block that is denied (R352). -/
def State.mbxDenied (s : State) (who : Initiator) (write : Bool) (a : Nat) (w : Word) : Bool :=
  match mbxChan a with
  | some (n, off) => s.chanDenied who write ((F.MBX_LOCK_FORCE 0).of w != 0) n off
  | none => false

/-- A mailbox access through its checks, with what it does where it passes. -/
def State.mbxGuard (s : State) (who : Initiator) (write : Bool) (a : Nat) (w : Word) (f : State → State) : State :=
  if s.running then
    if s.mbxDenied who write a w then s.busFault who write (BitVec.ofNat 32 a) 0 else f (s.busOk 0)
  else s

/-! ### Channels (R353, R354) -/

/-- A write to `MBX_DATA` by an endpoint (R353): a sender's word is accepted or refused; the receiver's has no effect. -/
def State.mbxPost (s : State) (who : Initiator) (n : Nat) (w : Word) : State :=
  if s.isSender who n then
    let held := s.flag (F.MBX_LOCK_HELD n) && s.getF (F.MBX_LOCK_HOLDER n) == who.code
    if !(s.flag (F.MBX_CST_FULL n)) && (!(s.flag (F.MBX_CCFG_LOCK_REQ n)) || held) then
      let s1 := (s.setW (A.MBX_DATA n) w).raise (F.MBX_CST_FULL n)
      let s2 := (s1.setF (F.MBX_CST_LASTSND n) who.code).setF (F.MBX_CST_SNDRST n) 0
      s2.setF (F.MBX_CST_COUNT n) (s2.getF (F.MBX_CST_COUNT n) + 1)
    else s.raise (F.MBX_CST_REFUSED n)
  else s

/-- A full channel emptied (R353). -/
def State.mbxEmpty (s : State) (n : Nat) : State :=
  if s.flag (F.MBX_CST_FULL n) then
    ((s.setF (F.MBX_CST_FULL n) 0).raise (F.MBX_CST_TAKEN n)).setF (F.MBX_CST_SNDRST n) 0
  else s

/-- A write of 1 to FULL: only the receiver empties the channel (R353). -/
def State.mbxTake (s : State) (who : Initiator) (n : Nat) : State := if s.isReceiver who n then s.mbxEmpty n else s

/-- A flag of `MBX_CST` cleared where a write names it (R4). -/
def State.cstClear (s : State) (w : Word) (f : Fld) : State := s.when (f.of w != 0) (fun t => t.setF f 0)

/-- A write of `MBX_CST` (R4, R353): the enables of each side, TAKEN by senders alone, LOST and REFUSED by any writer; then
FULL by the receiver, whose emptying sets TAKEN whatever the same write clears. -/
def State.mbxCstWrite (s : State) (who : Initiator) (n : Nat) (w : Word) : State :=
  let s1 := s.when (s.isReceiver who n) (fun t => t.setF (F.MBX_CST_RXIE n) ((F.MBX_CST_RXIE n).of w))
  let s2 := s1.when (s.isSender who n) (fun t =>
    (t.setF (F.MBX_CST_TXIE n) ((F.MBX_CST_TXIE n).of w)).cstClear w (F.MBX_CST_TAKEN n))
  let s3 := (s2.cstClear w (F.MBX_CST_LOST n)).cstClear w (F.MBX_CST_REFUSED n)
  s3.when ((F.MBX_CST_FULL n).of w != 0) (fun t => t.mbxTake who n)

/-- `MAILBOX_DATA_WRITE` (R353). -/
def execMailboxDataWrite (who : Initiator) (n : Fin 16) (w : Word) (s : State) : Res :=
  .next (s.mbxGuard who true (A.MBX_DATA n.val) w (fun t => t.mbxPost who n.val w))

/-- `MAILBOX_TAKE` (R353). -/
def execMailboxTake (who : Initiator) (n : Fin 16) (s : State) : Res :=
  .next (s.mbxGuard who true (A.MBX_CST n.val) 1 (fun t => t.mbxTake who n.val))

/-! ### Locks (R356) -/

/-- A lock freed. -/
def State.lockFree (s : State) (n : Nat) : State := s.setF (F.MBX_LOCK_HELD n) 0

/-- A read of `MBX_LOCK` (R356): a sender's read acquires a free lock; the answer shows the lock after the read. -/
def State.lockRead (s : State) (who : Initiator) (n : Nat) : State :=
  let s1 :=
    if s.isSender who n && !(s.flag (F.MBX_LOCK_HELD n)) then
      (s.raise (F.MBX_LOCK_HELD n)).setF (F.MBX_LOCK_HOLDER n) who.code
    else s
  let got := s1.flag (F.MBX_LOCK_HELD n) && s1.getF (F.MBX_LOCK_HOLDER n) == who.code
  s1.busOk ((F.MBX_LOCK_GOT n).put (s1.getW (A.MBX_LOCK n)) got.toNat)

/-- A write of `MBX_LOCK` (R356): RELEASE by the holder, FORCE by the keeper. -/
def State.lockWrite (s : State) (who : Initiator) (n : Nat) (w : Word) : State :=
  let rel := (F.MBX_LOCK_RELEASE n).of w != 0 && s.flag (F.MBX_LOCK_HELD n) && s.getF (F.MBX_LOCK_HOLDER n) == who.code
  let force := (F.MBX_LOCK_FORCE n).of w != 0 && who == .keeper
  if rel || force then s.lockFree n else s

/-- `LOCK_READ` (R356). -/
def execLockRead (who : Initiator) (n : Fin 16) (s : State) : Res :=
  .next (s.mbxGuard who false (A.MBX_LOCK n.val) 0 (fun t => t.lockRead who n.val))

/-- `LOCK_RELEASE` (R356). -/
def execLockRelease (who : Initiator) (n : Fin 16) (s : State) : Res :=
  .next (s.mbxGuard who true (A.MBX_LOCK n.val) 0x10 (fun t => t.lockWrite who n.val 0x10))

/-- `LOCK_FORCE` (R356). -/
def execLockForce (who : Initiator) (n : Fin 16) (s : State) : Res :=
  .next (s.mbxGuard who true (A.MBX_LOCK n.val) 0x20 (fun t => t.lockWrite who n.val 0x20))

/-- `LOCK_TIMEOUT` (R356): a timeout of 0 turns it off. -/
def execLockTimeout (n : Fin 16) (s : State) : Res :=
  if s.flag (F.MBX_LOCK_HELD n.val) && s.plan.mbx.lockTimeoutUs != 0 then
    .next ((s.lockFree n.val).raiseBit F.MBX_EVT_LOCKTO n.val)
  else .next s

/-! ### Doorbells (R358, R359) -/

/-- The ringer set of a doorbell bit holds an initiator. -/
def State.mayRing (s : State) (who : Initiator) (i : Nat) : Bool :=
  (s.getW (A.MBX_DBRING (i / 8))).toNat.testBit (4 * (i % 8) + who.code)

/-- The target of a doorbell bit. -/
def State.bellTarget (s : State) (i : Nat) : Initiator :=
  if i < 16 then .keeper else if (s.getW A.MBX_DBTGT).toNat.testBit i then .a1 else .a0

/-- The bits of a word that satisfy a test. -/
def bitsWhere (p : Nat → Bool) (w : Word) : Word :=
  BitVec.ofNat 32 (((List.range 32).filter (fun i => w.getLsbD i && p i)).foldl (fun a i => a + 2 ^ i) 0)

/-- A write of `MBX_DBSET` (R359). -/
def State.bellRing (s : State) (who : Initiator) (w : Word) : State :=
  let ok := bitsWhere (s.mayRing who) w
  let s1 := s.setW A.MBX_DBPEND (s.getW A.MBX_DBPEND ||| ok)
  s1.when (ok != w) (fun t => t.raise F.MBX_EVT_DB_DENY)

/-- A write of `MBX_DBPEND` (R359): only a bit's target clears it. -/
def State.bellClear (s : State) (who : Initiator) (w : Word) : State :=
  s.setW A.MBX_DBPEND (s.getW A.MBX_DBPEND &&& ~~~ bitsWhere (fun i => s.bellTarget i == who) w)

/-- A write of `MBX_DBMASK` (R359): only a bit's target writes it. -/
def State.bellMask (s : State) (who : Initiator) (w : Word) : State :=
  let mine := bitsWhere (fun i => s.bellTarget i == who) (BitVec.allOnes 32)
  s.setW A.MBX_DBMASK ((s.getW A.MBX_DBMASK &&& ~~~ mine) ||| (w &&& mine))

/-- What an initiator reads in `MBX_DBPEND` (R359). -/
def State.bellRead (s : State) (who : Initiator) : Word :=
  if who = .keeper then s.getW A.MBX_DBPEND else s.getW A.MBX_DBPEND &&& 0xFFFF0000

/-- `DOORBELL_RING` (R359). -/
def execDoorbellRing (who : Initiator) (bits : Word) (s : State) : Res :=
  .next (s.mbxGuard who true A.MBX_DBSET bits (fun t => t.bellRing who bits))

/-- `DOORBELL_CLEAR` (R359). -/
def execDoorbellClear (who : Initiator) (bits : Word) (s : State) : Res :=
  .next (s.mbxGuard who true A.MBX_DBPEND bits (fun t => t.bellClear who bits))

/-! ### The whole block -/

/-- A write to a register of the mailbox block that has passed R352; the registers of the plan and the event and mask
registers go by their access codes. -/
def State.mbxWrite (s : State) (who : Initiator) (a : Nat) (w : Word) : Option State :=
  match mbxChan a with
  | some (n, off) =>
    if off = 0 then some (s.mbxPost who n w)
    else if off = 4 then some (s.mbxCstWrite who n w)
    else if off = 8 then some (s.lockWrite who n w)
    else none
  | none =>
    if a = A.MBX_DBSET then some (s.bellRing who w)
    else if a = A.MBX_DBPEND then some (s.bellClear who w)
    else if a = A.MBX_DBMASK then some (s.bellMask who w)
    else none

/-! ### Resets of an initiator (R362) -/

/-- One channel at the reset of an initiator: a full channel of a reset receiver is emptied with LOST, that of a reset
sender keeps its word with SNDRST; a lock it holds is released. -/
def State.chanReset (s : State) (who : Initiator) (n : Nat) : State :=
  let s1 :=
    if s.flag (F.MBX_CST_FULL n) then
      if s.isReceiver who n then (s.mbxEmpty n).raise (F.MBX_CST_LOST n)
      else if s.getF (F.MBX_CST_LASTSND n) = who.code then s.raise (F.MBX_CST_SNDRST n)
      else s
    else s
  if s1.flag (F.MBX_LOCK_HELD n) && s1.getF (F.MBX_LOCK_HOLDER n) == who.code then s1.lockFree n else s1

/-- The reset of an initiator (R362): its channels, its locks, and the doorbell mask bits of which it is the target. -/
def State.mbxReset (s : State) (who : Initiator) : State :=
  (s.forEach (List.range 16) (fun n t => t.chanReset who n)).bellMask who 0

/-- The mailbox parameters of a plan (R351, R358). -/
def mbxOk (p : MbxPlan) : Bool :=
  (List.range p.ch.length).all (fun n =>
    let c := nth p.ch n {}
    decide (c.receiver < 4) && !(c.senders.getLsbD c.receiver) && c.senders != 0 &&
      (decide (8 ≤ n) || ((c.receiver == 0 || c.senders.getLsbD 0) && c.receiver != 3 && !(c.senders.getLsbD 3)))) &&
    decide (p.lockTimeoutUs ≤ 65535) && (List.range 16).all (fun i => !((nth p.dbRingers i 0).getLsbD 3))

/-- Channels, doorbell targets and ringer sets written from the plan (R70). -/
def State.mbxLoad (s : State) : State :=
  let m := s.plan.mbx
  let s1 := s.forEach (List.range 16) (fun n t =>
    let c := nth m.ch n {}
    ((t.setF (F.MBX_CCFG_SENDERS n) c.senders.toNat).setF (F.MBX_CCFG_RECEIVER n) c.receiver).setB (F.MBX_CCFG_LOCK_REQ n) c.lockReq)
  let s2 := s1.setF F.MBX_DBTGT_TGT m.dbTarget.toNat
  s2.forEach (List.range 32) (fun i t =>
    t.setF ⟨A.MBX_DBRING (i / 8), 4 * (i % 8), 4⟩ (nth m.dbRingers i 0).toNat)

end Sys2Proof.Machine
end

