-- ==== Sys2Proof/Machine/Clock.lean ====
section
/-!
DEFINITION. The time bases (R300 to R302, R308, R313): counters, steering, sources and states.
-/

namespace Sys2Proof.Machine

/-- A time base beside its registers. -/
def State.tb (s : State) (i : Nat) : TbX := tabGet {} s.tim.tb i

/-- The state with a time base's part replaced. -/
def State.setTb (s : State) (i : Nat) (x : TbX) : State := { s with tim := { s.tim with tb := tabPut s.tim.tb i x } }

/-- The steering in force (R301). -/
def State.tbRate (s : State) (i : Nat) : Int := toSigned 32 (s.getF (F.TIM_RATE_RATE i))

/-- A time base's value in units of 2^-40 of 1/256 ns at an instant in ns (R301); 0 while TIME does not run. -/
def State.tbRaw (s : State) (i at_ : Nat) : Nat :=
  if s.tim.running then
    let x := s.tb i
    (((x.base : Int) + ((at_ : Int) - x.ref) * 256 * (2 ^ 40 + s.tbRate i)) % (2 ^ 80 : Int)).toNat
  else 0

/-- A time base's value in 1/256 ns at an instant in ns. -/
def State.tbAt (s : State) (i at_ : Nat) : Nat := s.tbRaw i at_ / 2 ^ 40

/-- A time base's value in 1/256 ns now. -/
def State.tbVal (s : State) (i : Nat) : Nat := s.tbAt i s.now

/-- The signed difference of two time base values modulo 2^40, in 1/256 ns. -/
def tbDiff (a b : Nat) : Int := toSigned 40 (ofSigned 40 ((a : Int) - b))

/-- RATE replaced; the counter goes on from its value (R301). -/
def State.setRate (s : State) (i : Nat) (r : Int) : State :=
  let x := { s.tb i with base := s.tbRaw i s.now, ref := s.now }
  (s.setTb i x).setF (F.TIM_RATE_RATE i) (ofSigned 32 (clampI r (-2147483648) 2147483647))

/-- The counter moved by an amount in 1/256 ns. -/
def State.shiftTb (s : State) (i : Nat) (d : Int) : State :=
  let b := (((s.tbRaw i s.now : Int) + d * 2 ^ 40) % (2 ^ 80 : Int)).toNat
  s.setTb i { s.tb i with base := b, ref := s.now }

/-- A step by −*o* (R308); a step of TB0 makes a running lamp engine soft-blank (R309). -/
def State.stepTb (s : State) (i : Nat) (o : Int) : State :=
  let s1 := ((s.shiftTb i (-o)).bump F.TIM_CNT_STEPS).raise F.TIM_EVT_STEP
  s1.when (i == 0) State.softBlank

/-- The steering of the PI servo for an offset (R308, R311, R313). -/
def State.slewTb (s : State) (i : Nat) (bw : Nat) (o : Int) : State :=
  let n := (s.tb i).integ + o
  (s.setTb i { s.tb i with integ := n }).setRate i (Config.servoRate bw o n)

/-! ### Sources and states (R300, R308, R316) -/

/-- The state of a time base (R308): 0 FREE, 1 ACQUIRE, 2 LOCKED, 3 HOLDOVER. -/
def State.tbState (s : State) (i : Nat) : Nat := s.getF (F.TIM_STAT_TB i)

/-- The source of a time base (R300): 0 none, 1 local, 2 chain. A Head's TB0 has no chain source, and its genlock may be
none; on a Tile only TB3 has a local source. -/
def State.tbSrc (s : State) (i : Nat) : Nat :=
  let v := s.getF (F.TIM_SRC_SRC i)
  if s.bit F.TIM_CTL_STOP i then 0
  else if v = 1 then
    if s.isHead then (if i = 0 ∧ s.plan.ingest.glk = .none then 0 else 1) else (if i = 3 then 1 else 0)
  else if v = 2 then (if s.isHead && i == 0 then 0 else 2)
  else 0

/-- SETTLED as it stands (R316). -/
def State.settleEval (s : State) : State :=
  let lock := s.tbState 0 == 2 && s.tim.settled
  let up := match s.tim.ann with | some m => m.settled | none => false
  s.setB F.TIM_STAT_SETTLED (if s.isHead then lock || s.tbSrc 0 == 0 else lock && up)

/-- A time base's state changed, with its event, its lock counts and, for TB0, what follows for the VPLL and for SETTLED
(R44, R308, R309, R316). -/
def State.tbTo (s : State) (i v : Nat) : State :=
  let old := s.tbState i
  if old = v then s
  else
    let s1 := (s.setF (F.TIM_STAT_TB i) v).setTb i { s.tb i with good := 0, bad := 0 }
    let s2 := s1.when (v == 2) (fun t => t.raiseBit F.TIM_EVT_LOCK i)
    let s3 := s2.when (v == 3) (fun t => t.raiseBit F.TIM_EVT_LOST i)
    let s4 := s3.when (v == 0) (fun t => (t.setTb i { t.tb i with integ := 0 }).setRate i 0)
    if i = 0 then
      let s5 := s4.when (v == 2) (fun t => { t with lmp := { t.lmp with tb0Once := true } })
      let s6 := s5.when (old == 2) (fun t =>
        let u := { t with tim := { t.tim with settled := false } }
        u.when (u.flag F.CLK_STAT_VID_STEER) (fun w => (w.setF F.CLK_STAT_VID_STEER 0).raise F.CLK_EVT_HOLDOVER))
      s6.settleEval
    else s4

/-- A time base loses its source (R308): HOLDOVER from ACQUIRE and LOCKED. -/
def State.tbLose (s : State) (i : Nat) : State :=
  if s.tbState i = 1 ∨ s.tbState i = 2 then s.tbTo i 3 else s

/-- `time.tb[i].period_ns`, one frame period where the plan does not give it. -/
def Plan.exposurePeriod (p : Plan) (i : Nat) : Nat :=
  let x := nth p.time.periodNs i 0
  if x = 0 then 1000000000 * p.wall.rateDen / p.wall.rateNum else x

/-- A recorded exposure start steers its time base (R313): the k-th start falls where it reads k periods modulo 2^32. -/
def State.shutterStart (s : State) (i : Nat) : State :=
  if s.isHead && s.tbSrc i == 1 then
    let k := tabGet 0 s.tim.shutRef i
    let p := s.plan.time
    let o := tbDiff (s.tbVal i) (k * s.plan.exposurePeriod i * 256 % 2 ^ 40)
    let s1 := { s with tim := { s.tim with shutRef := tabPut s.tim.shutRef i (k + 1) } }
    (s1.slewTb i p.servoBw100 o).tbTo i 2
  else s

/-- The values of all four counters copied (R302). -/
def State.timeCapture (s : State) : State :=
  s.forEach [0, 1, 2, 3] (fun i t =>
    (t.setF (F.TIM_CNS_NS i) (t.tbVal i / 256)).setF (F.TIM_CFRAC_FRAC i) (t.tbVal i % 256))

/-- Which genlock state a Head's TB0 takes as its source is selected (R311): LOCKED while genlock is valid. -/
def State.tbSelect (s : State) (i : Nat) : State :=
  let s1 := { s with tim := { s.tim with shutRef := tabDrop s.tim.shutRef i } }
  if s1.isHead && i == 0 && s1.tbSrc 0 == 1 then
    (s1.tbTo 0 (if s1.getF F.SCN_STAT_GLK = 2 then 2 else 1)).settleEval
  else s1.settleEval

/-- A write of `TIM_CTL` (R301, R302): the capture, then the stop bits. -/
def State.timCtlWrite (s : State) (w : Word) : State :=
  let s1 := s.when (F.TIM_CTL_CAP.of w == 1) State.timeCapture
  let old := s1.getF F.TIM_CTL_STOP
  let new := F.TIM_CTL_STOP.of w
  (s1.setF F.TIM_CTL_STOP new).forEach [0, 1, 2, 3] (fun i t =>
    if new.testBit i && !old.testBit i then (t.tbTo i 0).settleEval
    else if !new.testBit i && old.testBit i then t.tbSelect i
    else t)

/-- `TIME_CAPTURE` (R302). -/
def execTimeCapture (who : Initiator) (s : State) : Res := .next (s.guarded who A.TIM_CTL State.timeCapture)

/-- WRAPS as device firmware writes it at a wrap of a TB3 that follows a master (R317): bits [63:32] of the master's time in ns,
of which TB3 keeps the bits below. The last sync came less than half a turn of TB3 ago. -/
def State.writeWraps (s : State) : State :=
  match s.tim.ptp.last with
  | some (t1, _) =>
    let ns := t1 / 256
    s.when (s.tbSrc 3 == 1 && s.flag F.TIM_PTPSTAT_MASTER) (fun t =>
      { t with tim := { t.tim with wraps := BitVec.ofNat 32 (ns / 2 ^ 32 + (if 2 ^ 31 ≤ ns % 2 ^ 32 then 1 else 0)) } })
  | none => s

/-- `TIME_BASE_WRAP` (R302, R317). -/
def execTimeBaseWrap (i : Fin 4) (s : State) : Res :=
  if s.tim.running then .next ((s.raiseBit F.TIM_EVT_WRAP i).when (i.val == 3) State.writeWraps) else .next s

/-- `SETTLE_EXPIRY` (R316): TB0 has been LOCKED for the settle time without interruption. -/
def execSettleExpiry (s : State) : Res :=
  if s.tbState 0 = 2 then .next ({ s with tim := { s.tim with settled := true } }).settleEval else .next s

end Sys2Proof.Machine
end

