-- ==== Sys2Proof/Machine/Sump.lean ====
section
/-!
DEFINITION. The Sump (R411 to R418): staging, record copies, the save engine row by row, the fault ring; and the resets
that end a save (R51, R54, R406 to R408).
-/

namespace Sys2Proof.Machine

/-! ### Records -/

/-- The rows of a record (R412). -/
def recordRows : Nat → List Nat
  | 0 => [0]
  | 1 => [1]
  | 2 => (List.range 24).map (· + 2)
  | 3 => (List.range 4).map (· + 26)
  | 4 => (List.range 34).map (· + 30)
  | _ => []

/-- The bytes of a row of a store of rows. -/
def rowBytes (m : List (Nat × Byte)) (row : Nat) : List (Nat × Byte) :=
  m.filter (fun p => p.1 / 512 == row)

/-- The CRC-32 of R120 over the 512 bytes of a row (R413). -/
def rowCrc (m : List (Nat × Byte)) (row : Nat) : Word := crc32 (memBytes m (512 * row) 512)

/-- The write sequence of a copy: that of its record's first row. -/
def SumpCopy.seq (r : Nat) (c : SumpCopy) : Word := (tabGet {} c.tags ((recordRows r).headD 0)).seq

/-- A row of a copy carries a sequence and the CRC of its bytes (R413). -/
def SumpCopy.rowOk (c : SumpCopy) (seq : Word) (row : Nat) : Bool :=
  tabGet {} c.tags row == { seq := seq, crc := rowCrc c.bytes row }

/-- A copy is valid: all its rows carry one sequence and correct CRCs (R413). -/
def copyValid (r : Nat) (c : SumpCopy) : Bool :=
  !(recordRows r).isEmpty && (recordRows r).all (fun row => c.rowOk (c.seq r) row)

/-- Copy A is the newest valid copy; with none valid, the next write goes to copy A. Sequences are compared modulo 2^32
(DESIGN CHOICE, log entry 33). -/
def newestIsA (x : SumpState) (r : Nat) : Bool :=
  let a := tabGet {} x.copyA r
  let b := tabGet {} x.copyB r
  copyValid r a && (!copyValid r b || decide (0 ≤ diff32 (a.seq r) (b.seq r)))

/-- The newest valid copy of a record (R413). -/
def newestCopy (x : SumpState) (r : Nat) : Option SumpCopy :=
  let a := tabGet {} x.copyA r
  let b := tabGet {} x.copyB r
  if newestIsA x r then some a else if copyValid r b then some b else none

/-- The record's staging differs from its newest valid copy (R415). -/
def recordDirty (x : SumpState) (r : Nat) : Bool :=
  match newestCopy x r with
  | some c => decide (c.bytes ≠ x.staging.filter (fun p => (recordRows r).contains (p.1 / 512)))
  | none => true

/-- `SMP_DIRTY.REC`: a bit for each record. The loss record, which only a save fills, is never dirty. -/
def dirtyBits (x : SumpState) : Nat :=
  ((List.range 5).filter (fun r => r != 0 && recordDirty x r)).foldl (fun a r => a + 2 ^ r) 0

/-- The rows of a save in the order of R415 and R417: the loss record, then the records that differ, with the fault
record before record 2 where slots are pending. -/
def saveRows (x : SumpState) : List (Nat × Nat) :=
  let rec1 := if recordDirty x 1 then [1] else []
  let rec3 := if x.posts.isEmpty then [] else [3]
  let rec2 := if recordDirty x 2 then [2] else []
  let rec4 := if recordDirty x 4 then [4] else []
  ([0] ++ rec1 ++ rec3 ++ rec2 ++ rec4).flatMap (fun r => (recordRows r).map (fun k => (r, k)))

/-- A row taken into a copy with its tag; the other rows stay as they are. -/
def SumpCopy.putRow (c : SumpCopy) (staging : List (Nat × Byte)) (seq : Word) (row : Nat) : SumpCopy :=
  { tags := tabPut c.tags row { seq := seq, crc := rowCrc staging row },
    bytes := c.bytes.filter (fun p => decide (p.1 / 512 < row)) ++
      (rowBytes staging row ++ c.bytes.filter (fun p => decide (row < p.1 / 512))) }

/-- One row written into the copy that is not the newest valid one, under the next sequence (R413). -/
def writeRow (x : SumpState) (r row : Nat) : SumpState :=
  let seq := (match newestCopy x r with | some c => c.seq r | none => 0) + 1
  let put := fun (t : List (Nat × SumpCopy)) => tabPut t r ((tabGet {} t r).putRow x.staging seq row)
  { x with
    copyA := if newestIsA x r then x.copyA else put x.copyA
    copyB := if newestIsA x r then put x.copyB else x.copyB
    lossSaved := if r = 0 then x.loss else x.lossSaved }

/-- A record written whole (R413). -/
def writeRecord (x : SumpState) (r : Nat) : SumpState := (recordRows r).foldl (fun y row => writeRow y r row) x

/-- A byte of the save areas and of the fault ring at its offset in the Sump (R411); beyond them lies what the device never
writes. -/
def SumpState.byteAt (x : SumpState) (off : Nat) : Option Byte :=
  let area := fun (t : List (Nat × SumpCopy)) (a : Nat) => t.findSome? (fun p =>
    if (recordRows p.1).contains (a / 512) then some (memGet p.2.bytes a) else none)
  if off < 0x8000 then area x.copyA off
  else if off < 0x10000 then area x.copyB (off - 0x8000)
  else if off < 0x20000 then some (nth (tabGet [] x.ring ((off - 0x10000) / 64)) (off % 64) 0)
  else none

/-! ### The records that the device fills

The layout of row 0 is that of R418. Those of rows 1 and 2 to 25 are the model's own (DESIGN CHOICE, log entry 62): the spec
gives only what they hold. A first byte 1 marks a record that was filled, so that zeros are no record (R416). -/

/-- The bytes of the loss record (R418). -/
def LossRecord.bytes (x : LossRecord) : List Byte :=
  bytesLe 0x4C4F5353 4 ++ bytesLe x.saves 4 ++ bytesLe x.cause 1 ++ bytesLe x.rows 1 ++ bytesLe x.dip 1 ++ bytesLe x.flags 1 ++
    bytesLe x.ckeepMv 4 ++ bytesLe x.keepCycles 4 ++ bytesLe x.tb0.toNat 4 ++ bytesLe x.frame.toNat 4 ++ bytesLe x.duty 1 ++
    bytesLe x.thermal 1

/-- The loss record in the staging (R418). -/
def lossOf (m : List (Nat × Byte)) : LossRecord :=
  { saves := memRead m 4 4, cause := memRead m 8 1, rows := memRead m 9 1, dip := memRead m 10 1, flags := memRead m 11 1,
    ckeepMv := memRead m 12 2, keepCycles := memRead m 16 4, tb0 := BitVec.ofNat 32 (memRead m 20 4),
    frame := BitVec.ofNat 32 (memRead m 24 4), duty := memRead m 28 1, thermal := memRead m 29 1 }

/-- The bytes of record 1. -/
def SysRecord.bytes (x : SysRecord) : List Byte :=
  bytesLe 1 1 ++ bytesLe x.duty 1 ++ bytesLe x.geodeSet 2 ++ bytesLe x.term.toNat 4 ++ bytesLe x.copy.toNat 4 ++
    bytesLe x.geodeCounter.toNat 8 ++ bytesLe x.thermStat.toNat 4 ++ bytesLe x.thermCnt.toNat 4

/-- Record 1 as a store of rows holds it. -/
def sysOf (m : List (Nat × Byte)) : SysRecord :=
  if memGet m 512 = 0 then {}
  else
    { duty := memRead m 513 1, geodeSet := memRead m 514 2, term := BitVec.ofNat 32 (memRead m 516 4),
      copy := BitVec.ofNat 32 (memRead m 520 4), geodeCounter := BitVec.ofNat 64 (memRead m 524 8),
      thermStat := BitVec.ofNat 32 (memRead m 532 4), thermCnt := BitVec.ofNat 32 (memRead m 536 4) }

/-- Where the parts of record 2 stand in the staging: its fields, the held-block map of 4,032 bytes, and the two settings sets
of 4 KiB, confirmed and trial. -/
def updBase : Nat := 1024
def updMap : Nat := updBase + 64
def updConfirmed : Nat := updBase + 4096
def updTrial : Nat := updBase + 8192

/-- The bytes of an interface version at the head of a settings set (R402): whether the set is held, and the version. -/
def ifaceBytes (v : Option Nat) : List Byte :=
  match v with
  | some n => bytesLe 1 2 ++ bytesLe n 2
  | none => bytesLe 0 4

/-- The interface version of a settings set (R402). -/
def ifaceOf (m : List (Nat × Byte)) (a : Nat) : Option Nat := if memGet m a = 0 then none else some (memRead m (a + 2) 2)

/-- The first 64 bytes of record 2. -/
def UpdRecord.bytes (x : UpdRecord) : List Byte :=
  bytesLe x.valid.toNat 1 ++ bytesLe x.spare 1 ++ bytesLe x.vcode 1 ++ bytesLe x.starts 1 ++ bytesLe x.cause 1 ++
    bytesLe x.late.toNat 1 ++ bytesLe x.fell.toNat 2 ++ bytesLe x.pkg.toNat 8 ++ bytesLe x.confirmed.toNat 8 ++ bytesLe x.oldPkg.toNat 8

/-- A block's bit set in a held-block map. -/
def setHeld (m : List (Nat × Byte)) (k : Nat) : List (Nat × Byte) :=
  memPut m (updMap + k / 8) (memGet m (updMap + k / 8) ||| BitVec.ofNat 8 (2 ^ (k % 8)))

/-- The blocks of a held-block map. -/
def heldOf (m : List (Nat × Byte)) : List Nat :=
  (m.filter (fun p => decide (updMap ≤ p.1) && decide (p.1 < updConfirmed))).flatMap (fun p =>
    ((List.range 8).filter (fun i => p.2.getLsbD i)).map (fun i => 8 * (p.1 - updMap) + i))

/-- Record 2 as a store of rows holds it. -/
def updOf (m : List (Nat × Byte)) : UpdRecord :=
  if memGet m updBase = 0 then {}
  else
    { valid := true, spare := memRead m (updBase + 1) 1, vcode := memRead m (updBase + 2) 1, starts := memRead m (updBase + 3) 1,
      cause := memRead m (updBase + 4) 1, late := memRead m (updBase + 5) 1 != 0, fell := memRead m (updBase + 6) 2 != 0,
      pkg := BitVec.ofNat 64 (memRead m (updBase + 8) 8), confirmed := BitVec.ofNat 64 (memRead m (updBase + 16) 8),
      oldPkg := BitVec.ofNat 64 (memRead m (updBase + 24) 8), held := heldOf m,
      confirmedIface := ifaceOf m updConfirmed, trialIface := ifaceOf m updTrial }

/-- The loss record filled, in the staging too (R418). -/
def SumpState.setLoss (x : SumpState) (l : LossRecord) : SumpState :=
  { x with loss := l, staging := memPuts x.staging 0 l.bytes }

/-- Record 1 filled, in the staging too (R182, R342). -/
def SumpState.setSys (x : SumpState) (r : SysRecord) : SumpState :=
  { x with sys := r, staging := memPuts x.staging 512 r.bytes }

/-- Record 2 filled, in the staging too (R401): its fields, the map, and the versions of the two settings sets. -/
def SumpState.setUpd (x : SumpState) (r : UpdRecord) : SumpState :=
  let m0 := memPuts x.staging updBase r.bytes
  let m1 := m0.filter (fun p => decide (p.1 < updMap) || decide (updConfirmed ≤ p.1))
  let m2 := r.held.foldl setHeld m1
  { x with upd := r, staging := memPuts (memPuts m2 updConfirmed (ifaceBytes r.confirmedIface)) updTrial (ifaceBytes r.trialIface) }

/-- The trial set made the confirmed set (R404). -/
def SumpState.promoteTrial (x : SumpState) : SumpState :=
  { x with staging := x.staging.filter (fun p => decide (p.1 < updConfirmed)) ++
      ((x.staging.filter (fun p => decide (updTrial ≤ p.1) && decide (p.1 < updTrial + 4096))).map (fun p => (p.1 - 4096, p.2)) ++
        x.staging.filter (fun p => decide (updTrial + 4096 ≤ p.1))) }

/-- The trial set discarded (R403). -/
def SumpState.dropTrial (x : SumpState) : SumpState :=
  { x with staging := x.staging.filter (fun p => decide (p.1 < updTrial) || decide (updTrial + 4096 ≤ p.1)) }

/-- Record 1 as its newest valid copy holds it. -/
def SumpState.sysSaved (x : SumpState) : SysRecord :=
  match newestCopy x 1 with
  | some c => sysOf c.bytes
  | none => {}

/-- Record 2 as its newest valid copy holds it. -/
def SumpState.updSaved (x : SumpState) : UpdRecord :=
  match newestCopy x 2 with
  | some c => updOf c.bytes
  | none => {}

/-! ### Resets -/

/-- Power-on reset (R51): all logic and memories cleared; fuses, Sump contents and external NVM kept. The monitors go
on showing which supplies are in range. -/
def State.enterPor (s : State) : State :=
  let sup := s.getW A.SUP_STAT &&& 0x1FFF01FF
  let x : SumpState := {
    copyA := s.smp.copyA, copyB := s.smp.copyB, lossSaved := s.smp.lossSaved, ring := s.smp.ring, ringNext := s.smp.ringNext,
    lastSaved := s.smp.lastSaved, lastCut := s.smp.lastCut }
  let s0 : State := { State.reset with
    pending := s.pending, now := s.now, fresh := s.fresh, fuses := s.fuses, kar := s.kar, nvm := s.nvm, out := s.out,
    pwr := { porstLow := s.pwr.porstLow, ilkInLow := s.pwr.ilkInLow, ilkOutLow := s.pwr.ilkOutLow }, boot := { debugNext := s.boot.debugNext }, smp := x }
  s0.setW A.SUP_STAT sup

/-- The registers that device reset keeps (R51): the supply block, `RST_CAUSE` and the Sump block. -/
def keptByDeviceReset (a : Nat) : Bool := blockOf a == 1 || blockOf a == 25 || a == A.RST_CAUSE

/-- Device reset (R51): everything outside the always-on domain cleared, then a full start from the fuses. -/
def State.deviceReset (s : State) : State :=
  let sysLost := !(s.flag F.CLK_STAT_SYS_LOCK)
  let r : State := { State.reset with
    pending := s.pending, now := s.now, fresh := s.fresh, fuses := s.fuses, kar := s.kar, nvm := s.nvm, out := s.out,
    regs := tabFilter (fun a => !keptByDeviceReset a) s.regs
    pwr := { phase := if sysLost then .sysPll else .run, porstLow := s.pwr.porstLow, porEnd := s.pwr.porEnd,
             txIdle := sysLost, wdtArmed := !sysLost, wdtAt := s.now, ilkInLow := s.pwr.ilkInLow, ilkOutLow := s.pwr.ilkOutLow }
    boot := { debugNext := s.boot.debugNext }
    core := { mem := s.core.mem.filter (fun p => decide (0x100000000 ≤ p.1)) }
    smp := { s.smp with save := none } }
  if sysLost then r else { r.raise F.CLK_STAT_SYS_LOCK with tim := { r.tim with running := true, startAt := r.now } }

/-- The outputs that the clamps of R38 take down without a clock: transmitters, phases, `ILK_OUT` and the HPD outputs
(R329, R407). -/
def State.clampOutputs (s : State) : State :=
  let s1 := { s with pwr := { s.pwr with txIdle := true }, rail := { s.rail with duty := [] },
                     red := { s.red with claim := none } }
  (s1.setB F.RED_STAT_ILK_OUT false).forEach [0, 1, 2, 3] (fun n t => t.setF (F.LAN_DPLINK_HPD n) 0)

/-- The loss record as a save begins it (R418). -/
def State.fillLoss (s : State) (cause : Nat) : State :=
  let l : LossRecord :=
    { saves := s.smp.lossSaved.saves + 1, cause := cause, rows := 1, dip := s.getF F.SUP_EVT_DIP,
      flags := s.getF F.SUP_EVT_CKEEP_LOW, ckeepMv := s.getF F.SUP_STAT_CKEEP_MV,
      keepCycles := (s.now - s.pwr.releaseAt) * 32768 / 1000000000,
      tb0 := BitVec.ofNat 32 (s.tbVal 0 / 256),
      frame := s.getW A.TIM_FRAME, duty := s.duty, thermal := s.getF F.THM_STAT_STATE }
  { s with smp := s.smp.setLoss l }

/-- A save begun: the rows of R415, the engine saving (R407, R418). A record write in progress is abandoned. -/
def State.startSave (s : State) (kind : SaveKind) : State :=
  let s1 := { s with smp := { s.smp with save := some { kind := kind, rows := saveRows s.smp } } }
  s1.setF F.SMP_STAT_STATE 3

/-- Record 1 as the save takes it: the redundancy record of a Head (R342) and the thermal summary (R412). -/
def State.fillSys (s : State) : State :=
  let r : SysRecord := { s.smp.sys with thermStat := s.getW A.THM_STAT, thermCnt := s.getW A.THM_CNT }
  let x := if s.isHead then { r with term := s.getW A.RED_TERM, duty := s.duty, copy := s.getW A.RED_COPY } else r
  { s with smp := s.smp.setSys x }

/-- The update record as a save takes it (R401): what the registers show, and the settings set that belongs to the run. -/
def State.fillUpd (s : State) : State :=
  if s.upd.filled then
    let r := s.smp.upd
    let pkg := BitVec.ofNat 64 (s.getF F.UPD_PKGL_PKG + 2 ^ 32 * s.getF F.UPD_PKGH_PKG)
    let spare := if s.getF F.UPD_STAT_SPARE = 5 then 4 else s.getF F.UPD_STAT_SPARE
    let trial := s.flag F.UPD_STAT_TRIAL
    let x : UpdRecord := { r with
      valid := true, pkg := pkg, spare := spare, vcode := s.getF F.UPD_STAT_VCODE, held := s.upd.held,
      trialIface := if trial then some s.boot.fw.iface else r.trialIface,
      confirmedIface := if trial then r.confirmedIface else some s.boot.fw.iface }
    { s with smp := s.smp.setUpd x }
  else s

/-- Events 3 to 5 of the supply-loss sequence (R407): the hard blank and the clamps, `ILK_OUT` released and the failed duty
on a paired Head (R334), the watchdog stopped (R53). -/
def State.lossEvents (s : State) : State :=
  let s1 := { s with lmp := { s.lmp with lossHard := true }, pwr := { s.pwr with phase := .lossSave, wdtArmed := false } }
  let s2 := (s1.hardBlank).clampOutputs
  if s2.paired then ((s2.setF F.RED_STAT_DUTY 3).setF F.RED_STAT_CAUSE 5).raise F.RED_EVT_FAILED else s2

/-- The supply-loss sequence begun (R406, R407). -/
def State.startLoss (s : State) : State := ((((s.fillLoss 1).fillSys).fillUpd).lossEvents).startSave .loss

/-- The cause of a device reset recorded (R54): 2 watchdog, 3 `RST_CTL.DEVICE`, 4 SYSPLL. -/
def State.resetCause (s : State) (cause : Nat) : State :=
  match cause with
  | 2 => (s.raise F.RST_CAUSE_WDT).bump F.RST_CAUSE_WDT_COUNT
  | 3 => s.raise F.RST_CAUSE_SOFT
  | _ => s.raise F.RST_CAUSE_SYSCLK

/-- A save that a reset or the supply-loss sequence needs is running. -/
def State.saving (s : State) : Bool :=
  match s.smp.save with
  | some x => match x.kind with | .record _ => false | _ => true
  | none => false

/-- A device reset requested (R54, R418): its cause recorded, and the reset save begun. The reset takes effect when that
save ends; until then the device goes on, its watchdog too. A sequence that already ends in a reset absorbs the request; a cause
of a later KEEP cycle of that sequence is recorded as one of the first is (DEDUCED, log entry 33). -/
def State.requestReset (s : State) (cause : Nat) : State :=
  let s1 := s.resetCause cause
  if s1.saving || decide (s1.pwr.phase = .por) then s1
  else (((s1.fillLoss cause).fillSys).fillUpd).startSave (.reset false)

/-- What the engine keeps of a save that has ended (R416, R418): the rows that it wrote, and whether it was cut short. -/
def SumpState.saveEnded (x : SumpState) (done : Nat) (cut : Bool) : SumpState :=
  { x with save := none, lastSaved := true, lastCut := cut, lossSaved := { x.lossSaved with rows := done } }

/-- What follows the last row of a write of the save engine, or the row at which it is cut short. -/
def State.endSave (s : State) (x : SaveX) (cut : Bool) : State :=
  match x.kind with
  | .loss => ({ s with smp := s.smp.saveEnded x.done cut }).enterPor
  | .reset por =>
    let s1 := ({ s with smp := s.smp.saveEnded x.done cut }).setF F.SMP_STAT_STATE 0
    if por || s1.pwr.porAfterRow then s1.enterPor else s1.deviceReset
  | .record _ =>
    let s1 := { s with smp := { s.smp with save := none } }
    (s1.setF F.SMP_STAT_STATE 0).when (!cut) (fun t => t.raise F.SMP_EVT_WRITTEN)

/-- The save engine writes one row, or ends short where CKEEP has reached its floor (R407, R410). -/
def State.rowWritten (s : State) (ckeepMv : Nat) : State :=
  match s.smp.save with
  | none => s
  | some x =>
    match x.rows with
    | [] => s.endSave x false
    | (r, row) :: rest =>
      if ckeepMv < 3000 then s.endSave x true
      else
        let y : SaveX := { x with rows := rest, done := x.done + 1 }
        let s1 : State := { s with smp := { writeRow s.smp r row with save := some y } }
        if s1.pwr.porAfterRow then ({ s1 with smp := s1.smp.saveEnded y.done (!rest.isEmpty) }).enterPor
        else if rest.isEmpty then s1.endSave y false
        else s1

/-- A write of `SMP_CTL.WRITE` (R414). -/
def State.recordWrite (s : State) (r : Nat) : State :=
  if r < 1 ∨ 4 < r then s
  else
    let rows := (recordRows r).map (fun k => (r, k))
    match s.smp.save with
    | none => ({ s with smp := { s.smp with save := some { kind := .record r, rows := rows } } }).setF F.SMP_STAT_STATE 2
    | some x =>
      match x.kind with
      | .record _ => { s with smp := { s.smp with save := some { x with rows := x.rows ++ rows } } }
      | _ => s

/-- `RECORD_WRITE` (R414). -/
def execRecordWrite (who : Initiator) (r : Fin 8) (s : State) : Res :=
  .next (s.guarded who A.SMP_CTL (fun t => t.recordWrite r.val))

/-- One fault slot posted (R417). -/
def State.postFault (s : State) (k : Nat) : State :=
  if s.smp.posts.contains k then s.raise F.SMP_EVT_FPOST_IGN
  else { s with smp := { s.smp with posts := s.smp.posts ++ [k] } }

/-- A write of `SMP_FPOST` (R417). -/
def State.faultPost (s : State) (slots : Word) : State :=
  s.forEach ((List.range 32).filter (fun k => slots.toNat.testBit k)) (fun k t => t.postFault k)

/-- `FAULT_POST` (R417). -/
def execFaultPost (who : Initiator) (slots : Word) (s : State) : Res :=
  .next (s.guarded who A.SMP_FPOST (fun t => t.faultPost slots))

/-- The 64 bytes of a fault slot in the staging (R412). -/
def faultSlot (x : SumpState) (k : Nat) : List Byte :=
  (List.range 64).map (fun i => memGet x.staging (26 * 512 + 64 * k + i))

/-- A slot moved into the fault ring. -/
def drainOne (x : SumpState) (k : Nat) : SumpState :=
  { x with ring := tabPut x.ring (x.ringNext % 1024) (faultSlot x k), ringNext := x.ringNext + 1 }

/-- `FAULT_DRAIN` (R417): up to eight entries in a KEEP cycle, oldest post first. -/
def execFaultDrain (s : State) : Res :=
  match s.smp.save with
  | some _ => .next s
  | none =>
    let now := s.smp.posts.take 8
    let x := now.foldl drainOne s.smp
    let s1 := { s with smp := { x with posts := s.smp.posts.drop 8 } }
    .next (s1.setF F.SMP_FSEQ_COUNT x.ringNext)

/-- A byte-wise copy of a record's newest valid copy into the staging, zeros where there is none (R416). -/
def fillRecord (x : SumpState) (r : Nat) : SumpState :=
  let kept := x.staging.filter (fun p => !(recordRows r).contains (p.1 / 512))
  match newestCopy x r with
  | some c => { x with staging := c.bytes.foldl (fun m p => memPut m p.1 p.2) kept }
  | none => { x with staging := kept }

/-- The staging filled from the newest valid copies, with what the start reports of the last save (R416). -/
def State.sumpFill (s : State) : State :=
  let x0 := (List.range 5).foldl fillRecord s.smp
  let bad := (List.range 5).filter (fun r => (newestCopy s.smp r).isNone)
  let x := { x0 with loss := lossOf x0.staging, upd := updOf x0.staging, sys := sysOf x0.staging, lastSaved := false }
  let s1 := { s with smp := x, boot := { s.boot with sumpDone := true } }
  let s2 := s1.setF F.SMP_STAT_RECBAD (bad.foldl (fun a r => a + 2 ^ r) 0)
  let s3 := s2.when (!bad.isEmpty) (fun t => t.raise F.SMP_EVT_RECBAD)
  let s4 := s3.when s.smp.lastSaved (fun t => (t.raise F.SMP_EVT_SAVED).when s.smp.lastCut (fun u => u.raise F.SMP_EVT_CUT))
  let s5 := ((s4.setF F.SMP_STAT_LASTROWS x.lossSaved.rows).setB F.SMP_STAT_LASTCUT s.smp.lastCut).setF
    F.SMP_STAT_SAVES x.lossSaved.saves
  s5.setF F.SMP_FSEQ_COUNT x.ringNext

/-- `SUMP_FILL_DONE` (R416): once in each start. -/
def execSumpFillDone (s : State) : Res :=
  if s.pwr.phase = .por ∨ s.boot.sumpDone = true then .next s else .next s.sumpFill

end Sys2Proof.Machine
end

