-- ==== Sys2Proof/Machine/Ports.lean ====
section
/-!
DEFINITION. The state of a chain port (R107 to R116): its masks, its state, what follows when either changes; and the
state of a source (R141, R144).
-/

namespace Sys2Proof.Machine

/-- The stop bits of `LAN_CTL` as one field: eight ports, four receivers, the service lane (R99). -/
def laneCtl : Fld := ⟨A.LAN_CTL, 0, 13⟩

/-- The port stands in state RECOVERY: port A of a device in recovery mode, or a port under the recovery probe or kept
at 1.25 Gbaud by it (R108, R115, R140). -/
def State.portRec (s : State) (n : Nat) : Bool :=
  (n == 0 && s.recovering) || (s.port n).probing || (s.port n).slow

/-- The port state that the masks give (R115). -/
def portStateOf (rec : Bool) (rx tx : Nat) : Nat :=
  if rec then 3 else if rx = 0 then 0 else if tx = 0 then 1 else 2

/-- What a port forgets of its partner when its RXMASK empties (R115): also a partner in recovery mode, so that the port
goes back to its plan rate (R140; DESIGN CHOICE, log entry 65). -/
def PortX.forget (p : PortX) : PortX :=
  { p with prxSeen := false, partnerTx := 0, skewMask := 0, slow := false }

/-- A packet striped across a lane outside the own RXMASK (R116). -/
def State.striped (s : State) (n : Nat) : Bool :=
  ((s.port n).partnerTx &&& (15 - s.getF (F.LNK_PSTAT_RXMASK n))) != 0

/-- The masks changed while a packet is arriving or leaving (R116): an arriving one that now lies across a lane outside the
own RXMASK is lost; one that is leaving takes its remaining characters over the lanes of the new TXMASK; and a port that is
not UP forwards nothing (R123). -/
def State.restripe (s : State) (n oldTx : Nat) : State :=
  let x := s.port n
  let tx := s.getF (F.LNK_PSTAT_TXMASK n)
  let left := x.busyUntil - s.now
  let left1 := columnCount (left * (maskLanes oldTx).length) (maskLanes tx).length
  s.setPort n { x with
    rxStriped := x.rxStriped || (x.rxPkt && s.striped n),
    busyUntil := if tx = oldTx ∨ left = 0 then x.busyUntil else s.now + left1,
    fq := if s.getF (F.LNK_PSTAT_STATE n) = 2 then x.fq else [] }

/-- A port's own RXMASK and its TXMASK in force replaced; state, events and health record follow (R115, R116, R21). A Tile whose
port A leaves UP loses its service agent (R362). -/
def State.setMasks (s : State) (n rx tx : Nat) : State :=
  let oldSt := s.getF (F.LNK_PSTAT_STATE n)
  let oldTx := s.getF (F.LNK_PSTAT_TXMASK n)
  let tx1 := if rx = 0 then 0 else tx
  let rec_ := if rx = 0 then (s.setPort n (s.port n).forget).portRec n else s.portRec n
  let st := portStateOf rec_ rx tx1
  let s1 := ((s.setF (F.LNK_PSTAT_RXMASK n) rx).setF (F.LNK_PSTAT_TXMASK n) tx1).setF (F.LNK_PSTAT_STATE n) st
  let s2 := s1.when (tx1 != oldTx) (fun t => t.raiseBit F.LNK_EVT_RESTRIPE n)
  let s3 := s2.when (rx == 0) (fun t =>
    ((t.setF (F.LNK_PSTAT_PRXMASK n) 0).setF (F.LNK_PSTAT_SKEW n) 0).setPort n (t.port n).forget)
  let s4 := s3.when (st == 0 && oldSt != 0) (fun t => t.raiseBit F.LNK_EVT_DOWN n)
  let s5 := s4.when (st == 2 && oldSt != 2) (fun t => t.raiseBit F.LNK_EVT_UP n)
  let s6 := s5.when (st != oldSt || tx1 != oldTx) (fun t => { t with lnk := { t.lnk with extraStatus := true } })
  let s7 := s6.when (n == 0 && oldSt == 2 && st != 2 && !s6.isHead) (fun t => t.mbxReset .service)
  (s7.restripe n oldTx).latchPort n

/-- A lane leaves the RXMASK of its port at once (R97, R116), and is no longer one excluded for skew (R113). -/
def State.dropLane (s : State) (n k : Nat) : State :=
  let sk := (s.port n).skewMask &&& (15 - 2 ^ k)
  let s1 := (s.setPort n { s.port n with skewMask := sk }).setB (F.LNK_PSTAT_SKEW n) (sk != 0)
  let rx := s.getF (F.LNK_PSTAT_RXMASK n)
  if rx.testBit k then s1.setMasks n (rx - 2 ^ k) (s.getF (F.LNK_PSTAT_TXMASK n)) else s1.latchPort n

/-- The transmitter of a port can send packets: the port is UP or in RECOVERY with lanes in its TXMASK, and its transmit PLL
is locked (R45, R114, R115). -/
def State.canSend (s : State) (n : Nat) : Bool :=
  decide (2 ≤ s.getF (F.LNK_PSTAT_STATE n)) && s.getF (F.LNK_PSTAT_TXMASK n) != 0 && s.bit F.CLK_STAT_PORT_LOCK n &&
    !s.pwr.txIdle

/-- A packet that a port in state RECOVERY carries: hop-local UPD alone (R108, R140). -/
def recovCarries (h : Hdr) : Bool := h.hop && h.typ == 11

/-- What ingest holds for a source beside its registers. -/
def State.src (s : State) (n : Nat) : SrcX := tabGet {} s.ing.src n

/-- The state with a source's part replaced. -/
def State.setSrc (s : State) (n : Nat) (x : SrcX) : State :=
  { s with ing := { s.ing with src := tabPut s.ing.src n x } }

/-- `ING_SSTAT.STATE` of a source changed (R141, R144, R146): leaving STATE 2 sets SRC_HOLD and starts the hold time of
R165. -/
def State.srcState (s : State) (n v : Nat) : State :=
  let old := s.getF (F.ING_SSTAT_STATE n)
  let s1 := s.setF (F.ING_SSTAT_STATE n) v
  if old = 2 ∧ v ≠ 2 then
    (s1.raiseBit F.SCN_EVT_SRC_HOLD n).setSrc n { s1.src n with holdFrom := some s1.now }
  else if v = 2 then s1.setSrc n { s1.src n with holdFrom := none }
  else s1

/-- The receiver of a source stopped delivering video (R144): the frame begun last is lost unless the memory has acknowledged
it (DESIGN CHOICE, log entry 70), and a capture that was to stop at its end stops. -/
def State.srcLost (s : State) (n : Nat) : State :=
  if s.getF (F.ING_SSTAT_STATE n) = 0 then s
  else
    let stop := (s.src n).stopAtEnd
    let s1 := s.setSrc n { s.src n with filling := (s.src n).filling.dropLast, stopAtEnd := false }
    s1.srcState n (if stop then 0 else 1)

end Sys2Proof.Machine
end

