-- ==== Sys2Proof/Machine/Lanes.lean ====
section
/-!
DEFINITION. The serial lanes, the DisplayPort receivers and the service lane (R87 to R106).
-/

namespace Sys2Proof.Machine

/-! ### Units and lanes -/

/-- The unit of `LAN_CTL` that a lane belongs to: a port, a receiver, the service lane (R87). -/
def unitOf (m : Nat) : Nat := if m < 32 then m / 4 else if m < 48 then 8 + (m - 32) / 4 else 12

/-- The lanes of a unit. -/
def unitLanes (u : Nat) : List Nat :=
  if u < 8 then [4 * u, 4 * u + 1, 4 * u + 2, 4 * u + 3]
  else if u < 12 then [4 * u, 4 * u + 1, 4 * u + 2, 4 * u + 3]
  else [48]

/-- The unit works in the device's role (R12, R14, R100); in recovery mode port A and the service lane alone (R108). -/
def State.unitFitted (s : State) (u : Nat) : Bool :=
  if u < 8 then (if s.recovering then u == 0 else s.isHead || decide (u < 2))
  else if u < 12 then s.isHead && !s.recovering
  else true

/-- A chain port's rate and role let its lanes run (R87, R107). -/
def State.portRuns (s : State) (u : Nat) : Bool :=
  (decide (s.getF (F.LNK_PCFG_RATE u) ≤ 4) || (s.port u).slow || (s.port u).probing) &&
    decide (1 ≤ s.getF (F.LNK_PCFG_ROLE u)) && decide (s.getF (F.LNK_PCFG_ROLE u) ≤ 4)

/-- The unit's lanes are powered: it works in the role, its stop bit is 0, and a port has a rate and a role. -/
def State.unitOn (s : State) (u : Nat) : Bool :=
  s.unitFitted u && !(s.bit laneCtl u) && (decide (8 ≤ u) || s.portRuns u)

/-- A unit is idle (R99). -/
def State.unitIdle (s : State) (u : Nat) : Bool :=
  s.bit laneCtl u && (unitLanes u).all (fun m => s.getF (F.LAN_STATE m) == 0)

/-- What the complex holds for a lane beside its registers. -/
def State.lane (s : State) (m : Nat) : LaneX := tabGet {} s.lan.lanes m

/-- The state with a lane's part replaced. -/
def State.setLane (s : State) (m : Nat) (x : LaneX) : State :=
  { s with lan := { s.lan with lanes := tabPut s.lan.lanes m x } }

/-- What the complex holds for a DisplayPort receiver beside its registers. -/
def State.dp (s : State) (n : Nat) : DpX := tabGet {} s.lan.dp n

/-- The state with a receiver's part replaced. -/
def State.setDp (s : State) (n : Nat) (x : DpX) : State :=
  { s with lan := { s.lan with dp := tabPut s.lan.dp n x } }

/-- The board table of a lane (R93). A lane whose TABLE names a table, or an entry of one, that the plan does not hold has the
defaults: adaptive, 800 mV, 3.5 dB (DESIGN CHOICE, log entry 19). -/
def State.boardOf (s : State) (m : Nat) : BoardTable := nth s.plan.lane.boards (s.getF (F.LAN_CFG_TABLE m)) {}

/-- The lane adapts its equaliser (R94, R95). -/
def State.adaptive (s : State) (m : Nat) : Bool :=
  !s.boot.loaded || s.recovering || (nth (s.boardOf m).lanes m {}).adaptive

/-- The transmit settings of a lane, swing in mV and de-emphasis in tenths of a dB: those of its board table (R93), and
800 mV and 3.5 dB until the wall section is loaded and throughout recovery mode (R95). -/
def State.txSettings (s : State) (m : Nat) : Nat × Nat :=
  let b := nth (s.boardOf m).lanes m {}
  if !s.boot.loaded || s.recovering then (800, 35) else (b.swingMv, b.deemph10)

/-- The peaking code that a lane starts from (R94): in adaptive mode 8, or the code at which it was frozen when it lost
lock; the code of its board table in fixed mode. -/
def State.startPeak (s : State) (m : Nat) : Nat :=
  if s.adaptive m then (if (s.lane m).lost then (s.lane m).frozen.getD 8 else 8) else (nth (s.boardOf m).lanes m {}).peak

/-- The lane enters Acquire, with the peaking code it starts from (R94). -/
def State.acquire (s : State) (m : Nat) : State :=
  let p := s.startPeak m
  (((s.setF (F.LAN_STATE m) 2).setF (F.LAN_CFG_PEAK m) p).setB (F.LAN_CFG_ADAPT m) (s.adaptive m))

/-! ### Stopping and starting (R99, R100) -/

/-- The level on `DP<n>_HPD` (R104). -/
def State.hpdEval (s : State) (n : Nat) : State :=
  s.setB (F.LAN_DPLINK_HPD n)
    (s.isHead && s.released && !(s.bit F.LAN_CTL_DSTOP n) && (nth s.plan.ingest.src n {}).enable)

/-- A unit powered down (R99, R104). -/
def State.unitStop (s : State) (u : Nat) : State :=
  let s1 := s.forEach (unitLanes u) (fun m t => (t.setF (F.LAN_STATE m) 0).setLane m { lost := (t.lane m).lost })
  if u < 8 then (s1.setPort u { s1.port u with probing := false, slow := false }).setMasks u 0 0
  else if u < 12 then
    let n := u - 8
    let s2 := ((s1.setF (F.LAN_DPLINK_TRAIN n) 0).setF (F.LAN_DPLINK_ALIGNED n) 0).setF (F.LAN_DPLINK_LANES n) 0
    (s2.hpdEval n).srcLost n
  else { s1 with lan := { s1.lan with svcUp := false } }

/-- A unit started: its lanes look for a signal (R96, R99), its transmit PLL runs (R50). -/
def State.unitStart (s : State) (u : Nat) : State :=
  if s.unitOn u then
    let s1 := s.forEach (unitLanes u) (fun m t => t.when (t.getF (F.LAN_STATE m) == 0) (fun v => v.setF (F.LAN_STATE m) 1))
    if u < 8 then s1.raiseBit F.CLK_STAT_PORT_LOCK u
    else if u < 12 then s1.hpdEval (u - 8)
    else s1.raise F.CLK_STAT_SVC_LOCK
  else s

/-- `LAN_CTL` rewritten: each bit that rises stops its unit, each bit that falls starts it. -/
def State.laneControl (s : State) (new : Nat) : State :=
  let old := s.getF laneCtl
  (s.setF laneCtl new).forEach (List.range 13) (fun u t =>
    if new.testBit u && !old.testBit u then t.unitStop u
    else if !new.testBit u && old.testBit u then t.unitStart u
    else t)

/-- The chain ports that feed a Tile with blocks of the active Geode set (R183). -/
def State.geodePorts (s : State) : List Nat :=
  match s.plan.comp.geodeSets.find? (fun g => g.num == s.getF F.GEO_STAT_ACTIVE) with
  | some g =>
    (List.range 8).filter (fun n => s.plan.comp.tiles.any (fun p =>
      p.chain == nth s.plan.link.chain n n && g.blocks.any (fun b => b.tile == p.id)))
  | none => []

/-- The value that a write leaves in `LAN_CTL`: the service port cannot write SSTOP (R100), and a port that feeds Geode
blocks cannot be stopped (R183). -/
def State.laneCtlValue (s : State) (who : Initiator) (new : Nat) : Nat :=
  let v := if who = .service then new % 4096 + 4096 * (s.getF F.LAN_CTL_SSTOP) else new
  if s.isHead then
    s.geodePorts.foldl (fun a n => if a.testBit n && !(s.bit laneCtl n) then a - 2 ^ n else a) v
  else v

/-- A write of `LAN_CTL`. -/
def State.laneCtlWrite (s : State) (who : Initiator) (new : Nat) : State :=
  let guardHit := s.isHead && s.geodePorts.any (fun n => new.testBit n && !(s.bit laneCtl n))
  (s.laneControl (s.laneCtlValue who new)).when guardHit (fun t => t.raise F.CMP_EVT_STOP_GUARD)

/-- `LANE_STOP` (R99). -/
def execLaneStop (who : Initiator) (units : BitVec 13) (s : State) : Res :=
  .next (s.guarded who A.LAN_CTL (fun t => t.laneCtlWrite who (t.getF laneCtl ||| units.toNat)))

/-- `LANE_START` (R99). -/
def execLaneStart (who : Initiator) (units : BitVec 13) (s : State) : Res :=
  .next (s.guarded who A.LAN_CTL (fun t => t.laneCtlWrite who (t.getF laneCtl &&& (8191 - units.toNat))))

/-! ### Lock (R96, R97) -/

/-- `LANE_SIGNAL_DETECT` (R96). -/
def execLaneSignalDetect (m : Fin 49) (s : State) : Res :=
  if s.getF (F.LAN_STATE m) = 1 then .next (s.acquire m) else .next s

/-- One move of the peaking code towards the larger opening of the eye (R94): up or down by one, within 0 to 15. -/
def peakStep (p : Nat) (up : Bool) : Nat := if up then min 15 (p + 1) else p - 1

/-- `LANE_CDR_LOCK` (R96): in adaptive mode the equaliser has made its moves, one code each, and freezes (R94); the peaking
codes of a DisplayPort receiver freeze at INTERLANE_ALIGN_DONE (R103). -/
def execLaneCdrLock (m : Fin 49) (moves : List Bool) (s : State) : Res :=
  if s.getF (F.LAN_STATE m) ≠ 2 then .next s
  else if s.adaptive m then
    let peak := moves.foldl peakStep (s.getF (F.LAN_CFG_PEAK m))
    let limit := peak == 0 || peak == 15
    let hold := if 32 ≤ m.val ∧ m.val < 48 then (s.lane m).frozen else some peak
    let s1 := ((s.setF (F.LAN_STATE m) 3).setF (F.LAN_CFG_PEAK m) peak).setLane m { s.lane m with frozen := hold }
    .next ((s1.setB (F.LAN_EQ_LIMIT m) limit).when limit (fun t => t.raise F.LAN_EVT_EQ_LIMIT))
  else .next (s.setF (F.LAN_STATE m) 3)

/-- `LANE_COMMA_ALIGN` (R96): commas found inverted against RX_INV only mark the lane. -/
def execLaneCommaAlign (m : Fin 49) (inverted : Bool) (s : State) : Res :=
  if s.getF (F.LAN_STATE m) ≠ 3 then .next s
  else if inverted then .next (s.raise (F.LAN_POL_SUSPECT m))
  else .next ((s.setF (F.LAN_STATE m) 4).setF (F.LAN_POL_SUSPECT m) 0)

/-- The base page of the service lane (R105): full duplex, no half duplex, no pause, no next pages. The places of the bits
are those of clause 37 (PRESUMED, log entry 66). -/
def svcAdvert : BitVec 16 := 0x0020

/-- Automatic negotiation is on (R105). -/
def State.svcNegotiates (s : State) : Bool := s.plan.lane.svcAnEnable || !s.boot.loaded

/-- `LANE_QUALIFIED` (R96): the lane is Locked; REGAINED after a loss. The service lane, once synchronised, sends its base
page (R105). -/
def execLaneQualified (m : Fin 49) (s : State) : Res :=
  if s.getF (F.LAN_STATE m) ≠ 4 then .next s
  else
    let s1 := (s.setF (F.LAN_STATE m) 5).setLane m { s.lane m with lost := false, gaps := [], since := 0 }
    let s2 := s1.when (m.val == 48 && s1.svcNegotiates) (fun t => t.emit (.svcPage svcAdvert))
    .next (s2.when ((s.lane m).lost && decide (m.val < 32)) (fun t => t.raiseBit F.LAN_EVT_REGAINED (m.val / 4)))

/-- A lane of a receiver carries main-link data (R101): a lane count of `c` uses lanes 0 to `c` − 1. -/
def State.dpUses (s : State) (n k : Nat) : Bool := (s.dp n).lanes == 0 || decide (k < (s.dp n).lanes)

/-- A receiver that was trained lost lock or alignment (R104). -/
def State.dpLost (s : State) (n : Nat) : State :=
  let s1 := s.raiseBit F.LAN_EVT_DP_LOST n
  if s1.getF (F.LAN_DPLINK_TRAIN n) = 3 then
    (((s1.setF (F.LAN_DPLINK_TRAIN n) 4).setF (F.LAN_DPLINK_ALIGNED n) 0).emit (.hpdPulse n)).srcLost n
  else s1

/-- The service lane loses its link (R97, R105); the service agent counts as reset (R362). -/
def State.svcLost (s : State) : State :=
  (({ s with lan := { s.lan with svcUp := false } }).raise F.LAN_EVT_SVC_LOST).mbxReset .service

/-- A Locked lane declares loss of lock (R97); `signal` says whether its input still holds a signal. -/
def State.laneLoss (s : State) (m : Nat) (signal : Bool) : State :=
  let s0 := s.setLane m { s.lane m with lost := true, gaps := [], since := 0, rd := none }
  let s1 := (if signal then s0.acquire m else s0.setF (F.LAN_STATE m) 1).bump (F.LAN_ERR_LOSS m)
  if m < 32 then (s1.raiseBit F.LAN_EVT_LOST (m / 4)).dropLane (m / 4) (m % 4)
  else if m < 48 then s1.when (s1.dpUses ((m - 32) / 4) (m % 4)) (fun t => t.dpLost ((m - 32) / 4))
  else s1.svcLost

/-- A framing error on a lane that carries packets (R110): counted between packets, and inside a packet the end of it as
stomped. -/
def State.framingError (s : State) (m : Nat) : State :=
  let n := m / 4
  if m < 32 ∧ 2 ≤ s.getF (F.LNK_PSTAT_STATE n) ∧ (s.port n).partnerTx.testBit (m % 4) = true then
    if (s.port n).rxPkt then s.setPort n { s.port n with rxBad := true } else s.bump (F.LNK_RXERR_FRAME n)
  else s

/-- A code violation (R91, R96, R97, R110), `gap` characters after the lane's previous one. The service lane's count takes
frame check failures instead (R106). -/
def State.violation (s : State) (m gap : Nat) : State :=
  let st := s.getF (F.LAN_STATE m)
  let s0 := if m < 48 then s.bump (F.LAN_ERR_CV m) else s
  if st = 4 then (s0.setF (F.LAN_STATE m) 3).setLane m { s0.lane m with since := 0, rd := none }
  else
    let s1 := s0.framingError m
    let g := ((if (s.lane m).gaps.isEmpty then 0 else gap) :: (s.lane m).gaps).take 4
    let full := decide (g.length = 4) && decide ((g.take 3).sum ≤ 63)
    if full then s1.laneLoss m true else s1.setLane m { s1.lane m with gaps := g, since := 0 }

/-- A 10-bit group on a lane in Qualify or Locked (R91, R92, R96): decoded against the running disparity; passed upward by a
Locked lane. A control character that a chain lane does not know is a framing error (R110). -/
def State.laneGroup (s : State) (m : Nat) (g : BitVec 10) : State :=
  let st := s.getF (F.LAN_STATE m)
  if st ≠ 4 ∧ st ≠ 5 then s
  else
    let x := s.lane m
    let d := decode10 x.rd g.toNat
    let s1 := s.setLane m { x with rd := some d.2, since := x.since + 1 }
    let s2 := s1.when (st == 5) (fun t => t.emit (.char m (d.1.map (fun c => (c.ctl, c.byte)))))
    match d.1 with
    | some c => if st = 5 ∧ c.ctl = true ∧ linkControls.contains c = false then s2.framingError m else s2
    | none => s2.violation m (x.since + 1)

/-- `CODE_VIOLATION` (R91, R96, R97, R110): the groups that a lane has received since the last ones given, up to the one that
violates the code. In Acquire and Align they are neither decoded nor counted (R96). -/
def execCodeViolation (m : Fin 49) (groups : List (BitVec 10)) (s : State) : Res :=
  .next (s.forEach groups (fun g t => t.laneGroup m g))

/-- `LANE_SIGNAL_LOST` (R97). -/
def execLaneSignalLost (m : Fin 49) (s : State) : Res :=
  let st := s.getF (F.LAN_STATE m)
  if st = 5 then .next (s.laneLoss m false)
  else if st = 0 then .next s
  else .next (s.setF (F.LAN_STATE m) 1)

/-- `MISALIGNED_COMMA` (R97). -/
def execMisalignedComma (m : Fin 49) (s : State) : Res :=
  if s.getF (F.LAN_STATE m) = 5 then .next (s.laneLoss m true) else .next s

/-- `CDR_FREQUENCY_LOCK_LOST` (R97). -/
def execCdrFrequencyLockLost (m : Fin 49) (signal : Bool) (s : State) : Res :=
  if s.getF (F.LAN_STATE m) = 5 then .next (s.laneLoss m signal) else .next s

/-! ### DisplayPort (R101 to R104) -/

/-- The lane count a receiver offers (R102): `ING_SCFG.LANES`, where values other than 1, 2 and 4 act as 4. -/
def State.dpMaxLanes (s : State) (n : Nat) : Nat :=
  let v := s.getF (F.ING_SCFG_LANES n)
  if v = 1 ∨ v = 2 then v else 4

/-- The lanes of a receiver in use that are Locked, as DPCD lane status shows them (R101, R104). -/
def State.dpLocked (s : State) (n : Nat) : BitVec 4 :=
  BitVec.ofNat 4 (([0, 1, 2, 3].filter (fun k => s.dpUses n k && s.getF (F.LAN_STATE (32 + 4 * n + k)) == 5)).foldl
    (fun a k => a + 2 ^ k) 0)

/-- A training pattern suits an equalisation at a rate (R101): TPS2 and TPS3, and TPS4 at 8.1 Gbit/s. -/
def eqPattern (rate tps : Nat) : Bool := tps == 2 || tps == 3 || (tps == 4 && rate == 3)

/-- The peaking codes of a receiver's lanes in use frozen (R103). -/
def State.dpFreeze (s : State) (n : Nat) : State :=
  s.forEach ([0, 1, 2, 3].filter (fun k => s.dpUses n k)) (fun k t =>
    t.setLane (32 + 4 * n + k) { t.lane (32 + 4 * n + k) with frozen := some (t.getF (F.LAN_CFG_PEAK (32 + 4 * n + k))) })

/-- Levels after a failed equalisation attempt (R103): where the board table says adaptive, pre-emphasis and swing rise
by one, up to the source's maximum. -/
def dpRaise (adaptive : Bool) (v max : Nat) : Nat := if adaptive && decide (v < max) then v + 1 else v

/-- What an AUX request does to a receiver that is on (R101 to R104). The board table that its levels come from is the one
that its lane 0 names (DESIGN CHOICE, log entry 19). Training begun on a trained receiver ends its video (R144). -/
def State.dpAux (s : State) (n : Nat) (r : DpAux) : State :=
  let x := s.dp n
  let b := s.boardOf (32 + 4 * n)
  match r with
  | .begin rate lanes =>
    let s0 := s.when (s.getF (F.LAN_DPLINK_TRAIN n) == 3) (fun t => t.srcLost n)
    let s1 := s0.setDp n { x with rate := rate.val, lanes := lanes, swing := b.dpVswing.getD 0, pre := b.dpPreemph.getD 0 }
    let s2 := ((s1.setF (F.LAN_DPLINK_TRAIN n) 1).setF (F.LAN_DPLINK_ALIGNED n) 0).setF (F.LAN_DPLINK_LANES n) 0
    (s2.when x.ever (fun t => t.bump (F.LAN_DPLINK_RETRAINS n))).emit (.auxReply n .ack)
  | .clockRecovery tps ok =>
    let able := tps == 1 && decide (x.rate ≤ s.getF (F.ING_SCFG_MAXRATE n)) && decide (x.lanes ≤ s.dpMaxLanes n) &&
      (x.lanes == 1 || x.lanes == 2 || x.lanes == 4)
    (s.when (ok && able && s.getF (F.LAN_DPLINK_TRAIN n) == 1) (fun t => t.setF (F.LAN_DPLINK_TRAIN n) 2)).emit (.auxReply n .ack)
  | .equalisation tps ok maxSwing maxPre =>
    if s.getF (F.LAN_DPLINK_TRAIN n) ≠ 2 then s.emit (.auxReply n .ack)
    else if ok && eqPattern x.rate tps then
      let s1 := (((s.setF (F.LAN_DPLINK_TRAIN n) 3).setF (F.LAN_DPLINK_RATE n) x.rate).setF (F.LAN_DPLINK_LANES n) x.lanes).raise
        (F.LAN_DPLINK_ALIGNED n)
      ((s1.setDp n { x with ever := true }).dpFreeze n).emit (.auxReply n .ack)
    else
      (s.setDp n { x with pre := dpRaise b.dpPreemph.isNone x.pre maxPre, swing := dpRaise b.dpVswing.isNone x.swing maxSwing }).emit
        (.auxReply n .ack)
  | .readCaps => s.emit (.auxReply n (.caps (s.getF (F.ING_SCFG_MAXRATE n)) (s.dpMaxLanes n) s.plan.lane.dpAuxRdInterval))
  | .readSupport => s.emit (.auxReply n (.support false false false))
  | .readAdjust => s.emit (.auxReply n (.adjust x.swing x.pre))
  | .readLaneStatus => s.emit (.auxReply n (.laneStatus (s.dpLocked n) (s.flag (F.LAN_DPLINK_ALIGNED n))))
  | .readEdid o l => s.emit (.auxReply n (.edid (((nth s.plan.ingest.src n {}).edid.drop o).take l)))
  | .readHdcp => s.emit (.auxReply n .hdcpNotCapable)

/-- `DP_AUX_TRANSACTION` (R103): a receiver that is off, as all are on a Tile, does not answer. -/
def execDpAuxTransaction (n : Fin 4) (r : DpAux) (s : State) : Res :=
  if s.unitOn (8 + n) then .next (s.dpAux n r) else .next s

/-- `DP_ALIGNMENT_LOST` (R104). -/
def execDpAlignmentLost (n : Fin 4) (s : State) : Res :=
  if s.getF (F.LAN_DPLINK_TRAIN n) = 3 then .next (s.dpLost n) else .next s

/-! ### The service lane (R105, R106) -/

/-- `SVC_LINK_UP` (R105): with negotiation on, full duplex in common with the partner's base page; the lane Locked and its PLL
locked. -/
def execSvcLinkUp (page : BitVec 16) (s : State) : Res :=
  if s.getF (F.LAN_STATE 48) = 5 ∧ s.flag F.CLK_STAT_SVC_LOCK = true ∧
      (s.svcNegotiates = false ∨ (svcAdvert &&& page).getLsbD 5 = true) then
    .next { s with lan := { s.lan with svcUp := true } }
  else .next s

/-- `SVC_FRAME_RECEIVED` (R106). -/
def execSvcFrameReceived (f : SvcFrame) (s : State) : Res :=
  if s.lan.svcUp = false then .next s
  else if f.fcsOk = false then .next (s.bump (F.LAN_ERR_CV 48))
  else if f.length < 64 ∨ 1522 < f.length ∨ f.toDevice = false then .next s
  else .next (s.emit (.svcToKeeper f.length))

end Sys2Proof.Machine
end

