-- ==== Sys2Proof/Machine/Link.lean ====
section
/-!
DEFINITION. The Plathaist link (R107 to R140, R450): markers and masks, how packets are numbered, sealed and sent,
forwarding, de-duplication, enumeration, STATUS, the recovery probe.
-/

namespace Sys2Proof.Machine

/-! ### Markers (R111 to R116) -/

/-- The number of 1 bits in a byte. -/
def ones8 (b : Byte) : Nat := ((List.range 8).filter (fun i => b.getLsbD i)).length

/-- The two marker bytes together hold an odd number of 1 bits. -/
def markerOdd (m0 m1 : Byte) : Bool := (ones8 m0 + ones8 m1) % 2 == 1

/-- The FWD bit of the markers a port sends: the FWD_EN of a Tile's other port (R109), 0 in recovery mode (R108). -/
def State.markerFwd (s : State) (n : Nat) : Bool :=
  !s.isHead && !s.recovering && decide (n < 2) && s.flag (F.LNK_PCFG_FWD_EN (1 - n))

/-- The marker of a lane (R112). -/
def markerOf (k : Fin 4) (txmask count rxmask : Nat) (fwd recov head : Bool) : LaneMarker :=
  let m0 : Byte := BitVec.ofNat 8 (k.val + 4 * (txmask % 16) + 64 * (count % 4))
  let m1 : Byte := BitVec.ofNat 8 (rxmask % 16 + 16 * fwd.toNat + 32 * recov.toNat + 64 * head.toNat)
  { lane := k, m0 := m0, m1 := if markerOdd m0 m1 then m1 else m1 ||| 0x80#8, skew := 0 }

/-- The TXMASK a port sets (R115). -/
def State.wantTx (s : State) (n : Nat) : Nat :=
  if (s.port n).prxSeen then s.getF (F.LNK_PSTAT_RXMASK n) &&& s.getF (F.LNK_PSTAT_PRXMASK n) else 0

/-- A marker that its parity and its lane number let a Locked lane use (R112). -/
def State.markerFits (s : State) (n : Nat) (m : LaneMarker) : Bool :=
  s.getF (F.LAN_STATE (4 * n + m.lane.val)) == 5 && markerOdd m.m0 m.m1 && (m.m0.extractLsb' 0 2).toNat == m.lane.val

/-- The COUNT of a marker. -/
def markerCount (m : LaneMarker) : Nat := (m.m0.extractLsb' 6 2).toNat

/-- The earliest of the markers of a column. -/
def earliest : List LaneMarker → Option LaneMarker
  | [] => none
  | m :: rest =>
    match earliest rest with
    | none => some m
    | some r => if m.skew ≤ r.skew then some m else some r

/-- The marker by which a port aligns its lanes (R112, R113): the earliest of those whose COUNT is the one that most lanes in
use show, or, before any lane is in use, most of the lanes; of two COUNTs that as many lanes show, that of the earliest marker
(DESIGN CHOICE, log entry 67). -/
def State.reference (s : State) (n : Nat) (fit : List LaneMarker) : Option LaneMarker :=
  let used := fit.filter (fun m => (s.getF (F.LNK_PSTAT_RXMASK n)).testBit m.lane.val)
  let l := if used.isEmpty then fit else used
  let votes := fun (c : Nat) => (l.filter (fun m => markerCount m == c)).length
  let top := (l.map (fun m => votes (markerCount m))).foldl max 0
  earliest (l.filter (fun m => votes (markerCount m) == top))

/-- A lane's marker passes (R112, R113): its COUNT is the reference's, and it comes at most 64 characters after the earliest
marker of that COUNT. -/
def markerPasses (fit : List LaneMarker) (r m : LaneMarker) : Bool :=
  markerCount m == markerCount r &&
    (match earliest (fit.filter (fun x => markerCount x == markerCount r)) with
    | some e => decide (m.skew ≤ e.skew + 64)
    | none => false)

/-- The lanes among the four of a port for which a test holds, as a mask. -/
def laneMask (f : Nat → Bool) : Nat := ([0, 1, 2, 3].filter f).foldl (fun a k => a + 2 ^ k) 0

/-- The own RXMASK after a column of markers (R113): a lane with a marker that fits is in when it passes, a lane without one
keeps its place, and only Locked lanes count. -/
def State.rxAfter (s : State) (n : Nat) (fit : List LaneMarker) (r : LaneMarker) : Nat :=
  laneMask (fun k => s.getF (F.LAN_STATE (4 * n + k)) == 5 &&
    (match fit.find? (fun m => m.lane.val == k) with
      | some m => markerPasses fit r m
      | none => (s.getF (F.LNK_PSTAT_RXMASK n)).testBit k))

/-- The lanes excluded for skew or COUNT (R113). -/
def State.skewAfter (s : State) (n : Nat) (fit : List LaneMarker) (r : LaneMarker) : Nat :=
  laneMask (fun k => s.getF (F.LAN_STATE (4 * n + k)) == 5 &&
    (match fit.find? (fun m => m.lane.val == k) with
      | some m => !(markerPasses fit r m)
      | none => (s.port n).skewMask.testBit k))

/-- What the partner's marker says, taken over (R112, R115). -/
def State.takeMarker (s : State) (n : Nat) (m : LaneMarker) : State :=
  let s1 := ((s.setF (F.LNK_PSTAT_PRXMASK n) (m.m1.extractLsb' 0 4).toNat).setB (F.LNK_PSTAT_PFWD n) (m.m1.getLsbD 4)).setB
    (F.LNK_PSTAT_PRECOV n) (m.m1.getLsbD 5)
  (s1.setB (F.LNK_PSTAT_PROLE n) (m.m1.getLsbD 6)).setPort n
    { s.port n with prxSeen := true, partnerTx := (m.m0.extractLsb' 2 4).toNat }

/-- The lanes of a port that see a signal acquire again, at another rate (R140). -/
def State.reacquire (s : State) (n : Nat) : State :=
  let s1 := s.forEach (unitLanes n) (fun m t => if 2 ≤ t.getF (F.LAN_STATE m) then t.acquire m else t)
  s1.setMasks n 0 0

/-- A port kept at 1.25 Gbaud whose partner's marker shows RECOV 0 goes back to its plan rate (R140; DESIGN CHOICE, log entry
65). -/
def State.recovOver (s : State) (n : Nat) : State :=
  if (s.port n).slow && !(s.flag (F.LNK_PSTAT_PRECOV n)) then
    (s.setPort n { s.port n with slow := false }).reacquire n
  else s

/-- `MARKER_RECEIVED` (R112, R113, R115): the markers of one column, one for each lane on which one came. -/
def execMarkerReceived (n : Fin 8) (ms : List LaneMarker) (s : State) : Res :=
  let fit := ms.filter (fun m => s.markerFits n m)
  match s.reference n fit with
  | none => .next s
  | some m =>
    let rx := s.rxAfter n fit m
    let skew := s.skewAfter n fit m
    let s1 := s.takeMarker n m
    let s2 := s1.setPort n { s1.port n with skewMask := skew }
    let s3 := s2.setMasks n rx (s2.getF (F.LNK_PSTAT_TXMASK n))
    .next (((s3.setPort n { s3.port n with skewMask := skew }).setB (F.LNK_PSTAT_SKEW n) (skew != 0)).recovOver n)

/-! ### Numbering and sending (R125 to R133) -/

/-- A character time in ps at a rate code (R87). -/
def charPs (rate : Nat) : Nat :=
  match rate with
  | 0 => 8000 | 1 => 4000 | 2 => 3200 | 3 => 2000 | _ => 1600

/-- The rate a port runs at: 1.25 Gbaud under the recovery probe (R140). -/
def State.portRate (s : State) (n : Nat) : Nat :=
  if (s.port n).slow || (s.port n).probing || s.recovering then 0 else s.getF (F.LNK_PCFG_RATE n)

/-- The time in ns that a packet and the gap after it take (R114, R117). -/
def packetNs (rate mask : Nat) (h : Hdr) : Nat :=
  let chars := 16 + h.len.toNat + tagLen h + 4 + 2
  ((columnCount chars (max 1 (maskLanes mask).length) + 8) * charPs rate + 999) / 1000

/-- What a lane carries in 1 ns at a rate code, in sixteenths of a character (R87). -/
def charRate (rate : Nat) : Nat := 16000 / charPs rate

/-- What a port sends in 1 ns over its TXMASK, in sixteenths of a character. -/
def State.outRate (s : State) (n : Nat) : Nat := charRate (s.portRate n) * (maskLanes (s.getF (F.LNK_PSTAT_TXMASK n))).length

/-- What a port receives in 1 ns over the TXMASK of its partner, in sixteenths of a character. -/
def State.inRate (s : State) (n : Nat) : Nat := charRate (s.portRate n) * (maskLanes (s.port n).partnerTx).length

/-- The instant at which what is in progress on a port ends: an own packet, or a packet that is being forwarded. -/
def State.clearAt (s : State) (n : Nat) : Nat :=
  let left := match (s.port n).fq with
    | e :: _ => if e.begun then columnCount (e.total - e.sent) (max 1 (s.outRate n)) else 0
    | [] => 0
  max s.now (s.port n).busyUntil + left

/-- The chain key of an epoch, if the device holds it (R375). -/
def State.chainKey (s : State) (chain ep : Nat) : Option Key :=
  (s.sec.keys.find? (fun p => decide (p.1 = (chain, ep % 64)))).map (fun p => p.2)

/-- The key epoch in force. -/
def State.curEp (s : State) : Nat := s.getF F.SEC_KEYEP_CUR

/-- The kind of a destination for SEQ (R127): 0 an identifier, 1 DST 0, 2 broadcast. -/
def dstKind (d : BitVec 10) : Nat := if d = 0 then 1 else if d = 1023 then 2 else 0

/-- The next SEQ of one of the device's own streams: 0 first under a key epoch, then one more each (R128). -/
def State.nextSeq (s : State) (kind : Nat) : Nat × State :=
  let e := tabGet (s.curEp, 0) s.lnk.seq kind
  let v := if e.1 = s.curEp then e.2 else 0
  (v, { s with lnk := { s.lnk with seq := tabPut s.lnk.seq kind (s.curEp, v + 1) } })

/-- The direction of what a port sends: towards end B, from end A or from a Tile's port B, or towards end A (R375). -/
def State.portDir (s : State) (n : Nat) : Nat :=
  let role := s.getF (F.LNK_PCFG_ROLE n)
  if role = 1 ∨ role = 4 then 0 else 1

/-- The key that seals a packet on a port (R119, R375). -/
def State.txKey (s : State) (n : Nat) (h : Hdr) : Option Key :=
  let ck := s.chainKey (s.chainOf n) h.keyEp.toNat
  if h.hop then ck.map (fun k => linkKey k h.src.toNat (s.portDir n)) else ck

/-- A packet can leave by a port (R108, R115, R140, R375, R378): the port can send, in state RECOVERY only hop-local UPD, and
the key that the packet needs is held. -/
def State.canPut (s : State) (n : Nat) (h : Hdr) : Bool :=
  s.canSend n && (s.portUp n || recovCarries h) && (h.prot == 0 || (s.txKey n h).isSome)

/-- Characters put on lanes: each transmitter's running disparity follows them (R91). Idle pairs leave it as it is. -/
def State.putLine (s : State) (n : Nat) (l : List (Nat × List LineChar)) : State :=
  s.forEach l (fun p t =>
    let x := t.lane (4 * n + p.1)
    t.setLane (4 * n + p.1) { x with txRd := (encodeLine x.txRd p.2).2 })

/-- Something put on a port's lanes. -/
def State.sendLine (s : State) (n : Nat) (e : Emission) : State := (s.emit e).putLine n e.lanes

/-- A packet put on a port's lanes, sealed where PROT asks (R119). A port that cannot send, or that lacks the key, sends none
(R375, R378). -/
def State.putOnPort (s : State) (n : Nat) (h : Hdr) (b : Body) : State :=
  if s.canPut n h then
    let key := if h.prot = 0 then none else s.txKey n h
    let mask := s.getF (F.LNK_PSTAT_TXMASK n)
    let s1 := s.setPort n { s.port n with busyUntil := s.clearAt n + packetNs (s.portRate n) mask h }
    s1.sendLine n (.packet n mask h b key)
  else s

/-- A hop-local packet sent ahead of everything queued, with the port's own count as SEQ (R128, R133). -/
def State.sendHop (s : State) (n : Nat) (h : Hdr) (b : Body) : State :=
  let c := (s.port n).hopSeq
  let h1 := { h with hop := true, dst := 1023, seq := BitVec.ofNat 32 c, keyEp := BitVec.ofNat 6 s.curEp, src := s.srcId }
  (s.setPort n { s.port n with hopSeq := c + 1 }).putOnPort n h1 b

/-- A count's rise since the last report; a count that was restarted counts from 0. -/
def countSince (new old : Nat) : Nat := if old ≤ new then new - old else new

/-- Two 16-bit counts of one word, as rises (R138). -/
def countPair (new old : Word) : Word :=
  BitVec.ofNat 32 (countSince (new.toNat % 65536) (old.toNat % 65536) +
    65536 * countSince (new.toNat / 65536) (old.toNat / 65536))

/-- The word of an index in the counts of the previous STATUS. -/
def prevWord (l : List Nat) (i : Nat) : Word := BitVec.ofNat 32 (l.getD i 0)

/-- The contents of a STATUS that leaves now (R138): the values at the last image boundary, and the counts since the previous
STATUS. -/
def State.statusMsg (s : State) : StatusMsg :=
  let x := s.lnk.snap
  let p := s.lnk.prev
  { x with
    errA := countPair x.errA (prevWord p 0), errB := countPair x.errB (prevWord p 1),
    dedup := countPair x.dedup (prevWord p 2),
    concealed := BitVec.ofNat 32 (countSince x.concealed.toNat (p.getD 3 0)) }

/-- A packet's contents as it leaves: a STATUS takes its values then (R138). -/
def State.fillBody (s : State) (b : Body) : Body × State :=
  match b with
  | .status _ =>
    let x := s.lnk.snap
    (.status s.statusMsg,
      { s with lnk := { s.lnk with prev := [x.errA.toNat, x.errB.toNat, x.dedup.toNat, x.concealed.toNat] } })
  | _ => (b, s)

/-- An own packet numbered and sent out of its ports, with one SEQ on all of them (R128, R131). -/
def State.sendOwn (s : State) (p : OutPkt) : State :=
  if p.hdr.hop then s.forEach p.ports (fun n t => t.sendHop n p.hdr p.body)
  else
    let r := s.nextSeq (dstKind p.hdr.dst)
    let h := { p.hdr with seq := BitVec.ofNat 32 r.1, keyEp := BitVec.ofNat 6 s.curEp }
    let b := r.2.fillBody p.body
    b.2.forEach p.ports (fun n t => t.putOnPort n h b.1)

/-- A Tile has its window (R133): its position section is loaded and TB0 has been LOCKED once. -/
def State.hasWindow (s : State) : Bool := s.boot.posLoaded && s.lmp.tb0Once

/-- Nothing waits in the forward queue towards a port (R133). -/
def State.queueEmpty (s : State) (n : Nat) : Bool := !(s.port n).fwd

/-- No packet is in progress on a port and nothing is being forwarded out of it. -/
def State.portFree (s : State) (n : Nat) : Bool := decide ((s.port n).busyUntil ≤ s.now) && s.queueEmpty n

/-- An own packet of a Tile can start (R133): some port of its own can send it, and on every port that can, the forward queue
is empty. -/
def State.mayStart (s : State) (p : OutPkt) : Bool :=
  let h := { p.hdr with keyEp := BitVec.ofNat 6 s.curEp }
  p.ports.any (fun n => s.canPut n h) && p.ports.all (fun n => !(s.canPut n h) || s.queueEmpty n)

/-- The first own packets sent, as many as are free to go before the Tile has a window (R133). -/
def flushList (s : State) : Nat → State
  | 0 => s
  | k + 1 =>
    match s.lnk.own with
    | [] => s
    | p :: rest =>
      if s.mayStart p && p.ports.all (fun n => s.portFree n) then
        flushList (({ s with lnk := { s.lnk with own := rest } }).sendOwn p) k
      else s

/-- A Tile without a window sends its own packets as its ports come free (R133). -/
def State.flushEarly (s : State) : State :=
  if s.isHead || s.hasWindow then s else flushList s s.lnk.own.length

/-- An own packet queued; before the Tile has a window it leaves as soon as its ports are free (R133). -/
def State.postOwn (s : State) (p : OutPkt) : State := (s.queueOwn p).flushEarly

/-! ### Forwarding (R123, R124, R126) -/

/-- The Tile's own assigned identifier is the destination. -/
def State.isOwnDst (s : State) (d : BitVec 10) : Bool :=
  s.flag F.LNK_ID_ASSIGNED && decide (d = BitVec.ofNat 10 (s.getF F.LNK_ID_TILE_ID)) && d != 0

/-- A packet that a Tile forwards (R123). -/
def State.forwards (s : State) (n : Nat) (h : Hdr) : Bool :=
  !s.isHead && decide (n < 2) && !h.hop && !(s.isOwnDst h.dst) &&
    s.getF (F.LNK_PSTAT_STATE (1 - n)) == 2 && s.flag (F.LNK_PCFG_FWD_EN (1 - n))

/-- The bytes of a packet on the wire (R117), in sixteenths. -/
def wireLen (h : Hdr) : Nat := 16 * (16 + h.len.toNat + tagLen h + 4)

/-- What a forward queue holds, in sixteenths of a byte. -/
def queueFill (l : List FwdPkt) : Nat := (l.map (fun e => e.got - e.sent)).sum

/-- The amounts of a forward queue after `dt` ns: the packet that is arriving grows, the one that is leaving drains. -/
def queueMove (dt inRate outRate : Nat) (l : List FwdPkt) : List FwdPkt :=
  match l.map (fun e => if e.ended.isNone then { e with got := min e.total (e.got + dt * inRate) } else e) with
  | e :: rest => (if e.begun then { e with sent := min e.got (e.sent + dt * outRate) } else e) :: rest
  | [] => []

/-- The end of an outgoing copy (R124, R126): /V/ or /T/. Where the packet's bytes are not known, its characters leave the
lanes' disparities open. -/
def State.endCopy (s : State) (o : Nat) (e : FwdPkt) (bad : Bool) : State :=
  let s1 := s.emit (.fwdEnd o bad)
  let s2 := s1.setPort o { s1.port o with busyUntil := s1.now + columnCount (8 * charPs (s1.portRate o)) 1000 }
  let mask := s2.getF (F.LNK_PSTAT_TXMASK o)
  if e.ended.isSome then s2.putLine o (laneColumns mask (packetChars e.wire bad))
  else
    s2.forEach (maskLanes mask) (fun k t =>
      let c := t.choose 2
      c.2.setLane (4 * o + k) { c.2.lane (4 * o + k) with txRd := c.1 == 1 })

/-- The forward queue towards a port worked out up to now (R126): a packet that fills its 32 KiB ends with /V/ and is counted;
the packet at its head ends once all of it has come and gone; the next one begins where the port is free. -/
def State.queueStep (s : State) (o : Nat) : State :=
  let x := s.port o
  if x.fq.isEmpty then s
  else
    let l := queueMove (s.now - x.fqAt) (s.inRate (1 - o)) (s.outRate o) x.fq
    let s1 := s.setPort o { x with fq := l, fqAt := s.now }
    let s2 := match l.getLast? with
      | some e =>
        if 16 * 32768 < queueFill l then
          ((s1.setPort o { s1.port o with fq := l.dropLast }).when e.begun (fun t => t.endCopy o e true)).bump F.LNK_TXSTAT_FWD_DROP
        else s1
      | none => s1
    let s3 := match (s2.port o).fq with
      | e :: rest =>
        if e.begun && e.sent == e.total then
          match e.ended with
          | some good => (s2.setPort o { s2.port o with fq := rest }).endCopy o e (!good)
          | none => s2
        else s2
      | [] => s2
    match (s3.port o).fq with
    | e :: rest =>
      if !e.begun && decide ((s3.port o).busyUntil ≤ s3.now) then
        (s3.setPort o { s3.port o with fq := { e with begun := true } :: rest }).emit (.fwdStart o e.hdr)
      else s3
    | [] => s3

/-- A packet put in a forward queue: a HEART ahead of every packet that has not begun (R322), the others at its end. -/
def queuePut (e : FwdPkt) (l : List FwdPkt) : List FwdPkt :=
  if e.hdr.typ = 5 then l.filter (fun x => x.begun) ++ e :: l.filter (fun x => !x.begun) else l ++ [e]

/-- `PACKET_START_RECEIVED` (R124): a packet begins to arrive; a Tile that forwards it starts its outgoing copy, at once where
the outgoing port is free (R125). -/
def execPacketStartReceived (n : Fin 8) (h : Hdr) (s : State) : Res :=
  let s1 := s.setPort n { s.port n with rxPkt := true, rxBad := false, rxStriped := s.striped n }
  if s1.forwards n h && !s1.striped n then
    let o := 1 - n.val
    let s2 := s1.queueStep o
    .next ((s2.setPort o { s2.port o with fq := queuePut { hdr := h, total := wireLen h } (s2.port o).fq, fqAt := s2.now }).queueStep o)
  else .next s1

/-- The incoming packet has ended: a copy that has kept pace with it ends with it, by /V/ where the packet failed step 1 or 2
of R122 (R124); otherwise the rest of it waits in the forward queue (R126). -/
def State.endForward (s : State) (n : Nat) (good : Bool) (wire : List Byte) : State :=
  let o := 1 - n
  if decide (n < 2) && (s.port o).fq.any (fun e => e.ended.isNone) then
    let s1 := s.queueStep o
    let close := fun (e : FwdPkt) =>
      if e.ended.isNone then
        { e with ended := some good, wire := wire, got := e.total, sent := if e.begun && e.sent == e.got then e.total else e.sent }
      else e
    (s1.setPort o { s1.port o with fq := (s1.port o).fq.map close }).queueStep o
  else s

/-! ### De-duplication (R127 to R129) -/

/-- Whether a key epoch is newer than another (R129). -/
def epochNewer (a b : BitVec 6) : Bool := let d := (a - b).toNat; decide (1 ≤ d) && decide (d ≤ 31)

/-- What R129 does with a packet: whether it is delivered, whether it counts as old, and the context after it. -/
inductive DedupResult where
  | deliver (c : Dedup) | duplicate | old
  deriving DecidableEq, Repr

/-- The handling of R129 for a packet of a key epoch and a sequence number; no context stands for VALID = 0. -/
def dedupStep (c : Option Dedup) (ep : BitVec 6) (seq : Word) : DedupResult :=
  match c with
  | none => .deliver { keyEp := ep, high := seq, seen := 1 }
  | some c =>
    if epochNewer ep c.keyEp then .deliver { keyEp := ep, high := seq, seen := 1 }
    else if ep ≠ c.keyEp then .old
    else
      let d := diff32 seq c.high
      if 0 < d then .deliver { c with high := seq, seen := (c.seen <<< d.toNat) ||| 1 }
      else if -64 < d then
        let i := (-d).toNat
        if c.seen.getLsbD i then .duplicate else .deliver { c with seen := c.seen ||| BitVec.twoPow 64 i }
      else .old

/-- The context of a stream: SRC and the kind of DST (R127). -/
def dedupKey (h : Hdr) : Nat × Nat := (h.src.toNat, dstKind h.dst)

/-- A stream's context, none before its first packet. -/
def State.dedupCtx (s : State) (k : Nat × Nat) : Option Dedup :=
  (s.lnk.ctx.find? (fun p => decide (p.1 = k))).map (fun p => p.2)

/-! ### Enumeration (R134 to R137, R450) -/

/-- CONFLICT set (R134 to R137), its event and the extra STATUS where it was 0. -/
def State.conflict (s : State) : State :=
  if s.flag F.LNK_ID_CONFLICT then s
  else
    let s1 := (s.raise F.LNK_ID_CONFLICT).raise F.LNK_EVT_CONFLICT
    { s1 with lnk := { s1.lnk with extraStatus := true } }

/-- Both counts are held and they disagree with the chain's length (R135). -/
def State.hopsBad (s : State) : Bool :=
  let a := s.getF F.LNK_ID_HOPS_A
  let b := s.getF F.LNK_ID_HOPS_B
  a != 0 && b != 0 && a + b != s.lnk.tilesOnChain + 1

/-- The position that the counts give, 0 for none (R135). -/
def State.hopsPos (s : State) : Nat :=
  let a := s.getF F.LNK_ID_HOPS_A
  let b := s.getF F.LNK_ID_HOPS_B
  let p := if s.hopsBad then 0 else if a ≠ 0 then a else if b ≠ 0 then s.lnk.tilesOnChain + 1 - b else 0
  if 24 < p then 0 else p

/-- The position of a Tile before release (R135, R136, R450). One that was assigned an identifier for another position gives
it up and goes on as an unassigned Tile (DEDUCED, log entry 68). -/
def State.placeAt (s : State) (pos : Nat) : State :=
  if s.getF F.LNK_ID_POS = pos then s
  else
    let s1 := s.setF F.LNK_ID_POS pos
    if s1.flag F.LNK_ID_ASSIGNED then
      let s2 := (s1.setF F.LNK_ID_ASSIGNED 0).setF F.LNK_ID_TILE_ID 0
      { s2 with boot := { s2.boot with posLoaded := false } }
    else s1

/-- The position worked out afresh (R135, R137, R450): a released Tile keeps it and sets CONFLICT where the counts give
another; before release a Tile in CONFLICT takes no other position until CONFLICT clears. -/
def State.locate (s : State) : State :=
  if s.released then
    if s.hopsPos = s.getF F.LNK_ID_POS then s else s.conflict
  else if s.hopsBad then (s.placeAt 0).conflict
  else if s.flag F.LNK_ID_CONFLICT then
    if s.hopsPos = s.getF F.LNK_ID_POS then s else s.placeAt 0
  else s.placeAt s.hopsPos

/-- The ENUM of an end port that is UP (R134). -/
def State.sendEnum (s : State) (n : Nat) : State :=
  let role := s.getF (F.LNK_PCFG_ROLE n)
  if s.isHead && s.portUp n && (role == 1 || role == 2) then
    let c := s.chainOf n
    let m : EnumMsg := {
      wallId := s.plan.wall.id, planSerial := s.plan.wall.serial, head := BitVec.ofNat 8 s.plan.wall.headNumber,
      chain := BitVec.ofNat 8 c, tiles := BitVec.ofNat 8 (nth s.plan.wall.tilesPerChain c 0), endB := role == 2, hops := 1 }
    s.sendHop n { typ := 7, len := 32 } (.enum m)
  else s

/-- `ENUM_PERIOD` (R134). -/
def execEnumPeriod (n : Fin 8) (s : State) : Res := .next (s.sendEnum n)

/-- `LANE_MARKER_DUE` (R111): the marker carries the new TXMASK, which is in force from the column after it (R116). A
port whose transmitter is off sends none. An end port of a Head that comes UP sends ENUM (R134). -/
def execLaneMarkerDue (n : Fin 8) (s : State) : Res :=
  if s.unitOn n && s.bit F.CLK_STAT_PORT_LOCK n && !s.pwr.txIdle then
    let tx := s.wantTx n
    let c := (s.port n).markCount
    let ms := [(0 : Fin 4), 1, 2, 3].map (fun k => markerOf k tx c (s.getF (F.LNK_PSTAT_RXMASK n)) (s.markerFwd n)
      s.recovering (s.isHead && !s.recovering))
    let s1 := (s.sendLine n (.markers n ms)).setPort n { s.port n with markCount := (c + 1) % 4 }
    let s2 := s1.setMasks n (s1.getF (F.LNK_PSTAT_RXMASK n)) tx
    .next (s2.when (!s.portUp n) (fun t => t.sendEnum n))
  else .next s

/-- An ENUM at a Tile (R134, R135, R137, R73). -/
def State.enumRx (s : State) (n : Nat) (m : EnumMsg) : State :=
  if s.isHead || decide (2 ≤ n) || !(s.flag (F.LNK_PCFG_FWD_EN (1 - n))) then s
  else if m.endB != (n == 1) then s.conflict
  else
    let s1 := s.setF (if n = 0 then F.LNK_ID_HOPS_A else F.LNK_ID_HOPS_B) m.hops
    let s2 := { s1 with lnk := { s1.lnk with tilesOnChain := m.tiles.toNat, headNumber := m.head.toNat } }
    let s3 := if s2.flag F.LNK_ID_ASSIGNED then s2 else s2.setF F.LNK_ID_CHAIN m.chain.toNat
    let differs := m.wallId != s.plan.wall.id || m.planSerial != s.plan.wall.serial
    let s4 := (s3.setB F.BOOT_STAT_PLAN_DIFF differs).locate
    if s4.portUp (1 - n) then s4.sendHop (1 - n) { typ := 7, len := 32 } (.enum { m with hops := m.hops + 1 }) else s4

/-- `ENUM_RECEIVED` (R134). -/
def execEnumReceived (n : Fin 8) (m : EnumMsg) (s : State) : Res := .next (s.enumRx n m)

/-- `CONFLICT_QUIET_EXPIRY` (R450): before release, where the counts satisfy R135, CONFLICT clears and the Tile takes its
position. -/
def execConflictQuietExpiry (s : State) : Res :=
  if s.released || s.isHead || !(s.flag F.LNK_ID_CONFLICT) || s.hopsBad then .next s
  else .next (s.setF F.LNK_ID_CONFLICT 0).locate

/-- An ephemeral private key drawn and kept until it is used (R367). -/
def State.freshShare (s : State) : Nat × State :=
  let r := s.drawScalar
  (r.1, { r.2 with sec := { r.2.sec with share := some r.1, shareAt := r.2.now } })

/-- The own ephemeral key of JOINs, the same until the Tile is enrolled or for 10 s (R370). -/
def State.joinShare (s : State) : Nat × State :=
  match s.sec.share with
  | some k => if s.now < s.sec.shareAt + 10000000000 then (k, s) else s.freshShare
  | none => s.freshShare

/-- Bytes signed by the identity key (R366), with a nonce drawn. -/
def State.signed (s : State) (body : List Byte) : List Byte × State :=
  let r := s.drawScalar
  (ecdsaSign (s.sec.identity.getD 0) r.1 body, r.2)

/-- The JOIN of the Tile as it stands, for an ephemeral public key (R370). -/
def State.joinBytes (s : State) (pub : List Byte) : List Byte :=
  joinBody s.shadow.serial (s.getF F.LNK_ID_HOPS_A) (s.getF F.LNK_ID_HOPS_B) (s.getF F.LNK_ID_CHAIN) s.plan.wall.id
    s.plan.wall.serial (s.getF F.LNK_ID_TILE_ID) pub s.kar.cert

/-- A JOIN queued (R136, R370): serial, both counts, wall identifier and plan serial, and the identifier held, signed by the
identity key. A device draws no share while its entropy source fails its tests (R367). -/
def State.queueJoin (s : State) : State :=
  if s.sec.entropyBad && (s.sec.share.isNone || decide (s.sec.shareAt + 10000000000 ≤ s.now)) then s
  else
    let r := s.joinShare
    let body := r.2.joinBytes (publicKey r.1)
    let g := r.2.signed body
    let h : Hdr := { typ := 8, dst := 1022, src := s.srcId, len := 488 }
    g.2.postOwn { ports := s.ownPorts, hdr := h, body := .join { bytes := body ++ g.1 } }

/-- `JOIN_PERIOD` (R136): an unassigned Tile with a position. -/
def execJoinPeriod (s : State) : Res :=
  if s.isHead || s.flag F.LNK_ID_ASSIGNED || s.getF F.LNK_ID_POS == 0 || s.flag F.SEC_STAT_DEBUG then .next s
  else .next s.queueJoin

/-- `ASSIGN_RECEIVED` (R136, R137): only the Tile whose serial and position match takes it. -/
def execAssignReceived (m : AssignMsg) (s : State) : Res :=
  if s.isHead || m.serial != s.shadow.serial then .next s
  else if s.getF F.LNK_ID_POS = 0 ∨ s.getF F.LNK_ID_POS ≠ m.pos then .next s.conflict
  else if s.released && s.flag F.LNK_ID_ASSIGNED then .next s
  else
    let s1 := ((s.setF F.LNK_ID_TILE_ID m.id.toNat).setF F.LNK_ID_CHAIN m.chain.val).raise F.LNK_ID_ASSIGNED
    .next (s1.raise F.LNK_EVT_ASSIGNED)

/-! ### STATUS (R138) -/

/-- The registers that STATUS reports, with the counts as they stand. -/
def State.statusNow (s : State) : StatusMsg :=
  let hottest := s.getF F.THM_STAT_HOTTEST
  { src := BitVec.ofNat 10 (s.getF F.LNK_ID_TILE_ID), bootStat := s.getW A.BOOT_STAT,
    pstatA := s.getW (A.LNK_PSTAT 0), pstatB := s.getW (A.LNK_PSTAT 1),
    errA := BitVec.ofNat 32 (s.getF (F.LNK_RXERR_CRC 0) + 65536 * s.getF (F.LNK_RXAUTH_AUTH 0)),
    errB := BitVec.ofNat 32 (s.getF (F.LNK_RXERR_CRC 1) + 65536 * s.getF (F.LNK_RXAUTH_AUTH 1)),
    dedup := s.getW A.LNK_DEDUPSTAT, concealed := BitVec.ofNat 32 (s.getF F.DEC_CNT0_CONCEAL),
    lampFaults := BitVec.ofNat 32 (s.getF F.CORR_FOPEN_COUNT + s.getF F.CORR_FSHORT_COUNT),
    hottest := BitVec.ofInt 16 (toSigned 12 (s.getF (F.THM_T_TEFF hottest))),
    suspect := BitVec.ofNat 8 (s.getF (F.LNK_PSTAT_SUSPECT 0) + 2 * s.getF (F.LNK_PSTAT_SUSPECT 1)),
    variant := BitVec.ofNat 8 (s.getF F.GOV_STAT_VARIANT), epoch := s.getW A.CFG_EPOCH,
    lastImage := s.dec.litImage, lnkId := s.getW A.LNK_ID }

/-- A STATUS queued; it takes its values as it leaves (R138). -/
def State.queueStatus (s : State) : State :=
  s.postOwn { ports := s.ownPorts, hdr := { typ := 4, prot := 2, dst := 1022, src := s.srcId, len := 64 }, body := .status {} }

/-- `STATUS_PERIOD` (R138): an assigned Tile. -/
def execStatusPeriod (s : State) : Res :=
  if !s.isHead && s.flag F.LNK_ID_ASSIGNED then .next s.queueStatus else .next s

/-- The first own packet that a window sends, given the ports out of which UPD packets have gone in it: at most
`upd.relay.blocks_per_image` of those leave a port (R395, R396). -/
def takeWindow (lim : Nat) (gone : List Nat) : List OutPkt → Option (OutPkt × List OutPkt)
  | [] => none
  | p :: rest =>
    if p.hdr.typ = 11 ∧ p.ports.any (fun n => decide (lim ≤ gone.count n)) = true then
      (takeWindow lim gone rest).map (fun x => (x.1, p :: x.2))
    else some (p, rest)

/-- The own packets of a window sent, first queued first, while the forward queues are empty; the rest is carried over
(R133). -/
def sendWindow (s : State) (gone : List Nat) : Nat → State
  | 0 => s
  | k + 1 =>
    match takeWindow s.plan.upd.blocksPerImage gone s.lnk.own with
    | none => s
    | some (p, rest) =>
      if s.mayStart p then
        sendWindow (({ s with lnk := { s.lnk with own := rest } }).sendOwn p) (if p.hdr.typ = 11 then p.ports ++ gone else gone) k
      else s

/-- `UPSTREAM_WINDOW` (R133, R138): an extra STATUS that is owed is queued; as many own packets go as fit. -/
def execUpstreamWindow (fit : Nat) (s : State) : Res :=
  if s.isHead || !s.hasWindow then .next s
  else
    let owed := s.lnk.extraStatus && s.flag F.LNK_ID_ASSIGNED
    let s1 := s.when owed (fun t => ({ t with lnk := { t.lnk with extraStatus := false } }).queueStatus)
    .next (sendWindow s1 [] fit)

/-! ### Suspect ports and the recovery probe (R139, R140) -/

/-- A step 4 failure counted (R122), and for a packet addressed to the Tile or to all, towards SUSPECT (R139). -/
def State.authFail (s : State) (n : Nat) (h : Hdr) : State :=
  let s1 := (s.bump (F.LNK_RXAUTH_AUTH n)).raise F.LNK_EVT_AUTH
  if !s.isHead && (s.isOwnDst h.dst || h.dst == 1023) then
    let c := (s1.port n).authFrame + 1
    let s2 := s1.setPort n { s1.port n with authFrame := c }
    if s.plan.link.authLimit ≤ c ∧ s2.flag (F.LNK_PSTAT_SUSPECT n) = false then
      let s3 := s2.raise (F.LNK_PSTAT_SUSPECT n)
      { s3 with lnk := { s3.lnk with extraStatus := true } }
    else s2
  else s1

/-- The end of a frame for SUSPECT (R139). -/
def State.suspectFrame (s : State) (n : Nat) : State :=
  let s1 := if (s.port n).authFrame = 0 then s.setF (F.LNK_PSTAT_SUSPECT n) 0 else s
  s1.setPort n { s1.port n with authFrame := 0 }

/-- `RECOVERY_PROBE_START` (R140): a signal on some lane, no lane Locked. -/
def execRecoveryProbeStart (n : Fin 8) (s : State) : Res :=
  let sig := (unitLanes n).any (fun m => decide (2 ≤ s.getF (F.LAN_STATE m)))
  let lock := (unitLanes n).any (fun m => s.getF (F.LAN_STATE m) == 5)
  if s.unitOn n && sig && !lock && !s.recovering && !(s.port n).slow then
    .next ((s.setPort n { s.port n with probing := true }).reacquire n)
  else .next s

/-- The end of the recovery probe (R140): the port stays at 1.25 Gbaud where a lane is Locked and the partner shows RECOV. -/
def State.probeEnd (s : State) (n : Nat) : State :=
  let lock := (unitLanes n).any (fun m => s.getF (F.LAN_STATE m) == 5)
  if lock && (s.port n).prxSeen && s.flag (F.LNK_PSTAT_PRECOV n) then s.setPort n { s.port n with probing := false, slow := true }
  else (s.setPort n { s.port n with probing := false }).reacquire n

end Sys2Proof.Machine
end

