-- ==== Sys2Proof/Machine/Governor.lean ====
section
/-!
DEFINITION. The placement governor (R20 to R25, R448) and the reports it reads (R138).
-/

namespace Sys2Proof.Machine

/-! ### Failed items and cover sets (R20, R21, R448) -/

/-- The items of the health record that the plan gives a Head. -/
def State.allItems (s : State) : List HealthItem :=
  let links := s.plan.allLinks
  let tiles := (s.plan.comp.tiles.map (fun p => p.id)).filter (fun i => i != 0)
  links.map HealthItem.link ++ links.flatMap (fun l => [(0 : Fin 4), 1, 2, 3].map (fun k => HealthItem.lane l k)) ++
    tiles.map HealthItem.tile ++ (if s.plan.wall.pairId != 0 then [HealthItem.partner] else [])

/-- An item's health as a boundary takes it: the newest change latched 2 µs or more before (R22). -/
def HealthRec.healthAt (r : HealthRec) (now : Nat) : Option Bool :=
  (r.hist.find? (fun p => decide (p.1 + 2000 ≤ now))).map (fun p => p.2)

/-- An item counts as failed (R21, R448): one that was never healthy only once the start grace is over. -/
def State.itemFailed (s : State) (i : HealthItem) : Bool :=
  let r := healthOf s.gov.items i
  let seen := match r.seen with | some t => decide (t + 2000 ≤ s.now) | none => false
  if seen then (r.healthAt s.now).getD true == false else s.gov.graceOver

/-- The failed items at this instant. -/
def State.failedItems (s : State) : List HealthItem := s.allItems.filter (fun i => s.itemFailed i)

/-- The failed lanes of a link. -/
def failedLanes (failed : List HealthItem) (l : Nat) : Nat :=
  ([(0 : Fin 4), 1, 2, 3].filter (fun k => failed.contains (HealthItem.lane l k))).length

/-- A cover entry covers a failed item (R21). -/
def entryCovers (failed : List HealthItem) (i : HealthItem) (e : CoverEntry) : Bool :=
  match e with
  | .item j =>
    decide (i = j) || (match i, j with | .lane l _, .link m => l == m | _, _ => false)
  | .allowance l k =>
    match i with
    | .lane m _ => m == l && decide (failedLanes failed l ≤ k)
    | _ => false

/-- A variant covers a failed item. -/
def variantCovers (failed : List HealthItem) (v : Variant) (i : HealthItem) : Bool :=
  v.cover.any (fun e => entryCovers failed i e)

/-- How many failed items a variant covers. -/
def coveredCount (failed : List HealthItem) (v : Variant) : Nat := (failed.filter (fun i => variantCovers failed v i)).length

/-- A variant is preferred to another (R20): more items covered, then the smaller cover set; the order of the list
settles what is equal. -/
def variantBetter (failed : List HealthItem) (a b : Variant) : Bool :=
  decide (coveredCount failed b < coveredCount failed a) ||
    (coveredCount failed a == coveredCount failed b && decide (a.cover.length < b.cover.length))

/-- The best of the variants numbered from `n` that a test permits. -/
def bestVariant (failed : List HealthItem) (ok : Nat → Variant → Bool) : Nat → List Variant → Option (Nat × Variant)
  | _, [] => none
  | n, v :: rest =>
    match bestVariant failed ok (n + 1) rest with
    | none => if ok n v then some (n, v) else none
    | some b => if ok n v && !variantBetter failed b.2 v then some (n, v) else some b

/-- The items an entry stands for. -/
def entryItems : CoverEntry → List HealthItem
  | .item (.link l) => HealthItem.link l :: [(0 : Fin 4), 1, 2, 3].map (fun k => HealthItem.lane l k)
  | .item i => [i]
  | .allowance l _ => [(0 : Fin 4), 1, 2, 3].map (fun k => HealthItem.lane l k)

/-- An item has stayed healthy for the recovery hold (R24): its expiry has come, or the time has passed. -/
def State.itemHeld (s : State) (i : HealthItem) : Bool :=
  let r := healthOf s.gov.items i
  match r.hist with
  | (t, true) :: _ => r.held || decide (t + s.actF F.GOV_HOLD_MS * 1000000 ≤ s.now)
  | _ => false

/-- Every item that leaves the cover set with a change has stayed healthy for the hold (R24). -/
def State.leaveOk (s : State) (a b : Variant) : Bool :=
  ((a.cover.filter (fun e => !b.cover.contains e)).flatMap entryItems).all
    (fun i => !(s.allItems.contains i) || b.cover.any (fun e => (entryItems e).contains i) || s.itemHeld i)

/-- A variant by number. -/
def State.variantOf (s : State) (n : Nat) : Variant := nth s.plan.gov.variants n {}

/-- R24 lets the governor move from one variant to another: the other's cover set is no smaller, or every item that
leaves the cover set has stayed healthy for the hold. -/
def State.moveOk (s : State) (a b : Variant) : Bool := decide (a.cover.length ≤ b.cover.length) || s.leaveOk a b

/-- The selection of R20 under R24 from the variant in force: number, and whether a failed item lies outside it. Where R24
holds back the variant of R20, the one in force stays, but for one that R24 lets in and that covers more of the failed items
(DEDUCED, log entry 20). -/
def State.selectVariant (s : State) : Nat × Bool :=
  let cur := s.getF F.GOV_STAT_VARIANT
  let cv := s.variantOf cur
  let failed := s.failedItems
  let pick := fun (ok : Nat → Variant → Bool) => (bestVariant failed ok 0 s.plan.gov.variants).getD (cur, cv)
  let best := pick (fun _ _ => true)
  let held := pick (fun _ v => s.moveOk cv v)
  let r := if s.moveOk cv best.2 then best
    else if coveredCount failed cv < coveredCount failed held.2 then held else (cur, cv)
  (r.1, coveredCount failed r.2 != failed.length)

/-- The selection of R20 alone, as a standby shows it (R23). -/
def State.ownVariant (s : State) : Nat :=
  match bestVariant s.failedItems (fun _ _ => true) 0 s.plan.gov.variants with
  | none => 0
  | some (n, _) => n

/-! ### At the image boundary (R22 to R25) -/

/-- The Head makes the selection (R23): it owns, or works alone. -/
def State.selects (s : State) : Bool :=
  s.isHead && (s.plan.wall.pairId == 0 || s.flag F.RED_STAT_PAIR_REFUSED || s.duty == 2)

/-- UNCOVERED as it stands, its event where it rises. -/
def State.setUncovered (s : State) (u : Bool) : State :=
  let old := s.flag F.GOV_STAT_UNCOVERED
  (s.setB F.GOV_STAT_UNCOVERED u).when (u && !old) (fun t => t.raise F.GOV_EVT_UNCOV)

/-- A variant put in force (R23, R25). -/
def State.applyVariant (s : State) (v : Nat) (image : Word) : State :=
  let cur := s.getF F.GOV_STAT_VARIANT
  if v = cur then s
  else
    let smaller := decide ((s.variantOf v).cover.length < (s.variantOf cur).cover.length)
    let s0 := { s with gov := { s.gov with applied := (image, v) :: s.gov.applied } }
    let s1 := ((s0.setF F.GOV_STAT_VARIANT v).bump F.GOV_STAT_SWITCHES).raise F.GOV_EVT_CHANGED
    s1.when smaller (fun t => t.raise F.GOV_EVT_RECOVERED)

/-- The announced variant takes effect once its first image begins (R23). -/
def State.applyPending (s : State) (image : Word) : State :=
  if s.flag F.GOV_STAT_PEND_VALID = true ∧ 0 ≤ diff32 image s.gov.pendFirst then
    let s1 := (s.applyVariant (s.getF F.GOV_STAT_PENDING) s.gov.pendFirst).setF F.GOV_STAT_PEND_VALID 0
    s1.when (s1.selects) (fun t => t.setUncovered t.gov.pendUncov)
  else s

/-- The variant that applies to an image (R191): the one announced for it, or the one in force at its boundary. -/
def State.variantFor (s : State) (image : Word) : Nat :=
  if s.flag F.GOV_STAT_PEND_VALID = true ∧ 0 ≤ diff32 image s.gov.pendFirst then s.getF F.GOV_STAT_PENDING
  else
    match s.gov.applied.find? (fun p => decide (0 ≤ diff32 image p.1)) with
    | some p => p.2
    | none => 0

/-- A variant announced for an image. -/
def State.announce (s : State) (v : Nat) (first : Word) (uncov : Bool) : State :=
  let s1 := (s.setF F.GOV_STAT_PENDING v).raise F.GOV_STAT_PEND_VALID
  { s1 with gov := { s1.gov with pendFirst := first, pendUncov := uncov } }

/-- The governor at an image boundary: the announced variant applied, then the record evaluated (R22, R23). -/
def State.govBoundary (s : State) (image : Word) : State :=
  let s1 := s.applyPending image
  if !s1.isHead || !s1.released then s1
  else if s1.selects then
    let r := s1.selectVariant
    let s2 := s1.setF F.GOV_STAT_RECDIFF 0
    if r.1 = s2.getF F.GOV_STAT_VARIANT then
      ((s2.setF F.GOV_STAT_PEND_VALID 0).setF F.GOV_OWN_VARIANT r.1).setUncovered r.2
    else (s2.setF F.GOV_OWN_VARIANT r.1).announce r.1 (image + 1) r.2
  else
    let v := s1.ownVariant
    let diff := v != s1.getF F.GOV_STAT_VARIANT
    let old := s1.flag F.GOV_STAT_RECDIFF
    let failed := s1.failedItems
    let cur := s1.variantOf (s1.getF F.GOV_STAT_VARIANT)
    let s2 := ((s1.setF F.GOV_OWN_VARIANT v).setB F.GOV_STAT_RECDIFF diff).when (diff && !old) (fun t => t.raise F.GOV_EVT_RECDIFF)
    s2.setUncovered (coveredCount failed cur != failed.length)

/-- An ANNOUNCE at a Tile or at the standby (R23, R25); the Head that selects takes none. -/
def State.announceRx (s : State) (variant : Nat) (first : Word) : State :=
  if s.selects then s
  else
    let s1 := s.announce variant first false
    match s1.tim.image with
    | some i => s1.applyPending i
    | none => s1

/-- `ANNOUNCE_RECEIVED` (R23, R25). -/
def execAnnounceReceived (variant : Fin 64) (first : Word) (s : State) : Res := .next (s.announceRx variant.val first)

/-- `START_GRACE_EXPIRY` (R448). -/
def execStartGraceExpiry (s : State) : Res :=
  if s.isHead && s.released then .next { s with gov := { s.gov with graceOver := true } } else .next s

/-- `RECOVER_HOLD_EXPIRY` (R24): the item is healthy and its hold has run. -/
def execRecoverHoldExpiry (i : HealthItem) (s : State) : Res :=
  let r := healthOf s.gov.items i
  match r.hist with
  | (_, true) :: _ => .next { s with gov := { s.gov with items := healthPut s.gov.items { r with held := true } } }
  | _ => .next s

/-- The record as it begins at release (R448): what is healthy now has been healthy once. -/
def State.govRelease (s : State) : State :=
  let items := s.gov.items.map (fun r =>
    let ok := match r.hist with | (_, b) :: _ => b | [] => false
    { r with hist := r.hist.take 1, seen := if ok then some s.now else none, held := false })
  { s with gov := { s.gov with items := items, graceOver := false } }

/-! ### STATUS at a Head (R138) -/

/-- A Tile's STATUS taken into the record (R21, R138, R139). -/
def State.statusRx (s : State) (m : StatusMsg) : State :=
  if !s.isHead then s
  else
    let x : TileSeen := { status := m, present := true }
    let s1 := { s with lnk := { s.lnk with tiles := tabPut s.lnk.tiles m.src.toNat x } }
    let s2 := s1.latchHealth (.tile m.src.toNat) true
    s2.forEach s2.plan.allLinks (fun l t => t.latchLink l)

/-- `STATUS_TIMEOUT` (R138): the Tile is absent. -/
def execStatusTimeout (id : BitVec 10) (s : State) : Res :=
  if !s.isHead then .next s
  else
    let x := tabGet { status := { src := id } } s.lnk.tiles id.toNat
    let s1 := { s with lnk := { s.lnk with tiles := tabPut s.lnk.tiles id.toNat { x with present := false } } }
    .next (s1.latchHealth (.tile id.toNat) false)

end Sys2Proof.Machine
end

