-- ==== Sys2Proof/Machine/Codec.lean ====
section
/-!
DEFINITION. The slice syntax and the decoding process (R190 to R209): the parser, the inverse transform, prediction and
reconstruction, as functions of a payload and the buffers it refers to.
-/

namespace Sys2Proof.Machine

/-! ### Image buffers (R193) -/

/-- A stored sample of a buffer at a row, a column and a colour. -/
def DecBuf.sample (b : DecBuf) (r c k : Nat) : Nat :=
  (tabGet [] b.pix (32 * (r / 8) + c / 8)).getD (3 * (8 * (r % 8) + c % 8) + k) 0

/-- A block position of a buffer is clean. -/
def DecBuf.cleanAt (b : DecBuf) (pos : Nat) : Bool := b.clean.getLsbD pos

/-- The 192 codes of an 8 × 8 region of a buffer at depth `d` (R193, R201). -/
def DecBuf.region (b : DecBuf) (d r c : Nat) : List Nat :=
  (List.range 192).map (fun i => b.sample (r + i / 24) (c + i / 3 % 8) (i % 3) >>> (16 - d))

/-- Every block position that a region touches is clean (R207). -/
def DecBuf.regionClean (b : DecBuf) (r c : Nat) : Bool :=
  b.cleanAt (32 * (r / 8) + c / 8) && b.cleanAt (32 * (r / 8) + (c + 7) / 8) &&
    b.cleanAt (32 * ((r + 7) / 8) + c / 8) && b.cleanAt (32 * ((r + 7) / 8) + (c + 7) / 8)

/-- The number of block positions that are not clean. -/
def DecBuf.unclean (b : DecBuf) : Nat := ((List.range 1024).filter (fun i => !b.cleanAt i)).length

/-- A buffer cleared of marks for a new image (R194). -/
def DecBuf.fresh (b : DecBuf) : DecBuf := { b with present := 0, clean := 0, depth := [] }

/-! ### Packed slice header (R196, R197) -/

/-- A Packed slice's header. -/
structure PkHdr where
  mark : Nat
  slice : Nat
  facet : Nat
  depth : Nat
  drip : Nat
  dest : Nat
  ref : Nat
  refImage : Nat
  refFacet : Nat
  qbase : Nat
  dataBits : Nat
  gset : Nat
  gpresent : Bool
  image : Nat
  reserved : Nat
  hcrcOk : Bool
  deriving DecidableEq, Repr

/-- The header that a payload begins with. -/
def pkParse (p : List Byte) : PkHdr :=
  let b := fun i => (p.getD i 0).toNat
  { mark := b 0 + 256 * b 1, slice := b 2 % 32, facet := b 2 / 32 % 4, depth := b 3 % 4, drip := b 3 / 4,
    dest := b 4 % 16, ref := b 4 / 16, refImage := b 5 + 256 * b 6, refFacet := b 7 % 4, qbase := b 7 / 4 % 32,
    dataBits := b 8 + 256 * b 9 + 65536 * b 10, gset := b 11 % 16, gpresent := (b 11).testBit 4,
    image := b 12 + 256 * b 13, reserved := b 2 / 128 + b 7 / 128 + b 11 / 32 + b 14,
    hcrcOk := crc8 0 (bitsOf (p.take 15)) == p.getD 15 0 }

/-- The first header check of R197 that fails, as its code. -/
def pkCheck (p : List Byte) (slice facet : Nat) (image : Word) : Option Nat :=
  let h := pkParse p
  if p.length < 16 then some 6
  else if h.mark ≠ 0x5CA5 ∨ h.hcrcOk = false then some 1
  else if h.slice ≠ slice ∨ h.facet ≠ facet ∨ h.image ≠ image.toNat % 65536 then some 2
  else if h.reserved ≠ 0 ∨ 11 < h.dest ∨ (12 ≤ h.ref ∧ h.ref ≤ 14) ∨ h.depth = 3 then some 3
  else none

/-- A depth code in bits (R196). -/
def pkDepth (c : Nat) : Nat := match c with | 0 => 8 | 1 => 10 | _ => 12

/-! ### Codes (R199) -/

/-- `n` bits as an unsigned value; a read beyond the data is error 6 (R198). -/
def rdU : Nat → List Bool → Except Nat (Nat × List Bool)
  | n, l => if l.length < n then .error 6 else .ok (numMsb (l.take n), l.drop n)

/-- `n` bits as a two's-complement value. -/
def rdS (n : Nat) (l : List Bool) : Except Nat (Int × List Bool) :=
  match rdU n l with
  | .error e => .error e
  | .ok (v, r) => .ok (toSigned n v, r)

/-- The zero bits before the first 1, which is read too; more than 24 are error 5. -/
def rdZeros : Nat → List Bool → Except Nat (Nat × List Bool)
  | _, [] => .error 6
  | n, true :: r => .ok (n, r)
  | n, false :: r => if 24 ≤ n then .error 5 else rdZeros (n + 1) r

/-- The order-0 Exp-Golomb code. -/
def rdUe (l : List Bool) : Except Nat (Nat × List Bool) :=
  match rdZeros 0 l with
  | .error e => .error e
  | .ok (n, r) =>
    match rdU n r with
    | .error e => .error e
    | .ok (x, q) => .ok (2 ^ n - 1 + x, q)

/-- The signed value of an Exp-Golomb index. -/
def seOf (k : Nat) : Int := if k % 2 = 1 then ((k + 1) / 2 : Nat) else -((k / 2 : Nat) : Int)

/-- The signed Exp-Golomb code. -/
def rdSe (l : List Bool) : Except Nat (Int × List Bool) :=
  match rdUe l with
  | .error e => .error e
  | .ok (k, r) => .ok (seOf k, r)

/-! ### Residual (R204, R205) -/

/-- The row and column of a scan index within a subband of `n` columns that begins at a row and a column. -/
def subband (i n r c : Nat) : Nat × Nat := (r + i / n, c + i % n)

/-- The array place of a scan index (R204). -/
def scanPos (i : Nat) : Nat × Nat :=
  if i = 0 then (0, 0) else if i = 1 then (0, 1) else if i = 2 then (1, 0) else if i = 3 then (1, 1)
  else if i < 8 then subband (i - 4) 2 0 2 else if i < 12 then subband (i - 8) 2 2 0 else if i < 16 then subband (i - 12) 2 2 2
  else if i < 32 then subband (i - 16) 4 0 4 else if i < 48 then subband (i - 32) 4 4 0 else subband (i - 48) 4 4 4

/-- The weight of a scan index (R204). -/
def scanWeight (i : Nat) : Nat := if i = 0 then 8 else if i < 4 then 6 else if i < 16 then 4 else 0

/-- A coefficient from its level (R204). -/
def dequant (qp i : Nat) (q : Int) : Int :=
  let qe := qp - scanWeight i
  let st := (4 + qe % 4) <<< (qe / 4)
  let a : Int := (q.natAbs * st / 4 : Nat)
  if q < 0 then -a else a

/-- The levels of a component block, `n` of them still to read; the last must not be 0 and none may pass 2^(d+4). -/
def rdLevels (d : Nat) : Nat → List Bool → Except Nat (List Int × List Bool)
  | 0, l => .ok ([], l)
  | n + 1, l =>
    match rdSe l with
    | .error e => .error e
    | .ok (q, r) =>
      if 2 ^ (d + 4) < q.natAbs ∨ (n = 0 ∧ q = 0) then .error 5
      else
        match rdLevels d n r with
        | .error e => .error e
        | .ok (qs, r2) => .ok (q :: qs, r2)

/-- A component block: its levels by scan index. -/
def rdComponent (d : Nat) (l : List Bool) : Except Nat (List Int × List Bool) :=
  match rdU 1 l with
  | .error e => .error e
  | .ok (0, r) => .ok ([], r)
  | .ok (_, r) =>
    match rdU 6 r with
    | .error e => .error e
    | .ok (last, r2) => rdLevels d (last + 1) r2

/-- The coefficients of a component by row and column. -/
def coefAt (qp : Nat) (levels : List Int) (r c : Nat) : Int :=
  match (List.range 64).find? (fun i => decide (scanPos i = (r, c))) with
  | some i => dequant qp i (levels.getD i 0)
  | none => 0

/-- The inverse of the pair transform (R205). -/
def pairInv (l h : Int) : Int × Int := let a := l + (h + 1).fdiv 2; (a, a - h)

/-- One level's columns inverted on the region of width `2 * m`. -/
def invCols (m : Nat) (x : Nat → Nat → Int) (r c : Nat) : Int :=
  if r < 2 * m ∧ c < 2 * m then
    let p := pairInv (x (r / 2) c) (x (m + r / 2) c)
    if r % 2 = 0 then p.1 else p.2
  else x r c

/-- One level's rows inverted. -/
def invRows (m : Nat) (x : Nat → Nat → Int) (r c : Nat) : Int :=
  if r < 2 * m ∧ c < 2 * m then
    let p := pairInv (x r (c / 2)) (x r (m + c / 2))
    if c % 2 = 0 then p.1 else p.2
  else x r c

/-- The inverse three-level transform (R205). -/
def invHaar (x : Nat → Nat → Int) : Nat → Nat → Int :=
  invRows 4 (invCols 4 (invRows 2 (invCols 2 (invRows 1 (invCols 1 x)))))

/-- The 64 residual values of a component, rows top first. -/
def residual (qp : Nat) (levels : List Int) : List Int :=
  let f := invHaar (coefAt qp levels)
  (List.range 64).map (fun i => f (i / 8) (i % 8))

/-! ### Reconstruction (R206) -/

/-- RGB to YCoCg. -/
def toYcocg (r g b : Int) : Int × Int × Int :=
  let co := r - b
  let t := b + co.fdiv 2
  let cg := g - t
  (t + cg.fdiv 2, co, cg)

/-- YCoCg to RGB, each result clamped to the depth. -/
def fromYcocg (d : Nat) (y co cg : Int) : List Nat :=
  let t := y - cg.fdiv 2
  let g := cg + t
  let b := t - co.fdiv 2
  [clampI (b + co) 0 (2 ^ d - 1), clampI g 0 (2 ^ d - 1), clampI b 0 (2 ^ d - 1)].map Int.toNat

/-- A predicted block with a residual in each of Y, Co and Cg. -/
def reconstruct (d : Nat) (pred : List Nat) (ry rco rcg : List Int) : List Nat :=
  (List.range 64).flatMap (fun i =>
    let p := toYcocg (pred.getD (3 * i) 0 : Nat) (pred.getD (3 * i + 1) 0 : Nat) (pred.getD (3 * i + 2) 0 : Nat)
    fromYcocg d (p.1 + ry.getD i 0) (p.2.1 + rco.getD i 0) (p.2.2 + rcg.getD i 0))

/-- Intra prediction from the block to the left (R201). -/
def intraPred (d pred : Nat) (left : Option (List Nat)) : List Nat :=
  match left with
  | none => List.replicate 192 (2 ^ (d - 1))
  | some l =>
    if pred = 0 then List.replicate 192 (2 ^ (d - 1))
    else if pred = 1 then (List.range 192).map (fun i => l.getD (24 * (i / 24) + 21 + i % 3) 0)
    else (List.range 192).map (fun i =>
      (((List.range 8).map (fun r => l.getD (24 * r + 21 + i % 3) 0)).sum + 4) / 8)

/-! ### Block units (R200 to R208) -/

/-- What a slice's blocks refer to. -/
structure BlkEnv where
  d : Nat
  slice : Nat
  /-- REF is 15. -/
  noRef : Bool
  /-- The reference was never received (R208). -/
  lost : Bool
  ref : DecBuf
  /-- The image lit for the facet, the source of substitution. -/
  lit : Option DecBuf
  gpresent : Bool

/-- One decoded block position. -/
structure BlockOut where
  codes : List Nat
  clean : Bool
  geode : Bool := false
  subst : Bool := false
  deriving DecidableEq, Repr

/-- What passes from one block unit to the next: QP, the last vector, the block to the left. -/
structure BlkCtx where
  qp : Nat
  mvx : Int := 0
  mvy : Int := 0
  left : Option BlockOut := none
  deriving DecidableEq, Repr

/-- The QP update of a MOVE or INTRA block (R203). -/
def rdQp (qp : Nat) (l : List Bool) : Except Nat (Nat × List Bool) :=
  match rdU 1 l with
  | .error e => .error e
  | .ok (0, r) => .ok (qp, r)
  | .ok (_, r) => rdU 5 r

/-- The three component blocks of a residual. -/
def rdResidual (d : Nat) (l : List Bool) : Except Nat ((List Int × List Int × List Int) × List Bool) :=
  match rdComponent d l with
  | .error e => .error e
  | .ok (y, r) =>
    match rdComponent d r with
    | .error e => .error e
    | .ok (co, r2) =>
      match rdComponent d r2 with
      | .error e => .error e
      | .ok (cg, r3) => .ok ((y, co, cg), r3)

/-- The substitute of a SKIP or MOVE block whose reference was never received (R208). -/
def BlkEnv.substitute (e : BlkEnv) (b : Nat) : BlockOut :=
  match e.lit with
  | some x => { codes := x.region e.d (8 * e.slice) (8 * b), clean := false, subst := true }
  | none => { codes := List.replicate 192 0, clean := false, subst := true }

/-- A block with its residual added. -/
def addResidual (d qp : Nat) (pred : List Nat) (q : List Int × List Int × List Int) : List Nat :=
  reconstruct d pred (residual qp q.1) (residual qp q.2.1) (residual qp q.2.2)

/-- A SKIP unit (R200, R201, R207, R208). -/
def blkSkip (e : BlkEnv) (b : Nat) (x : BlkCtx) (l : List Bool) : Except Nat (BlockOut × BlkCtx × List Bool) :=
  if e.noRef then .error 3
  else if e.lost then .ok (e.substitute b, x, l)
  else .ok ({ codes := e.ref.region e.d (8 * e.slice) (8 * b), clean := e.ref.cleanAt (32 * e.slice + b) }, x, l)

/-- A MOVE unit (R202 to R208). -/
def blkMove (e : BlkEnv) (b : Nat) (x : BlkCtx) (l : List Bool) : Except Nat (BlockOut × BlkCtx × List Bool) :=
  if e.noRef then .error 3
  else
    match rdSe l with
    | .error c => .error c
    | .ok (mx, l1) =>
      match rdSe l1 with
      | .error c => .error c
      | .ok (my, l2) =>
        let dx := x.mvx + mx
        let dy := x.mvy + my
        let r : Int := 8 * e.slice + dy
        let c : Int := 8 * b + dx
        if dx < -32 ∨ 31 < dx ∨ dy < -8 ∨ 7 < dy ∨ r < 0 ∨ 248 < r ∨ c < 0 ∨ 248 < c then .error 4
        else
          match rdQp x.qp l2 with
          | .error c => .error c
          | .ok (qp, l3) =>
            match rdResidual e.d l3 with
            | .error c => .error c
            | .ok (q, l4) =>
              let y := { x with qp := qp, mvx := dx, mvy := dy }
              if e.lost then .ok (e.substitute b, y, l4)
              else
                .ok ({ codes := addResidual e.d qp (e.ref.region e.d r.toNat c.toNat) q,
                       clean := e.ref.regionClean r.toNat c.toNat }, y, l4)

/-- An INTRA unit (R200, R201, R207). -/
def blkIntra (e : BlkEnv) (x : BlkCtx) (l : List Bool) : Except Nat (BlockOut × BlkCtx × List Bool) :=
  match rdU 2 l with
  | .error c => .error c
  | .ok (p, l1) =>
    if p = 3 then .error 3
    else
      match rdQp x.qp l1 with
      | .error c => .error c
      | .ok (qp, l2) =>
        match rdResidual e.d l2 with
        | .error c => .error c
        | .ok (q, l3) =>
          let clean := p == 0 || (match x.left with | some o => o.clean | none => true)
          .ok ({ codes := addResidual e.d qp (intraPred e.d p (x.left.map (fun o => o.codes))) q, clean := clean },
            { x with qp := qp }, l3)

/-- A FLAT unit (R200, R206). -/
def blkFlat (e : BlkEnv) (x : BlkCtx) (l : List Bool) : Except Nat (BlockOut × BlkCtx × List Bool) :=
  match rdU e.d l with
  | .error c => .error c
  | .ok (y, l1) =>
    match rdS (e.d + 1) l1 with
    | .error c => .error c
    | .ok (co, l2) =>
      match rdS (e.d + 1) l2 with
      | .error c => .error c
      | .ok (cg, l3) =>
        .ok ({ codes := (List.range 64).flatMap (fun _ => fromYcocg e.d y co cg), clean := true }, x, l3)

/-- `n` samples of `d` bits. -/
def rdSamples (d : Nat) : Nat → List Bool → Except Nat (List Nat × List Bool)
  | 0, l => .ok ([], l)
  | n + 1, l =>
    match rdU d l with
    | .error c => .error c
    | .ok (v, r) =>
      match rdSamples d n r with
      | .error c => .error c
      | .ok (vs, r2) => .ok (v :: vs, r2)

/-- A GEODE unit (R200). -/
def blkGeode (e : BlkEnv) (x : BlkCtx) (l : List Bool) : Except Nat (BlockOut × BlkCtx × List Bool) :=
  if e.gpresent = false then .error 3
  else
    match rdSamples e.d 192 l with
    | .error c => .error c
    | .ok (v, r) => .ok ({ codes := v, clean := true, geode := true }, x, r)

/-- One block unit by its mode code (R200). -/
def blkUnit (e : BlkEnv) (b : Nat) (x : BlkCtx) : List Bool → Except Nat (BlockOut × BlkCtx × List Bool)
  | false :: l => blkSkip e b x l
  | true :: false :: l => blkMove e b x l
  | true :: true :: false :: l => blkIntra e x l
  | true :: true :: true :: false :: l => blkFlat e x l
  | true :: true :: true :: true :: l => blkGeode e x l
  | _ => .error 6

/-- The block units from position `b` on, `n` of them; an error names its code and its position. -/
def blkUnits (e : BlkEnv) (b : Nat) (x : BlkCtx) (l : List Bool) : Nat → Except (Nat × Nat) (List BlockOut × List Bool)
  | 0 => .ok ([], l)
  | n + 1 =>
    match blkUnit e b x l with
    | .error c => .error (c, b)
    | .ok (o, y, r) =>
      match blkUnits e (b + 1) { y with left := some o } r n with
      | .error c => .error c
      | .ok (os, r2) => .ok (o :: os, r2)

/-- The blocks of a Packed payload (R198, R200): the 32 units, then exactly DATA_BITS bits read and zeros to the end. -/
def packedBlocks (e : BlkEnv) (h : PkHdr) (p : List Byte) : Except (Nat × Nat) (List BlockOut) :=
  let all := bitsOf (p.drop 16)
  match blkUnits e 0 { qp := h.qbase } (all.take h.dataBits) 32 with
  | .error c => .error c
  | .ok (os, rest) =>
    if rest.isEmpty && decide (h.dataBits ≤ all.length) && (all.drop h.dataBits).all (fun b => !b) then .ok os
    else .error (6, 31)

/-! ### Clear slices (R192) -/

/-- The depth that a Clear payload's length gives, and whether it carries a Geode map. -/
def clearDepth (len : Nat) : Option (Nat × Bool) :=
  if len = 6144 then some (8, false) else if len = 7680 then some (10, false) else if len = 9216 then some (12, false)
  else if len = 6152 then some (8, true) else if len = 7688 then some (10, true) else if len = 9224 then some (12, true)
  else none

/-- The Geode map at the end of a Clear payload: set, reserved bytes, mask. -/
def clearMap (p : List Byte) : Nat × Nat × Nat :=
  let m := p.drop (p.length - 8)
  ((m.getD 0 0).toNat, fieldAt m 1 3, fieldAt m 4 4)

/-- A sample of a Clear payload. -/
def clearSample (bits : List Bool) (d i : Nat) : Nat := numMsb ((bits.drop (d * i)).take d)

/-- The 32 blocks of a Clear payload of depth `d`, with the Geode blocks of a mask. -/
def clearBlocks (p : List Byte) (d mask : Nat) : List BlockOut :=
  let bits := bitsOf p
  (List.range 32).map (fun b =>
    { codes := (List.range 192).map (fun i => clearSample bits d (3 * (256 * (i / 24) + 8 * b + i / 3 % 8) + i % 3)),
      clean := true, geode := mask.testBit b })

/-! ### The Geode digest (R209) -/

/-- The bytes that the digest of a slice's Geode blocks covers. -/
def geodeBytes (wall : BitVec 64) (tile set slice : Nat) (os : List BlockOut) : List Byte :=
  bytesLe wall.toNat 8 ++ bytesLe tile 2 ++ bytesLe set 1 ++ bytesLe slice 1 ++
    (List.zip (List.range 32) os).flatMap (fun x =>
      if x.2.geode then bytesLe x.1 1 ++ x.2.codes.flatMap (fun v => bytesLe v 2) else [])

end Sys2Proof.Machine
end

