-- ==== Sys2Proof/Machine/Coding.lean ====
section
/-!
DEFINITION. How an engine codes a slice (R199 to R206, R222 to R232): the syntax written, the codings a block may have, the
search, the choice, and the slice's budget. The spec keeps the encoder's measure, its quantiser and its choice of quantisers
to itself: those are opaque constants, functions of what R232 says the bits are a function of.
-/

namespace Sys2Proof.Machine

/-! ### Writing (R199 to R204) -/

/-- The order-0 Exp-Golomb code: as many zeros as the bits of `k + 1` after its first, then those bits. -/
def wrUe (k : Nat) : List Bool := let n := (k + 1).log2; List.replicate n false ++ bitsMsb (k + 1) (n + 1)

/-- The index of a signed value. -/
def seIndex (v : Int) : Nat := if 0 < v then 2 * v.toNat - 1 else 2 * (-v).toNat

/-- The signed code. -/
def wrSe (v : Int) : List Bool := wrUe (seIndex v)

/-- A component block's levels: cbf, last, the levels (R204). Levels end with one that is not 0. -/
def wrComponent (q : List Int) : List Bool :=
  if q.isEmpty then [false] else true :: bitsMsb (q.length - 1) 6 ++ q.flatMap wrSe

/-- The residual of a block: Y, Co and Cg. -/
structure Residual where
  y : List Int := []
  co : List Int := []
  cg : List Int := []
  deriving DecidableEq, Repr

/-- A residual written. -/
def Residual.bits (r : Residual) : List Bool := wrComponent r.y ++ wrComponent r.co ++ wrComponent r.cg

/-- The QP update (R203): one bit, and the new QP where it changes. -/
def wrQp (old new : Nat) : List Bool := if old = new then [false] else true :: bitsMsb new 5

/-- A coding of a block (R200). -/
inductive Coding where
  | skip
  | move (dx dy : Int) (qp : Nat) (r : Residual)
  | intra (pred qp : Nat) (r : Residual)
  | flat (y : Nat) (co cg : Int)
  | geode (samples : List Nat)
  deriving DecidableEq, Repr

/-- A coding written, with what the blocks before it left (R200 to R204). -/
def Coding.bits (d : Nat) (x : BlkCtx) : Coding → List Bool
  | .skip => [false]
  | .move dx dy qp r => [true, false] ++ wrSe (dx - x.mvx) ++ wrSe (dy - x.mvy) ++ wrQp x.qp qp ++ r.bits
  | .intra pred qp r => [true, true, false] ++ bitsMsb pred 2 ++ wrQp x.qp qp ++ r.bits
  | .flat y co cg => [true, true, true, false] ++ bitsMsb y d ++ bitsMsb (ofSigned (d + 1) co) (d + 1) ++ bitsMsb (ofSigned (d + 1) cg) (d + 1)
  | .geode samples => [true, true, true, true] ++ samples.flatMap (fun v => bitsMsb v d)

/-- What passes to the next block. -/
def Coding.next (x : BlkCtx) (o : BlockOut) : Coding → BlkCtx
  | .move dx dy qp _ => { qp := qp, mvx := dx, mvy := dy, left := some o }
  | .intra _ qp _ => { x with qp := qp, left := some o }
  | _ => { x with left := some o }

/-! ### The forward transform (R205) -/

/-- The pair transform. -/
def pairFwd (a b : Int) : Int × Int := ((a + b).fdiv 2, a - b)

/-- One level's rows of the region of width `2 * m`. -/
def fwdRows (m : Nat) (x : Nat → Nat → Int) (r c : Nat) : Int :=
  if r < 2 * m ∧ c < 2 * m then
    if c < m then (pairFwd (x r (2 * c)) (x r (2 * c + 1))).1 else (pairFwd (x r (2 * (c - m))) (x r (2 * (c - m) + 1))).2
  else x r c

/-- One level's columns. -/
def fwdCols (m : Nat) (x : Nat → Nat → Int) (r c : Nat) : Int :=
  if r < 2 * m ∧ c < 2 * m then
    if r < m then (pairFwd (x (2 * r) c) (x (2 * r + 1) c)).1 else (pairFwd (x (2 * (r - m)) c) (x (2 * (r - m) + 1) c)).2
  else x r c

/-- The forward three-level transform. -/
def fwdHaar (x : Nat → Nat → Int) : Nat → Nat → Int :=
  fwdCols 1 (fwdRows 1 (fwdCols 2 (fwdRows 2 (fwdCols 4 (fwdRows 4 x)))))

/-- YCoCg component `k` of a pixel of a block. -/
def ycocgAt (codes : List Nat) (i k : Nat) : Int :=
  let v := toYcocg (codes.getD (3 * i) 0 : Nat) (codes.getD (3 * i + 1) 0 : Nat) (codes.getD (3 * i + 2) 0 : Nat)
  if k = 0 then v.1 else if k = 1 then v.2.1 else v.2.2

/-- Levels without the zeros at their end. -/
def trimLevels (q : List Int) : List Int := (q.reverse.dropWhile (fun v => v == 0)).reverse

/-- The levels of a component of a block against its prediction at a QP: the forward transform's coefficients in scan order,
each quantised as the engine does (a free value within the range of R204). -/
def levelsOf (d qp k : Nat) (input pred : List Nat) : List Int :=
  let f := fwdHaar (fun r c => ycocgAt input (8 * r + c) k - ycocgAt pred (8 * r + c) k)
  trimLevels ((List.range 64).map (fun i =>
    let p := scanPos i
    clampI (Config.encLevel [qp, i, f p.1 p.2]) (-(2 ^ (d + 4))) (2 ^ (d + 4))))

/-- The residual of a block at a QP. -/
def residualOf (d qp : Nat) (input pred : List Nat) : Residual :=
  { y := levelsOf d qp 0 input pred, co := levelsOf d qp 1 input pred, cg := levelsOf d qp 2 input pred }

/-! ### Drip (R228, R229) -/

/-- The zone of a block position. -/
def dripZone (p slice b : Nat) : Nat := (32 * b + slice) * p / 1024

/-- The age of a block position in an image of a phase. -/
def dripAge (p ph slice b : Nat) : Nat := (ph + p - dripZone p slice b % p) % p

/-- The age that a block position had one image before. -/
def dripAgeBefore (p ph slice b : Nat) : Nat := (ph + 2 * p - 1 - dripZone p slice b % p) % p

/-- What one slice is coded with: depth, slice index, phase and period, the reference (none: REF is 15), the samples of its
Geode blocks by block position, its input, its budget in bits. -/
structure SliceEnv where
  d : Nat
  slice : Nat
  ph : Nat
  p : Nat
  ref : Option DecBuf
  geode : List (Nat × List Nat)
  input : List (List Nat)
  budget : Nat
  /-- Window search (else candidate search), and the vectors chosen in the slice above by block position. -/
  window : Bool
  above : List (Nat × Int × Int)

/-- The input of a block. -/
def SliceEnv.block (e : SliceEnv) (b : Nat) : List Nat := e.input.getD b []

/-- The age of a block. -/
def SliceEnv.age (e : SliceEnv) (b : Nat) : Nat := dripAge e.p e.ph e.slice b

/-- A region of the reference may predict a block of an age (R202, R229): it lies in the picture and touches only positions that
were younger. -/
def SliceEnv.regionOk (e : SliceEnv) (b : Nat) (dx dy : Int) : Bool :=
  let r : Int := 8 * e.slice + dy
  let c : Int := 8 * b + dx
  decide (0 ≤ r) && decide (r ≤ 248) && decide (0 ≤ c) && decide (c ≤ 248) &&
    [r / 8, (r + 7) / 8].all (fun i => [c / 8, (c + 7) / 8].all (fun j =>
      decide (dripAgeBefore e.p e.ph i.toNat j.toNat < e.age b)))

/-- The INTRA predictions a block may use (R229). -/
def SliceEnv.preds (e : SliceEnv) (b : Nat) : List Nat :=
  if b = 0 then [0] else if e.age (b - 1) ≤ e.age b then [0, 1, 2] else [0]

/-! ### Search (R225, R226) -/

/-- The vectors of window search. -/
def windowVectors : List (Int × Int) :=
  (List.range 64).flatMap (fun i => (List.range 16).map (fun j => ((i : Int) - 32, (j : Int) - 8)))

/-- The vectors of candidate search from some centres: each, and each moved by one. -/
def candidateVectors (cs : List (Int × Int)) : List (Int × Int) :=
  (cs.flatMap (fun c => [-1, 0, 1].flatMap (fun i => [-1, 0, 1].map (fun j => ((c.1 + i, c.2 + j) : Int × Int))))).dedup

/-- The limits of a vector (R202). -/
def vectorInRange (v : Int × Int) : Bool := decide (-32 ≤ v.1) && decide (v.1 ≤ 31) && decide (-8 ≤ v.2) && decide (v.2 ≤ 7)

/-- Vectors in the order in which equal costs are decided: smallest |dx| + |dy|, then dy, then dx (R226). -/
def vectorBefore (a b : Int × Int) : Bool :=
  let m := fun (v : Int × Int) => v.1.natAbs + v.2.natAbs
  decide (m a < m b) || (m a == m b && (decide (a.2 < b.2) || (a.2 == b.2 && decide (a.1 ≤ b.1))))

/-- The vectors that a block's search evaluates, in that order. -/
def SliceEnv.vectors (e : SliceEnv) (b : Nat) (x : BlkCtx) : List (Int × Int) :=
  let above := ((e.above.find? (fun p => p.1 == b)).map (fun p => p.2)).toList
  let all := if e.window then windowVectors else candidateVectors ([(0, 0), (x.mvx, x.mvy)] ++ above)
  (all.filter (fun v => vectorInRange v && e.regionOk b v.1 v.2)).mergeSort vectorBefore

/-! ### One block -/

/-- The prediction of a coding, and the block that results (R201, R206). -/
def SliceEnv.pred (e : SliceEnv) (b : Nat) (x : BlkCtx) : Coding → List Nat
  | .skip => match e.ref with | some r => r.region e.d (8 * e.slice) (8 * b) | none => []
  | .move dx dy _ _ => match e.ref with | some r => r.region e.d (8 * e.slice + dy).toNat (8 * b + dx).toNat | none => []
  | .intra p _ _ => intraPred e.d p (x.left.map (fun o => o.codes))
  | .flat y co cg => (List.range 64).flatMap (fun _ => fromYcocg e.d y co cg)
  | .geode samples => samples

/-- The block as every decoder reconstructs it. -/
def SliceEnv.out (e : SliceEnv) (b : Nat) (x : BlkCtx) (c : Coding) : BlockOut :=
  let p := e.pred b x c
  let codes := match c with
    | .move _ _ qp r => addResidual e.d qp p (r.y, r.co, r.cg)
    | .intra _ qp r => addResidual e.d qp p (r.y, r.co, r.cg)
    | _ => p
  { codes := codes, clean := true, geode := match c with | .geode _ => true | _ => false }

/-- The part of the slice's input and state that free choices of a block depend on. -/
def SliceEnv.key (e : SliceEnv) (b used : Nat) : List Nat := [e.budget, e.ph, b, used] ++ e.input.flatten

/-- A MOVE or INTRA coding of a block at a QP. -/
def SliceEnv.moveAt (e : SliceEnv) (b : Nat) (x : BlkCtx) (qp : Nat) (v : Int × Int) : Coding :=
  .move v.1 v.2 qp (residualOf e.d qp (e.block b) (e.pred b x (.move v.1 v.2 qp {})))
def SliceEnv.intraAt (e : SliceEnv) (b : Nat) (x : BlkCtx) (qp p : Nat) : Coding :=
  .intra p qp (residualOf e.d qp (e.block b) (e.pred b x (.intra p qp {})))

/-- A FLAT coding of a block, its colour the engine's (a free value). -/
def SliceEnv.flatOf (e : SliceEnv) (b used : Nat) : Coding :=
  let v := fun k => Config.encFlat (e.key b used ++ [k])
  .flat (v 0 % 2 ^ e.d) (toSigned (e.d + 1) (v 1 % 2 ^ (e.d + 1))) (toSigned (e.d + 1) (v 2 % 2 ^ (e.d + 1)))

/-- The codings that a block may have, in the order in which equal costs are decided: SKIP, MOVE, INTRA, FLAT (R226, R229). The
QP and, among those allowed, the INTRA prediction are the engine's (free values). -/
def SliceEnv.choices (e : SliceEnv) (b used : Nat) (x : BlkCtx) : List Coding :=
  let qp := Config.encQp (e.key b used) % 32
  let ps := e.preds b
  let p := ps.getD (Config.encPred (e.key b used) % ps.length) 0
  let old := e.ref.isSome && e.age b != 0
  (if old then Coding.skip :: (e.vectors b x).map (e.moveAt b x qp) else []) ++ [e.intraAt b x qp p, e.flatOf b used]

/-- The encoder's measure of a coding (a free value), of the block's input, the result and the bits. -/
def SliceEnv.cost (e : SliceEnv) (b : Nat) (x : BlkCtx) (c : Coding) : Nat :=
  Config.encCost (e.budget :: e.block b ++ (e.out b x c).codes ++ (c.bits e.d x).map Bool.toNat)

/-- The first of some codings that none costs less than. -/
def SliceEnv.cheapest (e : SliceEnv) (b : Nat) (x : BlkCtx) : Coding → List Coding → Coding
  | c, [] => c
  | c, n :: rest => e.cheapest b x (if e.cost b x n < e.cost b x c then n else c) rest

/-- The coding chosen for a block (R226): a Geode block is coded GEODE only (R229). -/
def SliceEnv.choose (e : SliceEnv) (b used : Nat) (x : BlkCtx) : Coding :=
  match e.geode.find? (fun g => g.1 == b) with
  | some g => .geode g.2
  | none =>
    match e.choices b used x with
    | [] => e.flatOf b used
    | c :: rest => e.cheapest b x c rest

/-! ### The budget (R222, R223) -/

/-- The floor cost of a block (R222). -/
def floorCost (d : Nat) (geode refresh : Bool) : Nat := if geode then 4 + 192 * d else if refresh then 3 * d + 6 else 1

/-- Whether a block is a Geode block of the slice, and whether FLAT is its floor coding else. -/
def SliceEnv.isGeode (e : SliceEnv) (b : Nat) : Bool := e.geode.any (fun g => g.1 == b)
def SliceEnv.refresh (e : SliceEnv) (b : Nat) : Bool := e.ref.isNone || e.age b == 0

/-- The floor coding of a block. -/
def SliceEnv.floorOf (e : SliceEnv) (b used : Nat) : Coding :=
  match e.geode.find? (fun g => g.1 == b) with
  | some g => .geode g.2
  | none => if e.refresh b then e.flatOf b used else .skip

/-- The floor costs of the blocks after a block. -/
def SliceEnv.reserve (e : SliceEnv) (b : Nat) : Nat :=
  ((List.range 32).filter (fun i => decide (b < i))).foldl (fun a i => a + floorCost e.d (e.isGeode i) (e.refresh i)) 0

/-- The cheaper codings of a coding, in the order in which they are tried (R223). -/
def SliceEnv.cheaper (e : SliceEnv) (b : Nat) (x : BlkCtx) : Coding → List Coding
  | .move dx dy qp _ =>
    ((List.range 32).filter (fun q => decide (qp < q))).map (fun q => e.moveAt b x q (dx, dy)) ++ [.move dx dy x.qp {}]
  | .intra p qp _ =>
    ((List.range 32).filter (fun q => decide (qp < q))).map (fun q => e.intraAt b x q p) ++ [.intra p x.qp {}]
  | _ => []

/-- A coding fits: its cost and the reserve do not pass what remains (R223). -/
def SliceEnv.fits (e : SliceEnv) (b used : Nat) (x : BlkCtx) (c : Coding) : Bool :=
  decide (used + (c.bits e.d x).length + e.reserve b ≤ e.budget)

/-- The coding that a block gets, and whether floor mode begins or goes on (R223). -/
def SliceEnv.codeBlock (e : SliceEnv) (b used : Nat) (floor : Bool) (x : BlkCtx) : Coding × Bool :=
  if floor then (e.floorOf b used, true)
  else
    let c := e.choose b used x
    match (c :: e.cheaper b x c).find? (e.fits b used x) with
    | some y => (y, false)
    | none => (e.floorOf b used, true)

/-- A coded slice: its block data, the blocks as every decoder reconstructs them, the vectors of its MOVE blocks by position, and
whether it entered floor mode. -/
structure CodedSlice where
  bits : List Bool := []
  outs : List BlockOut := []
  vectors : List (Nat × Int × Int) := []
  floor : Bool := false
  deriving DecidableEq, Repr

/-- A block added to a slice in coding. -/
def CodedSlice.add (s : CodedSlice) (b : Nat) (bits : List Bool) (o : BlockOut) (floor : Bool) (c : Coding) : CodedSlice :=
  { bits := s.bits ++ bits, outs := s.outs ++ [o], floor := floor,
    vectors := match c with | .move dx dy _ _ => s.vectors ++ [(b, dx, dy)] | _ => s.vectors }

/-- The blocks from position `b` on, `n` of them, coded in order (R216, R223). -/
def SliceEnv.codeFrom (e : SliceEnv) : Nat → Nat → BlkCtx → CodedSlice → CodedSlice
  | 0, _, _, s => s
  | n + 1, b, x, s =>
    let r := e.codeBlock b s.bits.length s.floor x
    let o := e.out b x r.1
    e.codeFrom n (b + 1) (r.1.next x o) (s.add b (r.1.bits e.d x) o r.2 r.1)

/-- QBASE: a function of the slice's input and budget alone (R232; a free value). -/
def SliceEnv.qbase (e : SliceEnv) : Nat := Config.encQbase (e.budget :: e.input.flatten) % 32

/-- The slice coded. -/
def SliceEnv.code (e : SliceEnv) : CodedSlice := e.codeFrom 32 0 { qp := e.qbase } {}

end Sys2Proof.Machine
end

