-- ==== Sys2Proof/Machine/Ingest.lean ====
section
/-!
DEFINITION. Source ingest, the frame stores, shutter inputs, layer buffers and memory sleep (R141 to R161).
-/

namespace Sys2Proof.Machine

/-- A source's plan. -/
def State.srcPlan (s : State) (n : Nat) : SourcePlan := nth s.plan.ingest.src n {}

/-! ### The raster (R149, R150, R154) -/

/-- The lines of a frame (R149). -/
def State.frameLines (s : State) : Nat := s.plan.ingest.vtotal * s.facets

/-- The lines that one image needs at the least: lead, active and minimum tail (R150, R151). The active lines are those of
the canvas. -/
def Plan.span (p : Plan) : Nat := p.ingest.leadLines + p.comp.canvasH + p.ingest.minTailLines

/-- A time in ns as whole lines, rounded down: the line rate is vtotal × facets × frame rate (R149). -/
def State.nsToLines (s : State) (ns : Nat) : Nat :=
  ns * s.frameLines * s.plan.wall.rateNum / (1000000000 * s.plan.wall.rateDen)

/-- Lines as a time in ns, rounded up. -/
def State.linesToNs (s : State) (lines : Nat) : Nat :=
  (lines * 1000000000 * s.plan.wall.rateDen + s.frameLines * s.plan.wall.rateNum - 1) / max 1 (s.frameLines * s.plan.wall.rateNum)

/-- The line of the image in scan-out, numbered from its own boundary to the next image's (R150). -/
def State.lineNow (s : State) : Nat :=
  match s.ing.imgAt with
  | some t => s.nsToLines (s.now - t)
  | none => 0

/-- The read engines still fetch for the image in scan-out (R154): their last fetch is acknowledged by the end of the last
active line (DESIGN CHOICE, log entry 70). -/
def State.fetching (s : State) : Bool := s.ing.imgAt.isSome && decide (s.lineNow < s.plan.ingest.leadLines + s.plan.comp.canvasH)

/-- A canvas line of the image in scan-out has been composed: its raster line has passed. -/
def State.lineComposed (s : State) (y : Nat) : Bool := s.ing.imgAt.isSome && decide (s.plan.ingest.leadLines + y < s.lineNow)

/-! ### Frame stores (R142, R143, R145) -/

/-- A planar picture: pixel format, bits of a sample, size (R142). -/
structure Planes where
  fmt : Nat
  bits : Nat
  w : Nat
  h : Nat
  deriving DecidableEq, Repr

/-- A multiple of 256 at or above a number of bytes (R142). -/
def pitch256 (n : Nat) : Nat := (n + 255) / 256 * 256

/-- Bytes of a stored sample. -/
def Planes.sampleBytes (p : Planes) : Nat := if p.bits = 8 then 1 else 2

/-- Chroma samples of each kind in a line, and the lines of the C plane. -/
def Planes.cols (p : Planes) : Nat := if p.fmt = 0 ∨ p.fmt = 1 then p.w else (p.w + 1) / 2
def Planes.cLines (p : Planes) : Nat := if p.fmt = 3 then (p.h + 1) / 2 else p.h

/-- Bytes of a line of the Y plane (0) or of the C plane. -/
def Planes.lineBytes (p : Planes) (plane : Nat) : Nat := if plane = 0 then p.w * p.sampleBytes else 2 * p.cols * p.sampleBytes

/-- Where a line of a plane begins, from the base. -/
def Planes.lineAt (p : Planes) (plane y : Nat) : Nat :=
  if plane = 0 then y * pitch256 (p.lineBytes 0) else p.h * pitch256 (p.lineBytes 0) + y * pitch256 (p.lineBytes 1)

/-- Where a sample stands: component 0 in the Y plane, 1 and 2 interleaved in the C plane. -/
def Planes.sampleAddr (p : Planes) (comp x y : Nat) : Nat :=
  if comp = 0 then p.lineAt 0 y + x * p.sampleBytes else p.lineAt 1 y + (2 * x + (comp - 1)) * p.sampleBytes

/-- The bytes of a whole picture. -/
def Planes.size (p : Planes) : Nat := p.lineAt 1 p.cLines

/-- A sample as it is stored: a byte, or a 16-bit container aligned to the top (R142). The container's byte order is
little-endian (DESIGN CHOICE, log entry 70). -/
def Planes.stored (p : Planes) (v : Nat) : List Byte := if p.bits = 8 then bytesLe v 1 else bytesLe (v <<< (16 - p.bits)) 2

/-- Bits of a sample by its depth code; 3 acts as 0. -/
def depthBits (d : Nat) : Nat := if d = 1 then 10 else if d = 2 then 12 else 8

/-- The picture in a store. -/
def Store.planes (st : Store) : Planes := { fmt := st.fmt, bits := st.bits, w := st.w, h := st.h }

/-- A sample of the captured frame at a place of the store: the source's sample at that place of the window (R142, R145). The
picture comes from outside. -/
def Store.captured (st : Store) (comp x y : Nat) : Nat :=
  let half := decide (comp ≠ 0) && decide (2 ≤ st.fmt)
  let quarter := decide (comp ≠ 0) && st.fmt == 3
  Config.sample [st.stamp, comp, (if half then st.x / 2 else st.x) + x, (if quarter then st.y / 2 else st.y) + y] % 2 ^ st.bits

/-- The base of a store (R142). -/
def State.storeBase (s : State) (n i : Nat) : Nat := nth (s.srcPlan n).storeBase i 0

/-- The frame that a store was captured with, written into its planes in the LPDDR (R142). -/
def State.storeWrite (s : State) (n i : Nat) (st : Store) : State :=
  let p := st.planes
  let s1 := s.forEach (List.range p.h) (fun y t =>
    t.lpddrPut (t.storeBase n i + p.lineAt 0 y) ((List.range p.w).flatMap (fun x => p.stored (st.captured 0 x y))))
  s1.forEach (List.range p.cLines) (fun y t =>
    t.lpddrPut (t.storeBase n i + p.lineAt 1 y)
      ((List.range p.cols).flatMap (fun x => p.stored (st.captured 1 x y) ++ p.stored (st.captured 2 x y))))

/-! ### Capture (R141 to R146) -/

/-- The source frame agrees with `ING_SCFG` (R141); DEPTH 3 acts as 0. -/
def State.formatAgrees (s : State) (n format depth : Nat) (interlaced : Bool) : Bool :=
  let d := s.getF (F.ING_SCFG_DEPTH n)
  !interlaced && s.getF (F.ING_SCFG_FORMAT n) == format && (if d = 3 then 0 else d) == depth

/-- A read engine holds a store (R154): it was taken at the last latch line, and fetches from it are still to come. -/
def State.engineHolds (s : State) (n i : Nat) : Bool := (s.src n).held == some i && s.fetching

/-- The stores the writer may take (R143): not the newest complete one, not one that a read engine holds, and not one whose
frame is still being written. -/
def State.freeStores (s : State) (n : Nat) : List Nat :=
  (List.range (s.srcPlan n).stores).filter (fun i =>
    !(s.flag (F.ING_SSTAT_HAVE n) && s.getF (F.ING_SSTAT_NEWEST n) == i) && !(s.engineHolds n i) && !((s.src n).filling.contains i))

/-- The writer begins a frame in a store with the format and the source window in force (R143, R145). -/
def State.takeStore (s : State) (n i : Nat) : State :=
  let st : Store := {
    complete := false, stamp := s.fresh, fmt := s.getF (F.ING_SCFG_FORMAT n), bits := depthBits (s.getF (F.ING_SCFG_DEPTH n)),
    x := s.actF (F.ING_WINPOS_X n), y := s.actF (F.ING_WINPOS_Y n), w := s.actF (F.ING_WINSIZE_W n), h := s.actF (F.ING_WINSIZE_H n) }
  let x := s.src n
  (s.setF (F.ING_SSTAT_WRITING n) i).setSrc n { x with filling := x.filling ++ [i], stores := tabPut x.stores i st }

/-- The frame dropped for want of a store (R143). -/
def State.dropFrame (s : State) (n : Nat) : State := (s.bump (F.ING_SSTAT_DROPS n)).raiseBit F.SCN_EVT_SRC_DROP n

/-- The frame in progress of a source whose capture was to stop has ended (R146): once it is stored, the capture stops. -/
def State.captureEnd (s : State) (n : Nat) : State :=
  if (s.src n).stopAtEnd && (s.src n).filling.isEmpty then (s.setSrc n { s.src n with stopAtEnd := false }).srcState n 0 else s

/-- `SOURCE_FRAME_START` (R141, R143, R146). `sdps` other secondary data packets came since the last frame and are discarded
(R101). Which of the free stores the writer takes is left open. -/
def execSourceFrameStart (n : Fin 4) (format : Fin 4) (depth : Fin 3) (interlaced : Bool) (sdps : Nat) (s : State) : Res :=
  if !s.isHead || s.getF (F.LAN_DPLINK_TRAIN n) != 3 then .next s
  else
    let s1 := s.bumpBy (F.LAN_DPLINK_SDP_DROP n) sdps
    if s1.getF (F.ING_SSTAT_STATE n) = 0 ∨ (s1.srcPlan n).enable = false then .next s1
    else if (s1.src n).stopAtEnd then .next (s1.captureEnd n)
    else if s1.formatAgrees n format depth interlaced then
      let s2 := s1.srcState n 2
      let free := s2.freeStores n
      if free.isEmpty then .next (s2.dropFrame n)
      else
        let r := s2.choose free.length
        .next (r.2.takeStore n (free.getD r.1 0))
    else .next ((s1.bump (F.ING_SSTAT_FMT_ERR n)).srcState n 3)

/-- `STORE_COMPLETE` (R143, R146): the memory has acknowledged the last byte of the oldest frame being written, which is now in
its store, the newest complete one; a capture that was to stop stops. While the MPLL is out of lock the memory acknowledges
nothing (R45). -/
def execStoreComplete (n : Fin 4) (s : State) : Res :=
  let x := s.src n
  match x.filling with
  | i :: rest =>
    if s.memRuns then
      let st := { tabGet {} x.stores i with complete := true }
      let s1 := (s.storeWrite n i st).setSrc n { x with filling := rest, stores := tabPut x.stores i st }
      .next (((s1.setF (F.ING_SSTAT_NEWEST n) i).raise (F.ING_SSTAT_HAVE n)).captureEnd n)
    else .next s
  | [] => .next s

/-- A capture stopped: at once, or at the end of the frame in progress (R146). -/
def State.captureOff (s : State) (n : Nat) : State :=
  if (s.src n).filling.isEmpty then s.srcState n 0 else s.setSrc n { s.src n with stopAtEnd := true }

/-- A capture resumed (R146): where LANES or MAXRATE changed, an HPD pulse makes the source train again. -/
def State.captureOn (s : State) (n : Nat) : State :=
  let x := s.src n
  let s1 := s.setSrc n { x with stopAtEnd := false, changed := false }
  let s2 := if s1.getF (F.ING_SSTAT_STATE n) = 0 ∧ (s1.srcPlan n).enable = true then s1.srcState n 1 else s1
  s2.when x.changed (fun t => t.emit (.hpdPulse n))

/-- `ING_CTL` rewritten: each STOP bit that rises stops its source, each that falls resumes it (R146). -/
def State.ingCtlWrite (s : State) (new : Nat) : State :=
  let old := s.getF F.ING_CTL_STOP
  (s.setF F.ING_CTL_STOP new).forEach [0, 1, 2, 3] (fun n t =>
    if new.testBit n && !old.testBit n then t.captureOff n
    else if !new.testBit n && old.testBit n then t.captureOn n
    else t)

/-- `CAPTURE_STOP` (R146). -/
def execCaptureStop (who : Initiator) (mask : BitVec 4) (s : State) : Res :=
  .next (s.guarded who A.ING_CTL (fun t => t.ingCtlWrite (t.getF F.ING_CTL_STOP ||| mask.toNat)))

/-- `CAPTURE_START` (R146). -/
def execCaptureStart (who : Initiator) (mask : BitVec 4) (s : State) : Res :=
  .next (s.guarded who A.ING_CTL (fun t => t.ingCtlWrite (t.getF F.ING_CTL_STOP &&& (15 - mask.toNat))))

/-- A source is idle (R146). -/
def State.srcIdle (s : State) (n : Nat) : Bool :=
  s.bit F.ING_CTL_STOP n && s.getF (F.ING_SSTAT_STATE n) == 0

/-- Some layer of the plan is fed by a source. -/
def State.sourceRead (s : State) (n : Nat) : Bool := s.plan.comp.layers.any (fun l => l.capture.map Fin.val == some n)

/-- The latch line (R154): every read engine of a layer that a source feeds takes its newest complete store and holds it. -/
def State.latchStore (s : State) (n : Nat) : State :=
  let i := if s.flag (F.ING_SSTAT_HAVE n) && s.sourceRead n then some (s.getF (F.ING_SSTAT_NEWEST n)) else none
  s.setSrc n { s.src n with held := i }

/-! ### Shutter inputs (R152, R153) -/

/-- What is held for a shutter input. -/
def State.shut (s : State) (j : Nat) : ShutX := tabGet {} s.ing.shut j

/-- The state with a shutter input's part replaced. -/
def State.setShut (s : State) (j : Nat) (x : ShutX) : State :=
  { s with ing := { s.ing with shut := tabPut s.ing.shut j x } }

/-- The time since the frame boundary, in units of 4 ns. -/
def State.frameUnits (s : State) : Nat := (s.now - s.tim.frameAt) / 4

/-- `SHUTTER_EDGE` (R152): the first exposure start of a frame and its width are recorded on a Head. -/
def execShutterEdge (j : Fin 2) (level : Bool) (s : State) : Res :=
  let x := s.shut j
  let active := level != (nth s.plan.ingest.shutterPolarity j false)
  let was := x.level != (nth s.plan.ingest.shutterPolarity j false)
  let s1 := s.setShut j { x with level := level }
  if !s.isHead || active == was then .next s1
  else if active then
    if x.thisStart.isSome then .next s1
    else
      let u := s.frameUnits
      let s2 := s1.setShut j { x with level := level, openAt := some s.now, thisStart := some u }
      let ok := if j = 0 then F.SCN_STAT_SHUT0_OK else F.SCN_STAT_SHUT1_OK
      .next (((s2.setF (F.SCN_SHUT_START j) u).raise ok).shutterStart (j.val + 1))
  else
    match x.openAt with
    | some t =>
      .next ((s1.setShut j { x with level := level, openAt := none }).setF (F.SCN_SHUTW_WIDTH j) ((s.now - t) / 4))
    | none => .next s1

/-- `SHUTTER_LOST` (R152): no exposure start in this frame and the one before. -/
def execShutterLost (j : Fin 2) (s : State) : Res :=
  let x := s.shut j
  if s.isHead && x.thisStart.isNone && x.lastStart.isNone then
    let s1 := (s.raiseBit F.SCN_EVT_SHUT_LOST j).setF (if j = 0 then F.SCN_STAT_SHUT0_OK else F.SCN_STAT_SHUT1_OK) 0
    .next (s1.when (s1.tbSrc (j.val + 1) == 1) (fun t => t.tbLose (j.val + 1)))
  else .next s

/-- The pacing target of a facet (R153), from the exposure start of the frame before. -/
def State.paceTarget (s : State) (f : Nat) (start : Nat) : Nat :=
  let p := nth s.plan.ingest.facet f {}
  max p.offsetMin (min p.offsetMax (s.nsToLines (start * 4 - p.leadNs)))

/-- An offset moved towards its target by at most the slew limit, and stopped at the spacing limit (R153): the offset
and whether the spacing stopped it. `prev` is the preceding image's offset, `next` the following one's. -/
def paceMove (slew span : Nat) (now target : Int) (prev next : Int) : Int × Bool :=
  let step := clampI target (now - slew) (now + slew)
  let held := clampI step (prev + span) (next - span)
  (held, held != step)

/-- The offsets of the next frame (R153): each paced facet moved, from the first facet to the last. -/
def State.paceFacet (s : State) (ofs : List Nat) (f : Nat) : List Nat × Bool :=
  let p := nth s.plan.ingest.facet f {}
  let now := nth ofs f 0
  match p.shutter with
  | none => (ofs, false)
  | some j =>
    let ok := s.flag (if j = 0 then F.SCN_STAT_SHUT0_OK else F.SCN_STAT_SHUT1_OK)
    match (s.shut j).lastStart with
    | some st =>
      if ok then
        let n := s.facets
        let prev : Int := if f = 0 then (nth ofs (n - 1) 0 : Int) - s.frameLines else (nth ofs (f - 1) 0 : Int)
        let next : Int := if f + 1 = n then (nth ofs 0 0 : Int) + s.frameLines else (nth ofs (f + 1) 0 : Int)
        let r := paceMove s.plan.ingest.slewLines s.plan.span now (s.paceTarget f st) prev next
        (ofs.set f r.1.toNat, r.2)
      else (ofs, false)
    | none => (ofs, false)

/-- All offsets of the next frame, and whether a move stopped at a limit (R153). -/
def State.paceAll (s : State) (ofs : List Nat) : List Nat × Bool :=
  (List.range s.facets).foldl (fun a f => let r := s.paceFacet a.1 f; (r.1, a.2 || r.2)) (ofs, false)

/-! ### Reading (R156 to R161) -/

/-- The planes of a layer (R156, R163): two of a video layer, one of a graphic layer. -/
def layerPlanes (l : Nat) : Nat := if l < 8 then 2 else 1

/-- A read engine's parameters. -/
def State.readEngine (s : State) (e : Nat) : ReadEnginePlan := nth s.plan.ingest.rd e {}

/-- The bytes of one plane's share of a line buffer (R156). -/
def ReadEnginePlan.share (p : ReadEnginePlan) (l : Nat) : Nat := p.linebufKib * 1024 / layerPlanes l

/-- An engine issues a burst: one burst's space is free in the share (R156). -/
def ReadEnginePlan.issues (p : ReadEnginePlan) (l buffered : Nat) : Bool := decide (buffered + p.burstBytes ≤ p.share l)

/-- A burst from a place of a plane line of some bytes ends at the line's end at the latest (R156). -/
def ReadEnginePlan.burstLen (p : ReadEnginePlan) (lineBytes offset : Nat) : Nat := min p.burstBytes (lineBytes - offset)

/-- `READ_UNDERRUN` (R157): the line is cut short from a canvas column on. -/
def execReadUnderrun (e : Fin 64) (x : Nat) (s : State) : Res :=
  if s.isHead then
    let y := s.lineNow - s.plan.ingest.leadLines
    let s1 := { s with ing := { s.ing with cuts := (e.val / 16, e.val % 16, y, x) :: s.ing.cuts } }
    .next (((s1.bump F.SCN_UNDERRUN_COUNT).setF F.SCN_UNDERRUN_ENGINE e).raise F.SCN_EVT_UNDERRUN)
  else .next s

/-- A layer is cut short at a canvas pixel (R157): an engine of its, in the stripe that holds the pixel, ran empty in that
line at or before it. -/
def State.cutAt (s : State) (l x y : Nat) : Bool :=
  s.ing.cuts.any (fun c =>
    let st := nth s.plan.comp.stripes c.1 (0, 0)
    c.2.1 == l && c.2.2.1 == y && decide (c.2.2.2 ≤ x) && decide (st.1 ≤ x) && decide (x < st.1 + st.2))

/-- An applied change of a layer's base (R158): FLIPS rises, and the old buffer waits to be retired. -/
def State.flipLayer (s : State) (l old : Nat) : State :=
  let s1 := s.setF (F.SCN_LSTAT_FLIPS l) ((s.getF (F.SCN_LSTAT_FLIPS l) + 1) % 65536)
  let w := tabGet [] s1.ing.unretired l ++ [old]
  { s1 with ing := { s1.ing with unretired := tabPut s1.ing.unretired l w, fresh := l :: s1.ing.fresh } }

/-- A Flowstone rebuild is in progress (R177). -/
def State.flowBuilding (s : State) : Bool := s.getF F.CMP_STAT_FLOW == 2 && s.cmp.flowDone.isNone

/-- `BUFFER_RETIRE` (R158): the oldest replaced buffer of a layer is retired, unless a rebuild in progress reads it. -/
def execBufferRetire (l : Fin 16) (s : State) : Res :=
  match tabGet [] s.ing.unretired l.val with
  | [] => .next s
  | old :: rest =>
    if s.flowBuilding && s.cmp.flowReads.contains (l.val, old) then .next s
    else
      let s1 := { s with ing := { s.ing with unretired := tabPut s.ing.unretired l.val rest } }
      .next ((s1.setF (F.SCN_LSTAT_RETIRE l) ((s1.getF (F.SCN_LSTAT_RETIRE l) + 1) % 65536)).raise F.SCN_EVT_RETIRED)

/-- The bytes of a plane that a layer consumes in one PIX cycle, two pixels of its stripe, as a fraction (R149, R160, R167). -/
def State.consumption (s : State) (l plane : Nat) : Nat × Nat :=
  if l < 8 then
    let p := nth s.plan.comp.layers l {}
    let fmt := match p.capture with | some c => s.getF (F.ING_SCFG_FORMAT c) | none => p.fmt
    let bits := match p.capture with | some c => depthBits (s.getF (F.ING_SCFG_DEPTH c)) | none => depthBits p.depth
    let bytes := if bits = 8 then 1 else 2
    let part := if plane = 0 then 2 else if fmt = 0 ∨ fmt = 1 then 4 else if fmt = 2 then 2 else 1
    (part * bytes * s.actF (F.CMP_LSTEP_STEP_H l) * s.actF (F.CMP_LSTEP_STEP_V l), 2 ^ 24)
  else (8, 1)

/-- PIX cycles per second over `rateDen` (R149). -/
def State.pixRate (s : State) : Nat := s.plan.ingest.htotal * s.frameLines * s.plan.wall.rateNum

/-- The lines from the boundary of the image in scan-out to the next one. -/
def State.imageLines (s : State) : Nat :=
  let f := s.getF F.SCN_STAT_FACET
  let now := s.getF (F.SCN_FOFS_LINES f)
  if f + 1 < s.facets then s.getF (F.SCN_FOFS_LINES (f + 1)) - now else s.frameLines + nth s.tim.nextLines 0 0 - now

/-- The ns until the read engines' consumption resumes: 0 in an active line, else the time to the next one (R160). -/
def State.resumeNs (s : State) : Nat :=
  match s.ing.imgAt with
  | none => 0
  | some t =>
    let e := s.now - t
    let lead := s.linesToNs s.plan.ingest.leadLines
    if e < lead then lead - e
    else if s.fetching then 0
    else s.linesToNs s.imageLines + lead - e

/-- The place and the bytes of the emptier share. -/
def emptier : List Nat → Nat × Nat
  | [] => (0, 0)
  | [a] => (0, a)
  | a :: b :: _ => if b < a then (1, b) else (0, a)

/-- The ns that some bytes of a plane last in a share. -/
def State.lastNs (s : State) (l plane bytes : Nat) : Nat :=
  let c := s.consumption l plane
  bytes * c.2 * 1000000000 * s.plan.wall.rateDen / max 1 (c.1 * s.pixRate)

/-- The latency tolerance that a client states, in ns (R160). A capture queue has 64 KiB. -/
def State.tolerance (s : State) : MemClient → Nat
  | .engine e shares => let x := emptier shares; s.resumeNs + s.lastNs (e.val % 16) x.1 x.2
  | .capture waitNs queued rate => waitNs + (65536 - queued) * 1000 / max 1 rate
  | .other ns => ns

/-- `MEM_SELF_REFRESH_ENTRY` (R161): the lowest stated tolerance reaches `ingest.mem.sr_min_us` and no request is
outstanding. -/
def execMemSelfRefreshEntry (clients : List MemClient) (busy : Bool) (s : State) : Res :=
  if s.isHead && s.boot.memReady && s.plan.ingest.srEnable && !busy && !s.flag F.SCN_STAT_MEM_SR &&
      clients.all (fun c => decide (s.plan.ingest.srMinUs * 1000 ≤ s.tolerance c)) then
    let s1 := s.raise F.SCN_STAT_MEM_SR
    .next { s1 with ing := { s1.ing with srIn := some s.now, srEntries := s1.ing.srEntries + 1 } }
  else .next s

/-- `MEM_SELF_REFRESH_EXIT` (R161): the lowest remaining tolerance has fallen to 3 µs and the guard. -/
def execMemSelfRefreshExit (clients : List MemClient) (s : State) : Res :=
  match s.ing.srIn with
  | some t =>
    if clients.any (fun c => decide (s.tolerance c ≤ (3 + s.plan.ingest.srGuardUs) * 1000)) then
      let s1 := s.setF F.SCN_STAT_MEM_SR 0
      .next { s1 with ing := { s1.ing with srIn := none, srSum := s1.ing.srSum + (s.now - t) } }
    else .next s
  | none => .next s

/-- The residency of the frame that ends (R161), in units of 0.01 %. -/
def State.srFrame (s : State) : State :=
  let part := match s.ing.srIn with | some t => s.now - max t s.tim.frameAt | none => 0
  let len := s.now - s.tim.frameAt
  let s1 := (s.setF F.SCN_MEMSR_RESID ((s.ing.srSum + part) * 10000 / max 1 len)).setF F.SCN_MEMSR_ENTRIES s.ing.srEntries
  { s1 with ing := { s1.ing with srSum := 0, srEntries := 0, srIn := s1.ing.srIn.map (fun _ => s.now) } }

/-! ### Plan checks (R149, R151, R156) -/

/-- A value within bounds. -/
def within (lo hi v : Nat) : Bool := decide (lo ≤ v) && decide (v ≤ hi)

/-- A power of two. -/
def isPow2 (n : Nat) : Bool := (List.range 24).any (fun k => 2 ^ k == n)

/-- A part of the external memory: a multiple of 4 KiB, and within the memory fitted. -/
def inMemory (base size : Nat) : Bool := base % 4096 == 0 && decide (base + size ≤ Config.memFitted)

/-- A source's parameters (R66, R102, R142): its stores lie within the memory at its largest window. -/
def sourceOk (p : SourcePlan) : Bool :=
  let size := (⟨p.format, depthBits p.depth, p.maxW, p.maxH⟩ : Planes).size
  within 3 4 p.stores && (!p.enable || within 128 512 p.edid.length) && p.storeBase.all (fun b => inMemory b size) &&
    within 64 7680 p.maxW && within 64 4320 p.maxH && decide (p.format < 4) && decide (p.depth < 3) &&
    (p.lanes == 1 || p.lanes == 2 || p.lanes == 4) && decide (p.maxRate < 4) && within 64 7680 p.winW && within 64 4320 p.winH &&
    decide (p.winX < 65536) && decide (p.winY < 65536)

/-- A read engine's parameters (R156): the share of every plane holds at least four bursts. -/
def engineOk (l : Nat) (e : ReadEnginePlan) : Bool :=
  within 16 128 e.linebufKib && e.linebufKib % 4 == 0 && isPow2 e.burstBytes && decide (256 ≤ e.burstBytes) &&
    decide (4 * e.burstBytes ≤ e.share l)

/-- No two image boundaries can come closer than one image needs (R151). A paced facet starts at `offset_lines` and moves
between `offset_min_lines` and `offset_max_lines` (R153). -/
def spacingOk (p : IngestPlan) (span facets : Nat) : Bool :=
  let total := p.vtotal * facets
  let lo := fun f => let x := nth p.facet f {}; if x.shutter.isSome then min x.offsetMin x.offsetLines else x.offsetLines
  let hi := fun f => let x := nth p.facet f {}; if x.shutter.isSome then max x.offsetMax x.offsetLines else x.offsetLines
  decide (span ≤ total) && (List.range facets).all (fun f => (List.range facets).all (fun g =>
    if f < g then decide (hi f + span ≤ lo g) && decide (hi g + span ≤ lo f + total) else true))

/-- The ingest parameters of a Head's plan lie within their ranges (R66, R149, R151, R156). -/
def ingestOk (all : Plan) : Bool :=
  let p := all.ingest
  let w := all.wall
  let lines := p.vtotal * w.facets
  p.src.all sourceOk && within 1 4 p.pipes && within 64 8192 p.htotal && within 64 16383 p.vtotal &&
    within 2 64 p.leadLines && within 1 1024 p.minTailLines && within 1 64 p.slewLines &&
    decide (p.phaseNs * w.rateNum ≤ 1000000000 * w.rateDen) &&
    p.facet.all (fun x => decide (x.offsetLines < lines) && decide (x.offsetMin < lines) && decide (x.offsetMax < lines) &&
      decide (x.leadNs ≤ 10000000)) &&
    decide (100000000 * w.rateDen ≤ p.htotal * p.vtotal * w.facets * w.rateNum) &&
    decide (p.htotal * p.vtotal * w.facets * w.rateNum ≤ 600000000 * w.rateDen) &&
    all.comp.stripes.all (fun x => decide (x.2 ≤ 2 * p.htotal)) && spacingOk p all.span w.facets &&
    (List.range p.rd.length).all (fun e => engineOk (e % 16) (nth p.rd e {})) &&
    decide ((p.rd.map (fun e => e.linebufKib)).sum ≤ 4096) && within 10 10000 p.srMinUs && within 1 100 p.srGuardUs

/-- The live registers that mirror ingest parameters, written at the start (R70), and the enabled sources started. -/
def State.ingestLoad (s : State) : State :=
  let s1 := s.forEach [0, 1, 2, 3] (fun n t =>
    let p := t.srcPlan n
    let a := (((t.setF (F.ING_SCFG_FORMAT n) p.format).setF (F.ING_SCFG_DEPTH n) p.depth).setF (F.ING_SCFG_LANES n)
      p.lanes).setF (F.ING_SCFG_MAXRATE n) p.maxRate
    (((a.setBoth (F.ING_WINPOS_X n) p.winX).setBoth (F.ING_WINPOS_Y n) p.winY).setBoth (F.ING_WINSIZE_W n) p.winW).setBoth
      (F.ING_WINSIZE_H n) p.winH)
  let s2 := s1.forEach [0, 1, 2, 3] (fun f t => t.setF (F.SCN_FOFS_LINES f) (nth t.plan.ingest.facet f {}).offsetLines)
  let s3 := s2.setF F.SCN_STAT_GLK (if s2.plan.ingest.glk = .none then 0 else 1)
  let on := ([0, 1, 2, 3].filter (fun n => !(s3.srcPlan n).enable)).foldl (fun a n => a + 2 ^ n) 0
  s3.ingCtlWrite on

end Sys2Proof.Machine
end

