-- ==== Sys2Proof/Machine/Transfer.lean ====
section
/-!
DEFINITION. The transfer curves of R172, R174 and R249 and the change of primaries of R174, worked out in fixed point; the
entries of the device's tables lie within the error that the spec allows them, and are free there.
-/

namespace Sys2Proof.Machine

/-! ### Fixed-point functions: values in units of 2^-64 -/

/-- One. -/
def fxOne : Nat := 2 ^ 64

/-- A fraction. -/
def fxOf (n d : Nat) : Nat := n * fxOne / d

/-- A product. -/
def fxMul (a b : Nat) : Nat := a * b / fxOne

/-- The terms z + z³/3 + z⁵/5 + … from `2 * k + 1` on, `n` of them; `p` is the power that comes next. -/
def fxOdd (z2 : Nat) : Nat → Nat → Nat → Nat
  | 0, _, _ => 0
  | n + 1, k, p => p / (2 * k + 1) + fxOdd z2 n (k + 1) (fxMul p z2)

/-- The natural logarithm of a value from 1 to 2. -/
def fxLnUnit (m : Nat) : Nat :=
  let z := (m - fxOne) * fxOne / (m + fxOne)
  2 * fxOdd (fxMul z z) 24 0 z

/-- The natural logarithm of 2. -/
def fxLn2 : Nat := fxLnUnit (2 * fxOne)

/-- The natural logarithm of a value above 0. -/
def fxLn (x : Nat) : Int :=
  let e := x.log2
  (fxLnUnit (x * fxOne / 2 ^ e) : Int) + ((e : Int) - 64) * fxLn2

/-- The terms of the exponential from the `k`-th on, `n` of them; `t` is the term before. -/
def fxTaylor (r : Nat) : Nat → Nat → Nat → Nat
  | 0, _, _ => 0
  | n + 1, k, t => let u := fxMul t r / k; u + fxTaylor r n (k + 1) u

/-- The exponential. -/
def fxExp (y : Int) : Nat :=
  let k := y.fdiv fxLn2
  let r := (y - k * fxLn2).toNat
  let v := fxOne + fxTaylor r 24 1 fxOne
  if 0 ≤ k then v * 2 ^ k.toNat else v / 2 ^ (-k).toNat

/-- A power with the exponent `n / d`; 0 stays 0. -/
def fxPow (x n d : Nat) : Nat := if x = 0 then 0 else fxExp (fxLn x * n / d)

/-! ### Curves -/

/-- PQ to light (SMPTE ST 2084), as a fraction of 10,000 cd/m²; its constants are PRESUMED from that standard, log entry 69. -/
def pqLight (x : Nat) : Nat :=
  let e := fxPow x 32 2523
  fxPow ((e - fxOf 3424 4096) * fxOne / (fxOf 2413 128 - fxMul (fxOf 2392 128) e)) 8192 1305

/-- Light to PQ. -/
def pqCode (x : Nat) : Nat :=
  let y := fxPow x 1305 8192
  fxPow ((fxOf 3424 4096 + fxMul (fxOf 2413 128) y) * fxOne / (fxOne + fxMul (fxOf 2392 128) y)) 2523 32

/-- The constants a, b and c of HLG (ITU-R BT.2100; PRESUMED, log entry 69). -/
def hlgA : Nat := fxOf 17883277 100000000
def hlgB : Nat := fxOne - 4 * hlgA
def hlgC : Nat := (((fxOne / 2 : Nat) : Int) - fxLn (4 * hlgA) * hlgA / fxOne).toNat

/-- HLG to scene light: the inverse OETF. -/
def hlgScene (x : Nat) : Nat :=
  if x ≤ fxOne / 2 then fxMul x x / 3 else (fxExp (((x : Int) - hlgC) * fxOne / hlgA) + hlgB) / 12

/-- Scene light to HLG: the OETF. -/
def hlgCode (x : Nat) : Nat :=
  if x ≤ fxOne / 12 then fxPow (3 * x) 1 2 else (fxLn (12 * x - hlgB) * hlgA / fxOne + hlgC).toNat

/-- The luminance of three colours with the weights of BT.2100. -/
def hlgLuma (v : List Nat) : Nat := (2627 * v.getD 0 0 + 6780 * v.getD 1 0 + 593 * v.getD 2 0) / 10000

/-- A colour of scene light brought to display light, as a fraction of the peak; `g` is gamma in thousandths. -/
def hlgOotf (g : Nat) (v : List Nat) (k : Nat) : Nat := fxMul (fxPow (hlgLuma v) (g - 1000) 1000) (v.getD k 0)

/-- Display light, as a fraction of the peak, brought back to scene light. -/
def hlgOotfInv (g : Nat) (v : List Nat) (k : Nat) : Nat :=
  let y := hlgLuma v
  if y = 0 then 0 else v.getD k 0 * fxOne / fxPow y (g - 1000) g

/-- What a transfer needs: its number in a layer's `tf`, SDR white, gamma in thousandths, peak. -/
structure Transfer where
  tf : Nat
  white : Nat
  gamma : Nat
  peak : Nat
  deriving DecidableEq, Repr

/-- The light of colour `k` of three values from 0 to 1, as a fraction of 10,000 cd/m² (R172). Gamma 1.0 of HLG leaves scene
light as it is. -/
def Transfer.light (t : Transfer) (v : List Nat) (k : Nat) : Nat :=
  let x := v.getD k 0
  if t.tf = 2 then pqLight x
  else if t.tf = 3 then
    let e := v.map hlgScene
    (if t.gamma = 1000 then e.getD k 0 else hlgOotf t.gamma e k) * t.peak / 10000
  else if t.tf = 4 then x * t.white / 10000
  else fxPow x 12 5 * t.white / 10000

/-- The value from 0 to 1 of colour `k` of light (R174), the inverse of `Transfer.light`. -/
def Transfer.value (t : Transfer) (l : List Nat) (k : Nat) : Nat :=
  let x := l.getD k 0
  if t.tf = 2 then pqCode x
  else if t.tf = 3 then
    let e := l.map (fun y => y * 10000 / t.peak)
    hlgCode (if t.gamma = 1000 then e.getD k 0 else hlgOotfInv t.gamma e k)
  else if t.tf = 4 then x * 10000 / t.white
  else fxPow (x * 10000 / t.white) 5 12

/-- A value between two bounds that the spec leaves to a table: free. -/
def tableIn (draw lo hi : Nat) : Nat := lo + draw % (hi - lo + 1)

/-- A 24-bit linear value of a fraction of full scale. -/
def linear24 (x : Nat) : Nat := min (2 ^ 24 - 1) (x * (2 ^ 24 - 1) / fxOne)

/-- Codes of 16 bits moved by one and brought to fractions; code 65,535 is full scale (DESIGN CHOICE, log entry 69). -/
def fracUp (c : List Nat) : List Nat := c.map (fun v => fxOf (min 65535 (v + 1)) 65535)
def fracDown (c : List Nat) : List Nat := c.map (fun v => fxOf (v - 1) 65535)

/-- Linearise (R172): the table's entry for colour `k` of three 16-bit codes, at most one code off. -/
def Transfer.linearise (t : Transfer) (c : List Nat) (k : Nat) : Nat :=
  let lo := linear24 (t.light (fracDown c) k)
  let hi := linear24 (t.light (fracUp c) k) + 1
  tableIn (Config.linearise ([t.tf, t.white, t.gamma, t.peak, k] ++ c)) lo (min (2 ^ 24 - 1) (max lo hi))

/-- The 16-bit code of colour `k` of 24-bit linear light (R174), at most one code off. -/
def Transfer.encode (t : Transfer) (l : List Nat) (k : Nat) : Nat :=
  let x := t.value (l.map (fun v => fxOf v (2 ^ 24 - 1))) k * 65535
  let q := x / fxOne
  let lo := if x % fxOne = 0 then q - 1 else q
  tableIn (Config.encodeTf ([t.tf, t.white, t.gamma, t.peak, k] ++ l)) (min 65535 lo) (min 65535 (q + 1))

/-! ### Built-in curves of the lamp engine (R249) -/

/-- The fraction of panel white of colour `k` of three codes at depth `d`: curve 0 PQ, 1 HLG, 2 BT.709, 3 linear. -/
def curveLight (z d white gamma : Nat) (codes : List Nat) (k : Nat) : Nat :=
  let v := codes.map (fun c => fxOf c (2 ^ d - 1))
  let x := v.getD k 0
  let r := if z = 0 then pqLight x * 10000 / white
    else if z = 1 then (if gamma = 1000 then (v.map hlgScene).getD k 0 else hlgOotf gamma (v.map hlgScene) k)
    else if z = 2 then fxPow x 12 5
    else x
  min fxOne r

/-- The device's table value: 24 bits, within one step of a 16-bit output. -/
def curveTable (z d white gamma : Nat) (codes : List Nat) (k : Nat) : Nat :=
  let x := curveLight z d white gamma codes k
  let step := fxOne / 65535
  tableIn (Config.curve ([z, d, white, gamma, k] ++ codes)) (linear24 (x - step)) (linear24 (x + step))

/-! ### Primaries (R174) -/

/-- The chromaticities of red, green, blue and white, x and y in 1/10,000. -/
abbrev Chroma := List (Nat × Nat)

/-- BT.709 and BT.2020 (PRESUMED from those standards, log entry 69). -/
def chroma709 : Chroma := [(6400, 3300), (3000, 6000), (1500, 600), (3127, 3290)]
def chroma2020 : Chroma := [(7080, 2920), (1700, 7970), (1310, 460), (3127, 3290)]

/-- X, Y and Z of a chromaticity at Y = 1. -/
def xyzOf (p : Nat × Nat) : List Rat :=
  let y : Rat := max 1 p.2
  [(p.1 : Rat) / y, 1, ((10000 : Rat) - p.1 - p.2) / y]

/-- An element of a 3 × 3 matrix. -/
def el (m : List Rat) (r c : Nat) : Rat := m.getD (3 * r + c) 0

/-- A 3 × 3 product. -/
def matMul (a b : List Rat) : List Rat :=
  (List.range 9).map (fun i => el a (i / 3) 0 * el b 0 (i % 3) + el a (i / 3) 1 * el b 1 (i % 3) + el a (i / 3) 2 * el b 2 (i % 3))

/-- The cofactor of an element. -/
def cofactor (m : List Rat) (r c : Nat) : Rat :=
  el m ((r + 1) % 3) ((c + 1) % 3) * el m ((r + 2) % 3) ((c + 2) % 3) - el m ((r + 1) % 3) ((c + 2) % 3) * el m ((r + 2) % 3) ((c + 1) % 3)

/-- The inverse of a 3 × 3 matrix. -/
def matInv (m : List Rat) : List Rat :=
  let d := el m 0 0 * cofactor m 0 0 + el m 0 1 * cofactor m 0 1 + el m 0 2 * cofactor m 0 2
  (List.range 9).map (fun i => cofactor m (i % 3) (i / 3) / d)

/-- The matrix from linear colours of some primaries to X, Y and Z. -/
def toXyz (p : Chroma) : List Rat :=
  let cols := (List.range 3).map (fun k => xyzOf (p.getD k (1, 1)))
  let m := (List.range 9).map (fun i => (cols.getD (i % 3) []).getD (i / 3) 0)
  let w := xyzOf (p.getD 3 (1, 1))
  let inv := matInv m
  let s := (List.range 3).map (fun r => el inv r 0 * w.getD 0 0 + el inv r 1 * w.getD 1 0 + el inv r 2 * w.getD 2 0)
  (List.range 9).map (fun i => m.getD i 0 * s.getD (i % 3) 0)

/-- The matrix from one set of primaries to another. -/
def primMatrix (a b : Chroma) : List Rat := matMul (matInv (toXyz b)) (toXyz a)

end Sys2Proof.Machine
end

