-- ==== Sys2Proof/Machine/Pixel.lean ====
section
/-!
DEFINITION. Composition of one canvas pixel (R162 to R175, R179, R187): scaling, colour, blending, dithering, the
Geode blocks and the panel maps.
-/

namespace Sys2Proof.Machine

/-! ### Images -/

/-- The last image of a facet that has begun. -/
def State.facetImage (s : State) (f : Nat) : Word :=
  let n := s.facets
  s.imageNow - BitVec.ofNat 32 ((s.imageNow.toNat % n + n - f % n) % n)

/-- Composition runs: it has not stopped, and its memory does (R45, R174). -/
def State.composing (s : State) : Bool := s.isHead && s.released && s.getF F.CMP_STAT_STATE != 0 && s.memRuns

/-! ### Integer helpers -/

/-- An integer division rounded half up (R168). -/
def roundHalfUp (n : Int) (d : Nat) : Int := (n + d / 2) / d

/-- A value clamped to an unsigned range. -/
def clampU (v : Int) (max : Nat) : Nat := (clampI v 0 max).toNat

/-- A 3 × 3 product: row `r` of a matrix of nine elements with a column. -/
def dot3 (m : List Int) (r : Nat) (v : List Nat) : Int :=
  (m.getD (3 * r) 0) * (v.getD 0 0 : Int) + (m.getD (3 * r + 1) 0) * (v.getD 1 0 : Int) + (m.getD (3 * r + 2) 0) * (v.getD 2 0 : Int)

/-! ### Sources of a layer (R142, R163) -/

/-- Whether a layer is a video layer. -/
def isVideo (l : Nat) : Bool := decide (l < 8)

/-- A layer's plan. -/
def State.layer (s : State) (l : Nat) : LayerPlan := nth s.plan.comp.layers l {}

/-- The store that a capture-fed layer reads (R154). -/
def State.layerStore (s : State) (c : Nat) : Store :=
  match (s.src c).held with
  | some i => tabGet {} (s.src c).stores i
  | none => {}

/-- A video layer's picture: the store of its capture as it was captured (R145), or its buffer. -/
def State.layerPlanes (s : State) (l : Nat) : Planes :=
  let p := s.layer l
  match p.capture with
  | some c => (s.layerStore c).planes
  | none => { fmt := p.fmt, bits := depthBits p.depth, w := p.srcW, h := p.srcH }

/-- Where a layer's picture begins in the LPDDR: its store (R142), or its buffer (R155). -/
def State.layerBase (s : State) (l : Nat) : Nat :=
  match (s.layer l).capture with
  | some c => match (s.src c.val).held with | some i => s.storeBase c i | none => 0
  | none => s.actF (F.SCN_LBASE_ADDR l) * 4096

/-- A sample of `bits` bits at an address of the LPDDR: a byte, or a 16-bit container aligned to the top (R142). -/
def State.sampleAt (s : State) (a bits : Nat) : Nat :=
  if bits = 8 then (memGet s.core.mem (lpddr a)).toNat else memRead s.core.mem (lpddr a) 2 >>> (16 - bits)

/-- A stored sample of a layer's picture: component 0 the Y plane, 1 and 2 the C plane. A source that has no complete store
gives samples that nothing fixes. -/
def State.storedAt (s : State) (l comp x y : Nat) : Nat :=
  let p := s.layerPlanes l
  match (s.layer l).capture with
  | some c => if (s.src c.val).held = none then Config.sample [comp, x, y] % 2 ^ p.bits else s.sampleAt (s.layerBase l + p.sampleAddr comp x y) p.bits
  | none => s.sampleAt (s.layerBase l + p.sampleAddr comp x y) p.bits

/-- A coordinate held at the edges of a source (R164). -/
def edge (v : Int) (n : Nat) : Nat := (clampI v 0 ((n : Int) - 1)).toNat

/-- A chroma sample of a line, brought to full width (R166): a missing one is the mean of its neighbours. -/
def State.chromaH (s : State) (l comp x y w : Nat) : Nat :=
  if x % 2 = 0 then s.storedAt l comp (x / 2) y
  else (s.storedAt l comp (x / 2) y + s.storedAt l comp (min (x / 2 + 1) ((w + 1) / 2 - 1)) y + 1) / 2

/-- A sample at 4:4:4 (R166). -/
def State.fullAt (s : State) (l comp x y : Nat) : Nat :=
  let p := s.layerPlanes l
  if comp = 0 ∨ p.fmt = 0 ∨ p.fmt = 1 then s.storedAt l comp x y
  else if p.fmt = 2 then s.chromaH l comp x y p.w
  else if y % 2 = 0 then s.chromaH l comp x (y / 2) p.w
  else (s.chromaH l comp x (y / 2) p.w + s.chromaH l comp x (min (y / 2 + 1) ((p.h + 1) / 2 - 1)) p.w + 1) / 2

/-! ### Scaling (R167 to R169) -/

/-- A position of R167 in units of 1/8,192 pixel: source index and phase. -/
def scalePos (d step : Int) : Int × Nat :=
  let p := (2 * d + 1) * step - 4096
  (p.fdiv 8192, ((p.fmod 8192) / 128).toNat)

/-- The key of a coefficient: the bits of `CMP_COEFADDR` without INC (R169). -/
def coefKey (l bank dir phase tap : Nat) : Nat := l + 8 * bank + 16 * dir + 32 * phase + 2048 * tap

/-- A coefficient: as last loaded, or the plan's (R70). -/
def State.coef (s : State) (l bank dir phase tap : Nat) : Int :=
  let v := nth s.plan.comp.vl l {}
  let b := if bank = 0 then v.bankA else v.bankB
  match s.cmp.coef.find? (fun p => p.1 == coefKey l bank dir phase tap) with
  | some p => toSigned 12 p.2.toNat
  | none => if dir = 0 then b.h.getD (8 * phase + tap) 0 else b.v.getD (6 * phase + tap) 0

/-- The vertical tap count of a bank (`CMP_COEFCFG`). -/
def State.vtaps (s : State) (l bank : Nat) : Nat :=
  match s.getF (F.CMP_COEFCFG_V l bank) with
  | 1 => 4 | 2 => 2 | _ => 6

/-- The vertical filter at one source column (R168). -/
def State.vfilter (s : State) (l bank comp : Nat) (col : Int) (j : Int) (phase : Nat) : Int :=
  let n := s.vtaps l bank
  let p := s.layerPlanes l
  let sum := (List.range n).foldl (fun (a : Int) t =>
    a + s.coef l bank 1 phase t * (s.fullAt l comp (edge col p.w) (edge (j + t - (n / 2 - 1 : Nat)) p.h) : Int)) 0
  clampU (roundHalfUp sum 1024) (2 ^ (s.layerPlanes l).bits - 1)

/-- A scaled sample of a video layer at a canvas position (R166 to R168): vertical, then horizontal filter. -/
def State.scaled (s : State) (l comp : Nat) (dx dy : Int) : Nat :=
  let bank := s.actF (F.CMP_LCTL_BANK l)
  let h := scalePos dx (s.actF (F.CMP_LSTEP_STEP_H l))
  let v := scalePos dy (s.actF (F.CMP_LSTEP_STEP_V l))
  let sum := (List.range 8).foldl (fun (a : Int) t =>
    a + s.coef l bank 0 h.2 t * s.vfilter l bank comp (h.1 + t - 3) v.1 v.2) 0
  clampU (roundHalfUp sum 1024) (2 ^ (s.layerPlanes l).bits - 1)

/-! ### Colour (R172) -/

/-- The layer matrix of R172; the rounding of its product is not stated. -/
def State.layerMatrix (s : State) (l : Nat) (v : List Nat) : List Nat :=
  let e := fun i => toSigned 16 (s.actF (F.CMP_LCM_E l i))
  let m := (List.range 9).map e
  [0, 1, 2].map (fun r => clampU (roundOpenI (dot3 m r v) 8192 + 2 * e (9 + r)) 65535)

/-- A layer's transfer (R172). -/
def State.layerTransfer (s : State) (l : Nat) : Transfer :=
  let p := s.layer l
  { tf := p.tf, white := p.sdrWhiteNits, gamma := p.hlgGamma1000, peak := p.hlgPeakNits }

/-- Linearise and gamut (R172): 24-bit linear light in the working primaries; the rounding of the product is not stated. -/
def State.toLinear (s : State) (l : Nat) (v : List Nat) : List Nat :=
  let lin := [0, 1, 2].map (fun k => (s.layerTransfer l).linearise v k)
  [0, 1, 2].map (fun r => clampU (roundOpenI (dot3 (s.layer l).gamut r lin) 8192) (2 ^ 24 - 1))

/-- The number that the transfer of `CMP_OUT` has in a layer's `tf`: PQ, HLG, BT.709, linear. -/
def outTf (t : Nat) : Nat := match t with | 0 => 2 | 1 => 3 | 2 => 0 | _ => 4

/-- The working transfer (R174). Under HLG its gamma is 1.2 and its peak 1,000 cd/m² (DESIGN CHOICE, log entry 69). -/
def State.working (s : State) : Transfer :=
  { tf := outTf (s.getF F.CMP_OUT_TRANSFER), white := s.plan.comp.wsSdrWhiteNits, gamma := 1200, peak := 1000 }

/-- Linear light of a colour given in 16-bit working codes (R162, R165). -/
def State.workingLinear (s : State) (v : List Nat) : List Nat := [0, 1, 2].map (fun k => s.working.linearise v k)

/-! ### One layer's pixel (R163 to R165) -/

/-- A pixel before blending: 24-bit linear colours and an alpha from 0 to 255. -/
structure Pix where
  rgb : List Nat
  alpha : Nat
  deriving DecidableEq, Repr

/-- An ARGB word of a graphic layer (R163). -/
def argbPix (ten : Bool) (w : Nat) : Pix :=
  if ten then
    { rgb := [w / 2 ^ 20 % 1024 * 64, w / 2 ^ 10 % 1024 * 64, w % 1024 * 64], alpha := w / 2 ^ 30 * 85 }
  else { rgb := [w / 2 ^ 16 % 256 * 256, w / 2 ^ 8 % 256 * 256, w % 256 * 256], alpha := w / 2 ^ 24 }

/-- A graphic layer's pixel: its buffer at 1:1, last column and line repeated (R164). -/
def State.graphicPix (s : State) (l : Nat) (dx dy : Int) : Pix :=
  let p := s.layer l
  let a := s.actF (F.SCN_LBASE_ADDR l) * 4096 + edge dy p.srcH * pitch256 (4 * p.srcW) + 4 * edge dx p.srcW
  let x := argbPix p.argb10 (memRead s.core.mem (lpddr a) 4)
  { rgb := s.toLinear l (s.layerMatrix l x.rgb), alpha := x.alpha }

/-- A video layer's pixel (R163, R165, R166). RGB sources are stored G, B, R and enter the matrix as R, G, B. -/
def State.videoPix (s : State) (l : Nat) (dx dy : Int) : Option Pix :=
  let v := nth s.plan.comp.vl l {}
  if s.cmp.holdShown.contains l then
    if v.onHold = 2 then some { rgb := s.workingLinear v.holdRgb, alpha := 255 } else none
  else
    let p := s.layerPlanes l
    let c := [0, 1, 2].map (fun k => s.scaled l k dx dy <<< (16 - p.bits))
    let c1 := if p.fmt = 0 then [c.getD 2 0, c.getD 0 0, c.getD 1 0] else c
    some { rgb := s.toLinear l (s.layerMatrix l c1), alpha := 255 }

/-- A layer's pixel at a canvas position, where its destination rectangle covers it (R164) and no underrun cut its line short
(R157). -/
def State.layerPix (s : State) (l x y : Nat) : Option Pix :=
  let dx : Int := (x : Int) - toSigned 16 (s.actF (F.CMP_LPOS_X l))
  let dy : Int := (y : Int) - toSigned 16 (s.actF (F.CMP_LPOS_Y l))
  if s.cutAt l x y then none
  else if 0 ≤ dx ∧ dx < s.actF (F.CMP_LSIZE_W l) ∧ 0 ≤ dy ∧ dy < s.actF (F.CMP_LSIZE_H l) then
    if isVideo l then s.videoPix l dx dy else some (s.graphicPix l dx dy)
  else none

/-! ### Blending (R173) -/

/-- A premultiplied pixel: three 24-bit colours and an alpha on the scale of 65,025. -/
structure Premul where
  rgb : List Nat := [0, 0, 0]
  alpha : Nat := 0
  deriving DecidableEq, Repr

/-- A pixel premultiplied with the layer's global alpha. -/
def premul (g : Nat) (p : Pix) : Premul :=
  let a := g * p.alpha
  { rgb := p.rgb.map (fun c => (c * a + 32512) / 65025), alpha := a }

/-- A pixel placed over what lies below. -/
def placeOver (p b : Premul) : Premul :=
  { rgb := List.zipWith (fun pc bc => pc + (bc * (65025 - p.alpha) + 32512) / 65025) p.rgb b.rgb,
    alpha := p.alpha + (b.alpha * (65025 - p.alpha) + 32512) / 65025 }

/-- Some layers placed bottom-up over a pixel. -/
def State.placeLayers (s : State) (ls : List Nat) (x y : Nat) (b : Premul) : Premul :=
  ls.foldl (fun acc l =>
    match s.layerPix l x y with
    | some p => placeOver (premul (s.actF (F.CMP_LCTL_ALPHA l)) p) acc
    | none => acc) b

/-! ### The Flowstone cache (R176, R178) -/

/-- The layers of the group that a facet enables, lowest first. -/
def State.groupLayers (s : State) (f : Nat) : List Nat :=
  s.plan.comp.z.filter (fun l => (s.actF (F.CMP_LEN_LAYERS f)).testBit l && s.plan.comp.group.contains l)

/-- A rectangle of the canvas: first and last column and line, the last ones excluded. -/
structure Box where
  x0 : Nat
  y0 : Nat
  x1 : Nat
  y1 : Nat
  deriving DecidableEq, Repr

/-- The part of a layer's destination rectangle on the canvas (R164). -/
def State.layerBox (s : State) (l : Nat) : Box :=
  let x := toSigned 16 (s.actF (F.CMP_LPOS_X l))
  let y := toSigned 16 (s.actF (F.CMP_LPOS_Y l))
  let c := s.plan.comp
  { x0 := clampU x c.canvasW, y0 := clampU y c.canvasH, x1 := clampU (x + s.actF (F.CMP_LSIZE_W l)) c.canvasW,
    y1 := clampU (y + s.actF (F.CMP_LSIZE_H l)) c.canvasH }

/-- The smallest rectangle that holds some others. -/
def boxUnion : List Box → Box
  | [] => ⟨0, 0, 0, 0⟩
  | [b] => b
  | b :: rest =>
    let r := boxUnion rest
    ⟨min b.x0 r.x0, min b.y0 r.y0, max b.x1 r.x1, max b.y1 r.y1⟩

/-- The rectangle that the cache of a facet holds: the one that encloses its group's rectangles (R176; DESIGN CHOICE, log entry
71). -/
def State.flowBox (s : State) (f : Nat) : Box := boxUnion ((s.groupLayers f).map s.layerBox)

/-- Where the cache of a facet keeps a pixel, in one of its halves: 12 bytes a pixel, lines top first (R176). -/
def State.flowAddr (s : State) (f half x y : Nat) : Nat :=
  let b := s.flowBox f
  let base := nth s.plan.comp.flowBase f (0, 0)
  (if half = 0 then base.1 else base.2) + 12 * ((y - b.y0) * (b.x1 - b.x0) + (x - b.x0))

/-- A flattened pixel as the cache keeps it: three colours and alpha of 3 bytes each (DESIGN CHOICE, log entry 71). -/
def premulBytes (p : Premul) : List Byte := (p.rgb ++ [p.alpha]).flatMap (fun v => bytesLe v 3)

/-- The flattened image of a facet's group written into a half of the cache (R178). -/
def State.flowWrite (s : State) (f half : Nat) : State :=
  let b := s.flowBox f
  s.forEach (List.range (b.y1 - b.y0)) (fun i t =>
    t.lpddrPut (t.flowAddr f half b.x0 (b.y0 + i))
      ((List.range (b.x1 - b.x0)).flatMap (fun j => premulBytes (t.placeLayers (t.groupLayers f) (b.x0 + j) (b.y0 + i) {}))))

/-- The group's pixel as the cache in use gives it; the read engine of the lowest layer of the group reads it (R157, R176). -/
def State.flowPix (s : State) (f x y : Nat) : Premul :=
  let b := s.flowBox f
  let low := (s.groupLayers f).headD 0
  if b.x0 ≤ x ∧ x < b.x1 ∧ b.y0 ≤ y ∧ y < b.y1 ∧ s.cutAt low x y = false then
    let a := lpddr (s.flowAddr f s.cmp.flowHalf x y)
    { rgb := [memRead s.core.mem a 3, memRead s.core.mem (a + 3) 3, memRead s.core.mem (a + 6) 3], alpha := memRead s.core.mem (a + 9) 3 }
  else {}

/-- The composed linear pixel of a facet (R162, R173): the Flowstone group is placed as one pixel. -/
def State.composedLinear (s : State) (f x y : Nat) : List Nat :=
  let z := s.plan.comp.z.filter (fun l => s.actF (F.CMP_LEN_LAYERS f) |>.testBit l)
  let grp := s.plan.comp.group
  let below := z.takeWhile (fun l => !grp.contains l)
  let rest := z.drop below.length
  let inside := rest.takeWhile (fun l => grp.contains l)
  let above := rest.drop inside.length
  let b0 : Premul := { rgb := s.workingLinear s.plan.comp.bg, alpha := 65025 }
  let b1 := s.placeLayers below x y b0
  let grouped := if s.cmp.flowShown then s.flowPix f x y else s.placeLayers inside x y {}
  let b2 := if inside.isEmpty then b1 else placeOver grouped b1
  (s.placeLayers above x y b2).rgb

/-! ### Output (R174, R175) -/

/-- The ordered-dither matrix of R175: the element at a row and a column of the 2^n × 2^n matrix. -/
def ditherM : Nat → Nat → Nat → Nat
  | 0, _, _ => 0
  | n + 1, r, c =>
    let q := 2 ^ n
    let k := match r / q, c / q with | 0, 0 => 0 | 0, _ => 2 | _, 0 => 3 | _, _ => 1
    4 * ditherM n (r % q) (c % q) + k

/-- A 16-bit code reduced to the output depth (R175); mode 0 off, 1 spatial, 2 or 3 spatio-temporal. -/
def ditherCode (mode d v x y : Nat) (image : Word) : Nat :=
  let m := 2 ^ (16 - d)
  let q := v / m
  let frac := v % m
  if mode = 0 then min (q + (if m / 2 ≤ frac then 1 else 0)) (2 ^ d - 1)
  else
    let k := if mode = 1 then 0 else image.toNat % 8
    let t := ditherM 3 ((y + 5 * k) % 8) ((x + 3 * k) % 8)
    let tt := t * m / 64
    min (q + (if tt < frac then 1 else 0)) (2 ^ d - 1)

/-- An output depth in bits by its code. -/
def depthOf (c : Nat) : Nat := match c with | 0 => 8 | 1 => 10 | _ => 12

/-- The output depth of `CMP_OUT` in bits; code 3 acts as 2. -/
def State.outDepth (s : State) : Nat :=
  match s.getF F.CMP_OUT_DEPTH with | 0 => 8 | 1 => 10 | _ => 12

/-- The primaries that a code of `CMP_OUT.PRIM` names: BT.709, BT.2020, the wall's own; 3 acts as 1 (R174). -/
def State.chromaOf (s : State) (p : Nat) : Chroma :=
  match p with
  | 0 => chroma709 | 2 => s.plan.comp.wsNative | _ => chroma2020

/-- Linear light in the output primaries of `CMP_OUT`, which the plan's gamut matrices already give unless firmware
chose others; the rounding of the product is not stated. -/
def State.outPrim (s : State) (v : List Nat) : List Nat :=
  let m := primMatrix (s.chromaOf s.plan.comp.wsPrimaries) (s.chromaOf (s.getF F.CMP_OUT_PRIM))
  if s.chromaOf s.plan.comp.wsPrimaries = s.chromaOf (s.getF F.CMP_OUT_PRIM) then v
  else [0, 1, 2].map (fun r =>
    let q := el m r 0 * v.getD 0 0 + el m r 1 * v.getD 1 0 + el m r 2 * v.getD 2 0
    clampU (roundOpenI q.num q.den) (2 ^ 24 - 1))

/-- A composed pixel at the output depth (R174, R175). -/
def State.composedCode (s : State) (f x y : Nat) (image : Word) : List Nat :=
  let v := s.outPrim (s.composedLinear f x y)
  [0, 1, 2].map (fun k => ditherCode (s.getF F.CMP_OUT_DITHER) s.outDepth (s.working.encode v k) x y image)

/-! ### Panels (R179, R187) -/

/-- The canvas pixel that a panel's pixel takes (R187). -/
def canvasOf (p : PanelMap) (r c : Nat) : Nat × Nat :=
  match p.orient with
  | 0 => (p.x0 + c, p.y0 + r)
  | 1 => (p.x0 + 255 - r, p.y0 + c)
  | 2 => (p.x0 + 255 - c, p.y0 + 255 - r)
  | 3 => (p.x0 + r, p.y0 + 255 - c)
  | 4 => (p.x0 + 255 - c, p.y0 + r)
  | 5 => (p.x0 + r, p.y0 + c)
  | 6 => (p.x0 + c, p.y0 + 255 - r)
  | _ => (p.x0 + 255 - r, p.y0 + 255 - c)

/-- The active Geode set (R179), if one is active and the facet lies in its mask. -/
def State.activeSet (s : State) (f : Nat) : Option GeodeSet :=
  (s.plan.comp.geodeSets.find? (fun g => g.num == s.getF F.GEO_STAT_ACTIVE)).filter (fun g => g.facets.getLsbD f)

/-- The Geode block of a panel at a pixel, with the pixel's place in it (R179): slice `r / 8`, block `c / 8`. -/
def State.geodeBlockAt (s : State) (f tile r c : Nat) : Option GeodeBlock :=
  (s.activeSet f).bind (fun g => g.blocks.find? (fun b => b.tile == tile && b.slice == r / 8 && b.block == c / 8))

/-- A panel's pixel (R179, R187): composed, or replaced by its Geode block; three codes at the output depth. -/
def State.panelPixel (s : State) (p : PanelMap) (f r c : Nat) (image : Word) : List Nat :=
  match s.geodeBlockAt f p.id r c with
  | some b => [0, 1, 2].map (fun k => b.samples.getD (3 * (8 * (r % 8) + c % 8) + k) 0)
  | none => let q := canvasOf p r c; s.composedCode f q.1 q.2 image

/-- A row of a panel as a buffer of R193 holds it: three 16-bit samples a pixel, codes left-aligned (R188). -/
def State.panelRow (s : State) (p : PanelMap) (f r : Nat) (image : Word) : List Byte :=
  (List.range 256).flatMap (fun c => (s.panelPixel p f r c image).flatMap (fun v => bytesLe (v <<< (16 - s.outDepth)) 2))

/-- The last canvas line that some rows of a panel take: of a slice where the panel stands or hangs, of the whole panel where it
lies on its side (R187, R217). -/
def panelLine (p : PanelMap) (firstRow rows : Nat) : Nat :=
  match p.orient with
  | 0 | 4 => p.y0 + firstRow + rows - 1
  | 2 | 6 => p.y0 + 255 - firstRow
  | _ => p.y0 + 255

/-- Where an own-panel buffer begins (R188). -/
def State.ownBase (s : State) (f half : Nat) : Nat :=
  let b := nth s.plan.comp.ownBuf f (0, 0)
  if half = 0 then b.1 else b.2

/-- A stored sample of an own-panel buffer (R188, R193). -/
def State.ownSample (s : State) (f half r c k : Nat) : Nat :=
  memRead s.core.mem (lpddr (s.ownBase f half + 2 * (3 * (256 * r + c) + k))) 2

end Sys2Proof.Machine
end

