-- ==== Sys2Proof/Machine/Decoder.lean ====
section
/-!
DEFINITION. The decoder of a Tile: staging, commit, hand-over, concealment and the Geode state of each facet (R184,
R190 to R214).
-/

namespace Sys2Proof.Machine

/-! ### Buffers and their registers -/

/-- An image buffer of the pool. -/
def State.decBuf (s : State) (i : Nat) : DecBuf := tabGet {} s.dec.bufs i

/-- A buffer replaced, and UNCLEAN as it then stands. -/
def State.setDecBuf (s : State) (i : Nat) (b : DecBuf) : State :=
  let s1 := { s with dec := { s.dec with bufs := tabPut s.dec.bufs i b } }
  s1.setF (F.DEC_BUF_UNCLEAN i) b.unclean

/-- The buffer lit for a facet, 15 for none. -/
def State.litBuf (s : State) (f : Nat) : Nat := s.getF (F.DEC_STAT_LITBUF f)

/-- A buffer is lit for some facet. -/
def State.isLit (s : State) (i : Nat) : Bool := [0, 1, 2, 3].any (fun f => s.litBuf f == i)

/-- A facet's lit buffer changed; LITNOW of every buffer follows. -/
def State.setLit (s : State) (f i : Nat) : State :=
  let s1 := s.setF (F.DEC_STAT_LITBUF f) i
  s1.forEach (List.range 12) (fun k t => t.setB (F.DEC_BUF_LITNOW k) (t.isLit k))

/-- The buffer that substitution and concealment of a facet read, if one is lit. -/
def State.litSource (s : State) (f : Nat) : Option DecBuf :=
  if s.litBuf f < 12 then some (s.decBuf (s.litBuf f)) else none

/-- The key of an arriving image: image sequence number and facet. -/
def imgKey (image : Word) (f : Nat) : Nat := 4 * image.toNat + f

/-- What is held for an arriving image. -/
def State.facetImg (s : State) (image : Word) (f : Nat) : FacetImg := tabGet { image := image } s.dec.img (imgKey image f)

/-- The arriving image's part replaced. -/
def State.setFacetImg (s : State) (image : Word) (f : Nat) (x : FacetImg) : State :=
  { s with dec := { s.dec with img := tabPut s.dec.img (imgKey image f) x } }

/-- The hand-over of an image has passed (R213). -/
def State.handedOver (s : State) (image : Word) (f : Nat) : Bool :=
  match s.dec.handed.find? (fun p => p.1 == f) with
  | some p => decide (diff32 image p.2 ≤ 0)
  | none => false

/-- A slice counted in LATE. -/
def State.sliceLate (s : State) : State := (s.bump F.DEC_CNT1_LATE).raise F.DEC_EVT_LATE

/-! ### Receiving (R184, R212) -/

/-- STAGING: at most four slices are being decoded. -/
def State.stagingCount (s : State) : State := s.setF F.DEC_STAT_STAGING (min 4 s.dec.staging.length)

/-- A SLICE packet that passed R122 at its Tile. -/
def State.sliceRx (s : State) (h : Hdr) (payload : List Byte) : State :=
  let f := h.facet.toNat
  if s.isHead then s
  else if s.handedOver h.image f then
    ({ s with dec := { s.dec with everSlice := s.dec.everSlice ||| BitVec.twoPow 4 f } }).sliceLate
  else
    let x := s.facetImg h.image f
    let k := h.seq.toNat % 64
    let plain := if h.geode = false ∧ k < 32 then x.plain ||| BitVec.twoPow 32 k else x.plain
    let s1 := s.setFacetImg h.image f { x with any := true, geode := x.geode || h.geode, plain := plain }
    let s2 := { s1 with dec := { s1.dec with
      staging := s1.dec.staging ++ [(⟨h, payload⟩ : SliceIn)], everSlice := s1.dec.everSlice ||| BitVec.twoPow 4 f } }
    s2.stagingCount

/-! ### Decoding (R191 to R212) -/

/-- A syntax error counted and, where the log is clear, recorded (R211). -/
def State.syntaxError (s : State) (h : Hdr) (code block : Nat) : State :=
  let s1 := (s.bump F.DEC_CNT0_SYNTAX).raise F.DEC_EVT_SYNTAX
  if s1.getF F.DEC_ERRLOG_CODE = 0 then
    ((((s1.setF F.DEC_ERRLOG_CODE code).setF F.DEC_ERRLOG_SLICE (h.seq.toNat % 64)).setF F.DEC_ERRLOG_FACET h.facet.toNat).setF
      F.DEC_ERRLOG_BLOCK block).setF F.DEC_ERRLOG_IMAGE (h.image.toNat % 65536)
  else s1

/-- A slice's Geode blocks failed R209 (R210). -/
def State.geodeFail (s : State) (h : Hdr) : State :=
  let f := h.facet.toNat
  let s1 := (s.bump F.DEC_CNT2_GEODE_FAIL).raise F.DEC_EVT_GEODE_FAIL
  s1.setFacetImg h.image f { s1.facetImg h.image f with geodeFail := true }

/-- The check of R209 for a slice that carries a set. -/
def State.geodeVerifies (s : State) (h : Hdr) (set slice : Nat) (os : List BlockOut) : Bool :=
  h.geode && os.any (fun o => o.geode) &&
    (match s.boot.position.geodeDigest.find? (fun p => p.1 == set && p.2.1 == slice) with
      | some p => decide (p.2.2 = sha384 (geodeBytes s.plan.wall.id (s.getF F.LNK_ID_TILE_ID) set slice os))
      | none => false)

/-- The destination may not be written (R195): lit, or another than the image's earlier slices named. -/
def State.destBad (s : State) (h : Hdr) (d : Nat) : Bool :=
  s.isLit d || (match (s.facetImg h.image h.facet.toNat).dest with | some e => e != d | none => false)

/-- A buffer's block positions of one slice replaced. -/
def DecBuf.putSlice (b : DecBuf) (k d : Nat) (os : List BlockOut) : DecBuf :=
  let z := List.zip (List.range 32) os
  { b with
    present := b.present ||| BitVec.twoPow 32 k
    depth := tabPut b.depth k d
    pix := z.foldl (fun m x => tabPut m (32 * k + x.1) (x.2.codes.map (fun v => v <<< (16 - d)))) b.pix
    clean := z.foldl (fun (m : BitVec 1024) x =>
      if x.2.clean then m ||| BitVec.twoPow 1024 (32 * k + x.1) else m &&& ~~~ BitVec.twoPow 1024 (32 * k + x.1)) b.clean }

/-- A slice committed into its destination (R194). -/
def State.commitSlice (s : State) (h : Hdr) (dest d : Nat) (os : List BlockOut) : State :=
  let f := h.facet.toNat
  let x := s.facetImg h.image f
  let first := x.dest.isNone
  let b := if first then (s.decBuf dest).fresh else s.decBuf dest
  let s1 := if first then
      (((s.setF (F.DEC_BUF_IMAGE dest) (h.image.toNat % 65536)).setF (F.DEC_BUF_FACET dest) f).raise (F.DEC_BUF_HOLDS dest)).setFacetImg
        h.image f { x with dest := some dest }
    else s
  let s2 := s1.setDecBuf dest (b.putSlice (h.seq.toNat % 64) d os)
  if os.any (fun o => o.subst) then (s2.bump F.DEC_CNT0_CONCEAL).raise F.DEC_EVT_CONCEAL else s2

/-- Decoded blocks checked under R209 and committed. -/
def State.finishSlice (s : State) (h : Hdr) (dest d : Nat) (carries : Bool) (set : Nat) (os : List BlockOut) : State :=
  if (carries || h.geode) && !s.geodeVerifies h set (h.seq.toNat % 64) os then s.geodeFail h
  else s.commitSlice h dest d os

/-- A Clear slice (R192). -/
def State.decodeClear (s : State) (h : Hdr) (p : List Byte) : State :=
  match clearDepth p.length with
  | none => s.syntaxError h 6 0
  | some (d, hasMap) =>
    let m := clearMap p
    if hasMap ∧ (15 < m.1 ∨ m.2.1 ≠ 0) then s.syntaxError h 3 0
    else
      let f := h.facet.toNat
      let b := nth s.plan.codec.clearBuf f (2 * f, 2 * f + 1)
      let dest := if h.image.toNat / s.facets % 2 = 0 then b.1 else b.2
      if s.destBad h dest then s.syntaxError h 7 0
      else s.finishSlice h dest d hasMap m.1 (clearBlocks p d (if hasMap then m.2.2 else 0))

/-- The reference of a Packed slice was never received (R208). -/
def State.refLost (s : State) (x : PkHdr) : Bool :=
  x.ref != 15 && !(s.flag (F.DEC_BUF_HOLDS x.ref) && s.getF (F.DEC_BUF_IMAGE x.ref) == x.refImage &&
    s.getF (F.DEC_BUF_FACET x.ref) == x.refFacet)

/-- A Packed slice (R196 to R208). -/
def State.decodePacked (s : State) (h : Hdr) (p : List Byte) : State :=
  match pkCheck p (h.seq.toNat % 64) h.facet.toNat h.image with
  | some c => s.syntaxError h c 0
  | none =>
    let x := pkParse p
    if s.destBad h x.dest || x.dest == x.ref then s.syntaxError h 7 0
    else
      let lost := s.refLost x
      let s1 := s.when lost (fun t => (t.bump F.DEC_CNT1_NOREF).raise F.DEC_EVT_NOREF)
      let e : BlkEnv := {
        d := pkDepth x.depth, slice := x.slice, noRef := x.ref == 15, lost := lost, ref := s.decBuf x.ref,
        lit := s.litSource h.facet.toNat, gpresent := x.gpresent }
      match packedBlocks e x p with
      | .error c => s1.syntaxError h c.1 c.2
      | .ok os => s1.finishSlice h x.dest e.d x.gpresent x.gset os

/-- The facet is Packed under the variant that applies to an image (R191). -/
def State.isPacked (s : State) (image : Word) (f : Nat) : Bool :=
  nth (nth s.plan.codec.packed (s.variantFor image) []) f false

/-- A slice decoded (R190, R191, R212, R213). -/
def State.decodeSlice (s : State) (x : SliceIn) : State :=
  let h := x.hdr
  if s.handedOver h.image h.facet.toNat then s.sliceLate
  else if 31 < h.seq.toNat % 64 then s.syntaxError h 2 0
  else if s.isPacked h.image h.facet.toNat then s.decodePacked h x.payload
  else s.decodeClear h x.payload

/-- `SLICE_DECODED` (R212): the oldest slice in staging. -/
def execSliceDecoded (s : State) : Res :=
  match s.dec.staging with
  | [] => .next s
  | x :: rest => .next (({ s with dec := { s.dec with staging := rest } }).stagingCount.decodeSlice x)

/-! ### Hand-over (R184, R210, R213, R214) -/

/-- The state a facet shows, and SHOW as the highest of the four (R184). -/
def State.setShow (s : State) (f v : Nat) : State :=
  let s1 := s.setF (F.GEO_STAT_FSHOWf f) v
  s1.setF F.GEO_STAT_SHOW ((List.range 4).foldl (fun m k => max m (s1.getF (F.GEO_STAT_FSHOWf k))) 0)

/-- The stored pattern of the plan is present and passed its check (R184, R186). -/
def State.patternOk (s : State) : Bool :=
  s.flag F.GEO_STAT_PAT_OK && decide (s.plan.comp.geodePattern < s.getF F.GEO_STAT_PAT_COUNT)

/-- A facet turned to its stored pattern or to the fault colour (R184, R185). -/
def State.showPattern (s : State) (f : Nat) : State :=
  let was := s.getF (F.GEO_STAT_FSHOWf f)
  let v := if s.patternOk then 2 else 3
  (s.setShow f v).when (decide (was < 2)) (fun t => t.raise F.GEO_EVT_PATTERN)

/-- The missing slices of a buffer. -/
def DecBuf.missing (b : DecBuf) : List Nat := (List.range 32).filter (fun k => !b.present.getLsbD k)

/-- A missing slice's rows filled from the lit image (R213): co-located blocks and depth, or 0; never clean. -/
def DecBuf.fillSlice (b : DecBuf) (lit : Option DecBuf) (k : Nat) : DecBuf :=
  { b with
    pix := (List.range 32).foldl (fun m i =>
      tabPut m (32 * k + i) (match lit with | some l => tabGet [] l.pix (32 * k + i) | none => [])) b.pix
    depth := match lit with | some l => tabPut b.depth k (tabGet 8 l.depth k) | none => tabDrop b.depth k
    clean := b.clean &&& ~~~ ((BitVec.allOnes 32).setWidth 1024 <<< (32 * k)) }

/-- Missing slices counted, once the facet has received a slice since the start (R213). -/
def State.countMissing (s : State) (f n : Nat) (conceal : Bool) : State :=
  if s.dec.everSlice.getLsbD f && n != 0 then
    let s1 := s.bumpBy F.DEC_CNT2_MISSING n
    if conceal then (s1.bumpBy F.DEC_CNT0_CONCEAL n).raise F.DEC_EVT_CONCEAL else s1
  else s

/-- The facet's first clean image (R214). -/
def State.firstLit (s : State) (f : Nat) (clean : Bool) : State :=
  if clean && !(s.bit F.DEC_STAT_LIT f) then (s.raiseBit F.DEC_STAT_LIT f).raiseBit F.DEC_EVT_FIRST_LIT f else s

/-- A buffer lit for a facet with the image it holds (R193, R213). -/
def State.lightBuf (s : State) (f i : Nat) (image : Word) : State :=
  let s1 := s.setLit f i
  { s1 with dec := { s1.dec with litImage := image } }

/-- The hand-over marked, and what was held for the image dropped. -/
def State.markHanded (s : State) (f : Nat) (image : Word) : State :=
  { s with dec := { s.dec with handed := tabPut s.dec.handed f image, img := tabDrop s.dec.img (imgKey image f) } }

/-- The Geode mark of a facet's last lit image (R184). -/
def State.setWasGeode (s : State) (f : Nat) (b : Bool) : State :=
  { s with geo := { s.geo with
    wasGeode := if b then s.geo.wasGeode ||| BitVec.twoPow 4 f else s.geo.wasGeode &&& ~~~ BitVec.twoPow 4 f } }

/-- What a hand-over came to: whether the facet lit a new image, and whether a slice of it had arrived (R213, R340). -/
structure HandOver where
  lit : Bool
  got : Bool
  deriving DecidableEq, Repr

/-- An arriving image counts as a Geode image (R184): a slice carries GEODE, or the facet's last lit image was one, or the facet
still shows a pattern; not one whose 32 slices all arrived without GEODE. -/
def State.geodeImage (s : State) (f : Nat) (x : FacetImg) : Bool :=
  (x.geode || s.geo.wasGeode.getLsbD f || decide (2 ≤ s.getF (F.GEO_STAT_FSHOWf f))) && x.plain != BitVec.allOnes 32

/-- The image of a facet of which no slice committed: no buffer holds it. Where slices of it arrived, it is judged as R184 and
R210 judge an image; one with 32 slices without GEODE ends the pattern. -/
def State.handNone (s : State) (f : Nat) (x : FacetImg) : State :=
  if !x.any then s.countMissing f 32 true
  else if s.geodeImage f x || x.geodeFail then (s.countMissing f 32 false).showPattern f
  else ((s.countMissing f 32 true).setShow f 0).setWasGeode f false

/-- The destination lit with the image it holds, all its slices present or filled (R213), and what the facet shows (R184). In the
Geode state nothing is filled or concealed where a slice failed or is missing: the facet shows its pattern (R210). -/
def State.handSome (s : State) (f d : Nat) (image : Word) (x : FacetImg) : State :=
  let b := s.decBuf d
  let miss := b.missing
  let geo := s.geodeImage f x || x.geodeFail
  let bad := x.geodeFail || (geo && !miss.isEmpty)
  let b2 := if bad then b else miss.foldl (fun a k => a.fillSlice (s.litSource f) k) b
  let s1 := (((s.setDecBuf d b2).countMissing f miss.length (!bad)).lightBuf f d image).firstLit f (b2.unclean == 0)
  let s2 := s1.setWasGeode f (s.geodeImage f x)
  if bad then s2.showPattern f else s2.setShow f (if geo then 1 else 0)

/-- The hand-over of image `image` of facet `f` at a Tile. -/
def State.tileHandOver (s : State) (f : Nat) (image : Word) : State × HandOver :=
  let x := s.facetImg image f
  let s1 := s.markHanded f image
  match x.dest with
  | none => (s1.handNone f x, ⟨false, x.any⟩)
  | some d => (s1.handSome f d image x, ⟨true, true⟩)

/-! ### The own panel of a Head (R188) -/

/-- The hand-over of an own-panel image: a complete buffer becomes lit, all its blocks clean. -/
def State.headHandOver (s : State) (f : Nat) (image : Word) : State × HandOver :=
  let half := image.toNat / s.facets % 2
  if (s.cmp.ownDone.find? (fun p => decide (p.1 = (f, half)))).map (fun p => p.2) = some image then
    let s1 := (s.setF (F.DEC_STAT_LITBUF f) (2 * f + half)).firstLit f true
    ({ s1 with dec := { s1.dec with litImage := image } }, ⟨true, true⟩)
  else (s, ⟨false, false⟩)

/-- The hand-over of a facet's image in the device's role. -/
def State.handOver (s : State) (f : Nat) (image : Word) : State × HandOver :=
  if s.isHead then s.headHandOver f image else s.tileHandOver f image

end Sys2Proof.Machine
end

