-- ==== Sys2Proof/Machine/Encoder.lean ====
section
/-!
DEFINITION. The encoder of a Head (R216 to R235): block jobs, engines, Drip, budgets, payloads, reconstruction and signatures.
A slice's bits are worked out as its job becomes ready, from what R232 says they are a function of; the engine's work decides
only when they are there to send.
-/

namespace Sys2Proof.Machine

/-! ### Plan and Drip (R217 to R231) -/

/-- The default payload length of a grade (R220). -/
def gradeLen : Nat → Nat
  | 2 => 4096 | 3 => 3072 | 4 => 2048 | _ => 6144

/-- The grade of a Tile's facet under a variant. -/
def CodecPlan.gradeOf (p : CodecPlan) (v f t : Nat) : Nat :=
  match p.grade.find? (fun x => x.1 == v && x.2.1 == f && x.2.2.1 == t) with
  | some x => x.2.2.2
  | none => 1

/-- A slice's budget (R221). -/
def CodecPlan.budgetOf (p : CodecPlan) (v f t k : Nat) : Nat :=
  match p.budget.find? (fun x => x.1 == v && x.2.1 == f && x.2.2.1 == t && x.2.2.2.1 == k) with
  | some x => x.2.2.2.2
  | none => gradeLen (p.gradeOf v f t)

/-- The engine of a Tile under a variant (R217). -/
def CodecPlan.engineOf (p : CodecPlan) (v t : Nat) : Nat :=
  match p.engine.find? (fun x => x.1 == v && x.2.1 == t) with
  | some x => x.2.2
  | none => 0

/-- The Drip period of a facet in `ENC_DRIP` (R227). -/
def dripFld (f : Nat) : Fld := ⟨A.ENC_DRIP, 8 * f, 7⟩

/-- The Drip phase of a facet in `ENC_PHASE`. -/
def phaseFld (f : Nat) : Fld := ⟨A.ENC_PHASE, 8 * f, 6⟩

/-- The period in force, never 0. -/
def State.dripP (s : State) (f : Nat) : Nat := max 1 (s.actF (dripFld f))

/-- The Drip phase of an image of a facet (R228). -/
def State.dripPhase (s : State) (f : Nat) (image : Word) : Nat :=
  (((image.toNat / s.facets : Nat) : Int) - ((tabGet 0 s.enc.nb f : Nat) : Int)).fmod (s.dripP f) |>.toNat

/-- Which image buffers a facet alternates between (R194, R231). -/
def State.clearBuf (s : State) (f n : Nat) : Nat :=
  let b := nth s.plan.codec.clearBuf f (2 * f, 2 * f + 1)
  if n % 2 = 0 then b.1 else b.2

/-! ### Payloads (R192, R196, R231) -/

/-- Bits packed into bytes, most significant first. -/
def bytesOfBits : Nat → List Bool → List Byte
  | 0, _ => []
  | n + 1, l => BitVec.ofNat 8 (numMsb ((l ++ List.replicate 8 false).take 8)) :: bytesOfBits n (l.drop 8)

/-- The Geode blocks of the active set in one slice of a Tile's image (R179). -/
def State.geodeIn (s : State) (f tile k : Nat) : List GeodeBlock :=
  match s.activeSet f with
  | some g => g.blocks.filter (fun b => b.tile == tile && b.slice == k)
  | none => []

/-- The number of the active set, as GSET and the Geode map carry it. -/
def State.geodeNum (s : State) (f : Nat) : Nat := match s.activeSet f with | some g => g.num | none => 0

/-- The Clear payload of a slice (R192), with its Geode map where it carries Geode blocks. -/
def State.clearPayload (s : State) (p : PanelMap) (f k : Nat) (image : Word) : List Byte :=
  let d := s.outDepth
  let bits := (List.range 2048).flatMap (fun i =>
    (s.panelPixel p f (8 * k + i / 256) (i % 256) image).flatMap (fun v => bitsMsb v d))
  let g := s.geodeIn f p.id k
  let mask := g.foldl (fun a b => a ||| 2 ^ b.block) 0
  bytesOfBits (768 * d) bits ++ (if g.isEmpty then [] else bytesLe (s.geodeNum f) 4 ++ bytesLe mask 4)

/-- A Packed slice header's bytes (R196). -/
def pkBytes (h : PkHdr) : List Byte :=
  let a := bytesLe 0x5CA5 2 ++ bytesLe (h.slice + 32 * h.facet) 1 ++ bytesLe (h.depth + 4 * h.drip) 1 ++
    bytesLe (h.dest + 16 * h.ref) 1 ++ bytesLe h.refImage 2 ++ bytesLe (h.refFacet + 4 * h.qbase) 1 ++
    bytesLe h.dataBits 3 ++ bytesLe (h.gset + 16 * h.gpresent.toNat) 1 ++ bytesLe h.image 2 ++ [0]
  a ++ [crc8 0 (bitsOf a)]

/-- The panel map of a Tile. -/
def State.panelOf (s : State) (tile : Nat) : Option PanelMap := s.plan.comp.tiles.find? (fun p => p.id == tile)

/-- A facet's image in coding. -/
def State.encImg (s : State) (f : Nat) : Option EncImage := (s.enc.image.find? (fun p => p.1 == f)).map (fun p => p.2)

/-- An image's slices have REF 15 (R231). -/
def State.encIntra (s : State) (f : Nat) : Bool := match s.encImg f with | some x => x.intra | none => true

/-- The payload length of a slice (R192, R221): its budget where it is Packed, else the Clear length with its Geode map. -/
def State.sliceLen (s : State) (j : BlockJob) : Nat :=
  if s.isPacked j.image j.facet then s.plan.codec.budgetOf (s.variantFor j.image) j.facet j.tile j.slice
  else 768 * s.outDepth + (if (s.geodeIn j.facet j.tile j.slice).isEmpty then 0 else 8)

/-- A grade's search (R220, R226): window for grades 1 to 3, candidate for grade 4, unless the plan selects the other. -/
def CodecPlan.windowSearch (p : CodecPlan) (g : Nat) : Bool :=
  match p.gradeSearch.find? (fun x => x.1 == g) with
  | some x => !x.2
  | none => g != 4

/-- Where the reconstruction of a Tile's facet begins in the LPDDR: two halves of 384 KiB laid out as R193 lays out a buffer, one
for odd frame counts (R232; DESIGN CHOICE, log entry 72). -/
def State.reconAt (s : State) (f tile n : Nat) : Nat :=
  let base := match s.plan.codec.reconBase.find? (fun x => x.1 == tile && x.2.1 == f) with | some x => x.2.2 | none => 0
  base + 393216 * (n % 2)

/-- The bytes of a pixel row of some blocks at a depth, as a buffer of R193 holds them. -/
def blockRow (d r : Nat) (os : List BlockOut) : List Byte :=
  os.flatMap (fun o => (List.range 24).flatMap (fun i => bytesLe (o.codes.getD (24 * r + i) 0 <<< (16 - d)) 2))

/-- A slice's reconstruction written (R232). -/
def State.reconWrite (s : State) (j : BlockJob) (d : Nat) (os : List BlockOut) : State :=
  let base := s.reconAt j.facet j.tile (j.image.toNat / s.facets)
  s.forEach (List.range 8) (fun r t => t.lpddrPut (base + 1536 * (8 * j.slice.val + r)) (blockRow d r os))

/-- The reconstruction of the image before, as a buffer (R232). -/
def State.reconRef (s : State) (j : BlockJob) : DecBuf :=
  let base := lpddr (s.reconAt j.facet j.tile (j.image.toNat / s.facets + 1))
  { pix := (List.range 1024).map (fun pos => (pos, (List.range 192).map (fun i =>
      memRead s.core.mem (base + 1536 * (8 * (pos / 32) + i / 24) + 6 * (8 * (pos % 32) + i / 3 % 8) + 2 * (i % 3)) 2))) }

/-- What a slice is coded with (R232): its input as composed, the reconstruction of the image before, the plan's tables for the
variant that applies, the phase. -/
def State.sliceEnv (s : State) (j : BlockJob) (p : PanelMap) : SliceEnv :=
  let f := j.facet.val
  let k := j.slice.val
  let v := s.variantFor j.image
  { d := s.outDepth, slice := k, ph := s.dripPhase f j.image, p := s.dripP f,
    ref := if s.encIntra f then none else some (s.reconRef j),
    geode := (s.geodeIn f j.tile k).map (fun g => (g.block, g.samples)),
    input := (List.range 32).map (fun b => (List.range 64).flatMap (fun i =>
      s.panelPixel p f (8 * k + i / 8) (8 * b + i % 8) j.image)),
    budget := 8 * (s.plan.codec.budgetOf v f j.tile k - 16),
    window := s.plan.codec.windowSearch (s.plan.codec.gradeOf v f j.tile),
    above := if k = 0 then [] else
      match s.enc.vectors.find? (fun x => decide (x.1 = (f, j.tile, k - 1)) && decide (x.2.1 = j.image)) with
      | some x => x.2.2
      | none => [] }

/-- The header that the encoder gives a slice (R196, R228, R231). -/
def State.encHeader (s : State) (j : BlockJob) (e : SliceEnv) (bits : Nat) : PkHdr :=
  let f := j.facet.val
  let n := j.image.toNat / s.facets
  let intra := e.ref.isNone
  { mark := 0x5CA5, slice := j.slice.val, facet := f, depth := s.outDepth / 2 - 4, drip := e.ph,
    dest := s.clearBuf f n, ref := if intra then 15 else s.clearBuf f (n + 1),
    refImage := if intra then 0 else (j.image.toNat + 65536 - s.facets) % 65536, refFacet := if intra then 0 else f,
    qbase := e.qbase, dataBits := bits, gset := if e.geode.isEmpty then 0 else s.geodeNum f,
    gpresent := !e.geode.isEmpty, image := j.image.toNat % 65536, reserved := 0, hcrcOk := true }

/-- The payload of a coded slice: header, block data, zeros up to its budget (R221). -/
def State.encPayload (s : State) (j : BlockJob) (e : SliceEnv) (c : CodedSlice) : List Byte :=
  pkBytes (s.encHeader j e c.bits.length) ++ bytesOfBits (e.budget / 8) c.bits

/-- Where a slice's payload is kept. -/
def State.payKey (s : State) (j : BlockJob) : Nat × Nat × Nat :=
  (j.facet.val, j.tile, j.slice.val + 32 * (j.image.toNat / s.facets % 2))

/-- A slice's payload recorded for the port and for the signature (R235). -/
def State.putPayload (s : State) (j : BlockJob) (bytes : List Byte) (st : PayState) : State :=
  { s with enc := { s.enc with
    payloads := tabPut s.enc.payloads (s.payKey j) { image := j.image, bytes := bytes, state := st } } }

/-- The slice of a dropped job, for the signature (R235). -/
def State.putDropped (s : State) (j : BlockJob) : State := s.putPayload j (List.replicate (s.sliceLen j) 0) .dropped

/-- The payload that the encoder has for a slice of an image. -/
def State.payloadOf (s : State) (f t k : Nat) (image : Word) : Option SlicePayload :=
  (s.enc.payloads.find? (fun p => p.1.1 == f && p.1.2.1 == t && p.1.2.2 % 32 == k && decide (p.2.image = image))).map (fun p => p.2)

/-! ### Jobs (R216 to R219) -/

/-- The block jobs in flight, and JOBS as it then stands. -/
def State.setInflight (s : State) (l : List (BlockJob × Nat)) : State :=
  ({ s with enc := { s.enc with inflight := l } }).setF F.ENC_STAT_JOBS l.length

/-- A job is the one of a slice of an image. -/
def BlockJob.isOf (j : BlockJob) (f tile k : Nat) (image : Word) : Bool :=
  j.facet.val == f && j.tile == tile && j.slice.val == k && decide (j.image = image)

/-- A job leaves flight, with its packet's copies (R218). -/
def State.jobGone (s : State) (f tile k : Nat) (image : Word) : State :=
  s.setInflight (s.enc.inflight.filter (fun x => !(x.1.isOf f tile k image)))

/-- A copy of a slice's packet has left the port or is discarded: with the last one the job leaves flight (R218). -/
def State.sliceGone (s : State) (f tile k : Nat) (image : Word) : State :=
  s.setInflight (s.enc.inflight.filterMap (fun x =>
    if x.1.isOf f tile k image then (if x.2 ≤ 1 then none else some (x.1, x.2 - 1)) else some x))

/-- The slots that the schedule has for a slice's packet under a variant (R131, R132). -/
def State.sliceSlots (s : State) (j : BlockJob) : List SchedEntry :=
  let v := s.variantFor j.image
  s.plan.link.sched.filter (fun e => e.typ == 1 && e.variant == v && e.facet == j.facet.val && e.dst == j.tile && e.slice == j.slice.val)

/-- The job an engine codes. -/
def State.engineJob (s : State) (e : Nat) : Option EncJob := (s.enc.running.find? (fun p => p.1 == e)).map (fun p => p.2)

/-- The order of an engine's queue (R217): by image, then by when the job became ready, then by its place in the plan. -/
def jobBefore (a b : EncJob) : Bool :=
  let d := diff32 a.job.image b.job.image
  decide (d < 0) || (d == 0 && (decide (a.ready < b.ready) || (a.ready == b.ready && decide (a.place ≤ b.place))))

/-- A job put in its place in a queue. -/
def queueJob (j : EncJob) : List EncJob → List EncJob
  | [] => [j]
  | x :: rest => if jobBefore x j then x :: queueJob j rest else j :: x :: rest

/-- An idle engine takes the first job of its queue (R216). -/
def State.engineStart (s : State) (e : Nat) : State :=
  match s.engineJob e, tabGet [] s.enc.queue e with
  | none, j :: rest =>
    ({ s with enc := { s.enc with
      queue := tabPut s.enc.queue e rest, running := tabPut s.enc.running e { j with begun := s.now } } }).putBit F.ENC_STAT_BUSY e true
  | _, _ => s

/-- A job given to its engine. One that the engine took in the same instant is still in the queue for the order of R217. -/
def State.engineQueue (s : State) (e : Nat) (j : EncJob) : State :=
  let q := tabGet [] s.enc.queue e
  match s.engineJob e with
  | some x =>
    if x.begun = s.now then
      let s1 := { s with enc := { s.enc with queue := tabPut s.enc.queue e (queueJob j (x :: q)), running := tabDrop s.enc.running e } }
      s1.engineStart e
    else { s with enc := { s.enc with queue := tabPut s.enc.queue e (queueJob j q) } }
  | none => ({ s with enc := { s.enc with queue := tabPut s.enc.queue e (queueJob j q) } }).engineStart e

/-- The encoder coded an image: some job of it was created and not dropped. -/
def EncImage.codedAny (x : EncImage) : Bool := decide (x.dropped < x.made)

/-- The first job of an image that becomes ready: whether the image has a reference is settled (R231). -/
def State.encImage (s : State) (f : Nat) (image : Word) : State :=
  if (s.encImg f).map (fun x => x.image) = some image then s
  else
    let last := match s.encImg f with
      | some x => if x.packed && x.codedAny then some x.image else (s.enc.lastCoded.find? (fun p => p.1 == f)).map (fun p => p.2)
      | none => none
    let img : EncImage := {
      image := image, packed := s.isPacked image f, intra := last != some (image - BitVec.ofNat 32 s.facets) }
    { s with enc := { s.enc with
      image := tabPut s.enc.image f img
      lastCoded := match last with | some w => tabPut s.enc.lastCoded f w | none => s.enc.lastCoded } }

/-- The counts of a facet's image in coding changed. -/
def State.encCount (s : State) (f : Nat) (image : Word) (g : EncImage → EncImage) : State :=
  match s.encImg f with
  | some x => if x.image = image then { s with enc := { s.enc with image := tabPut s.enc.image f (g x) } } else s
  | none => s

/-- A job's slice is coded: its bits, the reconstruction, the vectors for the slice below (R225, R232). Dropped jobs do not change
what later ones are coded against (R232; DEDUCED, log entry 17). -/
def State.sliceCode (s : State) (j : BlockJob) (p : PanelMap) : State × Bool :=
  let f := j.facet.val
  if s.isPacked j.image f then
    let e := s.sliceEnv j p
    let c := e.code
    let s1 := (s.putPayload j (s.encPayload j e c) .coding).reconWrite j e.d c.outs
    ({ s1 with enc := { s1.enc with vectors := tabPut s1.enc.vectors (f, j.tile, j.slice.val) (j.image, c.vectors) } }, c.floor)
  else (s.putPayload j (s.clearPayload p f j.slice.val j.image) .ready, false)

/-- A job becomes ready (R217, R218); a Clear slice is formatted at once and passes through no engine (R219). -/
def State.jobReady (s : State) (j : BlockJob) (p : PanelMap) : State :=
  let f := j.facet.val
  let r := (s.encImage f j.image).sliceCode j p
  let s1 := r.1
  if 16384 ≤ s1.enc.inflight.length then ((s1.bump F.ENC_CNT0_JOBFULL).raise F.ENC_EVT_JOBFULL).putDropped j
  else
    let s2 := s1.setInflight (s1.enc.inflight ++ [(j, max 1 (s1.sliceSlots j).length)])
    let s3 := s2.encCount f j.image (fun x => { x with made := x.made + 1 })
    if s.isPacked j.image f then
      let s4 := s3.setF (phaseFld f) (s3.dripPhase f j.image)
      let place := 32 * (s.plan.comp.tiles.findIdx (fun q => q.id == j.tile)) + j.slice.val
      s4.engineQueue (s4.plan.codec.engineOf (s4.variantFor j.image) j.tile) {
        job := j, ready := s.now, place := place, imageAt := s.ing.imgAt.getD 0, floor := r.2, intra := s1.encIntra f }
    else s3

/-- A job can become ready now (R217): its image is in scan-out, the last canvas line it uses has been composed, and it has not
become ready before. -/
def State.readyNow (s : State) (j : BlockJob) (p : PanelMap) : Bool :=
  decide (j.facet.val < s.facets) && j.image == s.facetImage j.facet && j.image == s.imageNow &&
    s.lineComposed (panelLine p (8 * j.slice.val) 8) && (s.payloadOf j.facet j.tile j.slice j.image).isNone

/-- `ENCODE_JOB_READY` (R217, R218). -/
def execEncodeJobReady (j : BlockJob) (s : State) : Res :=
  match s.panelOf j.tile with
  | some p => if s.composing && s.readyNow j p then .next (s.jobReady j p) else .next s
  | none => .next s

/-- `ENCODE_JOB_DONE` (R216, R223, R231): the engine's job is coded and the next begins. -/
def execEncodeJobDone (e : Fin 8) (s : State) : Res :=
  match s.engineJob e with
  | none => .next s
  | some x =>
    let j := x.job
    let s1 := { s with enc := { s.enc with
      running := tabDrop s.enc.running e.val, busy := tabUpd 0 s.enc.busy e.val (· + 4096),
      payloads := s.enc.payloads.map (fun (p : (Nat × Nat × Nat) × SlicePayload) =>
        if p.1 = s.payKey j ∧ p.2.image = j.image then (p.1, { p.2 with state := .ready }) else p) } }
    let s2 := s1.putBit F.ENC_STAT_BUSY e false
    let s3 := s2.when x.floor (fun t => (t.bump F.ENC_CNT0_FLOOR).raise F.ENC_EVT_FLOOR)
    let s4 := s3.when x.intra (fun t => t.bump F.ENC_CNT1_INTRA_ONLY)
    .next (s4.engineStart e)

/-- A period of images in ns (R132): a frame period divided among the facets. -/
def State.imagePeriodNs (s : State) : Nat := 1000000000 * s.plan.wall.rateDen / max 1 (s.plan.wall.rateNum * s.facets)

/-- A queued job can no longer start before its packet's scheduled instant plus one image period (R219); of a packet with several
copies the latest instant counts (DESIGN CHOICE, log entry 17). -/
def State.skipDue (s : State) (x : EncJob) : Bool :=
  let slots := s.sliceSlots x.job
  !slots.isEmpty && slots.all (fun e => decide (x.imageAt + e.atNs + s.imagePeriodNs ≤ s.now))

/-- `ENCODE_JOB_SKIP` (R219): the first queued job of an engine is dropped. -/
def execEncodeJobSkip (e : Fin 8) (s : State) : Res :=
  match tabGet [] s.enc.queue e.val with
  | [] => .next s
  | x :: rest =>
    if s.skipDue x then
      let j := x.job
      let s1 := { s with enc := { s.enc with queue := tabPut s.enc.queue e.val rest } }
      let s2 := (s1.bump F.ENC_CNT1_SKIPJOB).raise F.ENC_EVT_SKIPJOB
      let s3 := s2.encCount j.facet j.image (fun y => { y with dropped := y.dropped + 1 })
      .next ((s3.putDropped j).jobGone j.facet j.tile j.slice j.image)
    else .next s

/-! ### Images and frames (R227, R233, R235) -/

/-- The payloads of an image of a facet, in ascending Tile and slice (R235). -/
def State.sigBytes (s : State) (f : Nat) (image : Word) : List Byte :=
  let mine := s.enc.payloads.filter (fun p => p.1.1 == f && decide (p.2.image = image))
  let key := fun (p : (Nat × Nat × Nat) × SlicePayload) => 64 * p.1.2.1 + p.1.2.2 % 32
  (mine.mergeSort (fun a b => decide (key a ≤ key b))).flatMap (fun p => p.2.bytes)

/-- Jobs of images before one leave flight: their packets' instants have passed by more than an image period (R132). -/
def State.jobsExpire (s : State) (f : Nat) (image : Word) : State :=
  let l := s.enc.inflight.filter (fun x => x.1.facet.val != f || decide (0 ≤ diff32 x.1.image image))
  if l.length = s.enc.inflight.length then s else s.setInflight l

/-- The hand-over of a facet's image: its signature, and convergence from the P-th image on that was coded (R233, R235). -/
def State.encBoundary (s : State) (f : Nat) (image : Word) : State :=
  let s0 := s.jobsExpire f image
  match s0.encImg f with
  | some x =>
    if x.image = image then
      let s1 := s0.setF (F.ENC_SIG_CRC f) (crc32 (s0.sigBytes f image)).toNat
      let s2 := if x.codedAny then { s1 with enc := { s1.enc with coded := tabPut s1.enc.coded f (tabGet 0 s1.enc.coded f + 1) } } else s1
      if s2.dripP f ≤ tabGet 0 s2.enc.coded f ∧ s2.bit F.ENC_STAT_CONV f = false then
        (s2.raiseBit F.ENC_STAT_CONV f).raiseBit F.ENC_EVT_CONV f
      else s2
    else s0
  | none => s0

/-- A committed change of a facet's period: the phase begins anew with the facet's first image under it (R228). -/
def State.dripChanged (s : State) (f : Nat) (image : Word) : State :=
  let n := s.facets
  let first := (image.toNat + (f + n - image.toNat % n) % n) / n
  { s with enc := { s.enc with nb := tabPut s.enc.nb f first } }

/-- The Tiles of each engine under the variant in force. -/
def State.encTiles (s : State) : State :=
  let v := s.getF F.GOV_STAT_VARIANT
  s.forEach (List.range 8) (fun e t => t.setF (F.ENC_ENG_TILES e)
    ((s.plan.comp.tiles.filter (fun p => s.plan.codec.engineOf v p.id == e)).length))

/-- The share of the last frame that each engine spent coding, of 800 MHz (R216). -/
def State.encFrame (s : State) : State :=
  let cycles := 800000000 * s.plan.wall.rateDen / max 1 s.plan.wall.rateNum
  let s1 := s.forEach (List.range 8) (fun e t => t.setF (F.ENC_ENG_LOAD e) (min 10000 (tabGet 0 s.enc.busy e * 10000 / max 1 cycles)))
  ({ s1 with enc := { s1.enc with busy := [] } }).encTiles

/-- The periods that a commit would put in force lie within the plan's bounds (R227). -/
def State.dripOk (s : State) (w : Word) : Bool :=
  (List.range s.facets).all (fun f => within s.plan.codec.dripMin s.plan.codec.dripMax ((dripFld f).of w))

/-! ### Plan check and load (R66, R70, R222) -/

/-- The Geode blocks of a set in a slice. -/
def geodeCount (g : GeodeSet) (f t k : Nat) : Nat :=
  if g.facets.getLsbD f then (g.blocks.filter (fun b => b.tile == t && b.slice == k)).length else 0

/-- A slice's floor cost under the worst phase, which leaves no block but FLAT, and the worst Geode set (R222). -/
def sliceFloor (c : CompPlan) (d f t k : Nat) : Nat :=
  let g := c.geodeSets.foldl (fun m x => max m (geodeCount x f t k)) 0
  g * floorCost d true false + (32 - g) * floorCost d false true

/-- The slices whose floor cost can pass a default budget: those that a Geode set reaches. -/
def geodeSlices (c : CompPlan) : List (Nat × Nat) :=
  (c.geodeSets.flatMap (fun g => g.blocks.map (fun b => (b.tile, b.slice)))).dedup

/-- Every Packed slice can be coded in floor mode within its budget (R222). -/
def floorOk (p : Plan) : Bool :=
  (List.range p.gov.variants.length).all (fun v => (List.range p.wall.facets).all (fun f =>
    !(nth (nth p.codec.packed v []) f false) || (geodeSlices p.comp).all (fun x => x.1 == 0 ||
      decide (sliceFloor p.comp (depthOf p.comp.outDepth) f x.1 x.2 ≤ 8 * (p.codec.budgetOf v f x.1 x.2 - 16)))))

/-- The encoder parameters of a Head's plan lie within their ranges (R66, R215, R222). -/
def encOk (p : Plan) : Bool :=
  let c := p.codec
  c.grade.all (fun x => within 1 4 x.2.2.2) &&
    c.budget.all (fun x => within (gradeLen (c.gradeOf x.1 x.2.1 x.2.2.1)) 12288 x.2.2.2.2) &&
    c.engine.all (fun x => decide (x.2.2 < 8)) && within 8 64 c.dripMin && within c.dripMin 64 c.dripMax &&
    within c.dripMin c.dripMax c.dripPeriod && c.facetDrip.all (fun x => within c.dripMin c.dripMax x) &&
    c.clearBuf.all (fun x => decide (x.1 < 12) && decide (x.2 < 12)) && c.reconBase.all (fun x => inMemory x.2.2 786432) && floorOk p

/-- `ENC_DRIP` at the start (R70, R227). -/
def State.encLoad (s : State) : State :=
  s.forEach [0, 1, 2, 3] (fun f t => t.setBoth (dripFld f) (nth t.plan.codec.facetDrip f t.plan.codec.dripPeriod))

/-- The encoder starts at release (R233). -/
def State.encRelease (s : State) : State :=
  ({ s with enc := { s.enc with coded := [], image := [], lastCoded := [], vectors := [], nb := [] } }).setF F.ENC_STAT_CONV 0 |>.encTiles

end Sys2Proof.Machine
end

