-- ==== Sys2Proof/Machine/Compose.lean ====
section
/-!
DEFINITION. Composition as a block: held layers, coefficient banks, the checks of a commit, stopping, Flowstone, the
own-panel buffers, and the plan's composition parameters (R162 to R189).
-/

namespace Sys2Proof.Machine

/-! ### Held layers (R165) -/

/-- The stamp of the newest complete store of a source. -/
def State.newestStamp (s : State) (c : Nat) : Nat :=
  (tabGet ({} : Store) (s.src c).stores (s.getF (F.ING_SSTAT_NEWEST c))).stamp

/-- `LAYER_HOLD_EXPIRY` (R165): the layer's hold time has run out while its source is held. -/
def execLayerHoldExpiry (v : Fin 8) (s : State) : Res :=
  match (s.layer v.val).capture with
  | some c =>
    if s.isHead && (nth s.plan.comp.vl v.val {}).onHold != 0 && (s.src c.val).holdFrom.isSome then
      .next { s with cmp := { s.cmp with holdOut := tabPut s.cmp.holdOut v.val (s.newestStamp c.val) } }
    else .next s
  | none => .next s

/-- One held layer at an image boundary: it returns to its source where a newer complete store exists, else it turns
transparent or to its hold colour. -/
def State.holdLayer (s : State) (v stamp : Nat) : State :=
  match (s.layer v).capture with
  | some c =>
    if s.newestStamp c.val ≠ stamp then
      { s with cmp := { s.cmp with holdOut := tabDrop s.cmp.holdOut v, holdShown := s.cmp.holdShown.filter (· != v) } }
    else if s.cmp.holdShown.contains v then s
    else
      let s1 := { s with cmp := { s.cmp with holdShown := v :: s.cmp.holdShown } }
      s1.when ((nth s.plan.comp.vl v {}).onHold == 2) (fun t => t.raise F.CMP_EVT_HOLD_FILL)
  | none => s

/-! ### Coefficient banks (R169) -/

/-- The bank that a pending commit selects for a layer. -/
def State.pendingBank (s : State) (l : Nat) : Option Nat :=
  match s.cfg.pending with
  | some p => (p.vals.find? (fun x => x.1 == A.CMP_LCTL l)).map (fun x => (F.CMP_LCTL_BANK l).of x.2)
  | none => none

/-- A bank that is active or the selection of a pending commit. -/
def State.bankBusy (s : State) (l b : Nat) : Bool :=
  s.actF (F.CMP_LCTL_BANK l) == b || s.pendingBank l == some b

/-- A data write to `CMP_COEFDATA`. -/
def State.coefPut (s : State) (value : BitVec 12) : State :=
  let l := s.getF F.CMP_COEFADDR_LAYER
  let b := s.getF F.CMP_COEFADDR_BANK
  if s.bankBusy l b then s.raise F.CMP_EVT_COEF_BUSY
  else
    let d := s.getF F.CMP_COEFADDR_DIR
    let ph := s.getF F.CMP_COEFADDR_PHASE
    let tap := s.getF F.CMP_COEFADDR_TAP
    let s1 := if d = 1 ∧ 6 ≤ tap then s
      else { s with cmp := { s.cmp with coef := tabPut s.cmp.coef (coefKey l b d ph tap) value } }
    if s1.flag F.CMP_COEFADDR_INC then
      (s1.setF F.CMP_COEFADDR_TAP ((tap + 1) % 8)).setF F.CMP_COEFADDR_PHASE (if tap = 7 then (ph + 1) % 64 else ph)
    else s1

/-- `COEF_WRITE` (R169). -/
def execCoefWrite (who : Initiator) (value : BitVec 12) (s : State) : Res :=
  .next (s.guarded who A.CMP_COEFDATA (fun t => t.coefPut value))

/-- A write of `CMP_COEFCFG`: the bits of a busy bank are kept. -/
def State.coefCfgWrite (s : State) (w : Word) : State :=
  let banks := (List.range 8).flatMap (fun l => [(l, 0), (l, 1)])
  s.forEach banks (fun p t =>
    let fld := F.CMP_COEFCFG_V p.1 p.2
    if fld.of w = t.getF fld then t
    else if t.bankBusy p.1 p.2 then t.raise F.CMP_EVT_COEF_BUSY
    else t.setF fld (fld.of w))

/-! ### Commit checks (R170, R171) -/

/-- Why a commit is refused: layer, pipe, reason, need and size in KiB. -/
structure CmpRefusal where
  layer : Nat
  pipe : Nat := 0
  reason : Nat
  need : Nat := 0
  size : Nat := 0
  deriving DecidableEq, Repr

/-- A bank's used taps sum to 1,024 in every phase. -/
def State.bankSums (s : State) (l b : Nat) : Bool :=
  (List.range 64).all (fun ph =>
    ((List.range 8).map (fun t => s.coef l b 0 ph t)).sum == 1024 &&
      ((List.range (s.vtaps l b)).map (fun t => s.coef l b 1 ph t)).sum == 1024)

/-- The part of an interval that lies in another. -/
def overlap (a alen : Int) (b blen : Int) : Nat := (min (a + alen) (b + blen) - max a b).toNat

/-- The line buffer in bytes that a layer needs in a pipe (R171). -/
def sclNeed (taps width step : Nat) : Nat := if width = 0 then 0 else taps * ((width * step + 4095) / 4096 + 8) * 6

/-- The refusal of one layer under the values `w` that a commit would put in force. -/
def State.layerRefusal (s : State) (w : Nat → Word) (l : Nat) : Option CmpRefusal :=
  let on := (List.range s.facets).any (fun f => ((F.CMP_LEN_LAYERS f).of (w (A.CMP_LEN f))).testBit l)
  let step := w (A.CMP_LSTEP l)
  let h := (F.CMP_LSTEP_STEP_H l).of step
  let v := (F.CMP_LSTEP_STEP_V l).of step
  let b := (F.CMP_LCTL_BANK l).of (w (A.CMP_LCTL l))
  if !on then none
  else if !(within 0x100 0x4000 h && within 0x100 0x2000 v) then some { layer := l, reason := 3 }
  else if !(s.bankSums l b) then some { layer := l, reason := 2 }
  else
    let x := toSigned 16 ((F.CMP_LPOS_X l).of (w (A.CMP_LPOS l)))
    let wd := (F.CMP_LSIZE_W l).of (w (A.CMP_LSIZE l))
    (List.range s.plan.comp.stripes.length).findSome? (fun p =>
      let st := nth s.plan.comp.stripes p (0, 0)
      let need := sclNeed (s.vtaps l b) (overlap x wd st.1 st.2) h
      let have_ := nth (nth s.plan.comp.vl l {}).sclKib p 48
      if have_ * 1024 < need then
        some { layer := l, pipe := p, reason := 1, need := min 255 ((need + 1023) / 1024), size := have_ }
      else none)

/-- The first refusal of a commit by composition, in order of layer, then of pipe. -/
def State.cmpRefusal (s : State) (w : Nat → Word) : Option CmpRefusal :=
  (List.range 8).findSome? (fun l => s.layerRefusal w l)

/-- The refusal in `CMP_REFUSE`. -/
def State.recordRefusal (s : State) (r : CmpRefusal) : State :=
  ((((s.setF F.CMP_REFUSE_LAYER r.layer).setF F.CMP_REFUSE_PIPE r.pipe).setF F.CMP_REFUSE_REASON r.reason).setF
    F.CMP_REFUSE_NEED_KIB r.need).setF F.CMP_REFUSE_HAVE_KIB r.size

/-! ### Stopping (R174, R183) -/

/-- `CMP_CTL.STOP` written. -/
def State.cmpStop (s : State) (v : Bool) : State :=
  if v then
    if s.getF F.GEO_STAT_ACTIVE ≠ 31 then s.raise F.CMP_EVT_STOP_GUARD
    else
      let s1 := s.raise F.CMP_CTL_STOP
      if s1.getF F.CMP_STAT_STATE = 2 then s1.setF F.CMP_STAT_STATE 1 else s1
  else (s.setF F.CMP_CTL_STOP 0).setF F.CMP_STAT_STATE 2

/-- Composition is idle (R174). -/
def State.cmpIdle (s : State) : Bool := s.flag F.CMP_CTL_STOP && s.getF F.CMP_STAT_STATE == 0

/-! ### Flowstone (R176 to R178) -/

/-- A rebuild begun: it reads the buffers of the group as they stand in the epoch in force (R178). -/
def State.flowStart (s : State) : State :=
  let reads := s.plan.comp.group.map (fun l => (l, s.actF (F.SCN_LBASE_ADDR l)))
  ({ s with cmp := { s.cmp with flowDone := none, flowReads := reads } }).setF F.CMP_STAT_FLOW 2

/-- A rebuild in progress abandoned. -/
def State.flowAbandon (s : State) : State :=
  if s.flowBuilding then (s.bump F.CMP_FLOW_ABANDONED).raise F.CMP_EVT_FLOW_ABANDON
  else s

/-- A write of 1 to FLOW_REQ. -/
def State.flowRequest (s : State) : State :=
  if s.getF F.CMP_STAT_FLOW = 0 then s else s.flowAbandon.flowStart

/-- A write of `CMP_CTL`. -/
def State.cmpCtlWrite (s : State) (w : Word) : State :=
  let stop := F.CMP_CTL_STOP.of w == 1
  let guard := stop && s.getF F.GEO_STAT_ACTIVE != 31
  let s1 := if stop = s.flag F.CMP_CTL_STOP ∧ guard = false then s else s.cmpStop stop
  s1.when (F.CMP_CTL_FLOW_REQ.of w == 1) (fun t => t.flowRequest)

/-- `COMP_STOP` (R174, R183). -/
def execCompStop (who : Initiator) (s : State) : Res := .next (s.guarded who A.CMP_CTL (fun t => t.cmpCtlWrite 1))

/-- `COMP_START` (R174). -/
def execCompStart (who : Initiator) (s : State) : Res := .next (s.guarded who A.CMP_CTL (fun t => t.cmpCtlWrite 0))

/-- `FLOW_REQ` (R177, R178): STOP keeps its value. -/
def execFlowReq (who : Initiator) (s : State) : Res :=
  .next (s.guarded who A.CMP_CTL (fun t => t.cmpCtlWrite (BitVec.ofNat 32 (t.getF F.CMP_CTL_STOP + 2))))

/-- `FLOW_SETTLE_EXPIRY` (R177). -/
def execFlowSettleExpiry (s : State) : Res :=
  if s.isHead && s.getF F.CMP_STAT_FLOW == 1 then .next s.flowStart else .next s

/-- `FLOW_REBUILD_DONE` (R177, R178): the half not in use holds the group of each facet that enables a layer of it, flattened
from the buffers as they stand now (DESIGN CHOICE, log entry 71). -/
def execFlowRebuildDone (s : State) : Res :=
  if s.isHead && s.flowBuilding && s.memRuns then
    let fs := (List.range s.facets).filter (fun f => !(s.groupLayers f).isEmpty)
    let s1 := s.forEach fs (fun f t => t.flowWrite f (1 - s.cmp.flowHalf))
    .next (({ s1 with cmp := { s1.cmp with flowDone := some s1.now, flowReads := [] } }).bump F.CMP_FLOW_BUILDS)
  else .next s

/-- The registers of the group's layers (R177). -/
def flowRegs (g : List Nat) : List Nat :=
  g.flatMap (fun l => [A.SCN_LBASE l, A.CMP_LPOS l, A.CMP_LSIZE l, A.CMP_LCTL l] ++ (List.range 6).map (fun i => A.CMP_LCM l i))

/-- A commit changed a staged field of a layer of the group, or the enable of one (R177). -/
def State.flowTouched (s : State) (old : State) : Bool :=
  let g := s.plan.comp.group
  (flowRegs g).any (fun a => s.actW a != old.actW a) ||
    [0, 1, 2, 3].any (fun f => g.any (fun l =>
      (s.actF (F.CMP_LEN_LAYERS f)).testBit l != (old.actF (F.CMP_LEN_LAYERS f)).testBit l))

/-- The group made live by a commit (R177, R178). -/
def State.flowLive (s : State) : State :=
  let v := s.getF F.CMP_STAT_FLOW
  if v = 0 then s
  else
    let s1 := s.flowAbandon
    let s2 := s1.when (s1.cmp.flowShown) (fun t => t.raise F.CMP_EVT_FLOW_LIVE)
    ({ s2 with cmp := { s2.cmp with flowShown := false, flowDone := none, flowReads := [] } }).setF F.CMP_STAT_FLOW 1

/-- The group cached, at the first boundary 2 µs or more after the rebuild (R177). -/
def State.flowBoundary (s : State) : State :=
  match s.cmp.flowDone with
  | some t =>
    if s.getF F.CMP_STAT_FLOW = 2 ∧ t + 2000 ≤ s.now then
      (({ s with cmp := { s.cmp with flowShown := true, flowDone := none, flowHalf := 1 - s.cmp.flowHalf } }).setF
        F.CMP_STAT_FLOW 3).raise F.CMP_EVT_FLOW_CACHED
    else s
  | none => s

/-- Composition at an image boundary: a stop that waited takes effect, held layers and the cache follow. -/
def State.cmpBoundary (s : State) : State :=
  let s1 := if s.getF F.CMP_STAT_STATE = 1 then s.setF F.CMP_STAT_STATE 0 else s
  (s1.forEach s1.cmp.holdOut (fun p t => t.holdLayer p.1 p.2)).flowBoundary

/-! ### Own-panel buffers (R188) -/

/-- The slot in progress reads a half of a facet's own-panel buffers (R188, R245). -/
def State.ownRead (s : State) (f half : Nat) : Bool :=
  match s.lmp.slot with
  | some x => x.facet == f && x.shown == 0 && x.buf == 2 * f + half
  | none => false

/-- The own panel's image of a facet written into its buffer (R188). -/
def State.ownWrite (s : State) (f half : Nat) (image : Word) : State :=
  s.forEach (List.range 256) (fun r t => t.lpddrPut (t.ownBase f half + 1536 * r) (t.panelRow t.plan.comp.own f r image))

/-- `OWN_BUFFER_COMPLETE` (R188): all rows of the image of facet `f` in scan-out are written, its last canvas line composed.
Composition does not write a buffer that a slot still reads. -/
def execOwnBufferComplete (f : Fin 4) (s : State) : Res :=
  let image := s.facetImage f.val
  let half := image.toNat / s.facets % 2
  if s.composing && decide (f.val < s.facets) && image == s.imageNow && s.lineComposed (panelLine s.plan.comp.own 0 256) &&
      !(s.ownRead f half) then
    let s1 := s.ownWrite f half image
    .next { s1 with cmp := { s1.cmp with ownDone := tabPut s1.cmp.ownDone (f.val, half) image } }
  else .next s

/-! ### Plan check and load (R66, R70, R176, R189) -/

/-- A panel lies on the canvas. -/
def panelOk (c : CompPlan) (p : PanelMap) : Bool :=
  decide (p.x0 + 256 ≤ c.canvasW) && decide (p.y0 + 256 ≤ c.canvasH) && decide (p.orient < 8)

/-- The stripes, in the order of their columns, cover the canvas from a column on without a gap. -/
def stripesFrom (w : Nat) : Nat → List (Nat × Nat) → Bool
  | x, [] => x == w
  | x, p :: rest => p.1 == x && decide (0 < p.2) && stripesFrom w (x + p.2) rest

/-- The group is graphic layers that lie together in the stack (R176). -/
def groupOk (c : CompPlan) : Bool :=
  match c.flow with
  | none => true
  | some (a, b) =>
    decide (8 ≤ a) && decide (a < 16) && decide (8 ≤ b) && decide (b < 16) &&
      decide (c.z.findIdx (· == a) ≤ c.z.findIdx (· == b)) && c.group.all (fun l => decide (8 ≤ l))

/-- A layer's parameters (R66). -/
def layerOk (l : LayerPlan) : Bool :=
  within 1 16383 l.srcW && within 1 16383 l.srcH && within 48 1000 l.sdrWhiteNits && within 1000 1500 l.hlgGamma1000 &&
    within 100 10000 l.hlgPeakNits && decide (l.tf ≤ 4) && decide (l.fmt ≤ 3) && decide (l.depth ≤ 2) && l.base % 4096 == 0 &&
    l.gamut.all (fun v => decide (-32768 ≤ v) && decide (v ≤ 32767))

/-- A coefficient bank's parameters (R168, R169). -/
def bankParamsOk (b : CoefBank) : Bool :=
  (b.h ++ b.v).all (fun c => decide (-2048 ≤ c) && decide (c ≤ 2047)) && (b.vtaps == 2 || b.vtaps == 4 || b.vtaps == 6)

/-- A video layer's parameters (R165, R169, R171), with `pipes` pipes. -/
def videoOk (pipes : Nat) (v : VideoPlan) : Bool :=
  decide (v.onHold ≤ 2) && decide (v.holdMs ≤ 60000) && v.holdRgb.all (fun c => decide (c < 65536)) && bankParamsOk v.bankA &&
    bankParamsOk v.bankB && (List.range pipes).all (fun p => within 8 192 (nth v.sclKib p 48) && nth v.sclKib p 48 % 4 == 0)

/-- The Geode sets of a plan (R179): numbers, panels, and code values at the output depth. -/
def setOk (d : Nat) (g : GeodeSet) : Bool :=
  decide (g.num < 16) && g.blocks.all (fun b => decide (b.tile < 1020) && decide (b.slice < 32) && decide (b.block < 32) &&
    b.samples.length == 192 && b.samples.all (fun v => decide (v < 2 ^ d)))

/-- The composition parameters of a Head's plan (R66, R176, R189). -/
def compOk (c : CompPlan) (pipes : Nat) : Bool :=
  within 256 16384 c.canvasW && within 256 16383 c.canvasH && c.stripes.length == pipes &&
    stripesFrom c.canvasW 0 (c.stripes.mergeSort (fun a b => decide (a.1 ≤ b.1))) &&
    c.z.length == 16 && (List.range 16).all (fun l => c.z.contains l) && groupOk c && c.layers.all layerOk &&
    c.tiles.all (fun p => panelOk c p && within 1 1019 p.id) && panelOk c c.own && within 1 240 c.flowSettle &&
    c.bg.all (fun v => decide (v < 65536)) && decide (c.wsPrimaries ≤ 2) && decide (c.wsTransfer ≤ 3) &&
    within 48 1000 c.wsSdrWhiteNits && decide (c.outDepth ≤ 2) && decide (c.dither ≤ 2) &&
    c.flowBase.all (fun b => b.1 % 4096 == 0 && b.2 % 4096 == 0) && c.ownBuf.all (fun b => inMemory b.1 393216 && inMemory b.2 393216) &&
    within 1 240 c.geodeLead && decide (c.geodePattern < 4) && c.geodeFault.all (fun v => decide (v < 256)) &&
    decide (c.geodeSets.length ≤ 16) && c.geodeSets.all (setOk (depthOf c.outDepth)) && c.vl.all (videoOk pipes) &&
    decide (((List.range 8).flatMap (fun v => (List.range pipes).map (fun p => nth (nth c.vl v {}).sclKib p 48))).sum ≤ 1536)

/-- The tap-count code of a bank. -/
def vtapsCode (n : Nat) : Nat := match n with | 4 => 1 | 2 => 2 | _ => 0

/-- One layer's registers at the start (R70). -/
def State.layerLoad (s : State) (l : Nat) : State :=
  let p := nth s.plan.comp.live l {}
  let s1 := ((((s.setBoth (F.CMP_LPOS_X l) p.x).setBoth (F.CMP_LPOS_Y l) p.y).setBoth (F.CMP_LSIZE_W l) p.w).setBoth
    (F.CMP_LSIZE_H l) p.h).setBoth (F.CMP_LCTL_ALPHA l) p.alpha
  let s2 := s1.setBoth (F.SCN_LBASE_ADDR l) ((s.layer l).base / 4096)
  let s3 := if l < 8 then
      ((s2.setBoth (F.CMP_LSTEP_STEP_H l) p.stepH).setBoth (F.CMP_LSTEP_STEP_V l) p.stepV).setBoth (F.CMP_LCTL_BANK l) p.bank
    else s2
  s3.forEach (List.range 12) (fun i t => t.setBoth (F.CMP_LCM_E l i) (nth p.matrix i (if i = 0 ∨ i = 4 ∨ i = 8 then 8192 else 0)))

/-- The composition registers at the start (R70). -/
def State.compLoad (s : State) : State :=
  let c := s.plan.comp
  let s1 := (((s.setF F.CMP_OUT_DEPTH c.outDepth).setF F.CMP_OUT_TRANSFER c.wsTransfer).setF F.CMP_OUT_PRIM c.wsPrimaries).setF
    F.CMP_OUT_DITHER c.dither
  let s2 := s1.forEach [0, 1, 2, 3] (fun f t => t.setBoth (F.CMP_LEN_LAYERS f) (nth c.enables f 0))
  let s3 := s2.forEach (List.range 16) (fun l t => t.layerLoad l)
  let s4 := s3.forEach (List.range 8) (fun l t =>
    let v := nth c.vl l {}
    (t.setF (F.CMP_COEFCFG_V l 0) (vtapsCode v.bankA.vtaps)).setF (F.CMP_COEFCFG_V l 1) (vtapsCode v.bankB.vtaps))
  s4.setF F.CMP_STAT_FLOW (if c.flow.isSome then 1 else 0)

end Sys2Proof.Machine
end

