-- ==== Sys2Proof/Machine/Transmit.lean ====
section
/-!
DEFINITION. What a Head sends in the slots of the plan's schedule (R128, R131, R132, R218, R234, R320, R321, R334, R338,
R451).
-/

namespace Sys2Proof.Machine

/-! ### Own packets -/

/-- A packet of the device's own put where it waits: a Head's for its slots of the schedule, a Tile's for its window
(R132, R133). -/
def State.post (s : State) (p : OutPkt) : State := if s.isHead then s.queueOwn p else s.postOwn p

/-- A Head's chain ports with a role. -/
def State.ringPorts (s : State) : List Nat :=
  (List.range 8).filter (fun n => s.getF (F.LNK_PCFG_ROLE n) == 1 || s.getF (F.LNK_PCFG_ROLE n) == 2)

/-- The header fields that a packet takes as it leaves: SEQ, key epoch, own identifier (R128). -/
def State.number (s : State) (p : OutPkt) : OutPkt × State :=
  if p.numbered then (p, s)
  else
    let r := s.nextSeq (dstKind p.hdr.dst)
    ({ p with hdr := { p.hdr with seq := BitVec.ofNat 32 r.1, keyEp := BitVec.ofNat 6 s.curEp, src := s.srcId },
              numbered := true }, r.2)

/-- A Head may send packets of its own streams (R451). -/
def State.ownStreamsOk (s : State) : Bool := !s.sec.quiet

/-- The first packet of a type that waits for a port, with those before it and those after it. -/
def takeOwn (typ : BitVec 4) (n : Nat) : List OutPkt → Option (List OutPkt × OutPkt × List OutPkt)
  | [] => none
  | p :: rest =>
    if p.hdr.typ = typ ∧ p.ports.contains n = true then some ([], p, rest)
    else (takeOwn typ n rest).map (fun x => (p :: x.1, x.2.1, x.2.2))

/-- The place of a slot among the packets, other than slices, of one SRC 1,022 stream in an image (R128): a stream has one
receiver or goes to all. -/
def pairPlace (l : List SchedEntry) (e : SchedEntry) : Nat :=
  let same := l.filter (fun x => x.pair && x.typ != 1 && x.port == e.port && x.variant == e.variant && x.facet == e.facet &&
    x.dst == e.dst)
  (same.findIdx? (fun x => decide (x = e))).getD 0

/-- The packet of a slot that the schedule gives to the pair (R128): SRC 1,022, and SEQ from the image and its place. -/
def State.pairNumber (s : State) (e : SchedEntry) (p : OutPkt) : OutPkt :=
  let image := s.facetImage e.facet
  let k := 32 + pairPlace s.plan.link.sched e
  let seq := BitVec.ofNat 32 (64 * (image.toNat % 67108864) + k)
  let h : Hdr := { p.hdr with src := 1022, seq := seq, image := image, facet := BitVec.ofNat 2 e.facet, keyEp := BitVec.ofNat 6 s.curEp }
  { p with hdr := h, numbered := true }

/-- The packet that takes a slot of the schedule moved to the port's waiting packets; it keeps its place in the queue
for its other ports. -/
def State.slotOwn (s : State) (e : SchedEntry) : State :=
  let n := e.port
  let due := s.now
  match takeOwn (BitVec.ofNat 4 e.typ) n s.lnk.own with
  | none => s
  | some (pre, p, post) =>
    if !p.hdr.hop && !e.pair && !s.ownStreamsOk then s
    else
      let r := if p.hdr.hop || p.numbered then (p, s) else if e.pair then (s.pairNumber e p, s) else s.number p
      let left := r.1.ports.filter (· != n)
      let keep := if left.isEmpty then [] else [{ r.1 with ports := left }]
      let s1 := { r.2 with lnk := { r.2.lnk with own := pre ++ keep ++ post } }
      s1.setPort n { s1.port n with wait := (s1.port n).wait ++ [{ r.1 with ports := [n], due := due }] }

/-! ### Slices (R128, R131, R234, R338) -/

/-- On a ring that it shares, a Head that is not the owner holds back a facet's slices: it has not converged, or its
signatures differ (R234, R338). The end-A Head of a refused pair runs its ring ports as lines and sends (R321). -/
def State.sliceHeld (s : State) (n f : Nat) : Bool :=
  s.paired && s.sharedList.contains n && s.duty != 2 && !(s.flag F.RED_STAT_PAIR_REFUSED) &&
    (!(s.bit F.ENC_STAT_CONV f) || s.enc.held.getLsbD f)

/-- A failed Head sends no slice and no ANNOUNCE (R334); the end-B Head of a refused pair sends none, and no other packet of
the pair, on the ports of their rings (R19, R321). -/
def State.mute (s : State) (n : Nat) : Bool :=
  s.failedHead || (s.flag F.RED_STAT_PAIR_REFUSED && s.plan.red.endB && s.sharedList.contains n)

/-- No later packet of the same stream is scheduled in the image. -/
def lastOfStream (l : List SchedEntry) (e : SchedEntry) : Bool :=
  l.all (fun x => !(x.port == e.port && x.variant == e.variant && x.facet == e.facet && x.typ == 1 && x.dst == e.dst &&
    decide (e.atNs < x.atNs)))

/-- The header of a slice's packet (R118, R128). -/
def State.sliceHdr (s : State) (e : SchedEntry) (image : Word) : Hdr :=
  let packed := s.isPacked image e.facet
  let geo := !(s.geodeIn e.facet e.dst e.slice).isEmpty
  let len := if packed then s.plan.codec.budgetOf (s.variantFor image) e.facet e.dst e.slice
    else 768 * s.outDepth + (if geo then 8 else 0)
  { typ := 1, prot := BitVec.ofNat 2 s.plan.link.prot, dst := BitVec.ofNat 10 e.dst, keyEp := BitVec.ofNat 6 s.curEp, src := 1022,
    facet := BitVec.ofNat 2 e.facet, seq := BitVec.ofNat 32 (64 * (image.toNat % 67108864) + e.slice), image := image,
    len := BitVec.ofNat 16 len, geode := geo, last := lastOfStream s.plan.link.sched e }

/-- A slice is on its way: its job is in flight. -/
def State.jobFlying (s : State) (f t k : Nat) (image : Word) : Bool :=
  s.enc.inflight.any (fun x => x.1.isOf f t k image)

/-! ### The schedule (R132) -/

/-- Some packet of a state copy still waits to leave. -/
def State.copyWaits (s : State) (epoch : Word) : Bool :=
  (s.lnk.own ++ (List.range 8).flatMap (fun n => (s.port n).wait)).any (fun p =>
    match p.body with
    | .copy m => m.epoch == epoch
    | _ => false)

/-- The last packet of a copy has left: the copy is complete (R335). -/
def State.copyLeft (s : State) (b : Body) : State :=
  match b with
  | .copy m => if s.copyWaits m.epoch then s else (s.setF F.RED_COPY_EPOCH m.epoch.toNat).raise F.RED_EVT_COPY_DONE
  | _ => s

/-- The first waiting packet of a port begun, where the port is free and can send it, and its contents are ready. One that
cannot begin waits on (R132). A slice that was dropped has no packet. -/
def State.pumpPort (s : State) (n : Nat) : State :=
  match (s.port n).wait with
  | [] => s
  | p :: rest =>
    if !(s.portFree n) then s
    else
      let s1 := s.setPort n { s.port n with wait := rest }
      match p.body with
      | .slice f t k =>
        match s.payloadOf f t k p.hdr.image with
        | some y =>
          let h := { p.hdr with len := BitVec.ofNat 16 y.bytes.length }
          if y.state = .dropped then s1.sliceGone f t k p.hdr.image
          else if y.state = .ready ∧ s.canPut n h = true then (s1.putOnPort n h (.bytes y.bytes)).sliceGone f t k p.hdr.image
          else s
        | none => if s.jobFlying f t k p.hdr.image then s else s1
      | _ =>
        let h := if p.hdr.hop then { p.hdr with keyEp := BitVec.ofNat 6 s.curEp, src := s.srcId } else p.hdr
        if s.canPut n h then (if p.hdr.hop then s1.sendHop n p.hdr p.body else s1.putOnPort n p.hdr p.body).copyLeft p.body
        else s

/-- The packet of a slot of the schedule put in its port's queue. -/
def State.slotDue (s : State) (e : SchedEntry) : State :=
  if e.typ = 1 then
    let image := s.facetImage e.facet
    if s.mute e.port || s.sliceHeld e.port e.facet then s.sliceGone e.facet e.dst e.slice image
    else
      let p : OutPkt := { ports := [e.port], hdr := s.sliceHdr e image, body := .slice e.facet e.dst e.slice, due := s.now }
      s.setPort e.port { s.port e.port with wait := (s.port e.port).wait ++ [p] }
  else if e.typ = 2 then
    if s.mute e.port || !s.selects || !(s.flag F.GOV_STAT_PEND_VALID) || !s.ownStreamsOk then s
    else
      let h : Hdr := { typ := 2, prot := 2, dst := 1023, len := 8 }
      let r := s.number { ports := [e.port], hdr := h, body := .announce (s.getF F.GOV_STAT_PENDING) s.gov.pendFirst, due := s.now }
      r.2.setPort e.port { r.2.port e.port with wait := (r.2.port e.port).wait ++ [r.1] }
  else if (e.typ = 3 ∨ e.typ = 9) ∧ s.failedHead = true then s
  else if e.pair && s.mute e.port then s
  else s.slotOwn e

/-- `SCHEDULED_PACKET_DUE` (R132): a slot of the schedule of the variant in force. -/
def execScheduledPacketDue (e : SchedEntry) (s : State) : Res :=
  if s.isHead && s.released && decide (e.port < 8) && e.variant == s.getF F.GOV_STAT_VARIANT then
    .next ((s.slotDue e).pumpPort e.port)
  else .next s

/-- `TX_PACKET_LATE` (R132): the oldest packet waiting on a port is discarded. -/
def execTxPacketLate (n : Fin 8) (s : State) : Res :=
  match (s.port n).wait with
  | [] => .next s
  | p :: rest =>
    let s1 := ((s.setPort n { s.port n with wait := rest }).bump F.LNK_TXSTAT_LATE).raise F.LNK_EVT_LATE
    .next (match p.body with
      | .slice f t k => s1.sliceGone f t k p.hdr.image
      | _ => s1)

end Sys2Proof.Machine
end

