-- ==== Sys2Proof/Machine/Time.lean ====
section
/-!
DEFINITION. Chain time and frame lock: genlock (R147, R148, R311, R312), path delays, SYNC and the choice of its source
(R303 to R310), IEEE 1588 (R317), the steering of the VPLL (R44), the offsets of the next frame (R153, R314).
-/

namespace Sys2Proof.Machine

/-! ### Frames on a Head (R311, R312, R314) -/

/-- The frame period in units of 1/16 ns (R311). -/
def WallPlan.period16 (p : WallPlan) : Nat := roundNear (16000000000 * p.rateDen) p.rateNum

/-- The frame period in TB0 units of 1/256 ns. -/
def State.framePeriod (s : State) : Nat := 16 * s.tim.period

/-- An offset in lines as OFS, in units of 1/16 ns (R314). -/
def State.lineOfs (s : State) (lines : Nat) : Nat := roundNear (lines * s.tim.period) (max 1 (s.plan.ingest.vtotal * s.facets))

/-- The facet offsets for lines. -/
def State.ofsOf (s : State) (l : List Nat) : List Nat := (List.range 4).map (fun f => if f < s.facets then s.lineOfs (nth l f 0) else 0)

/-- How many boundaries after the current one the instant lies nearest to, and its offset from that boundary, in 1/256 ns
(R311, R312). -/
def State.nearBoundary (s : State) (x : Nat) : Int × Int :=
  let p : Int := s.framePeriod
  let d := tbDiff x s.tim.fb
  let k := (2 * d + p) / (2 * p)
  (k, d - k * p)

/-! ### Genlock (R147, R148, R311, R312) -/

/-- An instant lies within ±500 ppm of the expected one (R148). -/
def State.glkWindow (s : State) (last : Nat) : Bool :=
  let p := s.plan.wall
  let t : Int := 1000000000 * p.rateDen
  let d := ((s.now : Int) - last) * p.rateNum - (s.ing.glkMiss + 1) * t
  decide (2000 * d.natAbs ≤ t.natAbs)

/-- TB0 steered by a reference instant while genlock is valid (R311, R312). -/
def State.glkSteer (s : State) : State :=
  if s.tbSrc 0 != 1 || s.tim.period == 0 then s
  else
    let r := s.nearBoundary (s.tbVal 0 + s.plan.ingest.phaseNs * 256)
    let far := s.tbState 0 != 2 && decide (s.plan.time.stepNs * 256 < r.2.natAbs)
    if far then
      let s1 := ((s.shiftTb 0 (-r.2)).raise F.TIM_EVT_STEP).softBlank
      let n := s1.getF F.TIM_FRAME_FRAME + (r.1 - 1).toNat
      let s2 := s1.setF F.TIM_FRAME_FRAME (n % 2 ^ 32)
      let s3 := { s2 with tim := { s2.tim with fb := (s2.tim.fb + (r.1 - 1).toNat * s2.framePeriod) % 2 ^ 40 } }
      (s3.slewTb 0 s3.plan.time.glkBw100 0).tbTo 0 2
    else (s.slewTb 0 s.plan.time.glkBw100 r.2).tbTo 0 2

/-- Genlock became invalid (R148). -/
def State.glkLose (s : State) (evt : Fld) : State :=
  let s1 := (s.setF F.SCN_STAT_GLK 3).raise evt
  s1.when (s1.tbSrc 0 == 1) (fun t => t.tbLose 0)

/-- Genlock is listened to: a Head with a reference selected (R147). -/
def State.glkOn (s : State) : Bool := s.isHead && decide (s.plan.ingest.glk ≠ .none) && s.getF F.SCN_STAT_GLK != 0

/-- The last reference instant replaced, none missing since. -/
def State.glkTake (s : State) : State := { s with ing := { s.ing with glkLast := some s.now, glkMiss := 0 } }

/-- An instant is one of the reference that the plan selects (R147): of its kind, and of the second field only where each field
counts. -/
def State.glkCounts (s : State) (src : GlkSource) (second : Bool) : Bool :=
  s.plan.ingest.glk == src && (!second || (src == .biLevel && s.plan.ingest.fieldRef))

/-- `GENLOCK_INSTANT` (R147, R148, R311). -/
def execGenlockInstant (src : GlkSource) (second : Bool) (s : State) : Res :=
  if !s.glkOn || !(s.glkCounts src second) then .next s
  else
    match s.ing.glkLast with
    | none => .next s.glkTake
    | some t =>
      if s.glkWindow t then
        let s1 := s.when (s.ing.glkMiss == 0 && s.getF F.SCN_STAT_GLK != 2)
          (fun u => (u.setF F.SCN_STAT_GLK 2).raise F.SCN_EVT_GLK_VALID)
        let s2 := s1.glkTake
        .next (s2.when (s2.getF F.SCN_STAT_GLK == 2) State.glkSteer)
      else .next (s.glkTake.when (s.getF F.SCN_STAT_GLK == 2) (fun u => u.glkLose F.SCN_EVT_GLK_RATE))

/-- `GENLOCK_INSTANT_MISSING` (R148): two in a row lose genlock. -/
def execGenlockInstantMissing (s : State) : Res :=
  if !s.glkOn || s.ing.glkLast.isNone then .next s
  else
    let m := s.ing.glkMiss + 1
    let s1 := { s with ing := { s.ing with glkMiss := m } }
    .next (s1.when (decide (2 ≤ m) && s1.getF F.SCN_STAT_GLK == 2) (fun u => u.glkLose F.SCN_EVT_GLK_LOST))

/-! ### Sending SYNC, DREQ and DRESP (R303 to R306, R310) -/

/-- A SYNC packet sent on a port, stamped with TB0 at its departure (R303, R304). -/
def State.sendSync (s : State) (n : Nat) (m : SyncMsg) : State :=
  let dep := s.clearAt n
  let t0 := s.tbAt 0 dep
  let id := ((s.port n).seqId + 1) % 256
  let diff := fun i => if m.kind = 0 then ofSigned 40 ((s.tbAt i dep : Int) - t0) else 0
  let m1 := { m with seqId := if m.kind = 2 then m.seqId else id, tTx := t0, tb1Diff := diff 1, tb2Diff := diff 2, tb3Diff := diff 3 }
  let s1 := if m.kind = 2 then s else s.setPort n { s.port n with seqId := id }
  let s2 := if m.kind = 1 then s1.setPort n { s1.port n with dreq := some (id, t0) } else s1
  s2.sendHop n { typ := 6, prot := 1, len := 64 } (.sync m1)

/-- The ports that are UP. -/
def State.upPorts (s : State) : List Nat := s.portList.filter (fun n => s.portUp n)

/-- VALID as a root sends it (R305): the time bases that are LOCKED, and TB0 without a source. -/
def State.validBits (s : State) : BitVec 4 :=
  BitVec.ofNat 4 (([0, 1, 2, 3].filter (fun i => s.tbState i == 2 || (i == 0 && s.tbSrc 0 == 0))).foldl (fun a i => a + 2 ^ i) 0)

/-- The SYNC of a Head at a boundary (R310, R314); a failed Head sends none (R334). -/
def State.headSync (s : State) : State :=
  if !s.isHead || !s.tim.running || s.tim.period == 0 || s.failedHead then s
  else
    s.forEach s.upPorts (fun n t =>
      t.sendSync n {
        hops := 1, valid := t.validBits, endB := t.getF (F.LNK_PCFG_ROLE n) == 2, settled := t.flag F.TIM_STAT_SETTLED,
        frame := BitVec.ofNat 32 (t.getF F.TIM_FRAME_FRAME + 1), fb := (t.tim.fb + t.framePeriod) % 2 ^ 40,
        period := t.tim.period, ofs := t.ofsOf t.tim.nextLines, wraps := t.tim.wraps })

/-- `DREQ_PERIOD` (R306): on every port that is UP. -/
def execDreqPeriod (s : State) : Res :=
  if s.tim.running then .next (s.forEach s.upPorts (fun n t => t.sendSync n { kind := 1, hops := 0 })) else .next s

/-- A DREQ answered (R306). -/
def State.dreqRx (s : State) (n seqId sub : Nat) : State :=
  if s.tim.running && s.portUp n then
    s.sendSync n { kind := 2, hops := 0, seqId := seqId, tRx := (s.tbVal 0 + sub) % 2 ^ 40 }
  else s

/-- `DREQ_RECEIVED` (R306). -/
def execDreqReceived (n : Fin 8) (seqId : Byte) (sub : Fin 256) (s : State) : Res := .next (s.dreqRx n.val seqId.toNat sub.val)

/-- A path delay entered in its port's average (R306); results are kept as twice the mean, exact. -/
def State.addDelay (s : State) (n : Nat) (d : Int) : State :=
  let l := (d :: (s.port n).delays).take 16
  let q : Int := 2 * l.length
  let avg := if l.sum % q = 0 then l.sum / q else Config.roundDiv l.sum q
  (s.setPort n { s.port n with delays := l, dreq := none }).setF (F.TIM_DELAY_MEAN n) (ofSigned 24 avg)

/-- A DRESP taken (R306). -/
def State.drespRx (s : State) (n seqId tRx tTx sub : Nat) : State :=
  match (s.port n).dreq with
  | some (id, t3) =>
    if id = seqId ∧ s.tim.running = true then
      s.addDelay n (tbDiff ((s.tbVal 0 + sub) % 2 ^ 40) t3 - tbDiff tTx tRx)
    else s
  | none => s

/-- `DRESP_RECEIVED` (R306). -/
def execDrespReceived (n : Fin 8) (seqId : Byte) (tRx : BitVec 40) (tTx : BitVec 40) (sub : Fin 256) (s : State) : Res :=
  .next (s.drespRx n.val seqId.toNat tRx.toNat tTx.toNat sub.val)

/-- `DRESP_TIMEOUT` (R306): the DREQ is dropped. -/
def execDrespTimeout (n : Fin 8) (s : State) : Res := .next (s.setPort n { s.port n with dreq := none })

/-! ### Choosing a source (R307) -/

/-- A port's last usable SYNC is preferred to another's: fewer hops, then the port whose own end it names. -/
def State.syncBetter (s : State) (a b : Nat × SyncMsg) : Bool :=
  let own := fun (x : Nat × SyncMsg) => (s.getF (F.LNK_PCFG_ROLE x.1) == 2 || s.getF (F.LNK_PCFG_ROLE x.1) == 4) == x.2.endB
  decide (a.2.hops < b.2.hops) || (a.2.hops == b.2.hops && own a && !own b)

/-- The ports with a usable SYNC. -/
def State.syncPorts (s : State) : List (Nat × SyncMsg) := s.portList.filterMap (fun n => ((s.port n).sync).map (fun m => (n, m)))

/-- The best of the ports with a usable SYNC. -/
def State.syncBest (s : State) : List (Nat × SyncMsg) → Option (Nat × SyncMsg)
  | [] => none
  | x :: rest =>
    match s.syncBest rest with
    | none => some x
    | some y => if s.syncBetter y x then some y else some x

/-- The followed port replaced. -/
def State.followTo (s : State) (n : Option Nat) : State :=
  let old := s.tim.follow
  let s1 := { s with tim := { s.tim with follow := n, challenger := none } }
  let s2 := s1.when (old.isSome && n.isSome && old != n) (fun t => t.raise F.TIM_EVT_SWITCH)
  match n with
  | some k => if s2.isHead then s2 else s2.setF F.TIM_STAT_PORT k
  | none =>
    let s3 := if s2.isHead then s2 else ((s2.setF F.TIM_STAT_PORT 0).setF F.TIM_STAT_HOPS 0).setF F.TIM_STAT_END 0
    s3.forEach ([0, 1, 2, 3].filter (fun i => s3.tbSrc i == 2)) (fun i t => t.tbLose i)

/-- The choice after a SYNC (`counts`) or after a port dropped out (R307). -/
def State.chooseSource (s : State) (counts : Bool) : State :=
  let ports := s.syncPorts
  match s.syncBest ports with
  | none => if s.tim.follow.isSome then s.followTo none else s
  | some (b, _) =>
    match s.tim.follow with
    | none => s.followTo (some b)
    | some f =>
      if f = b then { s with tim := { s.tim with challenger := none } }
      else if !(ports.any (fun p => p.1 == f)) then s.followTo (some b)
      else if counts then
        let c := match s.tim.challenger with | some (k, c) => if k = b then c + 1 else 1 | none => 1
        if 16 ≤ c then s.followTo (some b) else { s with tim := { s.tim with challenger := some (b, c) } }
      else s

/-- `SYNC_SOURCE_TIMEOUT` (R307): the port drops out. -/
def execSyncSourceTimeout (n : Fin 8) (s : State) : Res :=
  .next ((s.setPort n { s.port n with sync := none }).chooseSource false)

/-! ### Following (R308 to R310, R315) -/

/-- A time base follows an offset through the states of R308. -/
def State.followTb (s : State) (i : Nat) (o : Int) : State :=
  let p := s.plan.time
  let s1 := if s.tbState i = 0 ∨ s.tbState i = 3 then s.tbTo i 1 else s
  let far := decide (p.stepNs * 256 < o.natAbs)
  if s1.tbState i = 1 then
    let s2 := if far then s1.stepTb i o else s1.slewTb i p.servoBw100 o
    let g := if o.natAbs ≤ p.lockNs * 256 then (s2.tb i).good + 1 else 0
    let s3 := s2.setTb i { s2.tb i with good := g }
    if 16 ≤ g then s3.tbTo i 2 else s3
  else
    let s2 := s1.slewTb i p.servoBw100 o
    let b := if 10 * p.lockNs * 256 < o.natAbs then (s2.tb i).bad + 1 else 0
    let s3 := s2.setTb i { s2.tb i with bad := b }
    if 4 ≤ b then s3.tbTo i 1 else s3

/-- The delay of the path into a port (R306), in 1/256 ns. -/
def State.pathDelay (s : State) (n : Nat) : Int :=
  (s.getF (F.TIM_DELAY_MEAN n) : Int) + toSigned 16 (s.actF (F.TIM_ASYM_ASYM n))

/-- The announcement of a SYNC from the followed port (R315). -/
def State.takeAnn (s : State) (m : SyncMsg) : State :=
  let own := s.getF F.TIM_FRAME_FRAME
  let odd := s.tim.image.isSome && decide (m.frame.toNat ≠ (own + 1) % 2 ^ 32)
  let s1 := { s with tim := { s.tim with ann := some m, annFresh := true, wraps := m.wraps } }
  (s1.when odd (fun t => t.raise F.TIM_EVT_FRAME_DIFF)).settleEval

/-- A Tile's own SYNC after one it follows (R310). -/
def State.relaySync (s : State) (n : Nat) (m : SyncMsg) : State :=
  s.forEach s.upPorts (fun q t =>
    t.sendSync q { m with kind := 0, hops := m.hops + 1, back := q == n, settled := t.flag F.TIM_STAT_SETTLED, tRx := 0 })

/-- A SYNC from the followed port (R308, R310). -/
def State.followSync (s : State) (n : Nat) (m : SyncMsg) (sub : Nat) : State :=
  let s1 := if s.isHead then s
    else ((s.setF F.TIM_STAT_HOPS m.hops).setB F.TIM_STAT_END m.endB).takeAnn m
  let s2 := if s1.tbSrc 0 = 2 then
      let o := tbDiff ((s1.tbVal 0 + sub) % 2 ^ 40) m.tTx - s1.pathDelay n
      (s1.setF F.TIM_OFS_OFS (ofSigned 32 o)).followTb 0 o
    else s1
  let ref := fun i => if i = 1 then m.tb1Diff else if i = 2 then m.tb2Diff else m.tb3Diff
  let s3 := s2.forEach ([1, 2, 3].filter (fun i => s2.tbSrc i == 2)) (fun i t =>
    t.followTb i (tbDiff (t.tbVal i) ((t.tbVal 0 + ref i) % 2 ^ 40)))
  if s3.isHead then s3 else s3.relaySync n m

/-- A SYNC is usable (R307). -/
def SyncMsg.usable (m : SyncMsg) : Bool := !m.back && m.valid.getLsbD 0

/-- A SYNC payload that R305 discards. -/
def SyncMsg.invalid (m : SyncMsg) : Bool :=
  decide (2 < m.kind) || m.badField || (m.kind == 0 && (m.hops == 0 || decide (25 < m.hops)))

/-- `SYNC_RECEIVED` (R305 to R310). -/
def execSyncReceived (n : Fin 8) (m : SyncMsg) (sub : Fin 256) (s : State) : Res :=
  if m.invalid then .next (s.bump (F.LNK_RXERR_FRAME n))
  else if m.kind = 1 then .next (s.dreqRx n m.seqId sub)
  else if m.kind = 2 then .next (s.drespRx n m.seqId m.tRx m.tTx sub)
  else if !s.tim.running || !m.usable || ([0, 1, 2, 3].all (fun i => s.tbSrc i != 2)) then .next s
  else
    let s1 := (s.setPort n { s.port n with sync := some m }).chooseSource true
    .next (if s1.tim.follow = some n.val then s1.followSync n m sub else s1)

/-! ### IEEE 1588 (R317) -/

/-- What the default best master clock algorithm compares, in its order (PRESUMED, log entry 74). -/
def PtpMaster.rank (m : PtpMaster) : List Nat :=
  [m.priority1.toNat, m.clockClass.toNat, m.accuracy.toNat, m.variance.toNat, m.priority2.toNat, m.grandmaster.toNat,
    m.stepsRemoved.toNat, m.source.toNat]

/-- One rank comes before another. -/
def rankBefore : List Nat → List Nat → Bool
  | a :: l, b :: r => decide (a < b) || (a == b && rankBefore l r)
  | _, _ => false

/-- The best of some masters, one of them in hand. -/
def bestMaster (m : PtpMaster) (l : List PtpMaster) : PtpMaster := l.foldl (fun a b => if rankBefore b.rank a.rank then b else a) m

/-- The selected master (R317). -/
def PtpState.master (p : PtpState) : Option PtpMaster := p.masters.head?.map (fun m => bestMaster m p.masters)

/-- The ordinary clock replaced. -/
def State.setPtp (s : State) (p : PtpState) : State := { s with tim := { s.tim with ptp := p } }

/-- An announce: its sender's description replaced, and the best master selected. A change of master drops the exchange in
progress with the old one. -/
def State.ptpAnnounce (s : State) (m : PtpMaster) : State :=
  let p := s.tim.ptp
  let q : PtpState := { p with masters := m :: p.masters.filter (fun x => x.source != m.source) }
  let kept := q.master.map (fun x => x.source) == p.master.map (fun x => x.source)
  let s1 := s.setPtp (if kept then q else { q with wait := none, last := none, asked := none, delay2 := 0 })
  let steps := match q.master with | some x => x.stepsRemoved.toNat | none => 0
  let s2 := ((s1.setF F.TIM_PTPSTAT_DOMAIN s.plan.time.ptpDomain).setF F.TIM_PTPSTAT_STEPS_REMOVED (min 255 steps)).raise
    F.TIM_PTPSTAT_MASTER
  if s2.tbState 3 = 2 then s2 else s2.tbTo 3 1

/-- A Sync complete: TB3 steered by its offset from the master's time, and a delay request sent (R317; DESIGN CHOICE when, log
entry 74). `t1` is the origin, `t2` the arrival. -/
def State.ptpSync (s : State) (t1 t2 : Nat) : State :=
  let p := s.tim.ptp
  let o := tbDiff t2 (t1 % 2 ^ 40) - p.delay2 / 2
  let s1 := s.setPtp { p with wait := none, last := some (t1, t2), asked := some (p.seq + 1, s.tbVal 3), seq := p.seq + 1 }
  let s2 := (s1.slewTb 3 s.plan.time.servoBw100 o).tbTo 3 (if o.natAbs ≤ s.plan.time.lockNs * 4 * 256 then 2 else 1)
  s2.emit (.ptpDelayReq (p.seq + 1))

/-- A delay response: the path delay is half the sum of both directions' times (R317). -/
def State.ptpDelay (s : State) (seq : BitVec 16) (t4 : Nat) : State :=
  let p := s.tim.ptp
  match p.asked, p.last with
  | some (q, t3), some (t1, t2) =>
    if q = seq then s.setPtp { p with asked := none, delay2 := tbDiff t2 (t1 % 2 ^ 40) + tbDiff (t4 % 2 ^ 40) t3 } else s
  | _, _ => s

/-- The domain and the sender of a message. -/
def PtpMsg.from : PtpMsg → Byte × BitVec 80
  | .announce d m => (d, m.source)
  | .sync d x _ _ _ => (d, x)
  | .followUp d x _ _ => (d, x)
  | .delayResp d x _ _ => (d, x)

/-- A message of the domain in use acts: an announce always, the others where the selected master sent them. -/
def State.ptpTake (s : State) (m : PtpMsg) : State :=
  let mine := s.tim.ptp.master.map (fun x => x.source) == some m.from.2
  match m with
  | .announce _ x => s.ptpAnnounce x
  | .sync _ _ seq origin sub =>
    if !mine then s
    else
      let t2 := (s.tbVal 3 + sub.val) % 2 ^ 40
      match origin with
      | some t1 => s.ptpSync t1 t2
      | none => s.setPtp { s.tim.ptp with wait := some (seq, t2) }
  | .followUp _ _ seq t1 =>
    match s.tim.ptp.wait with
    | some (q, t2) => if mine && q == seq then s.ptpSync t1 t2 else s
    | none => s
  | .delayResp _ _ seq t4 => if mine then s.ptpDelay seq t4 else s

/-- `PTP_MESSAGE_RECEIVED` (R317). -/
def execPtpMessageReceived (m : PtpMsg) (s : State) : Res :=
  if s.lan.svcUp && s.tbSrc 3 == 1 && m.from.1.toNat == s.plan.time.ptpDomain then .next (s.ptpTake m) else .next s

/-- `PTP_ANNOUNCE_TIMEOUT` (R317). -/
def execPtpAnnounceTimeout (s : State) : Res :=
  if s.flag F.TIM_PTPSTAT_MASTER then
    let s1 := (s.setPtp { s.tim.ptp with masters := [], wait := none, asked := none }).setF F.TIM_PTPSTAT_MASTER 0
    .next (s1.when (s.tbSrc 3 == 1) (fun t => t.tbLose 3))
  else .next s

/-! ### The VPLL at a frame boundary (R44) -/

/-- The correction moved towards the one needed, in parts per 10^9 (R44): no more than 2 ppm in a frame, and holdover where it
would exceed 500 ppm or TB0 has no reference. After a holdover for the limit, with TB0's reference valid throughout, steering
goes on at the first frame boundary whose need is within the limit again (DESIGN CHOICE, log entry 61). VID_OFFS shows the
correction in units of 0.25 ppm, rounded down (DESIGN CHOICE, log entry 61). -/
def State.vpllSteer (s : State) (need : Int) : State :=
  if s.tbState 0 != 2 || !(s.flag F.CLK_STAT_VID_LOCK) then s
  else if 500000 < need.natAbs then
    s.when (s.flag F.CLK_STAT_VID_STEER) (fun t => (t.setF F.CLK_STAT_VID_STEER 0).raise F.CLK_EVT_HOLDOVER)
  else
    let v := clampI need (s.pwr.vidPpb - 2000) (s.pwr.vidPpb + 2000)
    let s1 := { s with pwr := { s.pwr with vidPpb := v } }
    ((s1.raise F.CLK_STAT_VID_STEER).setF F.CLK_STAT_VID_OFFS (ofSigned 12 (v / 250))).setB F.CLK_STAT_VID_LIMIT
      (v.natAbs == 500000)

/-! ### Plan check and load (R70, R300, R312, R315) -/

/-- The time parameters of a plan (R315 and their ranges). -/
def timeOk (p : Plan) : Bool :=
  let t := p.time
  let hops := p.wall.tilesPerChain.foldl max 0
  t.periodNs.all (fun x => within 1000000 41708375 x || x == 0) && t.asym.all (fun x => decide (-32768 ≤ x) && decide (x ≤ 32767)) &&
    within 1 1000 t.dreqPeriodMs && within 1 1000 t.servoBw100 && within 1 1000 t.glkBw100 && within 1 100 t.lockNs &&
    t.source.all (fun x => decide (x ≤ 2)) && within 100 1000000 t.stepNs && within 1 60 t.settleS && decide (t.ptpDomain ≤ 127) &&
    decide ((hops * 2000 + t.longestPacketNs + 100000) * p.wall.rateNum ≤ 1000000000 * p.wall.rateDen)

/-- The frames that a Head has counted since TIME started (R312). -/
def State.framesSince (s : State) : Nat := (s.now - s.tim.startAt) * 16 / max 1 s.plan.wall.period16

/-- A Head's frames counted from the start of TIME (R312). -/
def State.headFrames (s : State) : State :=
  let n := s.framesSince
  let s1 := s.setF F.TIM_FRAME_FRAME (n % 2 ^ 32)
  let lines := (List.range 4).map (fun f => (nth s1.plan.ingest.facet f {}).offsetLines)
  let t1 := { s1.tim with period := s.plan.wall.period16, fb := n * s.plan.wall.period16 * 16 % 2 ^ 40, nextLines := lines }
  let s2 := { s1 with tim := t1 }
  let s3 := { s2 with tim := { s2.tim with ofs := s2.ofsOf lines } }
  s3.setF F.TIM_FB_NS (s3.tim.fb / 256)

/-- The sources selected as soon as the sections are loaded (R300). -/
def State.timeSources (s : State) : State :=
  let src := fun i => nth s.plan.time.source i 0
  let s1 := s.forEach [0, 1, 2, 3] (fun i t => t.setF (F.TIM_SRC_SRC i) (src i))
  let s2 := if s1.isHead then s1.headFrames else s1
  let on := ([0, 1, 2, 3].filter (fun i => src i == 0 || src i == 3)).foldl (fun a i => a + 2 ^ i) 0
  s2.timCtlWrite (F.TIM_CTL_STOP.put 0 on)

/-- The asymmetries at the start (R70, R306). -/
def State.timeLoad (s : State) : State :=
  let s1 := s.forEach (List.range 8) (fun n t => t.setBoth (F.TIM_ASYM_ASYM n) (ofSigned 16 (nth t.plan.time.asym n 0)))
  s1.setF F.TIM_PTPSTAT_DOMAIN s1.plan.time.ptpDomain

end Sys2Proof.Machine
end

