-- ==== Sys2Proof/Machine/Keys.lean ====
section
/-!
DEFINITION. Chain keys and rekeys (R366, R367, R375 to R378, R451).
-/

namespace Sys2Proof.Machine

/-- The chain keys replaced; `SEC_STAT.CHAINKEY` says whether one is held. -/
def State.setKeys (s : State) (l : List ((Nat × Nat) × Key)) : State :=
  ({ s with sec := { s.sec with keys := l } }).setB F.SEC_STAT_CHAINKEY (!l.isEmpty)

/-- A chain key of an epoch put beside the others. -/
def State.addKey (s : State) (c ep : Nat) (k : Key) : State := s.setKeys (tabPut s.sec.keys (c, ep % 64) k)

/-- Every key of an epoch erased. -/
def State.dropEpoch (s : State) (ep : Nat) : State := s.setKeys (s.sec.keys.filter (fun p => p.1.2 != ep))

/-- The chains of a Head's ring and line ports. -/
def State.headChains (s : State) : List Nat := (s.ringPorts.map (fun n => s.chainOf n)).dedup

/-- A drawn key of an epoch for each of some chains. -/
def State.drawChains (s : State) (ep : Nat) (l : List Nat) : State :=
  s.forEach l (fun c t => let r := t.draw; r.2.addKey c ep r.1)

/-- The first chain keys (R366, R374, R451): drawn at start under a random KEY_EP, while the entropy source is healthy. -/
def State.firstKeys (s : State) : State :=
  if !s.isHead || s.sec.entropyBad || !s.sec.keys.isEmpty then s
  else
    let r := s.choose 64
    let s1 := (r.2.drawChains r.1 r.2.headChains).setF F.SEC_KEYEP_CUR r.1
    { s1 with sec := { s1.sec with epochAt := s1.imageNow } }

/-- A rekey started (R377): the next keys drawn, the switch image set. -/
def State.rekeyStart (s : State) : State :=
  if !s.owns || s.sec.keys.isEmpty || s.sec.entropyBad || s.flag F.SEC_KEYEP_NEXT_VALID then s
  else
    let ep := (s.curEp + 1) % 64
    let s1 := ((s.drawChains ep s.headChains).setF F.SEC_KEYEP_NEXT ep).raise F.SEC_KEYEP_NEXT_VALID
    let s2 := s1.setF F.SEC_SWITCH_IMAGE (s1.imageNow + BitVec.ofNat 32 s1.plan.sec.rekeyLead).toNat
    { s2 with sec := { s2.sec with rekeyOn := true } }

/-- The epoch that a rekey delivers. -/
def State.rekeyEp (s : State) : Nat := if s.flag F.SEC_KEYEP_NEXT_VALID then s.getF F.SEC_KEYEP_NEXT else s.curEp

/-- A KEYX packet queued (R121, R372); a device under a debug unlock sends none (R384). -/
def State.postKeyx (s : State) (ports : List Nat) (dst : BitVec 10) (m : KeyxMsg) : State :=
  if s.flag F.SEC_STAT_DEBUG then s
  else s.post { ports := ports, hdr := { typ := 10, dst := dst, src := s.srcId, len := 496 }, body := .keyx m }

/-- The ports of a Head that carry a chain. -/
def State.chainPorts (s : State) (c : Nat) : List Nat := s.ringPorts.filter (fun n => s.chainOf n == c)

/-- The roster with a Tile's entry replaced. -/
def rosterPut (l : List RosterEntry) (r : RosterEntry) : List RosterEntry :=
  l.filter (fun x => x.serial != r.serial && x.id != r.id) ++ [r]

/-- The roster's entry of a serial. -/
def State.rosterOf (s : State) (x : Serial) : Option RosterEntry := s.sec.roster.find? (fun r => r.serial == x)

/-- The state with the roster replaced. -/
def State.setRoster (s : State) (l : List RosterEntry) : State := { s with sec := { s.sec with roster := l } }

/-- A key delivered to a Tile in step 3 (R372, R373), wrapped under its enrolment key with the next nonce. -/
def State.sendKey (s : State) (r : RosterEntry) (ep : Nat) : State :=
  match s.chainKey r.chain.val ep, r.ek with
  | some k, some ek =>
    let now := (s.rosterOf r.serial).getD r
    let next := s.flag F.SEC_KEYEP_NEXT_VALID && ep == s.getF F.SEC_KEYEP_NEXT
    let head := keyxHead 3 r.chain.val r.id.toNat r.serial s.shadow.serial ep (if next then s.getW A.SEC_SWITCH else 0)
    let s1 := s.setRoster (rosterPut s.sec.roster { now with wraps := now.wraps + 1 })
    s1.postKeyx (s1.chainPorts r.chain.val) (if r.assigned then r.id else 0)
      { src := s1.srcId, bytes := keyxKey head ek (now.wraps + 1) k }
  | _, _ => s

/-- Every assigned Tile has acknowledged the key that the rekey delivers (R377). -/
def State.rekeyAcked (s : State) : Bool := s.sec.roster.all (fun r => !r.assigned || r.acks.contains s.rekeyEp)

/-- REKEY_DONE once every Tile has acknowledged (R377). -/
def State.rekeyDone (s : State) : State :=
  if s.sec.rekeyOn && s.rekeyAcked then
    ({ s with sec := { s.sec with rekeyOn := false } }).raise F.SEC_EVT_REKEY_DONE
  else s

/-- The deliveries of one image (R377). -/
def State.rekeyDeliver (s : State) : State :=
  if s.owns && s.sec.rekeyOn then
    let open_ := fun (c : Nat) => (s.sec.roster.filter (fun r => r.chain.val == c && r.assigned && !(r.acks.contains s.rekeyEp))).take
      s.plan.sec.rekeyPerImage
    s.forEach (s.headChains.flatMap open_) (fun r t => t.sendKey r t.rekeyEp)
  else s

/-- Some stream of this Head has advanced 2^30 in SEQ since the epoch began (R377). -/
def State.seqSpent (s : State) (image : Word) : Bool :=
  s.lnk.seq.any (fun p => p.2.1 == s.curEp && decide (2 ^ 30 ≤ p.2.2)) ||
    (s.isHead && decide (2 ^ 30 ≤ 64 * (image - s.sec.epochAt).toNat))

/-- The switch to the next epoch at its image (R377). -/
def State.keySwitch (s : State) (image : Word) : State :=
  if s.flag F.SEC_KEYEP_NEXT_VALID = true ∧ 0 ≤ diff32 image (s.getW A.SEC_SWITCH) then
    let old := s.curEp
    let s1 := ((s.setF F.SEC_KEYEP_CUR (s.getF F.SEC_KEYEP_NEXT)).setF F.SEC_KEYEP_NEXT_VALID 0).bump F.SEC_CNT1_REKEYS
    { s1 with sec := { s1.sec with eraseAt := (old, s.getW A.SEC_SWITCH + 2) :: s1.sec.eraseAt, epochAt := image, quiet := false } }
  else s

/-- Epochs whose time has come erased: at the end of image *S* + 1 (R367, R377). -/
def State.keyErase (s : State) (image : Word) : State :=
  let due := s.sec.eraseAt.filter (fun p => decide (0 ≤ diff32 image p.2) && p.1 != s.curEp)
  (({ s with sec := { s.sec with eraseAt := s.sec.eraseAt.filter (fun p => decide (diff32 image p.2 < 0)) } }).forEach due
    (fun p t => t.dropEpoch p.1))

/-- Keys at an image boundary (R367, R377). -/
def State.keyBoundary (s : State) (image : Word) : State :=
  let s1 := (s.keySwitch image).keyErase image
  let s2 := s1.when (s1.owns && s1.seqSpent image) State.rekeyStart
  s2.rekeyDone.rekeyDeliver

/-- `REKEY_TIMER` (R377). -/
def execRekeyTimer (s : State) : Res := .next s.rekeyStart

/-- `REKEY_REQUEST` (R377). -/
def execRekeyRequest (who : Initiator) (s : State) : Res := .next (s.guarded who A.SEC_CTL State.rekeyStart)

end Sys2Proof.Machine
end

