-- ==== Sys2Proof/Machine/Redund.lean ====
section
/-!
DEFINITION. Two Heads, the Warden and the interlock (R318 to R342): heartbeats, verdicts, claims and leases, duties, the
failed Head, state copies, signatures, handover, holding.
-/

namespace Sys2Proof.Machine

/-! ### Heartbeats sent (R322) -/

/-- The end of a Head as a verdict's OWNER names it: 1 end A, 2 end B. -/
def State.endNo (s : State) : Nat := if s.plan.red.endB then 2 else 1

/-- A Head of a pair that takes part in it: not failed, not refused. -/
def State.pairLive (s : State) : Bool := s.paired && s.duty != 3 && !(s.flag F.RED_STAT_PAIR_REFUSED)

/-- The contents of a HEART (R322). -/
def State.heartMsg (s : State) (duty : Nat) : HeartMsg :=
  { endB := s.plan.red.endB, duty := duty, ilkOut := s.flag F.RED_STAT_ILK_OUT, ilkIn := s.flag F.RED_STAT_ILK_IN,
    peer := s.flag F.RED_STAT_PEER, ward := s.flag F.RED_STAT_WARDEN, yield := s.red.yieldOn,
    conv := BitVec.ofNat 4 (s.getF F.ENC_STAT_CONV), ready := s.flag F.RED_STAT_READY, term := s.getW A.RED_TERM,
    pair := s.plan.wall.pairId, frame := s.getW A.TIM_FRAME, copy := s.getW A.RED_COPY,
    variant := s.getF F.GOV_STAT_VARIANT, sigFrame := s.red.sigFrame, sigs := s.red.sigs, epoch := s.getW A.CFG_EPOCH }

/-- The shared ring ports on which a protected packet can leave (R322). -/
def State.heartPorts (s : State) : List Nat :=
  (s.plan.red.sharedPorts.map (fun n => n.val)).filter (fun n =>
    s.portUp n && s.canSend n && (s.chainKey (s.chainOf n) s.curEp).isSome)

/-- A HEART sent on every shared ring port under one SEQ; an owner's renews the lease where it actually leaves (R330). -/
def State.sendHeart (s : State) (duty : Nat) : State :=
  if s.sec.quiet || s.sec.pairWait || s.heartPorts.isEmpty then s
  else
    let p : OutPkt := { ports := s.heartPorts, hdr := { typ := 5, prot := 2, dst := 1023, src := s.srcId, len := 64 }, body := .heart (s.heartMsg duty) }
    let s1 := s.sendOwn p
    if duty = 2 then { s1 with red := { s1.red with leaseAt := s1.now + s1.plan.red.leaseUs * 1000 } } else s1

/-- `HEART_PERIOD` (R322). -/
def execHeartPeriod (s : State) : Res := if s.paired && s.duty != 3 then .next (s.sendHeart s.duty) else .next s

/-! ### Duties and the interlock (R328 to R332, R336) -/

/-- An incomplete copy discarded (R336). -/
def State.copyAbort (s : State) : State :=
  match s.red.copyIn with
  | none => s
  | some _ => (({ s with red := { s.red with copyIn := none } }).bump F.RED_CNT_COPY_ABORT).raise F.RED_EVT_COPY_ABORT

/-- READY as it stands (R336). -/
def State.readyEval (s : State) : State :=
  let behind := match s.red.peerHeart with | some m => diff32 m.copy (s.getW A.RED_COPY) | none => 0
  let conv := (List.range s.facets).all (fun f => s.bit F.ENC_STAT_CONV f)
  s.setB F.RED_STAT_READY (s.paired && s.duty == 1 && s.red.hadCopy && decide (behind ≤ 1) && conv)

/-- A duty entered (R329, R331): leaving the owner duty releases `ILK_OUT` and ends a YIELD. -/
def State.setDuty (s : State) (d : Nat) : State :=
  let s1 := s.setF F.RED_STAT_DUTY d
  let s2 := if d = 2 then s1 else ({ s1 with red := { s1.red with yieldOn := false, claim := none } }).setF F.RED_STAT_ILK_OUT 0
  s2.readyEval

/-- Out of *none* into standby (R331): the partner or the Warden is heard, and a copy has been applied or no owner is
there to send one. -/
def State.toStandby (s : State) : State :=
  let heard := s.flag F.RED_STAT_PEER || s.flag F.RED_STAT_WARDEN
  let owner := s.flag F.RED_STAT_PEER && (match s.red.peerHeart with | some m => m.duty == 2 | none => false)
  if s.pairLive && s.duty == 0 && heard && (s.red.hadCopy || !owner) then (s.setDuty 1).raise F.RED_EVT_STANDBY else s

/-- A claim that failed (R328). -/
def State.claimFail (s : State) : State :=
  (({ s with red := { s.red with claim := none } }).setF F.RED_STAT_ILK_OUT 0).raise F.RED_EVT_CLAIM_FAIL

/-- A claim that succeeded (R328, R331, R333, R336, R451). -/
def State.claimWon (s : State) : State :=
  let s1 := ({ s with red := { s.red with claim := none, leaseAt := s.now + s.plan.red.leaseUs * 1000 } }).copyAbort
  let s2 := { s1 with red := { s1.red with copyReady := none } }
  let s3 := (((s2.setDuty 2).bump F.RED_CNT_SWITCHES).raise F.RED_EVT_OWNER)
  let s4 := s3.when s3.sec.quiet State.rekeyStart
  s4.sendHeart 2

/-- A claim begun (R328). -/
def State.claimBegin (s : State) : State :=
  if s.red.claim.isSome || s.duty == 2 then s
  else if s.flag F.RED_STAT_ILK_IN then s.claimFail
  else ({ s with red := { s.red with claim := some false } }).raise F.RED_STAT_ILK_OUT

/-- `ILK_CLAIM_SETTLE` (R328). -/
def execIlkClaimSettle (s : State) : Res :=
  match s.red.claim with
  | none => .next s
  | some second =>
    if s.flag F.RED_STAT_ILK_IN = false then .next s.claimWon
    else if second || s.plan.red.endB then .next s.claimFail
    else .next { s with red := { s.red with claim := some true } }

/-- `ILK_IN_CHANGE` (R327, R328, R332): a level at `ILK_IN`, or at the `ILK_OUT` ball of a Warden Tile. -/
def execIlkInChange (outBall : Bool) (low : Bool) (s : State) : Res :=
  if outBall then .next { s with pwr := { s.pwr with ilkOutLow := low } }
  else
    let s1 := { s with pwr := { s.pwr with ilkInLow := low } }
    if !s1.running || (s1.isHead && !s1.paired) then .next s1
    else
      let s2 := s1.setB F.RED_STAT_ILK_IN low
      .next (if s2.red.claim = some true ∧ low = false then s2.claimWon else s2)

/-- `ILK_ORPHAN_EXPIRY` (R332). -/
def execIlkOrphanExpiry (s : State) : Res :=
  if s.pairLive && decide (s.duty < 2) && !(s.flag F.RED_STAT_WARDEN) && !(s.flag F.RED_STAT_PEER) &&
      !(s.flag F.RED_STAT_ILK_IN) then .next s.claimBegin
  else .next s

/-! ### Failed Heads (R45, R330, R334) -/

/-- The state copies that wait to be sent dropped. -/
def State.dropCopies (s : State) : State :=
  let keep := fun (p : OutPkt) => match p.body with | .copy _ => false | _ => true
  let s1 := { s with lnk := { s.lnk with own := s.lnk.own.filter keep } }
  s1.forEach (List.range 8) (fun n t => t.setPort n { t.port n with wait := (t.port n).wait.filter keep })

/-- The failed duty (R334): ILK released, resignation sent, the own panel dark. A Head without a partner behaves as a
failed Head where its MPLL is lost (R45). -/
def State.failHead (s : State) (cause : Nat) : State :=
  if !s.isHead then s
  else if s.paired then
    if s.duty = 3 then s
    else
      let s1 := (s.setF F.RED_STAT_ILK_OUT 0).sendHeart 3
      let s2 := ((s1.setDuty 3).setF F.RED_STAT_CAUSE cause).raise F.RED_EVT_FAILED
      let s3 := { s2 with red := { s2.red with copyIn := none, copyReady := none }, lmp := { s2.lmp with failDark := true } }
      s3.dropCopies.softBlank
  else if cause = 1 then
    ({ s with red := { s.red with dead := true }, lmp := { s.lmp with failDark := true } }).softBlank
  else s

/-- `ILK_LEASE_EXPIRY` (R330): the lease of an owner that drives `ILK_OUT` runs out. -/
def execIlkLeaseExpiry (s : State) : Res :=
  if s.paired && s.duty == 2 && s.flag F.RED_STAT_ILK_OUT then .next ((s.setF F.RED_STAT_ILK_OUT 0).failHead 2) else .next s

/-- `REFCLK_STOP_DETECTED` (R330). -/
def execRefclkStopDetected (s : State) : Res :=
  .next (({ s with red := { s.red with claim := none } }).setF F.RED_STAT_ILK_OUT 0)

/-- A request to hand over (R339). -/
def State.yieldRequest (s : State) : State :=
  if s.paired && s.duty == 2 then
    let ready := s.flag F.RED_STAT_PEER && (match s.red.peerHeart with | some m => m.ready | none => false)
    if s.flag F.RED_STAT_WARDEN && ready then { s with red := { s.red with yieldOn := true } }
    else s.raise F.RED_EVT_YIELD_REF
  else s

/-- A write of `RED_CTL` (R334, R339); FAIL from the service port is ignored. -/
def State.redCtlWrite (s : State) (who : Initiator) (w : Word) : State :=
  let s1 := s.when (F.RED_CTL_ALIVE.of w == 1) (fun t => { t with red := { t.red with aliveAt := t.now } })
  let s2 := s1.when (F.RED_CTL_YIELD.of w == 1) State.yieldRequest
  s2.when (F.RED_CTL_FAIL.of w == 1 && who != .service) (fun t => if t.paired then t.failHead 4 else t)

/-- `FW_ALIVE` (R334). -/
def execFwAlive (who : Initiator) (s : State) : Res :=
  .next (s.guarded who A.RED_CTL (fun t => t.redCtlWrite who (F.RED_CTL_ALIVE.put 0 1)))

/-- `FW_ALIVE_TIMEOUT` (R334). -/
def execFwAliveTimeout (s : State) : Res := if s.paired && s.released then .next (s.failHead 3) else .next s

/-- `FAIL_REQUEST` (R334). -/
def execFailRequest (who : Initiator) (s : State) : Res :=
  .next (s.guarded who A.RED_CTL (fun t => t.redCtlWrite who (F.RED_CTL_FAIL.put 0 1)))

/-- `YIELD_REQUEST` (R339). -/
def execYieldRequest (who : Initiator) (s : State) : Res :=
  .next (s.guarded who A.RED_CTL (fun t => t.redCtlWrite who (F.RED_CTL_YIELD.put 0 1)))

/-- `YIELD_EXPIRY` (R339). -/
def execYieldExpiry (s : State) : Res :=
  if s.red.yieldOn then .next (({ s with red := { s.red with yieldOn := false } }).raise F.RED_EVT_YIELD_REF) else .next s

/-! ### Heartbeats received (R321, R323, R325, R337, R338) -/

/-- The refusal of a pair (R321): no duty, no interlock, until the next full start. -/
def State.pairRefuse (s : State) : State :=
  let s1 := ((s.setDuty 0).raise F.RED_STAT_PAIR_REFUSED).raise F.RED_EVT_PAIR_REFUSED
  { s1 with red := { s1.red with copyIn := none, copyReady := none } }

/-- The partner is lost (R323, R336). -/
def State.peerLose (s : State) : State :=
  let s1 := { s with red := { s.red with back := 0, lostOnce := true } }
  if s1.flag F.RED_STAT_PEER then
    let s2 := (((s1.setF F.RED_STAT_PEER 0).setF F.RED_STAT_PAIRED 0).raise F.RED_EVT_PEER_LOST).bump F.RED_CNT_PEER_LOSS
    ((s2.latchHealth .partner false).copyAbort).readyEval
  else s1

/-- A HEART heard (R323): at first at once, after a loss with the sixteenth in a row. -/
def State.peerHear (s : State) : State :=
  if s.flag F.RED_STAT_PEER then s
  else
    let n := s.red.back + 1
    let s1 := { s with red := { s.red with back := n } }
    if s.red.lostOnce && decide (n < 16) then s1
    else
      let s2 := ((s1.raise F.RED_STAT_PEER).raise F.RED_STAT_PAIRED).when s.red.lostOnce (fun t => t.raise F.RED_EVT_PEER_BACK)
      s2.latchHealth .partner true

/-- One facet's signatures compared (R338). -/
def State.sigFacet (s : State) (m : HeartMsg) (f : Nat) : State :=
  if !(m.conv.getLsbD f && s.bit F.ENC_STAT_CONV f) then s
  else
    let lim := s.plan.red.sigLimit
    let held := s.enc.held.getLsbD f
    if nth m.sigs f 0 = nth s.red.sigs f 0 then
      let g := tabGet 0 s.red.sigGood f + 1
      let s1 := { s with red := { s.red with sigGood := tabPut s.red.sigGood f g, sigBad := tabPut s.red.sigBad f 0 } }
      if held && decide (lim ≤ g) then { s1 with enc := { s1.enc with held := s1.enc.held &&& ~~~ BitVec.twoPow 4 f } } else s1
    else
      let b := tabGet 0 s.red.sigBad f + 1
      let s1 := { s with red := { s.red with sigBad := tabPut s.red.sigBad f b, sigGood := tabPut s.red.sigGood f 0 } }
      if !held && decide (lim ≤ b) then
        (({ s1 with enc := { s1.enc with held := s1.enc.held ||| BitVec.twoPow 4 f } }).raise F.RED_EVT_SIG_DIFF).bump F.RED_CNT_SIG_DIFF
      else s1

/-- The owner's signatures compared at the first HEART that carries their frame (R338). -/
def State.sigCompare (s : State) (m : HeartMsg) : State :=
  if s.duty = 1 ∧ m.duty = 2 ∧ m.sigFrame = s.red.sigFrame ∧ s.red.sigSeen ≠ some m.sigFrame then
    (({ s with red := { s.red with sigSeen := some m.sigFrame } }).forEach (List.range s.facets) (fun f t => t.sigFacet m f))
  else s

/-- A HEART of the partner at a Head (R321, R323). -/
def State.heartAtHead (s : State) (m : HeartMsg) : State :=
  if !s.pairLive || m.endB == s.plan.red.endB then s
  else
    let s1 := { s with red := { s.red with pairSeen := true } }
    if s.red.pairSeen = false ∧ m.pair ≠ s.plan.wall.pairId then s1.pairRefuse
    else
      let s2 := { s1 with red := { s1.red with peerHeart := some m } }
      if m.duty = 3 then s2.peerLose
      else (s2.peerHear.sigCompare m).readyEval.toStandby

/-- A HEART of a Head at the Warden Tile (R325). -/
def State.heartAtWarden (s : State) (m : HeartMsg) : State :=
  let r := s.red
  let vouch := m.peer && m.duty != 3
  let r1 := if m.endB then { r with seenB := some m, vouchB := if vouch then some s.now else r.vouchB }
    else { r with seenA := some m, vouchA := if vouch then some s.now else r.vouchA }
  let term := if r1.term.toNat < m.term.toNat then m.term else r1.term
  { s with red := { r1 with term := term, wpair := match r1.wpair with | some x => some x | none => some m.pair } }

/-- This Tile is the Warden (R324). -/
def State.isWarden (s : State) : Bool :=
  !s.isHead && s.released && !s.plan.red.wardenExternal && s.flag F.LNK_ID_ASSIGNED &&
    s.getF F.LNK_ID_TILE_ID == s.plan.red.wardenTile

/-- `HEART_RECEIVED` (R322 to R325). -/
def execHeartReceived (m : HeartMsg) (s : State) : Res :=
  if s.isHead then .next (s.heartAtHead m) else if s.isWarden then .next (s.heartAtWarden m) else .next s

/-- `PEER_MISS_TIMEOUT` (R323, R325): no HEART of that end within `red.hb.miss_us`. -/
def execPeerMissTimeout (endB : Bool) (s : State) : Res :=
  if s.isHead then (if s.paired && endB != s.plan.red.endB then .next s.peerLose else .next s)
  else .next { s with red := if endB then { s.red with seenB := none } else { s.red with seenA := none } }

/-- `EPOCH_DIFF_TIMEOUT` (R337). -/
def execEpochDiffTimeout (s : State) : Res :=
  match s.red.peerHeart with
  | some m => if s.paired && m.epoch != s.getW A.CFG_EPOCH then .next (s.raise F.RED_EVT_EPOCH_DIFF) else .next s
  | none => .next s

/-! ### Verdicts (R324 to R326, R331, R333) -/

/-- An end is alive (R325): its HEART is heard and is no resignation, or, where it has not resigned, the other end's HEART
with PEER set is heard. -/
def aliveOf (own : Option HeartMsg) (vouched : Bool) : Bool :=
  match own with
  | some m => m.duty != 3
  | none => vouched

/-- A HEART with PEER set was heard within `red.hb.miss_us`. -/
def State.vouched (s : State) (t : Option Nat) : Bool :=
  match t with | some x => decide (s.now ≤ x + s.plan.red.missUs * 1000) | none => false

/-- The choice of OWNER (R325), by the first row of its table that applies. -/
def chooseOwner (cur : Nat) (aliveA aliveB yielded readyA readyB prefB : Bool) : Nat :=
  let alive := fun (n : Nat) => if n = 1 then aliveA else n == 2 && aliveB
  let other := 3 - cur
  if !aliveA && !aliveB then cur
  else if alive cur && !yielded then cur
  else if aliveA && !aliveB then 1
  else if aliveB && !aliveA then 2
  else if cur ≠ 1 ∧ cur ≠ 2 then (if prefB then 2 else 1)
  else if yielded && alive other && (if other = 1 then readyA else readyB) then other
  else cur

/-- The Warden's verdict at an instant (R324, R325), with its state after it. -/
def State.verdictNow (s : State) : VerdictMsg × State :=
  let r := s.red
  let a := aliveOf r.seenA (s.vouched r.vouchB)
  let b := aliveOf r.seenB (s.vouched r.vouchA)
  let ready := fun (m : Option HeartMsg) => match m with | some x => x.ready | none => false
  let yields := fun (m : Option HeartMsg) => match m with | some x => x.yield | none => false
  let yielded := if r.owner = 1 then yields r.seenA else r.owner == 2 && yields r.seenB
  let o := chooseOwner r.owner a b yielded (ready r.seenA) (ready r.seenB) s.plan.red.prefB
  let term := if o = r.owner then r.term else r.term + 1
  ({ owner := o, aliveA := a, aliveB := b, ilkA := s.pwr.ilkInLow, ilkB := s.pwr.ilkOutLow, term := term, pair := r.wpair.getD 0 },
    { s with red := { r with owner := o, term := term } })

/-- `VERDICT_PERIOD` (R324): sent out of both ports under one SEQ, ahead of every queued packet. -/
def execVerdictPeriod (s : State) : Res :=
  if s.isWarden then
    let r := s.verdictNow
    let p : OutPkt := { ports := [0, 1], hdr := { typ := 5, prot := 2, dst := 1022, src := s.srcId, len := 64 }, body := .verdict r.1 }
    .next (r.2.sendOwn p)
  else .next s

/-- A verdict at a Head (R326, R331). -/
def State.verdictRx (s : State) (v : VerdictMsg) : State :=
  let own := s.getW A.RED_TERM
  if !s.pairLive || v.pair != s.plan.wall.pairId || v.owner == 3 || decide (v.term.toNat < own.toNat) then s
  else
    let s1 := s.when (decide (own.toNat < v.term.toNat)) (fun t => (t.setF F.RED_TERM_TERM v.term.toNat).raise F.RED_EVT_VERDICT)
    let s2 := (s1.raise F.RED_STAT_WARDEN).toStandby
    if v.owner = s2.endNo ∧ s2.duty = 1 then s2.claimBegin
    else if v.owner = 3 - s2.endNo ∧ s2.duty = 2 then (s2.setDuty 1).raise F.RED_EVT_STANDBY
    else s2

/-- `VERDICT_RECEIVED` (R326). -/
def execVerdictReceived (v : VerdictMsg) (s : State) : Res := .next (s.verdictRx v)

/-- `WARDEN_MISS_TIMEOUT` (R326). -/
def execWardenMissTimeout (s : State) : Res :=
  if s.paired && s.flag F.RED_STAT_WARDEN then .next ((s.setF F.RED_STAT_WARDEN 0).raise F.RED_EVT_WARDEN_LOST) else .next s

/-! ### State copies (R335, R336) -/

/-- What a copy of the owner holds (R335). -/
def State.copyRecords (s : State) : CopyRecords :=
  { variant := s.getF F.GOV_STAT_VARIANT,
    pendVariant := if s.flag F.GOV_STAT_PEND_VALID then some (s.getF F.GOV_STAT_PENDING, s.gov.pendFirst) else none,
    failed := s.failedItems, roster := s.sec.roster, keys := s.sec.keys, curEp := s.curEp,
    nextEp := if s.flag F.SEC_KEYEP_NEXT_VALID then some (s.getF F.SEC_KEYEP_NEXT, s.getW A.SEC_SWITCH) else none,
    frame := s.getW A.TIM_FRAME, image := s.imageNow, cfgEpoch := s.getW A.CFG_EPOCH,
    geodeSet := s.getF F.GEO_STAT_ACTIVE, geodeCounter := s.geo.counter }

/-- The bytes of a copy's records that one part carries: a payload of R117 less the header of R335 and, in the last part, the
digest. -/
def copyRoom : Nat := 12224

/-- The parts of a copy (R335): its bytes cut into bodies, the digest over all of them in the last one. -/
def copyParts (epoch term : Word) (r : CopyRecords) : List CopyPart :=
  let l := Config.copyBytes r
  let n := max 1 (min 48 ((l.length + copyRoom - 1) / copyRoom))
  (List.range n).map (fun i => {
    epoch := epoch, part := i, parts := n, term := term, body := bytesAt l (copyRoom * i) copyRoom, digest := sha384 (l.take (copyRoom * n))
    recs := r })

/-- The highest copy epoch that has been sent or is queued. -/
def State.copyTop (s : State) : Word :=
  (s.lnk.own.filterMap (fun p => match p.body with | .copy m => some m.epoch | _ => none)).foldl
    (fun a e => if 0 < diff32 e a then e else a) (s.getW A.RED_COPY)

/-- The identifier of the partner (R318). -/
def State.peerId (s : State) : BitVec 10 := if s.plan.red.endB then 1020 else 1021

/-- The owner's copy queued for the slots of the schedule on every shared ring port (R335). -/
def State.copySend (s : State) : State :=
  if s.pairLive && s.duty == 2 then
    let s1 := { s with red := { s.red with copied := some (s.sec.roster, s.sec.keys) } }
    s1.forEach (copyParts (s.copyTop + 1) (s.getW A.RED_TERM) s.copyRecords) (fun p t =>
      t.queueOwn {
        ports := t.sharedList, body := .copy p
        hdr := { typ := 12, prot := 2, dst := t.peerId, src := t.srcId
                 len := BitVec.ofNat 16 (16 + p.body.length + if p.part + 1 = p.parts then 48 else 0) } })
  else s

/-- A change of the owner's roster or of its chain keys is copied at the next image boundary, within one image of it (R335). -/
def State.copyChanged (s : State) : State :=
  match s.red.copied with
  | some c => if c = (s.sec.roster, s.sec.keys) then s else s.copySend
  | none => s.copySend

/-- `COPY_PERIOD` (R335). -/
def execCopyPeriod (s : State) : Res := .next s.copySend

/-- A part put into the shadow store (R336). -/
def State.copyStore (s : State) (c : CopyIn) (p : CopyPart) : State :=
  let got := if c.got.contains p.part then c.got else p.part :: c.got
  let last := if p.part + 1 = p.parts ∨ c.got = [] then p else c.last
  let c1 : CopyIn := { c with got := got, last := last, bodies := tabPut c.bodies p.part p.body }
  if p.parts ≤ got.length then { s with red := { s.red with copyIn := none, copyReady := some c1 } }
  else { s with red := { s.red with copyIn := some c1 } }

/-- `COPY_PART_RECEIVED` (R336). -/
def execCopyPartReceived (p : CopyPart) (s : State) : Res :=
  if !s.pairLive || s.duty == 2 || p.parts == 0 || decide (48 < p.parts) || decide (p.parts ≤ p.part) then .next s
  else
    let fresh : CopyIn := { epoch := p.epoch, parts := p.parts, last := p }
    match s.red.copyIn with
    | none => .next (s.copyStore fresh p)
    | some c =>
      if p.epoch = c.epoch then .next (s.copyStore c p)
      else if 0 < diff32 p.epoch c.epoch then .next (s.copyAbort.copyStore fresh p)
      else .next s

/-- `COPY_TIMEOUT` (R336). -/
def execCopyTimeout (s : State) : Res := .next s.copyAbort

/-- The digest of a copy verifies over the bodies of its parts, in order (R335, R336). -/
def CopyIn.digestOk (c : CopyIn) : Bool :=
  sha384 ((List.range c.parts).flatMap (fun i => tabGet [] c.bodies i)) == c.last.digest

/-- The records of a copy taken over (R335, R336, R378, R451): roster and keys; a Head without keys of its own sends none
of its own streams before the image of a rekey. -/
def State.copyTake (s : State) (p : CopyRecords) : State :=
  let none_ := s.sec.keys.isEmpty
  let s1 := s.setKeys (p.keys.foldl (fun l k => tabPut l k.1 k.2) s.sec.keys)
  let s2 := { s1 with sec := { s1.sec with roster := p.roster, quiet := s1.sec.quiet || (none_ && !p.keys.isEmpty) } }
  let s3 := if none_ then s2.setF F.SEC_KEYEP_CUR p.curEp else s2
  match p.nextEp with
  | some (ep, img) =>
    if s3.curEp = ep then s3
    else ((s3.setF F.SEC_KEYEP_NEXT ep).raise F.SEC_KEYEP_NEXT_VALID).setF F.SEC_SWITCH_IMAGE img.toNat
  | none => s3

/-- A complete copy applied at an image boundary, where R336 lets it. -/
def State.copyBoundary (s : State) : State :=
  match s.red.copyReady with
  | none => s
  | some c =>
    let s1 := { s with red := { s.red with copyReady := none } }
    let newer := decide (0 < diff32 c.epoch (s.getW A.RED_COPY)) || !s.red.hadCopy
    if c.digestOk && c.last.term == s.getW A.RED_TERM && newer && s.pairLive && s.duty != 2 then
      let s2 := { s1 with red := { s1.red with hadCopy := true } }
      (((s2.setF F.RED_COPY_EPOCH c.epoch.toNat).raise F.RED_EVT_COPY_DONE).copyTake c.last.recs).readyEval.toStandby
    else s1

/-! ### Holding (R340, R341) -/

/-- A facet's hold time has run out (R185, R340). -/
def State.holdExpire (s : State) (f : Nat) : State :=
  let s1 := (s.raiseBit F.RED_TSTAT_EXPIRED f).raise F.RED_EVT_HOLD_EXPIRED
  if s1.geo.wasGeode.getLsbD f then s1.showPattern f else s1

/-- `HOLD_EXPIRY` (R340). -/
def execHoldExpiry (f : Fin 4) (s : State) : Res :=
  if s.bit F.RED_TSTAT_HOLDING f && !(s.bit F.RED_TSTAT_EXPIRED f) then .next (s.holdExpire f) else .next s

/-- A facet's hold after its hand-over (R340): it holds where no slice, or no own image, came; a clean lit image ends an
expired hold. -/
def State.holdAfter (s : State) (f : Nat) (got clean : Bool) : State :=
  let s1 := s.putBit F.RED_TSTAT_HOLDING f (!got)
  if got then (if clean then s1.putBit F.RED_TSTAT_EXPIRED f false else s1)
  else if s1.actF F.RED_HOLD_MS = 0 ∧ s1.bit F.RED_TSTAT_EXPIRED f = false then s1.holdExpire f
  else s1

/-! ### Frames and the start (R322, R337, R342) -/

/-- The signatures of the frame that ends, as HEARTs carry them (R322). -/
def State.redFrame (s : State) : State :=
  { s with red := { s.red with sigFrame := s.getW A.TIM_FRAME, sigs := (List.range 4).map (fun f => s.getW (A.ENC_SIG f)) } }

/-- The number of the frame that begins (R312, R337): one more, or what the owner's last HEART gives. -/
def State.nextFrame (s : State) : Word :=
  let own := s.getW A.TIM_FRAME + 1
  match s.red.peerHeart with
  | some m => if s.pairLive && s.duty == 1 && s.flag F.RED_STAT_PEER && m.duty == 2 then m.frame + 1 else own
  | none => own

/-- The redundancy parameters of a plan (R323 and their ranges). -/
def redOk (p : RedPlan) : Bool :=
  within 20 10000 p.missUs && within 500 10000 p.settleNs && within 15 1000 p.leaseUs && within 50 100000 p.orphanUs &&
    decide (p.startWaitMs ≤ 10000) && within 1 1000 p.fwAliveMs && within 10 10000 p.copyPeriodMs && within 1 1000 p.copyTimeoutMs &&
    within 1 64 p.sigLimit && decide (p.holdMs ≤ 60000) && within 1 1019 p.wardenTile

/-- The redundancy registers at the start (R70, R342). -/
def State.redLoad (s : State) : State :=
  let s1 := s.setBoth F.RED_HOLD_MS s.plan.red.holdMs
  if s1.paired then
    let r := s1.smp.sys
    ((((s1.setB F.RED_STAT_END s1.plan.red.endB).setF F.RED_STAT_DUTY 0).setB F.RED_STAT_ILK_IN s1.pwr.ilkInLow).setF
      F.RED_TERM_TERM r.term.toNat).setB F.RED_STAT_WAS_OWNER (r.duty == 2)
  else if s1.isHead then s1
  else s1.setB F.RED_STAT_ILK_IN s1.pwr.ilkInLow

end Sys2Proof.Machine
end

