-- ==== Sys2Proof/Machine/Security.lean ====
section
/-!
DEFINITION. Enrolment, the key exchange of a pair, sessions, lifecycle and the evaluated configuration (R364 to R374,
R379, R380, R383 to R387).
-/

namespace Sys2Proof.Machine

/-! ### Enrolment at the owner (R371, R373) -/

/-- The position that a JOIN's counts give on a chain of `n` Tiles, 0 for none (R135, R371). -/
def joinPos (n a b : Nat) : Nat :=
  let p := if a ≠ 0 ∧ b ≠ 0 ∧ a + b ≠ n + 1 then 0 else if a ≠ 0 then a else if b ≠ 0 then n + 1 - b else 0
  if p ≤ n then p else 0

/-- The position that a JOIN gives on its chain. -/
def State.joinAt (s : State) (m : JoinMsg) : Nat :=
  if 7 < m.chainByte then 0 else joinPos (nth s.plan.wall.tilesPerChain m.chain.val 0) m.hopsA m.hopsB

/-- The identifier that the plan gives a place on a chain (R118, R187). -/
def State.idAt (s : State) (chain pos : Nat) : Option Nat :=
  (s.plan.comp.tiles.find? (fun t => t.chain == chain && t.pos == pos && t.id != 0)).map (fun t => t.id)

/-- The plan lets a serial enrol at a place (R371). -/
def SecPlan.serialOk (p : SecPlan) (chain pos : Nat) (x : Serial) : Bool :=
  !(p.deny.contains x) && (!p.enrolAllow || p.enrolSerial.contains (chain, pos, x) || p.spares.contains x)

/-- The serial is assigned elsewhere to a Tile that still reports (R371). -/
def State.cloned (s : State) (m : JoinMsg) : Bool :=
  s.sec.roster.any (fun r => r.serial == m.serial && r.assigned && !(r.chain == m.chain && r.pos == s.joinAt m) &&
    s.lnk.tiles.any (fun t => t.1 == r.id.toNat && t.2.present))

/-- A device certificate chains under the table of the firmware that runs (R369). -/
def State.deviceCertOk (s : State) (serial : Serial) (cert : List Byte) : Bool :=
  s.boot.fw.certs.device s.shadow.rootDigest s.plan.wall.id serial cert

/-- The device certificate of a JOIN chains and its signature verifies (R371). -/
def State.joinAuth (s : State) (m : JoinMsg) : Bool :=
  m.bytes.length == 488 && s.deviceCertOk m.serial m.cert && ecdsaOk (certKey m.cert) (m.bytes.take 392) m.sig

/-- The first check of R371 that a JOIN fails: its event, if any. -/
def State.joinFails (s : State) (m : JoinMsg) : Option Fld :=
  if !(s.joinAuth m) then some F.SEC_EVT_ENROL_FAIL
  else if m.wallId ≠ s.plan.wall.id ∨ m.planSerial ≠ s.plan.wall.serial then some F.SEC_EVT_ENROL_FAIL
  else if (s.idAt m.chain.val (s.joinAt m)).isNone || s.joinAt m == 0 then some F.SEC_EVT_ENROL_FAIL
  else if !(s.plan.sec.serialOk m.chain.val (s.joinAt m) m.serial) then some F.SEC_EVT_ENROL_FAIL
  else if s.cloned m then some F.SEC_EVT_CLONE
  else none

/-- A KEYX of step 1 or 2 (R372): the own ephemeral public key and certificate, signed over bytes 0 to 399 and the peer's
ephemeral public key. Before the peer's key is known, as in step 1 between Heads, nothing stands for it (DESIGN CHOICE, log
entry 63). -/
def State.offer (s : State) (head pub peer : List Byte) (holds : Bool) : KeyxMsg × State :=
  let body := keyxOffer head pub s.kar.cert
  let g := s.signed (body ++ peer)
  ({ src := s.srcId, bytes := body ++ g.1, holds := holds }, g.2)

/-- The KEYX steps that answer a JOIN (R373): the offer, the key in force and, during a rekey, the next one. -/
def State.enrol (s : State) (m : JoinMsg) (id : Nat) : State :=
  match ecdh s.drawScalar.1 m.pub with
  | none => s
  | some z =>
    let d := s.drawScalar
    let was := match s.rosterOf m.serial with
      | some r => r.assigned && r.id == BitVec.ofNat 10 id
      | none => false
    let r : RosterEntry := {
      id := BitVec.ofNat 10 id, serial := m.serial, chain := m.chain, pos := s.joinAt m,
      ek := some (enrolKey z m.serial s.shadow.serial s.plan.wall.id), assigned := was, waiting := true }
    let s1 := d.2.setRoster (rosterPut d.2.sec.roster r)
    let o := s1.offer (keyxHead 1 m.chain.val id m.serial s1.shadow.serial 0 0) (publicKey d.1) m.pub true
    let s2 := (o.2.postKeyx (o.2.chainPorts m.chain.val) 0 o.1).sendKey r o.2.curEp
    s2.when (s2.flag F.SEC_KEYEP_NEXT_VALID) (fun t => t.sendKey r (t.getF F.SEC_KEYEP_NEXT))

/-- A JOIN at the Head that owns the chain (R136, R371, R373). -/
def State.joinRx (s : State) (m : JoinMsg) : State :=
  if !(s.ownsChain m.chain.val) || s.flag F.SEC_STAT_DEBUG then s
  else
    match s.joinFails m with
    | some e => (s.bump F.SEC_CNT0_ENROL_FAIL).raise e
    | none =>
      if s.sec.entropyBad then s
      else
        match s.idAt m.chain.val (s.joinAt m) with
        | some id => s.enrol m id
        | none => s

/-- `JOIN_RECEIVED` (R371). -/
def execJoinReceived (m : JoinMsg) (s : State) : Res := .next (s.joinRx m)

/-- The ASSIGN of an enrolled Tile (R136, R373). -/
def State.sendAssign (s : State) (r : RosterEntry) : State :=
  let m : AssignMsg := { serial := r.serial, id := r.id, pos := r.pos, chain := r.chain }
  s.post { ports := s.chainPorts r.chain.val, hdr := { typ := 9, prot := 2, dst := 0, src := s.srcId, len := Config.payloadLen 9 },
           body := .assign m }

/-- A message of the key exchange rejected. -/
def State.keyxFail (s : State) : State := s.bump F.SEC_CNT1_KEYX_FAIL

/-- Step 4 of a Tile at the owner (R373, R377): the key of its epoch is acknowledged; the key in force brings the ASSIGN. -/
def State.tileAck (s : State) (m : KeyxMsg) : State :=
  match s.rosterOf m.fromSerial with
  | none => s
  | some r =>
    if !(match r.ek with | some ek => m.ackOk ek | none => false) then s.keyxFail
    else if !(r.waiting || r.assigned) then s
    else
      let assign := r.waiting && m.ep.toNat == s.curEp
      let r1 : RosterEntry := { r with
        acks := if r.acks.contains m.ep.toNat then r.acks else m.ep.toNat :: r.acks,
        assigned := r.assigned || assign, waiting := r.waiting && !assign }
      let s1 := s.setRoster (rosterPut s.sec.roster r1)
      (s1.when assign (fun t => t.sendAssign r1)).rekeyDone

/-! ### Enrolment at the Tile (R373) -/

/-- A delivered key taken (R373, R377): the first one is in force, one with its switch image to come is the next one. -/
def State.takeKey (s : State) (ep : Nat) (switch : Word) (k : Key) : State :=
  let first := s.sec.keys.isEmpty
  let s1 := s.addKey (s.chainOf 0) ep k
  if first then s1.setF F.SEC_KEYEP_CUR ep
  else if ep = s1.curEp then s1
  else if 0 < diff32 switch s1.imageNow then
    ((s1.setF F.SEC_KEYEP_NEXT ep).raise F.SEC_KEYEP_NEXT_VALID).setF F.SEC_SWITCH_IMAGE switch.toNat
  else s1.setF F.SEC_KEYEP_CUR ep

/-- Certificate and signature of a KEYX of step 1 or 2 pass (R369, R372), for the own ephemeral public key. -/
def State.keyxAuth (s : State) (m : KeyxMsg) (own : List Byte) : Bool :=
  m.bytes.length == 496 && s.deviceCertOk m.fromSerial m.cert && ecdsaOk (certKey m.cert) (m.bytes.take 400 ++ own) m.sig

/-- The enrolment key that a Tile derives from an offer (R373), none where it has no share or the offer fails. -/
def State.tileEk (s : State) (m : KeyxMsg) : Option Key :=
  match s.sec.share with
  | some p =>
    if s.keyxAuth m (publicKey p) then
      (ecdh p m.pub).map (fun z => enrolKey z s.shadow.serial m.fromSerial s.plan.wall.id)
    else none
  | none => none

/-- The acknowledgement of a key (R372, R373). -/
def State.ackMsg (s : State) (m : KeyxMsg) (under : Key) : KeyxMsg :=
  let head := keyxHead 4 m.chain.val m.id.toNat m.fromSerial s.shadow.serial m.ep.toNat 0
  { src := s.srcId, bytes := keyxAck head under m.ep.toNat, holds := !s.sec.keys.isEmpty && !s.sec.pairWait }

/-- A KEYX at the Tile it names (R373). An offer that comes when the Tile has no share is no answer to a JOIN of its own. -/
def State.keyxTile (s : State) (m : KeyxMsg) : State :=
  if m.toSerial ≠ s.shadow.serial then s
  else if m.step = 1 then
    if s.sec.share.isNone then s
    else
      match s.tileEk m with
      | some ek => { s with sec := { s.sec with ek := some ek, share := none } }
      | none => s.keyxFail
  else if m.step = 3 then
    match s.sec.ek with
    | some ek =>
      match m.unwrap ek with
      | some k => (s.takeKey m.ep.toNat m.switch k).postKeyx s.ownPorts 1022 (s.ackMsg m ek)
      | none => s.keyxFail
    | none => s.keyxFail
  else s

/-! ### The key exchange of a pair (R374, R451) -/

/-- Bytes 0 to 43 of the device's own KEYX to its partner Head. -/
def State.pairHead (s : State) (step chain ep : Nat) (dest : Serial) : List Byte :=
  keyxHead step chain 0 dest s.shadow.serial ep 0

/-- The device holds the chain keys of the shared rings, and not only in an exchange that still runs (R374, R451). -/
def State.holdsKeys (s : State) : Bool := !s.sec.keys.isEmpty && !s.sec.pairWait

/-- Steps 1 or 2 sent on every shared ring with a fresh share (R374), in answer to a partner's public key. -/
def State.pairSend (s : State) (step : Nat) (dest : Serial) (peer : List Byte) : State :=
  let r := s.freshShare
  let t := { r.2 with sec := { r.2.sec with peerPub := peer } }
  t.forEach (t.sharedList.map (fun n => t.chainOf n)).dedup (fun c u =>
    let o := u.offer (u.pairHead step c 0 dest) (publicKey r.1) peer u.holdsKeys
    o.2.postKeyx (o.2.sharedList.filter (fun n => o.2.chainOf n == c)) o.2.peerId o.1)

/-- The exchange with the partner offered at the start (R374). -/
def State.pairOffer (s : State) : State :=
  if s.paired && !(s.flag F.RED_STAT_PAIR_REFUSED) && !s.sec.entropyBad then
    ({ s with sec := { s.sec with pairWait := true } }).pairSend 1 s.plan.sec.peerSerial []
  else s

/-- The pair key held. -/
def State.setPairKey (s : State) (k : Option Key) : State :=
  ({ s with sec := { s.sec with pairKey := k } }).setB F.SEC_STAT_PAIRKEY k.isSome

/-- The first keys of the shared rings sent to end B, wrapped under the pair key (R374). -/
def State.sendPairKeys (s : State) (dest : Serial) : State :=
  s.forEach s.headChains (fun c t =>
    match t.chainKey c t.curEp, t.sec.pairKey with
    | some k, some pk =>
      let n := t.sec.pairWraps + 1
      let m : KeyxMsg := { src := t.srcId, bytes := keyxKey (t.pairHead 3 c t.curEp dest) pk n k, holds := t.holdsKeys }
      ({ t with sec := { t.sec with pairWraps := n } }).postKeyx (t.sharedList.filter (fun x => t.chainOf x == c)) t.peerId m
    | _, _ => t)

/-- Steps 1 and 2 are done (R374, R451): where neither Head holds chain keys, end A draws and sends them; a Head whose
partner restarted sends it the keys in a copy and starts a rekey; a restarted Head waits for that. -/
def State.pairDone (s : State) (m : KeyxMsg) : State :=
  let mine := !s.sec.keys.isEmpty && !s.sec.pairWait
  if mine then
    if m.holds then { s with sec := { s.sec with peerHolds := true } }
    else ({ s with sec := { s.sec with peerHolds := false } }).rekeyStart.copySend
  else if m.holds then
    { s with sec := { s.sec with peerHolds := true, quiet := true, pairWait := false } }
  else if s.plan.red.endB then { s with sec := { s.sec with pairWait := true } }
  else (({ s with sec := { s.sec with pairWait := true } }).firstKeys).sendPairKeys m.fromSerial

/-- A failed check of the partner (R374). -/
def State.pairAuthFail (s : State) : State := ((s.raise F.SEC_EVT_PAIR_AUTH).keyxFail).pairRefuse

/-- The pair key that the exchange gives (R372, R374): the end-A serial stands first in the salt. -/
def State.pairKeyFrom (s : State) (p : Nat) (m : KeyxMsg) : Option Key :=
  (ecdh p m.pub).map (fun z =>
    if s.plan.red.endB then pairKeyOf z m.fromSerial s.shadow.serial else pairKeyOf z s.shadow.serial m.fromSerial)

/-- The exchange ended on this side: the pair key held, the share erased (R366, R367, R374). -/
def State.pairTake (s : State) (p : Nat) (m : KeyxMsg) : State :=
  match s.pairKeyFrom p m with
  | none => s.pairAuthFail
  | some k =>
    let s1 := s.setPairKey (some k)
    ({ s1 with sec := { s1.sec with share := none, pairWraps := 0 } }).pairDone m

/-- The partner's checks in steps 1 and 2 (R374): its certificate, its signature, and its serial where the plan names it. A
step 1 is signed over no key of this device, a step 2 over the share that this device offered. -/
def State.partnerOk (s : State) (m : KeyxMsg) : Bool :=
  let own := if m.step = 1 then [] else (match s.sec.share with | some p => publicKey p | none => [])
  s.keyxAuth m own && (s.plan.sec.peerSerial == 0 || m.fromSerial == s.plan.sec.peerSerial)

/-- A KEYX of the partner at a Head of a pair (R374). An offer comes on every shared ring and is answered once; where both
offers cross, end B answers that of end A (DESIGN CHOICE, log entry 63). -/
def State.keyxPair (s : State) (m : KeyxMsg) : State :=
  if !s.paired || s.flag F.RED_STAT_PAIR_REFUSED then s
  else if m.step = 1 then
    if !(s.partnerOk m) then s.pairAuthFail
    else if m.pub == s.sec.peerPub || s.sec.entropyBad || (s.sec.share.isSome && !s.plan.red.endB) then s
    else
      let s1 := s.pairSend 2 m.fromSerial m.pub
      match s1.sec.share with
      | some p => s1.pairTake p m
      | none => s1
  else if m.step = 2 then
    match s.sec.share with
    | some p => if s.partnerOk m then s.pairTake p m else s.pairAuthFail
    | none => s
  else if m.step = 3 then
    match s.sec.pairKey with
    | some pk =>
      match m.unwrap pk with
      | some k =>
        let s1 := (s.addKey m.chain.val m.ep.toNat k).setF F.SEC_KEYEP_CUR m.ep.toNat
        let s2 := { s1 with sec := { s1.sec with pairWait := false, epochAt := s1.imageNow } }
        s2.postKeyx s2.sharedList s2.peerId (s2.ackMsg m pk)
      | none => s.keyxFail
    | none => s.keyxFail
  else if m.step = 4 then
    match s.sec.pairKey with
    | some pk => if m.ackOk pk then { s with sec := { s.sec with pairWait := false } } else s.keyxFail
    | none => s.keyxFail
  else s

/-- A KEYX at the device it reaches (R372 to R374); a device under a debug unlock takes none (R384). -/
def State.keyxRx (s : State) (m : KeyxMsg) : State :=
  if s.flag F.SEC_STAT_DEBUG then s
  else if !s.isHead then s.keyxTile m
  else if m.fromHead then s.keyxPair m
  else if s.ownsChain m.chain.val && m.step == 4 then s.tileAck m
  else s

/-- `KEYX_RECEIVED` (R373, R374). -/
def execKeyxReceived (m : KeyxMsg) (s : State) : Res := .next (s.keyxRx m)

/-- A step of an exchange that was not answered (R373): the Tile's enrolment is dropped; a Head of a pair repeats what the
partner has not answered. -/
def State.keyxTimeout (s : State) (x : Serial) : State :=
  match s.rosterOf x with
  | some r =>
    if !r.waiting then s
    else if r.assigned then s.setRoster (rosterPut s.sec.roster { r with waiting := false })
    else s.setRoster (s.sec.roster.filter (fun y => y.serial != x))
  | none =>
    if s.paired && s.sec.pairWait then
      if s.sec.keys.isEmpty then (if s.sec.share.isSome then s.pairOffer else s) else s.sendPairKeys x
    else s

/-- `KEYX_STEP_TIMEOUT` (R373). -/
def execKeyxStepTimeout (serial : Serial) (s : State) : Res := .next (s.keyxTimeout serial)

/-! ### Keys lost and erased (R379, R387) -/

/-- Chain keys and what belongs to them erased. -/
def State.eraseKeys (s : State) : State :=
  let s1 := s.setKeys []
  let s2 := ((s1.setF F.SEC_KEYEP_CUR 0).setF F.SEC_KEYEP_NEXT 0).setF F.SEC_KEYEP_NEXT_VALID 0
  { s2 with sec := { s2.sec with eraseAt := [], ek := none, rekeyOn := false } }

/-- A Tile that no packet reaches under its keys (R379). -/
def State.keyLost (s : State) : State :=
  let s1 := s.eraseKeys.raise F.SEC_EVT_KEY_LOST
  ({ s1 with lnk := { s1.lnk with ctx := [] } }).queueJoin

/-- `KEY_LOST_DETECT` (R379): in one frame packets came for the Tile, and none passed its tag. -/
def execKeyLostDetect (s : State) : Res :=
  if !s.isHead && s.lnk.frameFail && !s.lnk.framePass && !(s.flag F.SEC_STAT_DEBUG) then .next s.keyLost else .next s

/-- Every key but the identity key erased (R387). A paired Head enters the failed duty, whose cause the spec does not
name; another Head draws new chain keys. -/
def State.zeroise (s : State) : State :=
  let s1 := (s.eraseKeys.setPairKey none).raise F.SEC_EVT_ZEROISED
  let roster := s1.sec.roster.map (fun r => { r with ek := none })
  let s2 := { s1 with sec := { s1.sec with share := none, sessions := [], roster := roster } }
  let s3 := s2.setF F.SEC_STAT_SESSIONS 0
  if s3.paired then
    let c := s3.choose 16
    c.2.failHead c.1
  else if s3.isHead then s3.firstKeys
  else s3

/-- A write of `SEC_CTL` (R377, R387). -/
def State.secCtlWrite (s : State) (w : Word) : State :=
  let s1 := s.when (F.SEC_CTL_REKEY.of w != 0) State.rekeyStart
  s1.when (F.SEC_CTL_ZERO.of w != 0) State.zeroise

/-- `KEY_ZEROISE` (R387). -/
def execKeyZeroise (who : Initiator) (s : State) : Res := .next (s.guarded who A.SEC_CTL State.zeroise)

/-- `ENTROPY_RETRY` (R367): a failed health test, or the source healthy again; a Head then draws the keys it waited for. -/
def execEntropyRetry (healthy : Bool) (s : State) : Res :=
  if healthy then
    let s1 := { s with sec := { s.sec with entropyBad := false } }
    .next (if s.sec.entropyBad && s1.released then
      (if s1.paired then (if s1.sec.pairKey.isNone then s1.pairOffer else s1) else s1.firstKeys) else s1)
  else .next (({ s with sec := { s.sec with entropyBad := true } }).raise F.SEC_EVT_ENTROPY)

/-! ### Sessions (R380) -/

/-- The open sessions replaced, and counted in `SEC_STAT`. -/
def State.setSessions (s : State) (l : List Session) : State :=
  ({ s with sec := { s.sec with sessions := l } }).setF F.SEC_STAT_SESSIONS l.length

/-- A session setup or a frame rejected (R380). -/
def State.sessFail (s : State) : State := (s.bump F.SEC_CNT0_SESS_FAIL).raise F.SEC_EVT_SESS_FAIL

/-- The roles that a session's certificate chains with: management, Warden arbiter (R369, R380). -/
def State.sessionRole (s : State) (m : SessionMsg) (r : Role) : Bool :=
  s.boot.fw.certs.chains s.shadow.rootDigest r s.plan.wall.id s.shadow.serial m.cert

/-- A session setup passes (R380): its certificate chains with one of the two roles and signs the transcript, which ends in its
ephemeral public key (DESIGN CHOICE, log entry 63). -/
def State.sessionOk (s : State) (m : SessionMsg) : Bool :=
  (s.sessionRole m .manage || s.sessionRole m .arbiter) && ecdsaOk (certKey m.cert) (m.transcript ++ m.pub) m.sig &&
    (decodePoint m.pub).isSome

/-- A session opened; a fifth ends the oldest (R380). The device sends its own ephemeral key with its certificate, and its
signature over the transcript and both keys (DESIGN CHOICE, log entry 63). -/
def State.openSession (s : State) (m : SessionMsg) : State :=
  let d := s.drawScalar
  let x : Session := {
    id := d.2.sec.sessionNext, key := sessionKey ((ecdh d.1 m.pub).getD []), arbiter := s.sessionRole m .arbiter,
    manage := s.sessionRole m .manage }
  let kept := if 4 ≤ d.2.sec.sessions.length then d.2.sec.sessions.drop 1 else d.2.sec.sessions
  let t := ({ d.2 with sec := { d.2.sec with sessionNext := d.2.sec.sessionNext + 1 } }).setSessions (kept ++ [x])
  let own := publicKey d.1
  let g := t.signed (m.transcript ++ m.pub ++ own)
  g.2.emit (.svcSession x.id own s.kar.cert g.1)

/-- `SESSION_SETUP` (R380). -/
def execSessionSetup (m : SessionMsg) (s : State) : Res :=
  if !s.running || !s.lan.svcUp || s.sec.identity.isNone || s.sec.entropyBad then .next s
  else if s.sessionOk m then .next (s.openSession m)
  else .next s.sessFail

/-! ### The evaluated configuration (R385) -/

/-- The plan items of R385. -/
def evalPlan (p : Plan) : Bool :=
  p.link.prot == 2 && p.sec.enrolAllow && !p.sec.openRead && decide (p.sec.rekeyH ≤ 8)

/-- The device is in the evaluated configuration (R385). -/
def State.evalHolds (s : State) : Bool :=
  s.getF F.SEC_STAT_LIFE == 3 && s.flag F.SEC_STAT_EVAL_LOCK && s.boot.fw.evaluated && evalPlan s.plan

/-- `SEC_STAT.EVAL` at the load of the plan (R385). -/
def State.secLoad (s : State) : State := s.setB F.SEC_STAT_EVAL s.evalHolds

/-! ### Lifecycle and debug (R383, R384) -/

/-- The state that a lifecycle fuse word gives: the number of its highest blown bit, from 1 (R383). -/
def lifeState (w : BitVec 8) : Nat :=
  if w.getLsbD 2 then 3 else if w.getLsbD 1 then 2 else if w.getLsbD 0 then 1 else 0

/-- Fuse bits of the lifecycle word, and the debug-disable fuse, blown, with their shadow registers (R58, R383). -/
def State.blowLife (s : State) (w : BitVec 8) (off : Bool) : State :=
  let blow := fun (x : Fuses) => { x with life := x.life ||| w, options := if off then x.options ||| 2 else x.options }
  let s1 := { s with fuses := blow s.fuses, shadow := blow s.shadow }
  (s1.setF F.SEC_STAT_LIFE (lifeState s1.shadow.life)).when s1.boot.loaded State.secLoad

/-- A command is signed under a certificate with the debug and lifecycle role, limited to the device's serial (R383). -/
def State.debugSigned (s : State) (c : SignedCmd) (msg : List Byte) : Bool :=
  s.boot.fw.certs.chains s.shadow.rootDigest .debug s.plan.wall.id s.shadow.serial c.cert &&
    certSerial c.cert == s.shadow.serial && certSerial c.cert != 0 && ecdsaOk (certKey c.cert) msg c.sig

/-- `LIFECYCLE_COMMAND` (R383): a signed command that advances the state blows its bit. Its bytes end in the state's bit
(DESIGN CHOICE, log entry 63). -/
def execLifecycleCommand (bit : Fin 3) (c : SignedCmd) (s : State) : Res :=
  if s.running && s.debugSigned c (c.body ++ [BitVec.ofNat 8 bit.val]) && decide (lifeState s.fuses.life < bit.val + 1) then
    .next (s.blowLife (BitVec.ofNat 8 (2 ^ bit.val)) (bit.val == 2))
  else .next s

/-- `DEBUG_UNLOCK` (R384): in FIELD, a signed authorisation limited to the serial, over the challenge that the keeper issued,
acts at the next start. A challenge serves once. -/
def execDebugUnlock (c : SignedCmd) (s : State) : Res :=
  match s.sec.challenge with
  | some x =>
    if s.running && s.debugSigned c (c.body ++ keyBytes x) && lifeState s.fuses.life == 2 then
      .next { s with boot := { s.boot with debugNext := true }, sec := { s.sec with challenge := none } }
    else .next s
  | none => .next s

/-! ### The start (R365, R382, R384 to R386) -/

/-- With the lock fuse blown, a plan that departs from R385 is refused (R386). -/
def State.evalRefuses (s : State) (p : Plan) : Bool := s.shadow.evalLock && !(evalPlan p)

/-- The security parameters of a plan (their ranges, R382). -/
def secOk (p : SecPlan) : Bool :=
  decide (p.enrolSerial.length ≤ 192) && decide (p.spares.length ≤ 256) && decide (p.deny.length ≤ 256) && within 1 9 p.rekeyH &&
    within 16 4096 p.rekeyLead && within 1 24 p.rekeyPerImage && within 1 15 p.geodeCert

/-- The Geode certificate of a plan (R382): the one that it names in the firmware's table, with the Geode role and limited to
the plan's wall. -/
def geodeCertOk (t : CertTable) (fused : BitVec 384) (serial : Serial) (p : Plan) : Bool :=
  match t.entry p.sec.geodeCert with
  | some c => t.chains fused .geode p.wall.id serial c && certWall c == p.wall.id.toNat
  | none => false

/-- What step 1 takes from the fuses (R365, R384): lifecycle, lock and serial, and the identity key, which a start under
a debug unlock does not derive. The keeper issues its challenge for a debug authorisation here (DESIGN CHOICE, log entry 63). -/
def State.secSense (s : State) : State :=
  let x := s.shadow
  let s1 := (s.setF F.SEC_STAT_LIFE (lifeState x.life)).setB F.SEC_STAT_EVAL_LOCK x.evalLock
  let s2 := s1.forEach (List.range 4) (fun i t => t.setF (F.SEC_SERIAL_SERIAL i) (x.serial.toNat / 2 ^ (32 * i)))
  let debug := s2.boot.debugNext && lifeState x.life == 2
  let s3 := s2.setB F.SEC_STAT_DEBUG debug
  let d := s3.draw
  { d.2 with
    sec := { d.2.sec with identity := if debug then none else some (identityOf s.kar.secret), challenge := some d.1 }
    boot := { d.2.boot with debugNext := false }
    lmp := { d.2.lmp with debugDark := debug } }

/-- The keys at release (R366, R374): a Head without a partner draws them, a Head of a pair starts the exchange. -/
def State.secRelease (s : State) : State :=
  if s.flag F.SEC_STAT_DEBUG then s
  else if s.paired then (if s.sec.pairKey.isNone then s.pairOffer else s)
  else if s.isHead then s.firstKeys
  else s

end Sys2Proof.Machine
end

