-- ==== Sys2Proof/Machine/Cores.lean ====
section
/-!
DEFINITION. The memory map, its error-correcting code and the resets of the cores (R51, R53, R55, R343 to R347, R362).
-/

namespace Sys2Proof.Machine

/-! ### The memory map (R345, R347) -/

/-- The regions of the address map that are memories (R345). -/
inductive MemRegion where
  | rom | keeper | a0 | a1 | shared | tileStore | lpddr
  deriving DecidableEq, Repr

/-- The memory region that holds an address. -/
def memRegion (a : Nat) : Option MemRegion :=
  if a < 0x10000 then some .rom
  else if 0x10000000 ≤ a ∧ a < 0x10080000 then some .keeper
  else if 0x10080000 ≤ a ∧ a < 0x10120000 then some .a0
  else if 0x10120000 ≤ a ∧ a < 0x101C0000 then some .a1
  else if 0x101C0000 ≤ a ∧ a < 0x10200000 then some .shared
  else if 0x20000000 ≤ a ∧ a < 0x20600000 then some .tileStore
  else if 0x80000000 ≤ a ∧ a < 0x100000000 then some .lpddr
  else none

/-- An initiator may read, or write, a region (R345). -/
def memAllowed (who : Initiator) (write : Bool) : MemRegion → Bool
  | .rom => who == .keeper && !write
  | .keeper => who == .keeper
  | .a0 => who == .keeper || who == .a0
  | .a1 => who == .keeper || who == .a1
  | .shared => true
  | .tileStore => who == .keeper
  | .lpddr => who != .service

/-- A region whose words carry an error-correcting code (R346). -/
def MemRegion.coded : MemRegion → Bool
  | .rom => false
  | .lpddr => false
  | _ => true

/-- The address in the external memory that an address of the window shows to an initiator (R347). -/
def State.windowAddr (s : State) (who : Initiator) (a : Nat) : Nat :=
  s.getF (F.CORE_WIN_WIN who.code) * 0x80000000 + (a - 0x80000000)

/-- The region of an access of `n` bytes where R345 and R347 allow it. -/
def State.memAccessRegion (s : State) (who : Initiator) (write : Bool) (a n : Nat) : Option MemRegion :=
  match memRegion a with
  | some r =>
    if memRegion (a + n - 1) = some r ∧ memAllowed who write r = true then
      if r = .lpddr then
        (if s.isHead = true ∧ s.windowAddr who a + n ≤ Config.memFitted then some r else none)
      else some r
    else none
  | none => none

/-! ### Reads and writes (R346) -/

/-- The 64-bit words that an access touches. -/
def wordsOf (a n : Nat) : List Nat := if a / 8 = (a + n - 1) / 8 then [a / 8] else [a / 8, (a + n - 1) / 8]

/-- An uncorrectable word is met. -/
def State.eccBad (s : State) (m : MemAccess) : Bool :=
  m.ecc == .uncorrectable || (wordsOf m.addr.toNat m.size.bytes).any (fun w => s.core.badWords.contains w)

/-- The words of an access recorded as uncorrectable, or as good again. -/
def State.setBad (s : State) (l : List Nat) : State := { s with core := { s.core with badWords := l } }

/-- The number that bytes of the boot ROM give, little-endian. -/
def romRead (a : Nat) : Nat → Nat
  | 0 => 0
  | n + 1 => (Config.rom a).toNat + 256 * romRead (a + 1) n

/-- The access answered with data. -/
def State.memAnswer (s : State) (v : Nat) : State := { s with bus := ⟨BitVec.ofNat 64 v, false⟩ }

/-- Bytes written to the memories behind the bus. -/
def State.memStore (s : State) (key v n : Nat) : State := { s with core := { s.core with mem := memWrite s.core.mem key v n } }

/-- A coded memory read: an uncorrectable word is a bus error, a single-bit error is corrected and counted (R346). -/
def State.codedRead (s : State) (m : MemAccess) : State :=
  if s.eccBad m then
    let bad := (wordsOf m.addr.toNat m.size.bytes).filter (fun w => !(s.core.badWords.contains w))
    let s1 := s.setBad (if m.ecc = .uncorrectable then bad ++ s.core.badWords else s.core.badWords)
    (s1.busFault m.who false m.addr 2).raise F.CORE_EVT_ECC_BAD
  else
    (s.when (m.ecc == .single) (fun t => t.bump F.CORE_STAT_ECC_CORR)).memAnswer (memRead s.core.mem m.addr.toNat m.size.bytes)

/-- A coded memory written: the write of a whole word makes it good (R346); a part of a word is merged into the corrected
word. -/
def State.codedWrite (s : State) (m : MemAccess) : State :=
  let whole := m.size == .b64 && m.addr.toNat % 8 == 0
  let s1 :=
    if whole then s.setBad (s.core.badWords.filter (· != m.addr.toNat / 8))
    else if m.ecc = .uncorrectable then s.setBad (wordsOf m.addr.toNat m.size.bytes ++ s.core.badWords).dedup
    else s.when (m.ecc == .single) (fun t => t.bump F.CORE_STAT_ECC_CORR)
  (s1.memStore m.addr.toNat m.value.toNat m.size.bytes).memAnswer 0

/-- The external memory accessed through the window; while its controller stands, nothing is stored and what a read
returns is open (R45, R347). -/
def State.lpddrAccess (s : State) (m : MemAccess) : State :=
  let key := lpddr (s.windowAddr m.who m.addr.toNat)
  if s.boot.memReady && s.flag F.CLK_STAT_MEM_LOCK then
    if m.write then (s.memStore key m.value.toNat m.size.bytes).memAnswer 0
    else s.memAnswer (memRead s.core.mem key m.size.bytes)
  else if m.write then s.memAnswer 0
  else
    let c := s.choose (2 ^ (8 * m.size.bytes))
    c.2.memAnswer c.1

/-- An access to a memory (R345 to R347). -/
def State.memAccess (s : State) (m : MemAccess) : State :=
  match s.memAccessRegion m.who m.write m.addr.toNat m.size.bytes with
  | none => s.busFault m.who m.write m.addr 0
  | some r =>
    if r = .rom then s.memAnswer (romRead m.addr.toNat m.size.bytes)
    else if r = .lpddr then s.lpddrAccess m
    else if m.write then s.codedWrite m
    else s.codedRead m

/-! ### Core resets (R51, R53, R55) -/

/-- The firmware of the keeper, A0 and A1 loaded into core memory once it is verified (R63, R69); the shared memory is clear
(R345). -/
def State.fwLoad (s : State) (x : FwImage) : State :=
  let outside := fun (a : Nat) => decide (a < 0x10000000) || decide (0x10200000 ≤ a)
  let kept := tabFilter (fun a => !outside a) s.core.mem
  let loaded := (x.code.filter (fun p => decide (0x10000000 ≤ p.1) && decide (p.1 < 0x101C0000))).foldl
    (fun m p => memPut m p.1 p.2) kept
  { s with
    boot := { s.boot with fw := x }
    core := { s.core with mem := loaded, badWords := s.core.badWords.filter (fun w => outside (8 * w)) } }

/-- The application cores leave reset (R71). -/
def State.coresStart (s : State) : State := (s.setF F.CORE_STAT_A0 1).setF F.CORE_STAT_A1 1

/-- An application core reset (R51, R362): it starts again at its reset vector. -/
def State.coreReset (s : State) (a1 : Bool) : State :=
  let stat := if a1 then F.CORE_STAT_A1 else F.CORE_STAT_A0
  if s.getF stat = 0 then s else s.mbxReset (if a1 then .a1 else .a0)

/-- A write of `RST_CTL` (R51, R54, R55): the key guards it, and a device reset absorbs a core reset. -/
def State.rstCtlWrite (s : State) (w : Word) : State :=
  if F.RST_CTL_KEY.of w ≠ 0xD5E7 then s
  else if F.RST_CTL_DEVICE.of w ≠ 0 then s.requestReset 3
  else
    let s1 := s.when (F.RST_CTL_A0.of w != 0) (fun t => t.coreReset false)
    s1.when (F.RST_CTL_A1.of w != 0) (fun t => t.coreReset true)

/-- A write of `RST_WDT` (R53): the key restarts the count. -/
def State.rstWdtWrite (s : State) (w : Word) : State :=
  if F.RST_WDT_KICK.of w = 0xC0DE ∧ s.pwr.wdtArmed = true then { s with pwr := { s.pwr with wdtAt := s.now } } else s

/-- `WATCHDOG_KICK` (R53). -/
def execWatchdogKick (who : Initiator) (kick : BitVec 16) (s : State) : Res :=
  .next (s.guarded who A.RST_WDT (fun t => t.rstWdtWrite (F.RST_WDT_KICK.put 0 kick.toNat)))

/-- `DEVICE_RESET_REQUEST` (R55). -/
def execDeviceResetRequest (who : Initiator) (key : BitVec 16) (s : State) : Res :=
  .next (s.guarded who A.RST_CTL (fun t => t.rstCtlWrite (F.RST_CTL_DEVICE.put (F.RST_CTL_KEY.put 0 key.toNat) 1)))

/-- `CORE_RESET_REQUEST` (R51, R55). -/
def execCoreResetRequest (who : Initiator) (key : BitVec 16) (a0 : Bool) (a1 : Bool) (s : State) : Res :=
  .next (s.guarded who A.RST_CTL (fun t =>
    t.rstCtlWrite (F.RST_CTL_A1.put (F.RST_CTL_A0.put (F.RST_CTL_KEY.put 0 key.toNat) a0.toNat) a1.toNat)))

/-- `TEST_RESET` (R51): it clears the test logic only, of which the spec gives no register. -/
def execTestReset (s : State) : Res := .next s

end Sys2Proof.Machine
end

