-- ==== Sys2Proof/Machine/Geode.lean ====
section
/-!
DEFINITION. Geode commands, the active set across boundaries and starts, and the safety patterns (R180 to R186).
-/

namespace Sys2Proof.Machine

/-- The set a command may name: one the plan holds, or 255 to clear. -/
def State.geodeSetOk (s : State) (n : Nat) : Bool := n == 255 || s.plan.comp.geodeSets.any (fun g => g.num == n)

/-- The Geode key (R382): the public key of the table certificate that the plan names. -/
def State.geodeKey (s : State) : List Byte := ((s.boot.fw.certs.entry s.plan.sec.geodeCert).map certKey).getD []

/-- A command's signature verifies under the Geode key (R180). -/
def State.geodeSigned (s : State) (m : GeodeMsg) : Bool := m.form && ecdsaOk s.geodeKey (m.bytes.take 32) m.sig

/-- A command is accepted (R180). -/
def State.geodeAccepts (s : State) (m : GeodeMsg) : Bool :=
  s.geodeSigned m && m.wallId == s.plan.wall.id && decide (s.geo.counter < m.counter) && s.geodeSetOk m.set

/-- ACTIVE as a command's set number gives it. -/
def geodeCode (n : Nat) : Nat := if n = 255 then 31 else n

/-- An accepted command: the counter, its record on the way to the Sump (R182), and the set waiting for its target. -/
def State.geodeAccept (s : State) (m : GeodeMsg) (target : Word) : State :=
  let begun := s.tim.image.isSome && decide (0 ≤ diff32 s.imageNow target)
  let pend : GeodePending := { set := geodeCode m.set, counter := m.counter, target := target }
  let s1 := { s with
    geo := { s.geo with counter := m.counter, pending := s.geo.pending ++ [pend] }
    smp := s.smp.setSys { s.smp.sys with geodeSet := geodeCode m.set, geodeCounter := m.counter } }
  let s2 := (s1.setF F.GEO_CNT_COUNTER (m.counter.toNat % 2 ^ 32)).raise F.GEO_EVT_ACCEPT
  (s2.recordWrite 1).when begun (fun t => t.raise F.GEO_EVT_LATE)

/-- The command passed to the partner Head with its target (R181). -/
def State.geodeRelay (s : State) (m : GeodeMsg) (target : Word) : State :=
  if s.paired then
    s.post { ports := s.plan.red.sharedPorts.map Fin.val,
             hdr := { typ := 12, prot := 2, dst := if s.plan.red.endB then 1020 else 1021, src := s.srcId, len := 128 },
             body := .geode m target }
  else s

/-- A command refused (R180). -/
def State.geodeReject (s : State) : State := s.raise F.GEO_EVT_REJECT

/-- `GEODE_COMMAND` (R180, R181): target 0 stands for the current image and the plan's lead. -/
def execGeodeCommand (m : GeodeMsg) (s : State) : Res :=
  if !s.isHead || !s.released then .next s
  else if s.geodeAccepts m then
    let target := if m.target = 0 then s.imageNow + BitVec.ofNat 32 s.plan.comp.geodeLead else m.target
    .next ((s.geodeAccept m target).geodeRelay m target)
  else .next s.geodeReject

/-- A command that the partner passed on, with the target that it chose (R181). It passes the checks of R180 here too (DESIGN
CHOICE, log entry 63). -/
def State.geodeRelayed (s : State) (m : GeodeMsg) (target : Word) : State :=
  if !s.isHead || !s.released then s
  else if s.geodeAccepts m then s.geodeAccept m target
  else s.geodeReject

/-- `GEODE_RELAY_RECEIVED` (R181). -/
def execGeodeRelayReceived (m : GeodeMsg) (target : Word) (s : State) : Res := .next (s.geodeRelayed m target)

/-- A pending command takes effect (R181, R182): its target has come and the Sump holds its record. -/
def State.geodeDue (s : State) (image : Word) (p : GeodePending) : Bool :=
  decide (0 ≤ diff32 image p.target) && decide (p.counter ≤ s.smp.sysSaved.geodeCounter)

/-- The Geode layer at an image boundary of a Head. -/
def State.geodeBoundary (s : State) (image : Word) : State :=
  let due := s.geo.pending.filter (fun p => s.geodeDue image p)
  let s1 := { s with geo := { s.geo with pending := s.geo.pending.filter (fun p => !(s.geodeDue image p)) } }
  s1.forEach due (fun p t => (t.setF F.GEO_STAT_ACTIVE p.set).raise F.GEO_EVT_APPLIED)

/-- The set and counter restored before release (R182); a set the plan does not hold is cleared. -/
def State.geodeRestore (s : State) : State :=
  let r := s.smp.sys
  let s1 := ({ s with geo := { s.geo with counter := r.geodeCounter } }).setF F.GEO_CNT_COUNTER (r.geodeCounter.toNat % 2 ^ 32)
  if r.geodeSet = 31 then s1
  else if s1.geodeSetOk r.geodeSet then s1.setF F.GEO_STAT_ACTIVE r.geodeSet
  else s1.raise F.GEO_EVT_REJECT

end Sys2Proof.Machine
end

