-- ==== Sys2Proof/Machine/Rail.lean ====
section
/-!
DEFINITION. The rail controller (R281 to R299): turns, control laws, the repetitive controller, set-point sources,
states and protection, the trace buffer.
-/

namespace Sys2Proof.Machine

/-! ### Conversions (R283) -/

/-- A set-point in 1/8,000 mV as a `VSNS` code (R283). -/
def spCode8 (div r : Nat) : Nat := (r * 2 ^ 20 + 8000 * 600 * div) / (8000 * 1200 * div)

/-- A set-point in mV as a `VSNS` code (R283). -/
def spCode (div mv : Nat) : Nat := (mv * 2 ^ 20 + 600 * div) / (1200 * div)

/-- A code, or a difference of codes, in mV; the spec does not state the rounding. -/
def codeMv (div code : Nat) : Nat := roundOpen (code * 1200 * div) (2 ^ 20)

/-- The update period in CORE cycles (R282). -/
def State.railTu (s : State) : Nat := s.getF F.RAIL_PWM_PERIOD / s.getF F.RAIL_PWM_PHASES

/-- The following-error limit in codes (R296). -/
def State.feCode (s : State) : Nat := spCode s.plan.rail.div s.plan.rail.feLimitMv

/-! ### Trace (R298, R299) -/

/-- The first trigger after arming (R299): `cause` 0 is FORCE, 1 to 5 the sources of SRC bits 0 to 4. -/
def State.traceTrigger (s : State) (cause : Nat) : State :=
  let on := cause == 0 || s.bit F.RAIL_TCFG_SRC (cause - 1)
  if on && s.getF F.RAIL_TCTL_TSTATE == 1 then
    let s1 := { s with rail := { s.rail with traceLeft := 2048 - s.getF F.RAIL_TCTL_PRE } }
    (s1.setF F.RAIL_TCTL_TSTATE 2).setF F.RAIL_TCTL_CAUSE cause
  else s

/-- An armed buffer, cleared (R299). -/
def State.traceArm (s : State) : State :=
  ({ s with rail := { s.rail with trace := [], traceDiv := 0, traceLeft := 0 } }).setF F.RAIL_TCTL_TSTATE 1

/-- A write of `RAIL_TCTL`. -/
def State.railTctlWrite (s : State) (w : Word) : State :=
  let s1 := s.setF F.RAIL_TCTL_PRE (F.RAIL_TCTL_PRE.of w)
  let s2 := s1.when (F.RAIL_TCTL_ARM.of w == 1) State.traceArm
  s2.when (F.RAIL_TCTL_FORCE.of w == 1) (fun t => t.traceTrigger 0)

/-- A quantity as a 16-bit sample; one that does not fit leaves its sample open. -/
def State.fit16 (s : State) (i : Int) : Nat × State :=
  if -32768 ≤ i ∧ i < 32768 then (ofSigned 16 i, s) else s.choose 65536

/-- The sample of a channel code (R298). -/
def State.traceSample (s : State) (code : Nat) : Nat × State :=
  match code with
  | 0 => (s.getF F.RAIL_MEAS_VSNS_MV, s)
  | 1 => (s.getF F.RAIL_SP_RAMP, s)
  | 2 => s.fit16 (nth s.rail.e 0 0)
  | 3 => (s.rail.uTot, s)
  | 4 => s.fit16 s.rail.uRaw
  | 5 => s.fit16 s.rail.rcNow
  | 6 => (s.getF (F.RAIL_ISNS_CODE 0), s)
  | 7 => (s.getF (F.RAIL_ISNS_CODE 1), s)
  | 8 => (s.getF (F.RAIL_ISNS_CODE 2), s)
  | 9 => (s.getF (F.RAIL_ISNS_CODE 3), s)
  | 10 => (s.rail.lineHr.getD 0xFFFF, s)
  | 11 => (s.getF F.RAIL_SP_TARGET, s)
  | _ => (0, s)

/-- One sample of each channel, with the state after any open sample was drawn. -/
def State.traceRow (s : State) : List Nat × State :=
  let a := s.traceSample (s.getF (F.RAIL_TCFG_CH 0))
  let b := a.2.traceSample (s.getF (F.RAIL_TCFG_CH 1))
  let c := b.2.traceSample (s.getF (F.RAIL_TCFG_CH 2))
  let d := c.2.traceSample (s.getF (F.RAIL_TCFG_CH 3))
  ([a.1, b.1, c.1, d.1], d.2)

/-- A sample of each channel recorded; after the trigger the buffer fills and recording stops (R299). -/
def State.traceRecord (s : State) : State :=
  let p := s.traceRow
  let r := p.2.rail
  let t := { p.2 with rail := { r with trace := (p.1 :: r.trace).take 2048, traceDiv := 0, traceLeft := r.traceLeft - 1 } }
  if t.getF F.RAIL_TCTL_TSTATE == 2 && t.rail.traceLeft == 0 then
    (t.setF F.RAIL_TCTL_TSTATE 3).raise F.RAIL_EVT_TRACE_DONE
  else t

/-- Updates per sample (R298). -/
def State.traceEvery (s : State) : Nat := if s.getF F.RAIL_TCFG_DIV == 0 then 256 else s.getF F.RAIL_TCFG_DIV

/-- The trace at an update (R298, R299): one sample of each channel every DIV updates while it records. -/
def State.traceStep (s : State) : State :=
  if s.getF F.RAIL_TCTL_TSTATE == 1 || s.getF F.RAIL_TCTL_TSTATE == 2 then
    if s.traceEvery ≤ s.rail.traceDiv + 1 then s.traceRecord
    else { s with rail := { s.rail with traceDiv := s.rail.traceDiv + 1 } }
  else s

/-- A read of `RAIL_TDATA`: the sample, the oldest of the 2,048 as sample 0, and SAMPLE advanced. -/
def State.traceRead (s : State) : Word × State :=
  let st := s.getF F.RAIL_TCTL_TSTATE
  let k := s.getF F.RAIL_TADDR_SAMPLE
  let v := if st = 1 ∨ st = 2 then 0 else nth (nth s.rail.trace (2047 - k) []) (s.getF F.RAIL_TADDR_CH) 0
  (BitVec.ofNat 32 v, s.setF F.RAIL_TADDR_SAMPLE (k + 1))

/-! ### States (R294 to R297) -/

/-- Soft start entered (R294): the ramp at the measured rail, the law from duty DMIN. -/
def State.railSoft (s : State) : State :=
  let d := s.actF F.RAIL_DLIM_DMIN
  let r : RailState := { s.rail with
    ramp := 8000 * s.getF F.RAIL_MEAS_VSNS_MV
    e := [0, 0, 0]
    u := [(d : Int), d, d]
    integ := (d : Int) * 65536
    deriv := 0
    uTot := d
    law := min 2 (s.actF F.RAIL_LAW_LAW)
    feTicks := 0
    ovCount := 0
    rampDone := 0
    steady := 0 }
  ({ s with rail := r }).setF F.RAIL_STAT_STATE 1

/-- A state that regulates left for state `v` (R290, R295): phases low, tables cleared, and the panel dark where the
controller was in state 2. -/
def State.railLeave (s : State) (v : Nat) : State :=
  let was := s.getF F.RAIL_STAT_STATE
  let s1 := ({ s with rail := { s.rail with duty := [], pulse := [], rc := if was = 2 then [] else s.rail.rc } }).setF F.RAIL_STAT_STATE v
  s1.when (was == 2) State.softBlank

/-- State 3 entered (R296, R297). -/
def State.railFault (s : State) (ovp : Bool) : State :=
  let s1 := if ovp then (s.bump F.RAIL_FE_OVP).raise F.RAIL_EVT_OVP else s.bump F.RAIL_FE_TRIPS
  let s2 := ((s1.railLeave 3).raise F.RAIL_EVT_FAULT).traceTrigger 1
  s2.when (decide (s2.plan.rail.retries ≤ s2.getF F.RAIL_STAT_RETRIES))
    (fun t => (t.raise F.RAIL_STAT_LATCHED).raise F.RAIL_EVT_LATCHED)

/-- The controller runs its law (R296). -/
def State.railOn (s : State) : Bool := s.getF F.RAIL_STAT_STATE == 1 || s.getF F.RAIL_STAT_STATE == 2

/-- A write of `RAIL_CTL` (R290, R294, R295, R297). -/
def State.railCtlWrite (s : State) (w : Word) : State :=
  let stop := F.RAIL_CTL_STOP.of w
  let starts := stop == 0 && s.flag F.RAIL_CTL_STOP && s.getF F.RAIL_STAT_STATE == 0
  let s1 := (s.setF F.RAIL_CTL_STOP stop).when starts State.railSoft
  let s2 := s1.when (F.RAIL_CTL_CLR_FAULT.of w == 1 && s1.flag F.RAIL_STAT_LATCHED)
    (fun t => ((t.setF F.RAIL_STAT_LATCHED 0).setF F.RAIL_STAT_RETRIES 0).railSoft)
  s2.when (F.RAIL_CTL_RC_CLR.of w == 1) (fun t => { t with rail := { t.rail with rc := [] } })

/-- The rail controller is idle (R295). -/
def State.railIdle (s : State) : Bool := s.flag F.RAIL_CTL_STOP && s.getF F.RAIL_STAT_STATE == 0

/-! ### Set-point (R291 to R293) -/

/-- The target moved, held within its limits (R291). -/
def State.setTarget (s : State) (mv : Int) : State :=
  let p := s.plan.rail
  let v := clampI mv p.spMin p.spMax
  (s.setF F.RAIL_SP_TARGET v.toNat).when (v != mv) (fun t => t.raise F.RAIL_EVT_SP_LIMIT)

/-- The auxiliary source lost (R293). -/
def State.auxLose (s : State) : State :=
  if s.flag F.RAIL_STAT_AUX_LOST then s else (s.raise F.RAIL_STAT_AUX_LOST).raise F.RAIL_EVT_AUX_LOST

/-- A sum of `n` samples of the 10-bit converter lies within 20 mV to 1.180 V on average (R293). -/
def auxValid (sum n : Nat) : Bool := decide (20 * 1024 * n ≤ sum * 1200) && decide (sum * 1200 ≤ 1180 * 1024 * n)

/-- The `AUXREF` source at an update (R291, R293). -/
def State.auxStep (s : State) : State :=
  let r := s.rail
  let sum := r.aux.sum
  let n := r.aux.length
  let p := s.plan.rail
  if !(auxValid sum n) then s.auxLose
  else
    let s1 := if s.flag F.RAIL_STAT_AUX_LOST && decide (64 ≤ r.auxGood) then s.setF F.RAIL_STAT_AUX_LOST 0 else s
    if s1.flag F.RAIL_STAT_AUX_LOST then s1
    else s1.setTarget ((p.auxOffset + roundOpen (sum * 1200 * p.auxGain) (1024 * 1000 * n) : Nat))

/-- A sample of `AUXREF` taken (R291, R293). -/
def State.auxTake (s : State) (code : Nat) : State :=
  let r := s.rail
  let good := if s.getF F.RAIL_STAT_SRC = 1 then (if auxValid code 1 then r.auxGood + 1 else 0) else r.auxGood
  { s with rail := { r with aux := (code :: r.aux).take 64, auxGood := good } }

/-- The source of the set-point at an update (R288, R291). -/
def State.sourceStep (s : State) : State :=
  let src := s.actF F.RAIL_LAW_SRC
  let s1 := if src = s.getF F.RAIL_STAT_SRC then s
    else ({ s with rail := { s.rail with auxGood := 0 } }).setF F.RAIL_STAT_SRC src |>.setF F.RAIL_STAT_AUX_LOST 0
  match src with
  | 1 => s1.auxStep
  | 3 => s1.setTarget (s1.actF F.RAIL_SPFIX_MV)
  | _ => s1.setTarget (s1.getF F.RAIL_SP_TARGET)

/-- The ramped set-point moves towards the target by at most a step (R291). -/
def rampStep (ramp target step : Nat) : Nat :=
  if ramp ≤ target then min target (ramp + step) else max target (ramp - step)

/-! ### Laws (R284 to R288) -/

/-- An accumulator of 16 fractional bits rounded to a duty (R284). -/
def roundAcc (a : Int) : Int := (a + 32768) / 65536

/-- A coefficient in force. -/
def State.railCoef (s : State) (i : Nat) : Int := toSigned 32 (s.actW (A.RAIL_COEF i)).toNat

/-- The 2P2Z or 3P3Z law (R284) over errors and outputs, newest first, the present error first. -/
def poleZero (b a : List Int) (e u : List Int) : Int :=
  roundAcc ((List.zipWith (· * ·) b e).sum - (List.zipWith (· * ·) a u).sum)

/-- The coefficients *b* and *a* of the law in force (R284). -/
def State.poleCoefs (s : State) : List Int × List Int :=
  if s.rail.law = 0 then ([s.railCoef 0, s.railCoef 1, s.railCoef 2], [s.railCoef 4, s.railCoef 5])
  else ([s.railCoef 0, s.railCoef 1, s.railCoef 2, s.railCoef 3], [s.railCoef 4, s.railCoef 5, s.railCoef 6])

/-- The derivative state of the PID law at an update (R285). -/
def State.pidDeriv (s : State) (e : Int) : Int :=
  let kf : Int := ((s.actW (A.RAIL_COEF 3)).toNat % 65536 : Nat)
  s.rail.deriv + roundAcc (kf * (s.railCoef 2 * (e - nth s.rail.e 0 0) - s.rail.deriv))

/-- The repetitive table's entry (R289). -/
def RailState.rcAt (r : RailState) (f c : Nat) : Int := tabGet 0 r.rc (256 * f + c)

/-- The cell of an update in a slot, if the repetitive controller acts at it (R289): the facet and the cell. -/
def State.rcCell (s : State) (tick : Nat) : Option (Nat × Nat) :=
  match s.lmp.slot with
  | some x =>
    let l := s.getF F.LMP_LINECFG_BLANK + s.getF F.LMP_LINECFG_WINDOW
    if !x.preload && s.actF F.RAIL_LAW_RC_EN == 1 && s.getF F.RAIL_STAT_STATE == 2 then
      some (x.facet, 4 * s.getF F.LMP_STAT_LINE + min 3 (4 * tick / max 1 l))
    else none
  | none => none

/-- What the repetitive controller learns at an update (R290). -/
def State.rcLearn (s : State) (f c : Nat) (e : Int) : State :=
  let p := s.plan.rail
  if s.feCode < e.natAbs then s
  else
    let j := (c + 256 - p.rcLead) % 256
    let v := clampI (roundAcc (p.rcQ * s.rail.rcAt f j + p.rcK * e)) (-p.rcLimit) p.rcLimit
    { s with rail := { s.rail with rc := tabPut s.rail.rc (256 * f + j) v } }

/-- A change of law, bumpless (R288). -/
def State.lawChange (s : State) (rc : Int) : State :=
  let want := min 2 (s.actF F.RAIL_LAW_LAW)
  let r := s.rail
  let x : Int := r.uTot - rc
  if want = r.law then s
  else if want = 2 then { s with rail := { r with law := 2, integ := x * 65536, deriv := 0 } }
  else { s with rail := { r with law := want, u := [x, x, x], e := [0, 0, 0] } }

/-- One update of the law: `u[k]`, `u_tot` and what the law keeps of them (R284 to R286). -/
def State.lawStep (s : State) (e rc : Int) : State :=
  let lo : Int := s.actF F.RAIL_DLIM_DMIN
  let hi : Int := s.actF F.RAIL_DLIM_DMAX
  let r := s.rail
  if r.law = 2 then
    let di := s.railCoef 1 * e
    let d := s.pidDeriv e
    let u := roundAcc (s.railCoef 0 * e + (r.integ + di) + d)
    let tot := clampI (u + rc) lo hi
    let hold := (decide (hi < u + rc) && decide (0 < di)) || (decide (u + rc < lo) && decide (di < 0))
    { s with rail := { r with
        uRaw := u
        rcNow := rc
        uTot := tot.toNat
        integ := if hold then r.integ else r.integ + di
        deriv := d
        e := (e :: r.e).take 3 } }
  else
    let k := s.poleCoefs
    let u := poleZero k.1 k.2 (e :: r.e) r.u
    let tot := clampI (u + rc) lo hi
    let kept := if tot = u + rc then u else tot - rc
    { s with rail := { r with uRaw := u, rcNow := rc, uTot := tot.toNat, u := (kept :: r.u).take 3, e := (e :: r.e).take 3 } }

/-- The balance terms, once per period (R287). -/
def State.balStep (s : State) (isns : List Nat) : State :=
  let n := s.getF F.RAIL_PWM_PHASES
  let avg : Int := roundOpen (isns.take n).sum n
  let bal := (List.range n).map (fun k =>
    (k, clampI (tabGet 0 s.rail.bal k + roundAcc (s.plan.rail.balK * (avg - nth isns k 0))) (-2048) 2047))
  { s with rail := { s.rail with bal := bal } }

/-- The duty of the next turn's phase (R287). -/
def State.dutyStep (s : State) (k : Nat) : State :=
  let d := clampI (s.rail.uTot + tabGet 0 s.rail.bal k) 0 (s.actF F.RAIL_DLIM_DMAX)
  { s with rail := { s.rail with duty := tabPut s.rail.duty k d.toNat } }

/-! ### Turns (R282, R283) -/

/-- The pulse of the phase whose turn begins, of the duty computed in the turn before (R282, R283). -/
def State.pulseStep (s : State) (n : Nat) : State :=
  { s with rail := { s.rail with pulse := tabPut s.rail.pulse n (tabGet 0 s.rail.duty n * s.getF F.RAIL_PWM_PERIOD / 65536) } }

/-- The samples of a turn recorded (R283): rail, phase currents, `AUXREF`. -/
def State.railMeasure (s : State) (vsns : Nat) (isns : List Nat) (aux : Nat) : State :=
  let mv := codeMv s.plan.rail.div vsns
  let p := if mv < 8192 then (mv, s) else s.choose 8192
  let s1 := p.2.setF F.RAIL_MEAS_VSNS_MV p.1
  let n := s.getF F.RAIL_PWM_PHASES
  let s2 := s1.forEach (List.range n) (fun k t => t.setF (F.RAIL_ISNS_CODE k) (nth isns k 0))
  s2.auxTake aux

/-- The following error at an update (R296): the timer, the peak, and the count of updates within the limit. -/
def State.feStep (s : State) (e : Int) : State :=
  let lim := s.feCode
  let r := s.rail
  let out := decide (lim < e.natAbs)
  let r1 := { r with
    feTicks := if out then r.feTicks + 1 else 0
    steady := if out then 0 else r.steady + 1
    rampDone := if r.rampDone != 0 || r.ramp == 8000 * s.getF F.RAIL_SP_TARGET then r.rampDone + 1 else 0 }
  let s1 := { s with rail := r1 }
  let s2 := s1.setF F.RAIL_FE_PEAK_MV (max (s.getF F.RAIL_FE_PEAK_MV) (min 65535 (codeMv s.plan.rail.div e.natAbs)))
  s2.when (decide (lim < 2 * e.natAbs)) (fun t => t.traceTrigger 2)

/-- A number of updates that lasts `rail.fe.time_us` or longer. -/
def State.feTime (s : State) (n : Nat) : Bool := decide (s.plan.rail.feTimeUs * 800 ≤ n * s.railTu)

/-- A timer of R296 has run out. -/
def State.feExpired (s : State) : Bool :=
  s.feTime s.rail.feTicks || (s.getF F.RAIL_STAT_STATE == 1 && decide (0 < s.rail.rampDone) && s.feTime (s.rail.rampDone - 1))

/-- What protection and the exit condition of soft start make of an update (R294, R296). -/
def State.railJudge (s : State) (vsns : Nat) : State :=
  let ov := if spCode s.plan.rail.div s.plan.rail.ovpMv < vsns then s.rail.ovCount + 1 else 0
  let s1 := { s with rail := { s.rail with ovCount := ov } }
  if 2 ≤ ov then s1.railFault true
  else if s1.getF F.RAIL_STAT_STATE = 1 ∧ 0 < s1.rail.rampDone ∧ 64 ≤ s1.rail.steady then
    (s1.setF F.RAIL_STAT_STATE 2).raise F.RAIL_EVT_REGULATE
  else if s1.feExpired then s1.railFault false
  else s1

/-- An update with the law running (R283 to R290, R296). -/
def State.railUpdate (s : State) (n vsns : Nat) (isns : List Nat) (tick : Nat) : State :=
  let p := s.plan.rail
  let st := s.getF F.RAIL_STAT_STATE
  let rate := if st = 1 then p.ss10 else p.slew10
  let ramp := rampStep s.rail.ramp (8000 * s.getF F.RAIL_SP_TARGET) (rate * s.railTu)
  let s1 := ({ s with rail := { s.rail with ramp := ramp } }).setF F.RAIL_SP_RAMP (roundOpen ramp 8000)
  let e : Int := (spCode8 p.div ramp : Int) - vsns
  let cell := s1.rcCell tick
  let rc : Int := match cell with | some x => s1.rail.rcAt x.1 x.2 | none => 0
  let s2 := ((s1.lawChange rc).lawStep e rc)
  let s3 := match cell with | some x => s2.rcLearn x.1 x.2 e | none => s2
  let s4 := s3.setF F.RAIL_MEAS_DUTY s3.rail.uTot
  let s5 := s4.when (n == 0) (fun t => t.balStep isns)
  ((s5.dutyStep ((n + 1) % s.getF F.RAIL_PWM_PHASES)).feStep e).railJudge vsns

/-- `RAIL_TURN` (R283): the turn of the next phase, with the codes sampled and the tick within the line. -/
def execRailTurn (vsns : Fin 4096) (isns : List (Fin 1024)) (aux : Fin 1024) (tick : Nat) (s : State) : Res :=
  let phases := s.getF F.RAIL_PWM_PHASES
  if !s.running || phases == 0 then .next s
  else
    let n := s.rail.phase % phases
    let i := isns.map (fun x => x.val)
    let s0 := { s with rail := { s.rail with phase := (n + 1) % phases, cut := s.rail.cut &&& ~~~ (1#4 <<< n) } }
    let s1 := (s0.railMeasure vsns.val i aux.val).sourceStep
    let s2 := if !s1.railOn then s1
      else if s1.flag F.RAIL_CTL_STOP then s1.railLeave 0
      else (s1.pulseStep n).railUpdate n vsns.val i tick
    .next s2.traceStep

/-- `PHASE_CURRENT_LIMIT` (R287): the pulse of the phase ends early; each period counts once. -/
def execPhaseCurrentLimit (n : Fin 4) (s : State) : Res :=
  if !s.railOn || decide (s.getF F.RAIL_PWM_PHASES ≤ n.val) || s.rail.cut.getLsbD n.val then .next s
  else
    let s1 := { s with rail := { s.rail with cut := s.rail.cut ||| (1#4 <<< n.val) } }
    .next ((s1.bump (F.RAIL_ISNS_ILIM n.val)).raise F.RAIL_EVT_ILIM)

/-- `AUXPWM_PERIOD_END` (R291, R293): the duty of an input period of 5 µs to 1 ms, in CORE cycles. -/
def execAuxpwmPeriodEnd (high : Nat) (period : Nat) (s : State) : Res :=
  if s.getF F.RAIL_STAT_SRC ≠ 2 then .next s
  else if !(within 4000 800000 period) then .next { s with rail := { s.rail with auxGood := 0 } }
  else
    let p := s.plan.rail
    let s1 := { s with rail := { s.rail with auxGood := s.rail.auxGood + 1 } }
    let s2 := if s1.flag F.RAIL_STAT_AUX_LOST && decide (4 ≤ s1.rail.auxGood) then s1.setF F.RAIL_STAT_AUX_LOST 0 else s1
    if s2.flag F.RAIL_STAT_AUX_LOST then .next s2
    else .next (s2.setTarget ((p.auxOffset + roundOpen (min high period * p.auxSpan) period : Nat)))

/-- `AUX_LOST` (R293): no edge on `AUXPWM` for 1 ms. -/
def execAuxLost (s : State) : Res :=
  if s.getF F.RAIL_STAT_SRC = 2 then .next ({ s with rail := { s.rail with auxGood := 0 } }).auxLose else .next s

/-- A minimum that may be absent. -/
def minOpt (a : Option Nat) (v : Nat) : Option Nat := match a with | some x => some (min x v) | none => some v

/-- `HEADROOM_VALUE` (R292): a line's value enters the minima of its segment and frame. -/
def execHeadroomValue (code : BitVec 8) (s : State) : Res :=
  let v := code.toNat
  let r := { s.rail with lineHr := some v, segMin := minOpt s.rail.segMin v, frameMin := minOpt s.rail.frameMin v }
  let s1 := { s with rail := r }
  .next (s1.when (decide (4 * v < s1.plan.corr.hrLowMv)) (fun t => t.traceTrigger 4))

/-- The end of a segment (R292). -/
def State.railSegEnd (s : State) : State :=
  let p := s.plan.rail
  let s1 := s.setF F.RAIL_HR_SEG_MIN (s.rail.segMin.getD 255)
  let s2 := { s1 with rail := { s1.rail with segMin := none } }
  match s.rail.segMin with
  | some c =>
    if s.getF F.RAIL_STAT_SRC = 0 ∧ 4 * c < p.hrTarget then
      s2.setTarget ((s2.getF F.RAIL_SP_TARGET + min (p.hrTarget - 4 * c) p.hrUp : Nat))
    else s2
  | none => s2

/-- The end of a frame (R292). -/
def State.railFrame (s : State) : State :=
  let p := s.plan.rail
  let s1 := s.setF F.RAIL_HR_FRAME_MIN (s.rail.frameMin.getD 255)
  let s2 := { s1 with rail := { s1.rail with frameMin := none } }
  match s.rail.frameMin with
  | some c =>
    if s.getF F.RAIL_STAT_SRC = 0 ∧ p.hrTarget + p.hrBand < 4 * c then
      s2.setTarget ((s2.getF F.RAIL_SP_TARGET : Int) - min (4 * c - p.hrTarget) p.hrDown)
    else s2
  | none => s2

/-- `HEADROOM_DARK_TIMEOUT` (R292). -/
def execHeadroomDarkTimeout (s : State) : Res :=
  if s.running && s.getF F.RAIL_STAT_SRC == 0 then .next (s.setTarget s.plan.rail.hrDarkMv) else .next s

/-- `FOLLOWING_ERROR_TRIP` (R296): a timer of the following error, where one is running, runs out. -/
def execFollowingErrorTrip (s : State) : Res :=
  if s.railOn && (decide (0 < s.rail.feTicks) || (s.getF F.RAIL_STAT_STATE == 1 && decide (0 < s.rail.rampDone))) then
    .next (s.railFault false)
  else .next s

/-- `RAIL_FAULT_RETRY` (R297). -/
def execRailFaultRetry (s : State) : Res :=
  if s.getF F.RAIL_STAT_STATE ≠ 3 ∨ s.flag F.RAIL_STAT_LATCHED = true then .next s
  else if s.getF F.RAIL_STAT_RETRIES < s.plan.rail.retries then .next (s.bump F.RAIL_STAT_RETRIES).railSoft
  else .next ((s.raise F.RAIL_STAT_LATCHED).raise F.RAIL_EVT_LATCHED)

/-- `RAIL_RETRIES_RESET` (R297). -/
def execRailRetriesReset (s : State) : Res :=
  if s.getF F.RAIL_STAT_STATE = 2 then .next (s.setF F.RAIL_STAT_RETRIES 0) else .next s

/-- `RAIL_CTL` as a write that sets one field leaves it: STOP kept unless named. -/
def State.railCtlWith (s : State) (f : Fld) (v : Nat) : Word :=
  f.put (BitVec.ofNat 32 (s.getF F.RAIL_CTL_STOP)) v

/-- `RAIL_CLEAR_FAULT` (R297). -/
def execRailClearFault (who : Initiator) (s : State) : Res :=
  .next (s.guarded who A.RAIL_CTL (fun t => t.railCtlWrite (t.railCtlWith F.RAIL_CTL_CLR_FAULT 1)))

/-- `RAIL_STOP` (R295). -/
def execRailStop (who : Initiator) (s : State) : Res :=
  .next (s.guarded who A.RAIL_CTL (fun t => t.railCtlWrite (t.railCtlWith F.RAIL_CTL_STOP 1)))

/-- `RAIL_START` (R294). -/
def execRailStart (who : Initiator) (s : State) : Res :=
  .next (s.guarded who A.RAIL_CTL (fun t => t.railCtlWrite (t.railCtlWith F.RAIL_CTL_STOP 0)))

/-- `RC_CLR` (R290). -/
def execRcClr (who : Initiator) (s : State) : Res :=
  .next (s.guarded who A.RAIL_CTL (fun t => t.railCtlWrite (t.railCtlWith F.RAIL_CTL_RC_CLR 1)))

/-- `RAIL_TCTL` as a write that sets one field leaves it: PRE kept. -/
def State.railTctlWith (s : State) (f : Fld) : Word := f.put (F.RAIL_TCTL_PRE.put 0 (s.getF F.RAIL_TCTL_PRE)) 1

/-- `TRACE_ARM` (R299). -/
def execTraceArm (who : Initiator) (s : State) : Res :=
  .next (s.guarded who A.RAIL_TCTL (fun t => t.railTctlWrite (t.railTctlWith F.RAIL_TCTL_ARM)))

/-- `TRACE_FORCE` (R299). -/
def execTraceForce (who : Initiator) (s : State) : Res :=
  .next (s.guarded who A.RAIL_TCTL (fun t => t.railTctlWrite (t.railTctlWith F.RAIL_TCTL_FORCE)))

/-- The rail controller refuses a commit (R288): the duty limits that would come into force. -/
def railRefuses (w : Nat → Word) : Bool :=
  let d := w A.RAIL_DLIM
  decide (F.RAIL_DLIM_DMAX.of d < F.RAIL_DLIM_DMIN.of d) || decide (62259 < F.RAIL_DLIM_DMAX.of d)

/-- Staged fields of the rail block. -/
def railStaged (a : Nat) : Bool := a == A.RAIL_LAW || a == A.RAIL_DLIM || a == A.RAIL_SPFIX || (decide (A.RAIL_COEF 0 ≤ a) && decide (a ≤ A.RAIL_COEF 6))

/-- A commit took effect that changed staged rail fields (R299). -/
def State.railCommitted (s : State) (changed : List Nat) : State :=
  s.when (changed.any railStaged) (fun t => t.traceTrigger 5)

/-! ### Plan check and load (R66, R70, R282) -/

/-- The rail parameters of a plan lie in their ranges (R281, R282, R288). -/
def railOk (p : RailPlan) : Bool :=
  within 640 3200 p.period && within 1 4 p.phases && p.period % p.phases == 0 && within 256 2048 p.div &&
    decide (p.law ≤ 3) && decide (p.dmin ≤ p.dmax) && decide (p.dmax ≤ 62259) && decide (p.balK ≤ 65535) &&
    within 50 1150 p.ilimMv && decide (p.rcQ ≤ 65535) && decide (-2147483648 ≤ p.rcK) && decide (p.rcK < 2147483648) &&
    decide (p.rcLead ≤ 15) && decide (p.rcLimit ≤ 32767) && decide (p.source ≤ 3) && within 1000 6000 p.spMin &&
    within 1000 6000 p.spMax && within 1000 6000 p.spFixed && within 1 100 p.slew10 && within 200 1000 p.hrTarget &&
    decide (p.hrBand ≤ 200) && within 1 500 p.hrUp && within 1 100 p.hrDown && within 10 60000 p.hrDarkMs &&
    within 1000 6000 p.hrDarkMv && decide (p.auxOffset ≤ 6000) && decide (p.auxGain ≤ 5000) && decide (p.auxSpan ≤ 6000) &&
    within 1 100 p.ss10 && within 10 1000 p.feLimitMv && within 1 100000 p.feTimeUs && within 1500 6000 p.ovpMv &&
    within 10 10000 p.retryMs && decide (p.retries ≤ 15)

/-- The rail registers at the start (R70). -/
def State.railLoad (s : State) : State :=
  let p := s.plan.rail
  let s1 := (s.setF F.RAIL_PWM_PERIOD p.period).setF F.RAIL_PWM_PHASES p.phases
  let s2 := ((s1.setBoth F.RAIL_LAW_LAW p.law).setBoth F.RAIL_LAW_RC_EN p.rcEnable.toNat).setBoth F.RAIL_LAW_SRC p.source
  let s3 := ((s2.setBoth F.RAIL_DLIM_DMIN p.dmin).setBoth F.RAIL_DLIM_DMAX p.dmax).setBoth F.RAIL_SPFIX_MV p.spFixed
  s3.forEach (List.range 7) (fun i t => t.setBoth (F.RAIL_COEF_COEF i) (nth p.coef i 0).toNat)

/-- `TRACE_DATA_READ` (R298). -/
def execTraceDataRead (who : Initiator) (s : State) : Res :=
  match who with
  | .keeper | .a0 | .a1 | .service =>
    if s.running then
      let r := s.traceRead
      .next (r.2.busOk r.1)
    else .next s

end Sys2Proof.Machine
end

