-- ==== Sys2Proof/Machine/Lamp.lean ====
section
/-!
DEFINITION. The lamp engine (R236 to R256): planes and pieces, codes to grey values, currents, slots, lines and blanking;
the matrices, trims and signatures that act in a slot (R257 to R261, R278, R279); the sampling of lamps in a line
(R268 to R273).
-/

namespace Sys2Proof.Machine

/-! ### Planes and pieces (R240 to R242) -/

/-- The on-time of a plane in one slot (R240). -/
def planeTicks (h k : Nat) : Nat := if k < h then 2 ^ (k + 4 - h) else 2 ^ (k - h)

/-- The ticks of a plane's piece in a segment, 0 where it has none (R241). -/
def pieceTicks (h m seg place k : Nat) : Nat :=
  let t := planeTicks h k
  if m ≤ t then t / m else if place = seg then t else 0

/-- The segments of a slot: SEGLOG 7 acts as 6. -/
def State.segments (s : State) : Nat := 2 ^ min 6 (s.getF F.LMP_PLANECFG_SEGLOG)

/-- The pieces of a segment's lines in their order: plane and ticks (R242). -/
def State.segPieces (s : State) (seg : Nat) : List (Nat × Nat) :=
  let h := s.getF F.LMP_PLANECFG_SHADE
  ((List.range (s.getF F.LMP_PLANECFG_DEPTH)).map (fun i =>
    let k := s.getF (F.LMP_PORD_POS i)
    (k, pieceTicks h s.segments seg (s.getF (F.LMP_SPLACE_SEG k)) k))).filter (fun p => p.2 != 0)

/-- The full-current runs of a grey value: start and length in ticks from the window's opening (R270). `cur` is the run
in progress. -/
def fullRuns (h g : Nat) : Nat → Option (Nat × Nat) → List (Nat × Nat) → List (Nat × Nat)
  | _, cur, [] => cur.toList
  | t, cur, (k, n) :: rest =>
    if g.testBit k ∧ h ≤ k then
      match cur with
      | some (a, l) => fullRuns h g (t + n) (some (a, l + n)) rest
      | none => fullRuns h g (t + n) (some (t, n)) rest
    else cur.toList ++ fullRuns h g (t + n) none rest

/-! ### From code to grey value (R248, R249, R259 to R261) -/

/-- The row and the sink's column and colour (R236): panel row and column. -/
def sinkPixel (sink row : Nat) : Nat × Nat := (64 * (sink / 768) + row, sink % 768 / 3)

/-- The matrix word at an index of a set. -/
def MatrixSet.word (m : MatrixSet) (i : Nat) : Nat :=
  match m.words.find? (fun p => p.1 == i) with
  | some p => p.2.toNat
  | none => if m.identity then (match i % 3 with | 0 => 0xFFFFFFFF | 1 => 0x3FF | _ => 0) else 0

/-- The bytes of a set (R260). -/
def MatrixSet.bytes (m : MatrixSet) : List Byte := (List.range 196608).flatMap (fun i => bytesLe (m.word i) 4)

/-- The size of a set: 768 KiB (R260). -/
def matrixBytes : Nat := 786432

/-- Where a matrix bank lies (R261): on a Head at its address in the LPDDR, on a Tile in the 1.5 MiB of the tile store beyond
the 4.5 MiB of the pool, bank A first (DESIGN CHOICE, log entry 73). -/
def State.bankBase (s : State) (b : Nat) : Nat :=
  if s.isHead then lpddr (nth s.plan.corr.headBank b 0) else 0x20480000 + matrixBytes * b

/-- A pixel's matrix entry in a bank as one number of 96 bits (R260). -/
def State.matrixEntry (s : State) (b r c : Nat) : Nat := memRead s.core.mem (s.bankBase b + 12 * (256 * r + c)) 12

/-- The place of an off-diagonal code in an entry, for the sink's colour and the input's (R260). -/
def offDiag (k j : Nat) : Nat :=
  match k, j with
  | 0, 1 => 42 | 0, _ => 51 | 1, 0 => 60 | 1, _ => 69 | _, 0 => 78 | _, _ => 87

/-- The corrected linear value of a colour (R259). -/
def correct (e k : Nat) (x : List Nat) : Nat :=
  let d : Int := (e / 2 ^ (14 * k) % 2 ^ 14 : Nat)
  let off := [0, 1, 2].foldl (fun (a : Int) j =>
    if j = k then a else a + toSigned 9 (e / 2 ^ offDiag k j % 512) * (x.getD j 0 : Nat)) 0
  clampU (((d + 1) * (x.getD k 0 : Nat) + 8 * off + 8192).fdiv 16384) 0xFFFFFF

/-- A grey value from a linear value (R248). -/
def quantise (depth v : Nat) : Nat := min (2 ^ depth - 1) ((v * (2 ^ depth - 1) + 2 ^ 23) / 2 ^ 24)

/-- A curve table's entry: index, colour and value; one not listed is linear. -/
def tableAt (l : List (Nat × Nat × Nat)) (i k : Nat) : Nat :=
  match l.find? (fun p => p.1 == i && p.2.1 == k) with
  | some p => p.2.2
  | none => 4097 * i

/-- The linear value of a colour of a pixel's codes at a depth (R249); curves 6 and 7 act as 3. -/
def LampPlan.curveOf (p : LampPlan) (sel d : Nat) (codes : List Nat) (k : Nat) : Nat :=
  let c := codes.getD k 0
  if sel = 4 then tableAt p.tableA (c <<< (12 - d)) k
  else if sel = 5 then tableAt p.tableB (c <<< (12 - d)) k
  else
    let z := if 3 < sel then 3 else sel
    curveTable z d p.whiteNits p.hlgGamma1000 (if z = 1 then codes else [c]) (if z = 1 then k else 0)

/-- A stored sample of the buffer that a slot took (R245). -/
def State.slotSample (s : State) (x : SlotX) (r c k : Nat) : Nat :=
  if s.isHead then s.ownSample x.facet (x.buf % 2) r c k
  else (s.decBuf x.buf).sample r c k

/-- The depth of a row of the buffer that a slot took; a missing slice with nothing lit was filled with 0 at no depth. -/
def State.slotDepth (s : State) (x : SlotX) (r : Nat) : Nat :=
  if s.isHead then s.outDepth else tabGet 8 (s.decBuf x.buf).depth (r / 8)

/-- The codes of a pixel and their depth as a slot shows them (R184, R248). -/
def State.slotCodes (s : State) (x : SlotX) (r c : Nat) : Nat × List Nat :=
  if x.shown = 0 then
    let d := s.slotDepth x r
    (d, [0, 1, 2].map (fun k => s.slotSample x r c k >>> (16 - d)))
  else if x.shown = 1 then
    let p := nth s.geo.patterns s.plan.comp.geodePattern []
    (8, [0, 1, 2].map (fun k => (p.getD (3 * (256 * r + c) + k) 0).toNat))
  else (8, [0, 1, 2].map (fun k => nth s.plan.comp.geodeFault k 128))

/-- The grey value of a sink in a row of the bands (R248, R273). -/
def State.grey (s : State) (x : SlotX) (sink row : Nat) : Nat :=
  if s.plan.corr.shortAction && x.shorts.contains (64 * sink + row) then 0
  else
    let p := sinkPixel sink row
    let c := s.slotCodes x p.1 p.2
    let lin := [0, 1, 2].map (fun k => s.plan.lamp.curveOf (F.LMP_CUR_CURVE.of x.cur) c.1 c.2 k)
    quantise (s.getF F.LMP_PLANECFG_DEPTH) (correct (s.matrixEntry x.bank p.1 p.2) (sink % 3) lin)

/-! ### Current (R250, R251, R257) -/

/-- Numerator of a sink's full current, in nA over the product of the denominators of R250. -/
def State.sinkNum (s : State) (x : SlotX) (sink : Nat) : Nat :=
  let lim := min (F.LMP_CUR_BLIMIT.of x.cur) (F.LMP_CUR_TLIMIT.of x.cur)
  let grp := (nth x.cgrp (sink / 768) 0).toNat / 2 ^ (8 * (sink % 3)) % 256
  let adj := (nth x.chadj (sink / 8) 0).toNat / 2 ^ (4 * (sink % 8)) % 16
  s.getF F.LMP_IREF_NA * 120 * (F.LMP_CUR_GLOBAL.of x.cur + 1) * (grp + 1) * (64 - adj) *
    (2016 + s.getF (F.CORR_TRIM_T sink)) * (lim + 1)

/-- The product of the denominators of R250: 256, 256, 64, 2,048 and 256. -/
def sinkDen : Nat := 256 * 256 * 64 * 2048 * 256

/-- A sink's current is set to 12.0 mA (R251). -/
def State.sinkClamped (s : State) (x : SlotX) (sink : Nat) : Bool := decide (12000000 * sinkDen < s.sinkNum x sink)

/-- A sink's current code, in steps of 12.0 mA / 4,096 (R251). -/
def State.sinkCode (s : State) (x : SlotX) (sink : Nat) : Nat :=
  if s.sinkClamped x sink then 4096 else roundNear (s.sinkNum x sink * 4096) (sinkDen * 12000000)

/-! ### Signatures (R278, R279) -/

/-- The signature of 196,608 samples given by row and place in the row (R278). -/
def pictureSig (f : Nat → Nat → Nat) : Word :=
  (List.range 256).foldl (fun w r =>
    w ^^^ crc32 (bytesLe r 2 ++ (List.range 768).flatMap (fun i => bytesLe (f r i) 2))) 0

/-- The signature of a pool buffer. -/
def DecBuf.sigOf (b : DecBuf) : Word := pictureSig (fun r i => b.sample r (i / 3) (i % 3))

/-- The signature of an own-panel picture. -/
def State.ownSig (s : State) (f half : Nat) : Word := pictureSig (fun r i => s.ownSample f half r (i / 3) (i % 3))

/-- The decode signature recorded at a hand-over that lights a buffer. -/
def State.recordDsig (s : State) (f : Nat) : State :=
  let b := s.litBuf f
  let sig := if s.isHead then s.ownSig f (b % 2) else (s.decBuf b).sigOf
  s.setF (F.CORR_DSIG_SIG f) sig.toNat

/-- The signature that the lamp engine computes in segment 0, and what it finds (R279). -/
def State.freezeCheck (s : State) (x : SlotX) : State :=
  if x.shown = 0 ∧ x.lit = true then
    let sig := pictureSig (fun r i => s.slotSample x r (i / 3) (i % 3))
    let prev := (s.lmp.prevSig.find? (fun p => p.1 == x.facet)).map (fun p => p.2)
    let s1 := s.setF (F.CORR_LSIG_SIG x.facet) sig.toNat
    let s2 := { s1 with lmp := { s1.lmp with prevSig := tabPut s1.lmp.prevSig x.facet (x.dsig, sig) } }
    if sig = x.dsig then s2
    else
      match prev with
      | some p =>
        if p.1 ≠ x.dsig ∧ sig = p.2 then (s2.bump F.CORR_FRZ_FREEZE).raise F.CORR_EVT_FREEZE
        else (s2.bump F.CORR_FRZ_MISMATCH).raise F.CORR_EVT_MISMATCH
      | none => (s2.bump F.CORR_FRZ_MISMATCH).raise F.CORR_EVT_MISMATCH
  else { s with lmp := { s.lmp with prevSig := tabDrop s.lmp.prevSig x.facet } }

/-! ### Samples of a line (R268 to R272) -/

/-- What a sample reads (R270): 0 good, 1 open, 2 short. -/
def CorrPlan.reads (p : CorrPlan) (mv : Nat) : Nat := if mv < p.openMv then 1 else if p.shortMv < mv then 2 else 0

/-- A lamp's state in the fault map. -/
def State.lampAt (s : State) (i : Nat) : Nat := s.getF (F.CORR_FMAP_L i)

/-- The count field that a lamp state has, if any. -/
def lampCount : Nat → Option Fld
  | 1 => some F.CORR_FUNMEAS_COUNT | 2 => some F.CORR_FOPEN_COUNT | 3 => some F.CORR_FSHORT_COUNT | _ => none

/-- A count lowered by one. -/
def State.countDown (s : State) (f : Option Fld) : State := match f with | some x => s.setF x (s.getF x - 1) | none => s

/-- A count raised by one. -/
def State.countUp (s : State) (f : Option Fld) : State := match f with | some x => s.setF x (s.getF x + 1) | none => s

/-- A lamp's state changed, with the counts and the event of the new state (R272). -/
def State.setLamp (s : State) (i v : Nat) : State :=
  let old := s.lampAt i
  if old = v then s
  else
    let s1 := ((s.setF (F.CORR_FMAP_L i) v).countDown (lampCount old)).countUp (lampCount v)
    let s2 := { s1 with corr := { s1.corr with
      lamps := tabDrop s1.corr.lamps i,
      shorts := if v = 3 then i :: s1.corr.shorts else s1.corr.shorts.filter (· != i) } }
    match v with
    | 1 => s2.raise F.CORR_EVT_UNMEAS
    | 2 => s2.raise F.CORR_EVT_OPEN
    | 3 => s2.raise F.CORR_EVT_SHORT
    | _ => s2

/-- A sample taken for a lamp in a slot (R272). -/
def State.lampSample (s : State) (i reads : Nat) : State :=
  if 2 ≤ s.lampAt i then s
  else if reads = 0 then ({ s with corr := { s.corr with lamps := tabDrop s.corr.lamps i } }).setLamp i 0
  else
    let x := tabGet {} s.corr.lamps i
    let y : LampX := if reads = 1 then { opens := x.opens + 1, shorts := 0 } else { opens := 0, shorts := x.shorts + 1 }
    if s.plan.corr.confirm ≤ y.opens + y.shorts then s.setLamp i (reads + 1)
    else { s with corr := { s.corr with lamps := tabPut s.corr.lamps i y } }

/-- The reading of a lamp is taken in this line (R270): its run is long enough. -/
def runLong (minTicks : Nat) (runs : List (Nat × Nat)) : Bool := runs.any (fun r => decide (minTicks ≤ r.2))

/-- A sink conducts at full current at a tick and has done so for long enough (R268). -/
def runAt (minTicks tick : Nat) (runs : List (Nat × Nat)) : Bool :=
  runs.any (fun r => decide (r.1 + minTicks ≤ tick) && decide (tick < r.1 + r.2))

/-- The samples of one band of a line (R268, R269, R271, R272): each as sink, reading in mV, runs. -/
def State.bandSamples (s : State) (b row : Nat) (l : List (Nat × Nat × List (Nat × Nat))) : State :=
  let p := s.plan.corr
  let mine := l.filter (fun x => x.1 / 768 == b)
  let taken := mine.filter (fun x => runLong p.minTicks x.2.2)
  let sag := decide (p.sagCount < (taken.filter (fun x => p.reads x.2.1 == 1)).length)
  let heads := mine.filter (fun x => runAt p.minTicks p.hrSampleTick x.2.2 && (sag || p.reads x.2.1 != 1))
  let codes := heads.map (fun x => min 255 (roundOpen x.2.1 4))
  let old := tabGet 255 s.corr.hrMin b
  let s1 := { s with corr := { s.corr with hrMin := if codes.isEmpty then s.corr.hrMin else tabPut s.corr.hrMin b (codes.foldl min old) } }
  let s2 := s1.when (taken.any (fun x => decide (x.2.1 < p.hrLowMv))) (fun t => t.bump (F.CORR_HR_LOWLINES b))
  if sag then (s2.bump F.CORR_CNT_SAG).raise F.CORR_EVT_SAG
  else s2.forEach taken (fun x t => t.lampSample (64 * x.1 + row) (p.reads x.2.1))

/-- The samples of a line in every band. -/
def State.lineSamples (s : State) (row : Nat) (pieces : List (Nat × Nat)) (samples : List LampSample) : State :=
  let h := s.getF F.LMP_PLANECFG_SHADE
  let l := (samples.filter (fun x => x.row.val == row)).map (fun x =>
    (x.sink.val, x.mv, fullRuns h (nth s.lmp.latch x.sink.val 0) 0 none pieces))
  s.forEach [0, 1, 2, 3] (fun b t => t.bandSamples b row l)

/-! ### Slots (R245, R246, R253, R254) -/

/-- A cause of a soft blank holds (R45, R252, R295, R334, R384): no slot starts. -/
def State.softHeld (s : State) : Bool :=
  s.lmp.vidDark || s.lmp.failDark || s.lmp.debugDark || s.flag F.LMP_IREF_BAD || s.getF F.RAIL_STAT_STATE != 2

/-- Slots can start: the engine runs, no blank holds, and a Tile's TB0 has been LOCKED once (R254, R309). -/
def State.slotsOk (s : State) : Bool :=
  s.getF F.LMP_STAT_STATE == 2 && !s.softHeld && (s.isHead || s.lmp.tb0Once)

/-- What a facet's slot shows (R184, R188, R214, R340): 0 its lit buffer, 1 the pattern, 2 the fault colour; and whether
it lights at all. -/
def State.facetShown (s : State) (f : Nat) : Nat × Bool :=
  let g := s.getF (F.GEO_STAT_FSHOWf f)
  if g = 2 then (1, true)
  else if g = 3 then (2, true)
  else (0, s.bit F.DEC_STAT_LIT f && decide (s.litBuf f < 12) && !(s.bit F.RED_TSTAT_EXPIRED f))

/-- The settings that a preload takes (R245, R253, R267, R273), and the sinks' current codes that they give (R250, R251). -/
def State.takeSlot (s : State) (f : Nat) : SlotX :=
  let v := s.facetShown f
  let x : SlotX := {
    facet := f, shown := v.1, buf := s.litBuf f, dsig := s.getW (A.CORR_DSIG f), bank := s.actF F.CORR_BANK_SEL,
    cur := F.LMP_CUR_TLIMIT.put (s.actW A.LMP_CUR) (s.getF F.LMP_CUR_TLIMIT),
    cgrp := [0, 1, 2, 3].map (fun b => s.actW (A.LMP_CGRP b)), chadj := (List.range 384).map (fun w => s.actW (A.LMP_CHADJ w)),
    shorts := s.corr.shorts, lit := v.2
  }
  { x with codes := if x.lit then (List.range 3072).map (s.sinkCode x) else [] }

/-- The values of a line's sinks as the column chains carry them: left-aligned to 16 bits (R239). -/
def State.columnsOf (s : State) (x : SlotX) (row : Nat) : List Nat :=
  if x.lit then (List.range 3072).map (fun k => s.grey x k row <<< (16 - s.getF F.LMP_PLANECFG_DEPTH)) else []

/-- The row of a place in the line order (R243). -/
def State.rowAt (s : State) (line : Nat) : Nat := nth s.lmp.lineOrder line line

/-- The position of the next line of a slot: segment and place in the line order. -/
def nextLine (preload : Bool) (seg line : Nat) : Nat × Nat :=
  if preload then (0, 0) else if line = 63 then (seg + 1, 0) else (seg, line + 1)

/-- A slot's preload begun: the column chains load its first line (R245). -/
def State.startSlot (s : State) (f : Nat) : State :=
  if !s.slotsOk then s
  else
    let x := s.takeSlot f
    let clamp := x.lit && (List.range 3072).any (fun k => s.sinkClamped x k)
    let s1 := { s with lmp := { s.lmp with slot := some x, softPend := false, chain := s.columnsOf x (s.rowAt 0) } }
    let s2 := (((((s1.setF F.LMP_STAT_FACET f).raise F.LMP_STAT_INSLOT).setF F.LMP_STAT_SEG 0).setF F.LMP_STAT_LINE 0).setB
      F.LMP_STAT_ICLAMP clamp).setF F.CORR_STAT_INUSE x.bank
    s2.when clamp (fun t => t.raise F.LMP_EVT_ICLAMP)

/-- The first of the slots whose preload fell into another slot begins (R246). -/
def State.startWaiting (s : State) : State :=
  match s.lmp.waiting with
  | [] => s
  | f :: rest => ({ s with lmp := { s.lmp with waiting := rest } }).startSlot f

/-- `SLOT_PRELOAD_START` (R245, R246). -/
def execSlotPreloadStart (f : Fin 4) (s : State) : Res :=
  if s.facets ≤ f.val || !s.released then .next s
  else if s.lmp.slot.isSome then
    let s1 := { s with lmp := { s.lmp with waiting := s.lmp.waiting ++ [f.val] } }
    .next ((s1.bump F.LMP_CNT_SLOT_LATE).raise F.LMP_EVT_SLOT_LATE)
  else .next (({ s with lmp := { s.lmp with waiting := [] } }).startSlot f.val)

/-- A line of a slot (R238, R239, R242): the latch takes the values of the column chains, which load the next line's; the gate
and the pieces; then what the line's samples show. -/
def State.lineOf (s : State) (x : SlotX) (seg line : Nat) (samples : List LampSample) : State :=
  let row := s.rowAt line
  let pieces := s.segPieces seg
  let y := { x with preload := false, driven := x.driven || x.lit }
  let n := nextLine false seg line
  let l := { s.lmp with
    slot := some y, gate := if x.lit then some row else none, pieces := pieces
    latch := s.lmp.chain.map (fun v => v >>> (16 - s.getF F.LMP_PLANECFG_DEPTH))
    chain := if n.1 < s.segments then s.columnsOf x (s.rowAt n.2) else [] }
  let s0 := { s with lmp := l, rail := { s.rail with lineHr := none } }
  let s1 := (s0.setF F.LMP_STAT_SEG seg).setF F.LMP_STAT_LINE line
  if x.lit then s1.lineSamples row pieces samples else s1

/-- `LINE_START` (R238, R254): the line boundary at which a soft blank takes effect, or the slot's next line. -/
def execLineStart (samples : List LampSample) (s : State) : Res :=
  match s.lmp.slot with
  | none => .next s
  | some x =>
    if s.lmp.softPend then .next (s.softBlankNow.startWaiting)
    else
      let p := nextLine x.preload (s.getF F.LMP_STAT_SEG) (s.getF F.LMP_STAT_LINE)
      if s.segments ≤ p.1 then .next s
      else
        let s1 := if p = (1, 0) then s.freezeCheck x else s
        let s2 := if x.preload then s1.traceTrigger 3 else if p.2 = 0 then s1.railSegEnd else s1
        .next (s2.lineOf x p.1 p.2 samples)

/-- `SLOT_END` (R243): every gate low; a slot that waits begins. -/
def execSlotEnd (s : State) : Res :=
  match s.lmp.slot with
  | none => .next s
  | some x =>
    if x.preload then .next s
    else
      let s1 := if s.segments = 1 then s.freezeCheck x else s
      let l := { s1.lmp with slot := none, softPend := false, gate := none, pieces := [], latch := [], chain := [] }
      .next ((({ s1 with lmp := l }).setF F.LMP_STAT_INSLOT 0).railSegEnd.lampState.startWaiting)

/-- `IREF_MEASUREMENT` (R252). -/
def execIrefMeasurement (na : Nat) (s : State) : Res :=
  if !s.running then .next s
  else
    let s1 := s.setF F.LMP_IREF_NA (min na 131071)
    if na < 18000 ∨ 110000 < na then .next (((s1.raise F.LMP_IREF_BAD).raise F.LMP_EVT_IREF_BAD).softBlank)
    else .next (s1.setF F.LMP_IREF_BAD 0)

/-! ### Stopping and hard blanks (R255, R256) -/

/-- A write of `LMP_CTL`. -/
def State.lmpCtlWrite (s : State) (w : Word) : State :=
  let stop := F.LMP_CTL_STOP.of w
  let hard := F.LMP_CTL_HARD.of w
  let rises := stop == 1 && !(s.flag F.LMP_CTL_STOP)
  let hardRises := hard == 1 && !(s.flag F.LMP_CTL_HARD)
  let s1 := (s.setF F.LMP_CTL_STOP stop).setF F.LMP_CTL_HARD hard
  let s2 := s1.when rises (fun t => t.softBlank)
  if hardRises then s2.hardBlank else s2.lampState

/-- The value of `LMP_CTL` with one field changed. -/
def State.lmpCtlWith (s : State) (f : Fld) (v : Nat) : Word := f.put (s.getW A.LMP_CTL) v

/-- `LAMP_STOP` (R256). -/
def execLampStop (who : Initiator) (s : State) : Res :=
  .next (s.guarded who A.LMP_CTL (fun t => t.lmpCtlWrite (t.lmpCtlWith F.LMP_CTL_STOP 1)))

/-- `LAMP_START` (R256). -/
def execLampStart (who : Initiator) (s : State) : Res :=
  .next (s.guarded who A.LMP_CTL (fun t => t.lmpCtlWrite (t.lmpCtlWith F.LMP_CTL_STOP 0)))

/-- `HARD_BLANK_REQUEST` (R255). -/
def execHardBlankRequest (who : Initiator) (s : State) : Res :=
  .next (s.guarded who A.LMP_CTL (fun t => t.lmpCtlWrite (t.lmpCtlWith F.LMP_CTL_HARD 1)))

/-- `HARD_BLANK_CLEAR` (R255). -/
def execHardBlankClear (who : Initiator) (s : State) : Res :=
  .next (s.guarded who A.LMP_CTL (fun t => t.lmpCtlWrite (t.lmpCtlWith F.LMP_CTL_HARD 0)))

/-- The lamp engine is idle (R256). -/
def State.lampIdle (s : State) : Bool := s.flag F.LMP_CTL_STOP && s.getF F.LMP_STAT_STATE == 0

/-- `LAMP_UNMEASURED_TIMEOUT` (R272). -/
def execLampUnmeasuredTimeout (lamp : Fin 196608) (s : State) : Res :=
  if s.running && s.lampAt lamp.val == 0 then .next (s.setLamp lamp.val 1) else .next s

/-! ### Plan check and load (R70, R237, R241, R244, R245, R247) -/

/-- A time in ns as ticks, rounded up. -/
def Plan.nsTicksUp (p : Plan) (ns : Nat) : Nat :=
  let d := 1000000000 * p.wall.rateDen
  (ns * p.lamp.frameTicks * p.wall.rateNum + d - 1) / d

/-- A time in ns as ticks, rounded to the nearest, a half up (R245). -/
def Plan.nsTicks (p : Plan) (ns : Nat) : Nat :=
  let d := 1000000000 * p.wall.rateDen
  (2 * ns * p.lamp.frameTicks * p.wall.rateNum + d) / (2 * d)

/-- The line period of a plan in ticks. -/
def Plan.lineTicks (p : Plan) : Nat := p.nsTicksUp p.lamp.lineBlankNs + p.lamp.window

/-- Loads of the segments as planes are placed: the split planes' share in each. -/
def splitLoad (d h m : Nat) : Nat := ((List.range d).map (fun k => if m ≤ planeTicks h k then planeTicks h k / m else 0)).sum

/-- A placed plane is taken before another (R241): longer first, full before shade, then the higher. -/
def placeBefore (h a b : Nat) : Bool :=
  let ta := planeTicks h a
  let tb := planeTicks h b
  decide (tb < ta) || (ta == tb && ((decide (h ≤ a) && decide (b < h)) || (decide (h ≤ a) == decide (h ≤ b) && decide (b < a))))

/-- The segment with the smallest load, the lowest on a tie. -/
def leastLoad (l : List Nat) : Nat := l.findIdx (fun x => l.all (fun y => decide (x ≤ y)))

/-- The default placement of the placed planes (R241): plane and segment. -/
def defaultPlace (d h m : Nat) : List (Nat × Nat) :=
  let order := ((List.range d).filter (fun k => decide (planeTicks h k < m))).mergeSort (fun a b => placeBefore h a b)
  (order.foldl (fun (a : List (Nat × Nat) × List Nat) k =>
    let j := leastLoad a.2
    (a.1 ++ [(k, j)], a.2.set j (a.2.getD j 0 + planeTicks h k))) ([], List.replicate m (splitLoad d h m))).1

/-- The segment of a placed plane in the plan. -/
def LampPlan.placeOf (p : LampPlan) (k : Nat) : Nat :=
  match p.place with
  | [] => match (defaultPlace p.greyDepth p.shade (2 ^ p.segLog)).find? (fun x => x.1 == k) with | some x => x.2 | none => 0
  | l => nth l k 0

/-- The load of a segment in the plan. -/
def LampPlan.load (p : LampPlan) (seg : Nat) : Nat :=
  ((List.range p.greyDepth).map (fun k => pieceTicks p.shade (2 ^ p.segLog) seg (p.placeOf k) k)).sum

/-- The planned offset of a facet in lines. -/
def Plan.facetLines (p : Plan) (f : Nat) : Nat := (nth p.ingest.facet f {}).offsetLines

/-- By how many ticks a facet's image boundary can come earlier from one frame to the next (R247). -/
def Plan.earlier (p : Plan) (f : Nat) : Nat :=
  let x := nth p.ingest.facet f {}
  let lines := p.ingest.vtotal * p.wall.facets
  if x.shutter.isSome then
    (min p.ingest.slewLines (x.offsetMax - x.offsetMin) * p.lamp.frameTicks + lines - 1) / max 1 lines
  else 0

/-- A facet's slot with its preload, in units of a tick over the frame's lines. -/
def Plan.slotSpan (p : Plan) (f : Nat) : Nat × Nat :=
  let lines := p.ingest.vtotal * p.wall.facets
  let d := p.nsTicks (nth p.lamp.delayNs f 0)
  let at0 := p.facetLines f * p.lamp.frameTicks
  (at0 + (d - p.lineTicks) * lines, at0 + (d + 64 * 2 ^ p.lamp.segLog * p.lineTicks) * lines)

/-- Two spans of a frame of a length, which repeat each frame, do not meet. -/
def spansApart (len : Nat) (a b : Nat × Nat) : Bool :=
  let apart := fun (x y : Nat × Nat) => decide (x.2 ≤ y.1) || decide (y.2 ≤ x.1)
  apart a b && apart (a.1 + len, a.2 + len) b && apart a (b.1 + len, b.2 + len)

/-- The lamp parameters of a plan lie within their ranges and pass R247. -/
def lampOk (p : Plan) : Bool :=
  let l := p.lamp
  let m := 2 ^ l.segLog
  let lt := p.lineTicks
  let b := p.nsTicksUp l.lineBlankNs
  let g := p.nsTicksUp l.gateOnNs
  let frame := l.frameTicks
  let lines := p.ingest.vtotal * p.wall.facets
  within 8 16 l.greyDepth && decide (l.shade ≤ 4) && decide (l.shade + 4 ≤ l.greyDepth) && decide (l.segLog ≤ 6) &&
    decide (25000000 * p.wall.rateDen ≤ frame * p.wall.rateNum) && decide (frame * p.wall.rateNum ≤ 250000000 * p.wall.rateDen) &&
    within 16 255 b && within 8 (b - 8) g && within 16 4095 l.window && l.lineOrder.length == 64 &&
    (List.range 64).all (fun r => l.lineOrder.contains r) && l.planeOrder.length == l.greyDepth &&
    (List.range l.greyDepth).all (fun k => l.planeOrder.contains k) &&
    (List.range m).all (fun j => decide (l.load j ≤ l.window)) &&
    (List.range l.greyDepth).all (fun k => decide (m ≤ planeTicks l.shade k) || decide (l.placeOf k < m)) &&
    decide (196 ≤ lt) && decide (frame * p.wall.rateNum ≤ 64 * lt * 15360 * p.wall.rateDen) &&
    (List.range p.wall.facets).all (fun f =>
      let d := p.nsTicks (nth l.delayNs f 0)
      decide (lt ≤ d) && decide (d + 64 * m * lt + p.earlier f + lt ≤ frame) &&
        (List.range p.wall.facets).all (fun h => decide (f ≤ h) || spansApart (frame * lines) (p.slotSpan f) (p.slotSpan h))) &&
    l.chan.all (fun a => decide (a < 16)) && decide (l.chan.length ≤ 3072) && decide (l.global ≤ 255) && decide (l.blimit ≤ 255) &&
    decide (l.group.length ≤ 4) && l.group.all (fun g => decide (g.length ≤ 3) && g.all (fun v => decide (v ≤ 255))) &&
    (l.tableA ++ l.tableB).all (fun e => decide (e.1 < 4096) && decide (e.2.1 < 3) && decide (e.2.2 < 2 ^ 24)) && within 100 10000 l.whiteNits && within 1000 1500 l.hlgGamma1000 && decide (l.curve ≤ 5)

/-- The lamp registers at the start (R70), and what the keeper loads beside them (R69). -/
def State.lampLoad (s : State) : State :=
  let p := s.plan
  let l := p.lamp
  let s1 := ({ s with lmp := { s.lmp with lineOrder := l.lineOrder } }).setF F.LMP_LINECFG_WINDOW l.window
  let s2 := (s1.setF F.LMP_LINECFG_BLANK (p.nsTicksUp l.lineBlankNs)).setF F.LMP_LINECFG_GATE_ON (p.nsTicksUp l.gateOnNs)
  let s3 := (((s2.setF F.LMP_PLANECFG_DEPTH l.greyDepth).setF F.LMP_PLANECFG_SHADE l.shade).setF F.LMP_PLANECFG_SEGLOG
    l.segLog).setF F.LMP_GREY_FRAME_TICKS l.frameTicks
  let s4 := s3.forEach (List.range 16) (fun i t => (t.setF (F.LMP_PORD_POS i) (nth l.planeOrder i 0)).setF (F.LMP_SPLACE_SEG i) (l.placeOf i))
  let s5 := s4.forEach [0, 1, 2, 3] (fun f t => t.setF (F.LMP_SLOT_DELAY f) (p.nsTicks (nth l.delayNs f 0)))
  let s6 := ((s5.setBoth F.LMP_CUR_GLOBAL l.global).setBoth F.LMP_CUR_BLIMIT l.blimit).setBoth F.LMP_CUR_CURVE l.curve
  let s7 := s6.forEach [0, 1, 2, 3] (fun b t => (((t.setBoth (F.LMP_CGRP_R b) (nth (nth l.group b []) 0 255)).setBoth (F.LMP_CGRP_G b)
    (nth (nth l.group b []) 1 255)).setBoth (F.LMP_CGRP_B b) (nth (nth l.group b []) 2 255)))
  s7.forEach (List.range 384) (fun w t =>
    let v := BitVec.ofNat 32 ((List.range 8).foldr (fun k a => nth l.chan (8 * w + k) 0 % 16 + 16 * a) 0)
    (t.setW (A.LMP_CHADJ w) v).setActW (A.LMP_CHADJ w) v)

end Sys2Proof.Machine
end

