-- ==== Sys2Proof/Machine/Corr.lean ====
section
/-!
DEFINITION. Correction and diagnosis as a block: matrix banks, the factory region, the fault map, the probe sweep, the
frame's headroom and stale layers (R257 to R280).
-/

namespace Sys2Proof.Machine

/-! ### Banks (R261 to R267) -/

/-- A word of a bank. -/
def State.matrixWord (s : State) (b : Bool) (i : Nat) : Nat := memRead s.core.mem (s.bankBase b.toNat + 4 * i) 4

/-- The memory behind the bus with a word of a bank written. -/
def State.matrixPut (s : State) (b : Bool) (i : Nat) (w : Word) : State :=
  { s with core := { s.core with mem := memWrite s.core.mem (s.bankBase b.toNat + 4 * i) w.toNat 4 } }

/-- The state with a bank's content replaced. -/
def State.setMatrix (s : State) (b : Bool) (m : MatrixSet) : State :=
  { s with core := { s.core with mem := memPuts s.core.mem (s.bankBase b.toNat) m.bytes } }

/-- The VALID field of a bank. -/
def validFld (b : Bool) : Fld := if b then F.CORR_STAT_VALID_B else F.CORR_STAT_VALID_A

/-- A pending commit selects the bank. -/
def State.pendingMatrix (s : State) (b : Bool) : Bool :=
  match s.cfg.pending with
  | some p => p.vals.any (fun x => x.1 == A.CORR_BANK && F.CORR_BANK_SEL.of x.2 == b.toNat)
  | none => false

/-- A slot in progress uses the bank. -/
def State.slotUses (s : State) (b : Bool) : Bool := match s.lmp.slot with | some x => x.bank == b.toNat | none => false

/-- A bank is busy (R266). -/
def State.matrixBusy (s : State) (b : Bool) : Bool :=
  s.actF F.CORR_BANK_SEL == b.toNat || s.pendingMatrix b || s.slotUses b || s.corr.sealing.any (fun j => j.bank == b)

/-- A write to `CORR_MADDR` (R264, R266). -/
def State.maddrWrite (s : State) (w : Word) : State :=
  let b := F.CORR_MADDR_BANK.of w == 1
  if s.matrixBusy b then s.raise F.CORR_EVT_BANK_BUSY
  else ((s.setF F.CORR_MADDR_WORD (F.CORR_MADDR_WORD.of w)).setB F.CORR_MADDR_BANK b).setF (validFld b) 0

/-- A write to `CORR_MDATA` (R264, R266). -/
def State.mdataWrite (s : State) (w : Word) : State :=
  let b := s.flag F.CORR_MADDR_BANK
  if s.matrixBusy b then s.raise F.CORR_EVT_BANK_BUSY
  else
    let i := s.getF F.CORR_MADDR_WORD
    let s1 := if i < 196608 then s.matrixPut b i w else s
    s1.setF F.CORR_MADDR_WORD (i + 1)

/-- The CRC-32 over the bytes of a bank (R264). -/
def State.bankCrc (s : State) (b : Bool) : Word := crc32 (memBytes s.core.mem (s.bankBase b.toNat) matrixBytes)

/-- SEALING as the jobs stand. -/
def State.setSealing (s : State) (l : List SealJob) : State :=
  ({ s with corr := { s.corr with sealing := l } }).setB F.CORR_STAT_SEALING (!l.isEmpty)

/-- A seal begun (R264). -/
def State.sealBank (s : State) (b : Bool) : State :=
  if s.matrixBusy b then s.raise F.CORR_EVT_BANK_BUSY
  else s.setSealing (s.corr.sealing ++ [({ bank := b, load := none } : SealJob)])

/-- A factory set loaded (R265, R266). -/
def State.loadSet (s : State) (b set1 : Bool) : State :=
  let n := s.getF F.CORR_STAT_FACT_SETS
  if s.matrixBusy b then s.raise F.CORR_EVT_BANK_BUSY
  else if s.flag F.CORR_STAT_FACT_OK = false ∨ n ≤ set1.toNat then s.raise F.CORR_EVT_SEAL_FAIL
  else
    let m := if set1 then s.corr.factory.set1 else s.corr.factory.set0
    let c := if set1 then s.corr.factory.crc1 else s.corr.factory.crc0
    ((s.setMatrix b m).setF (validFld b) 0).setSealing (s.corr.sealing ++ [({ bank := b, load := some c } : SealJob)])

/-- The first job of a kind, with the others. -/
def takeSeal (load : Bool) : List SealJob → Option (SealJob × List SealJob)
  | [] => none
  | j :: rest => if j.load.isSome = load then some (j, rest) else (takeSeal load rest).map (fun x => (x.1, j :: x.2))

/-- A SEAL or LOAD completed (R264, R265): the bank is valid where its CRC is the one expected. -/
def State.sealDone (s : State) (load : Bool) : State :=
  match takeSeal load s.corr.sealing with
  | none => s
  | some (j, rest) =>
    let want := j.load.getD (s.getW A.CORR_MCRC)
    let s1 := s.setSealing rest
    if s.bankCrc j.bank = want then (s1.raise (validFld j.bank)).raise F.CORR_EVT_SEALED
    else (s1.setF (validFld j.bank) 0).raise F.CORR_EVT_SEAL_FAIL

/-- `MATRIX_ADDRESS_WRITE` (R264). -/
def execMatrixAddressWrite (who : Initiator) (value : BitVec 19) (s : State) : Res :=
  .next (s.guarded who A.CORR_MADDR (fun t => t.maddrWrite (value.setWidth 32)))

/-- `MATRIX_WORD_WRITE` (R264). -/
def execMatrixWordWrite (who : Initiator) (value : Word) (s : State) : Res :=
  .next (s.guarded who A.CORR_MDATA (fun t => t.mdataWrite value))

/-- `BANK_SEAL` (R264). -/
def execBankSeal (who : Initiator) (bank : Bool) (s : State) : Res :=
  .next (s.guarded who A.CORR_CTL (fun t => t.sealBank bank))

/-- `BANK_SEAL_DONE` (R264). -/
def execBankSealDone (s : State) : Res := .next (s.sealDone false)

/-- `FACTORY_SET_LOAD` (R265). -/
def execFactorySetLoad (who : Initiator) (bank : Bool) (set1 : Bool) (s : State) : Res :=
  .next (s.guarded who A.CORR_CTL (fun t => t.loadSet bank set1))

/-- `FACTORY_SET_LOAD_DONE` (R265). -/
def execFactorySetLoadDone (s : State) : Res := .next (s.sealDone true)

/-- Correction refuses a commit that selects a bank that is not valid (R267). -/
def State.corrRefuses (s : State) (w : Nat → Word) : Bool :=
  !(s.flag (validFld (F.CORR_BANK_SEL.of (w A.CORR_BANK) == 1)))

/-! ### Fault map and probe (R272 to R277) -/

/-- Every lamp UNMEASURED (R272). -/
def State.fmapClear (s : State) : State :=
  let s1 := { s with
    regs := tabFilter (fun a => decide (A.CORR_FMAP 0 ≤ a) && decide (a ≤ A.CORR_FMAP 12287)) s.regs
    corr := { s.corr with lamps := [], shorts := [] } }
  ((s1.setF F.CORR_FUNMEAS_COUNT 196608).setF F.CORR_FOPEN_COUNT 0).setF F.CORR_FSHORT_COUNT 0

/-- `FAULT_MAP_CLEAR` (R272). -/
def execFaultMapClear (who : Initiator) (s : State) : Res := .next (s.guarded who A.CORR_CTL State.fmapClear)

/-- A sweep requested (R275); a request while one is pending or running merges with it. -/
def State.probeRequest (s : State) (all : Bool) : State :=
  let busy := s.flag F.CORR_PROBE_PENDING || s.flag F.CORR_STAT_PROBING
  let s1 := { s with corr := { s.corr with probeAll := all || (busy && s.corr.probeAll) } }
  if s.flag F.CORR_STAT_PROBING then s1 else s1.raise F.CORR_PROBE_PENDING

/-- `PROBE_REQUEST` (R275). -/
def execProbeRequest (who : Initiator) (all : Bool) (s : State) : Res :=
  .next (s.guarded who A.CORR_CTL (fun t => t.probeRequest all))

/-- `PROBE_PERIOD_EXPIRY` (R275). -/
def execProbePeriodExpiry (s : State) : Res :=
  if s.released && s.plan.corr.probePeriod != 0 && s.getF F.CORR_FUNMEAS_COUNT != 0 then .next (s.probeRequest false)
  else .next s

/-- The target sinks of a row (R275). -/
def State.probeTargets (s : State) (row : Nat) : List Nat :=
  (List.range 3072).filter (fun k => s.corr.probeAll || s.lampAt (64 * k + row) == 1)

/-- The first row from `r` on that holds a target. -/
def State.probeRow (s : State) (r : Nat) : Option Nat :=
  (List.range 64).find? (fun x => decide (r ≤ x) && !(s.probeTargets x).isEmpty)

/-- The samples of a probe step in one band (R271, R275). A flagged lamp keeps its state until it is cleared (R272; DEDUCED,
log entry 73). -/
def State.probeBand (s : State) (b row : Nat) (l : List (Nat × Nat)) : State :=
  let p := s.plan.corr
  let mine := l.filter (fun x => x.1 / 768 == b)
  if p.sagCount < (mine.filter (fun x => p.reads x.2 == 1)).length then (s.bump F.CORR_CNT_SAG).raise F.CORR_EVT_SAG
  else s.forEach mine (fun x t =>
    t.when (t.lampAt (64 * x.1 + row) ≤ 1) (fun u => u.setLamp (64 * x.1 + row) (match p.reads x.2 with | 0 => 0 | 1 => 2 | _ => 3)))

/-- The current code of a probed sink (R276): `corr.probe.ua` rounded as R251 lays down. -/
def CorrPlan.probeCode (p : CorrPlan) : Nat := roundNear (p.probeUa * 4096) 12000

/-- A sweep whose rows are all done (R275). -/
def State.sweepDone (s : State) : State :=
  let s1 := ((s.setF F.CORR_PROBE_LAMPS s.corr.probeTargets).setF F.CORR_PROBE_NEXT_ROW 0).setF F.CORR_STAT_PROBING 0
  (({ s1 with corr := { s1.corr with probeTargets := 0, probeAll := false } }).bump F.CORR_CNT_SWEEPS).raise F.CORR_EVT_SWEEP_DONE

/-- The length of a probe step and of a line, in ticks (R276). -/
def State.stepTicks (s : State) : Nat := s.getF F.LMP_LINECFG_BLANK + s.plan.corr.probeTicks

/-- `PROBE_STEP` (R275 to R277): the next row is probed, or the sweep pauses; a blank during the step gives no sample. -/
def execProbeStep (windowLeft : Nat) (preloadIn : Nat) (blanked : Bool) (samples : List LampSample) (s : State) : Res :=
  let line := s.getF F.LMP_LINECFG_BLANK + s.getF F.LMP_LINECFG_WINDOW
  let active := s.flag F.CORR_PROBE_PENDING || s.flag F.CORR_STAT_PROBING
  if !active || s.getF F.LMP_STAT_STATE != 2 || decide (windowLeft < s.stepTicks) || decide (preloadIn < s.stepTicks + line) ||
      s.lmp.slot.isSome then .next s
  else
    let s1 := (s.setF F.CORR_PROBE_PENDING 0).raise F.CORR_STAT_PROBING
    match s1.probeRow (s1.getF F.CORR_PROBE_NEXT_ROW) with
    | none => .next s1.sweepDone
    | some row =>
      let targets := s1.probeTargets row
      let s0 := { s1 with corr := { s1.corr with probe := some { row := row, sinks := targets, code := s1.plan.corr.probeCode } } }
      let s2 := s0.setF F.CORR_PROBE_NEXT_ROW row
      if blanked then .next s2
      else
        let l := (samples.filter (fun x => x.row.val == row && targets.contains x.sink.val)).map (fun x => (x.sink.val, x.mv))
        let s3 := [0, 1, 2, 3].foldl (fun t b => t.probeBand b row l) s2
        let s4 := { s3 with corr := { s3.corr with probeTargets := s3.corr.probeTargets + targets.length } }
        match s4.probeRow (row + 1) with
        | some r => .next (s4.setF F.CORR_PROBE_NEXT_ROW r)
        | none => .next s4.sweepDone

/-- A write of `CORR_CTL`. -/
def State.corrCtlWrite (s : State) (w : Word) : State :=
  let on := fun (f : Fld) => f.of w == 1
  let s1 := s.when (on F.CORR_CTL_FMAP_CLR) State.fmapClear
  let s2 := s1.when (on F.CORR_CTL_PROBE) (fun t => t.probeRequest (on F.CORR_CTL_PROBE_ALL))
  let s3 := s2.when (on F.CORR_CTL_SEAL) (fun t => t.sealBank (on F.CORR_CTL_BANK))
  s3.when (on F.CORR_CTL_LOAD) (fun t => t.loadSet (on F.CORR_CTL_BANK) (on F.CORR_CTL_SET))

/-! ### Frames and images (R159, R269, R280) -/

/-- The headroom minima of the frame that ends (R269). -/
def State.corrFrame (s : State) : State :=
  let s1 := s.forEach [0, 1, 2, 3] (fun b t => t.setF (F.CORR_HR_MIN b) (tabGet 255 s.corr.hrMin b))
  { s1 with corr := { s1.corr with hrMin := [] } }

/-- A layer's signature over the bytes fetched in the image that ends, and the finding of R280. An image in which nothing was
fetched for the layer is none in which it took part (DEDUCED, log entry 73). -/
def State.layerSig (s : State) (f l : Nat) (bytes : List Byte) : State :=
  let sig := crc32 bytes
  if bytes.isEmpty then s.setF (F.SCN_SIG_CRC l) sig.toNat else
  let same := (s.ing.sigOf.find? (fun p => decide (p.1 = (f, l)))).map (fun p => p.2) == some sig
  let s1 := (s.setF (F.SCN_SIG_CRC l) sig.toNat)
  let s2 := { s1 with ing := { s1.ing with sigOf := tabPut s1.ing.sigOf (f, l) sig } }
  s2.when (same && s.ing.fresh.contains l) (fun t => (t.raiseBit F.CORR_LSTALE_LAYER l).raise F.CORR_EVT_STALE)

/-- The bytes of a plane line of a layer's picture, and where that line begins in the LPDDR: of a planar picture (R142), of a
graphic buffer (R163), or of the Flowstone cache where the layer's engine reads that (R176). -/
def State.fetchLine (s : State) (f l plane y : Nat) : Nat × Nat :=
  if l < 8 then
    let p := s.layerPlanes l
    (s.layerBase l + p.lineAt plane y, p.lineBytes plane)
  else if s.cmp.flowShown && (s.groupLayers f).head? == some l then
    let b := s.flowBox f
    (s.flowAddr f s.cmp.flowHalf b.x0 (b.y0 + y), 12 * (b.x1 - b.x0))
  else
    let w := (s.layer l).srcW
    (s.layerBase l + y * pitch256 (4 * w), 4 * w)

/-- The bytes that a burst has fetched: it ends at the end of its plane line (R156). -/
def State.burstBytes (s : State) (f : Nat) (b : Burst) : List Byte :=
  let r := s.fetchLine f (b.engine.val % 16) b.plane.val b.line
  memBytes s.core.mem (lpddr (r.1 + b.offset)) (min b.len ((s.readEngine b.engine).burstLen r.2 b.offset))

/-- The signatures of the image of a facet that ends (R159): of each layer, over the bytes fetched for it, in the order of its
bursts. They are taken as they stand at the image's end (DESIGN CHOICE, log entry 70). -/
def State.scanSigs (s : State) (f : Nat) (fetched : List Burst) : State :=
  let s1 := s.forEach (List.range 16) (fun l t =>
    t.layerSig f l ((fetched.filter (fun b => b.engine.val % 16 == l)).flatMap (s.burstBytes f)))
  { s1 with ing := { s1.ing with fresh := [] } }

/-! ### Plan check and load (R66, R70, R263, R268, R274) -/

/-- The correction parameters of a plan (R268, R274). -/
def corrOk (p : Plan) : Bool :=
  let c := p.corr
  let lines := p.ingest.vtotal * p.wall.facets
  let frame := p.lamp.frameTicks
  within c.minTicks (p.lamp.window - 1) c.hrSampleTick && within 100 1000 c.hrLowMv && within 4 64 c.minTicks &&
    within 20 200 c.openMv && within 500 5000 c.shortMv && within 1 768 c.sagCount && within 1 15 c.confirm &&
    within 1 65535 c.windowFrames && within 100 1000 c.probeUa && within 16 255 c.probeTicks && decide (c.probePeriod ≤ 65535) &&
    decide (p.nsTicksUp p.lamp.lineBlankNs + c.probeTicks ≤ c.probeLen) && decide (c.probeOffset + c.probeLen ≤ frame) &&
    (List.range p.wall.facets).all (fun f =>
      spansApart (frame * lines) (c.probeOffset * lines, (c.probeOffset + c.probeLen) * lines) (p.slotSpan f))

/-- The trims shown in `CORR_TRIM` (R258). -/
def State.trimLoad (s : State) : State :=
  s.forEach (List.range s.shadow.sinkTrim.length) (fun k t => t.setF (F.CORR_TRIM_T k) (nth s.shadow.sinkTrim k 0).toNat)

/-- The correction registers at the start (R70). -/
def State.corrLoad (s : State) : State := s.setBoth F.CORR_BANK_SEL s.plan.corr.bank.toNat

end Sys2Proof.Machine
end

