-- ==== Sys2Proof/Machine/Check.lean ====
section
/-!
DEFINITION. The directory of the NVM and the checks of a start on firmware and plan (R16, R61 to R66, R388, R389, R423).
-/

namespace Sys2Proof.Machine

/-! ### The directory (R61, R389) -/

/-- The directory copy in use: whether it is copy A, and what it says (R61). -/
def Nvm.dir (n : Nvm) : Option (Bool × DirCopy) :=
  match dirRead n.dirA, dirRead n.dirB with
  | some a, some b => if 0 < diff32 b.serial a.serial then some (false, b) else some (true, a)
  | some a, none => some (true, a)
  | none, some b => some (false, b)
  | none, none => none

/-- The directory written into the copy that is not in use, with the next serial (R389); with none in use, into copy A. -/
def Nvm.writeDir (n : Nvm) (f : DirCopy → DirCopy) : Nvm :=
  match n.dir with
  | some (true, d) => { n with dirB := ({ f d with serial := d.serial + 1 } : DirCopy).bytes }
  | some (false, d) => { n with dirA := ({ f d with serial := d.serial + 1 } : DirCopy).bytes }
  | none => { n with dirA := ({ f {} with serial := 1 } : DirCopy).bytes }

/-- The directory in use, or one that names bank 0. -/
def State.dirNow (s : State) : DirCopy := match s.nvm.dir with | some d => d.2 | none => {}

/-- The directory written. -/
def State.writeDir (s : State) (f : DirCopy → DirCopy) : State := { s with nvm := s.nvm.writeDir f }

/-! ### Firmware and plan (R63, R65) -/

/-- The blown bits of a rollback counter. -/
def blown (w : BitVec 64) : Nat := ((List.range 64).filter (fun i => w.getLsbD i)).length

/-- The fault of a firmware image, 0 for none (R63): header and length, digest and signature, rollback version. The wall that
its certificates may be limited to is that of the plan beside it (DESIGN CHOICE, log entry 62). -/
def fwFault (f : Fuses) (wall : BitVec 64) (x : FwImage) : Nat :=
  if !x.headerOk || decide (fwMax < x.length) then 0x03
  else if !(x.sigOk f.rootDigest wall f.serial) then 0x04
  else if x.rollback < blown f.fwRollback then 0x05
  else 0

/-- The signature of a survey image verifies under the firmware's certificate table (R65, R369). -/
def PlanImage.sigOk (p : PlanImage) (f : Fuses) (fw : FwImage) : Bool :=
  fw.certs.signed f.rootDigest .plan p.wallId f.serial p.sign p.signedBytes

/-- The fault of a survey image under a firmware, 0 for none (R65, steps 1 to 4). -/
def planFault (f : Fuses) (fw : FwImage) (p : PlanImage) : Nat :=
  if !p.headerOk then 0x06
  else if !(p.sigOk f fw) then 0x07
  else if p.rollback < blown f.planRollback then 0x08
  else if fw.iface < p.ifaceLo ∨ p.ifaceHi < fw.iface then 0x0C
  else 0

/-! ### Parameters (R66) -/

/-- The `sys` parameters (R53, R350). -/
def sysOk (p : SysPlan) : Bool := within 10 10000 p.watchdogMs && p.irqRoute.all (fun r => decide (r < 3))

/-- The governor's parameters (R20, R24). -/
def govOk (p : GovPlan) : Bool :=
  within 10 60000 p.recoverHoldMs && within 100 60000 p.startGraceMs && p.variants.all (fun v => v.cover.all (fun e =>
    match e with
    | .allowance _ k => within 1 3 k
    | .item _ => true))

/-- A board lane's parameters (R93). -/
def boardLaneOk (b : BoardLane) : Bool :=
  decide (b.peak ≤ 15) && within 400 1000 b.swingMv && b.swingMv % 50 == 0 && decide (b.deemph10 ≤ 95) && b.deemph10 % 5 == 0

/-- The lane parameters (R93, R102). -/
def laneOk (p : LanePlan) : Bool :=
  decide (p.boards.length ≤ 16) && p.tables.all (fun t => decide (t < 16)) && p.boards.all (fun b =>
    b.lanes.all boardLaneOk && decide (b.dpVswing.getD 0 ≤ 3) && decide (b.dpPreemph.getD 0 ≤ 3))

/-- The link parameters. -/
def linkOk (p : LinkPlan) : Bool :=
  p.roles.all (fun r => decide (r ≤ 4)) && p.rates.all (fun r => decide (r ≤ 4)) && within 1 2 p.prot && within 10 1000 p.enumPeriodMs &&
    within 1 240 p.statusPeriodImages && within 1 1000 p.authLimit && within 100 10000 p.recovProbeMs

/-- The update parameters. -/
def updOk (p : UpdPlan) : Bool :=
  within 1000 600000 p.prepareMs && within 1 8 p.blocksPerImage && within 10 10000 p.needMs && within 1000 600000 p.minLeadMs &&
    within 1 15 p.trialStarts && decide (p.wdtLimit ≤ 15) && within 5 3600 p.confirmS

/-- A sensor's conversion period. -/
def ThermPlan.period (p : ThermPlan) (i : Nat) : Nat := nth p.periodMs i 10

/-- The thermal parameters (R423). -/
def thermOk (p : ThermPlan) : Bool :=
  within 60 110 p.warnC && within 70 105 p.hotC && within 90 125 p.tripC && decide (p.warnC < p.hotC) && decide (p.hotC < p.tripC) &&
    (List.range 16).all (fun i => within 1 1000 (p.period i) && decide (4 * p.period i ≤ p.rorWindowMs)) &&
    within 1 64 p.slope && within 16 255 p.floor && within 1 255 p.recoverPerS && within 1 50 p.rorCPerS &&
    within 100 10000 p.rorWindowMs && within 1 20 p.rorAddC && within 100 10000 p.graceMs && within 100 60000 p.tripHoldMs &&
    within 1 16 p.brokenTrip && within 2 240 p.leadImages

/-- Every parameter that a role loads lies within its range (R66). -/
def paramsOk (isHead : Bool) (p : Plan) : Bool :=
  sysOk p.sys && govOk p.gov && laneOk p.lane && linkOk p.link && lampOk p && corrOk p && railOk p.rail && timeOk p && redOk p.red &&
    mbxOk p.mbx && secOk p.sec && updOk p.upd && thermOk p.therm &&
    (!isHead || (p.corr.headBank.length == 2 && p.corr.headBank.all (fun b => inMemory b matrixBytes) && ingestOk p && compOk p.comp p.ingest.pipes && encOk p))

/-- The plan keeps within R16. -/
def capacityOk (p : Plan) : Bool :=
  let w := p.wall
  decide (w.chains ≤ 8) && w.tilesPerChain.all (fun n => decide (n ≤ 24)) && decide ((w.tilesPerChain.foldl (· + ·) 0) ≤ 192) &&
    decide (w.heads ≤ 32) && within 1 4 w.facets && decide (24000 * w.rateDen ≤ 1001 * w.rateNum) &&
    decide (w.rateNum ≤ 240 * w.rateDen) && decide (w.rateNum * w.facets ≤ 960 * w.rateDen) && decide (p.gov.variants.length ≤ 64) &&
    decide (0 < w.rateDen)

/-- The fault of the checks of R66, R382 and R386, 0 for none; `strapHead` is the role strap (R11). -/
def State.paramFault (s : State) (strapHead : Bool) (fw : FwImage) (p : PlanImage) : Nat :=
  if !(paramsOk p.isHead p.loaded) || !(geodeCertOk fw.certs s.shadow.rootDigest s.shadow.serial p.loaded) ||
      s.evalRefuses p.loaded then 0x0A
  else if !(capacityOk p.loaded) then 0x0B
  else if p.isHead && !strapHead then 0x0D
  else 0

end Sys2Proof.Machine
end

