-- ==== Sys2Proof/Machine/Update.lean ====
section
/-!
DEFINITION. Updates across a wall: packages, passes, NEEDs, verification, activation, trial and fallback (R388 to R405).
-/

namespace Sys2Proof.Machine

/-! ### The package in the spare bank (R391, R392) -/

/-- The bank that an update is written to (R392, R398): in recovery mode the one that the directory does not name as
ACTIVE, or bank 0 where no directory is valid. -/
def State.spareBank (s : State) : Bool :=
  if s.recovering then (match s.nvm.dir with | some d => !d.2.active | none => false) else !(s.flag F.UPD_STAT_RUNBANK)

/-- The spare bank. -/
def State.spare (s : State) : Bank := s.nvm.bank s.spareBank

/-- The spare bank changed. -/
def State.setSpare (s : State) (b : Bank) : State := { s with nvm := s.nvm.setBank s.spareBank b }

/-- The blocks of an item (R391). -/
def UpdItem.blocks (i : UpdItem) : Nat := (i.length + 4095) / 4096

/-- The items with the number of their first block. -/
def itemsFrom : Nat → List UpdItem → List (Nat × UpdItem)
  | _, [] => []
  | n, i :: rest => (n, i) :: itemsFrom (n + i.blocks) rest

/-- The blocks of a package, its manifest included (R391). -/
def Manifest.total (m : Manifest) : Nat := 1 + (m.items.map (fun i => i.blocks)).foldl (· + ·) 0

/-- A region item (R391). -/
def UpdItem.region (i : UpdItem) : Bool := i.kind == 3 || i.kind == 4

/-- A device stores an item (R392): firmware and plan items, and region items limited to its serial. -/
def State.storesItem (s : State) (i : UpdItem) : Bool := !i.region || i.serialLimit == s.shadow.serial

/-- A device stores a block of a package (R392). -/
def State.storesBlock (s : State) (m : Manifest) (n : Nat) : Bool :=
  n == 0 || (itemsFrom 1 m.items).any (fun p => decide (p.1 ≤ n) && decide (n < p.1 + p.2.blocks) && s.storesItem p.2)

/-- The blocks that a device stores of a package. -/
def State.storesCount (s : State) (m : Manifest) : Nat :=
  1 + ((m.items.filter (fun i => s.storesItem i)).map (fun i => i.blocks)).foldl (· + ·) 0

/-- A region-only package (R391). -/
def Manifest.regions (m : Manifest) : Bool := m.items.all (fun i => i.region)

/-- The certificate tables that a signature on the update path may chain in: that of the firmware that runs; in recovery mode,
where none may run, those of the two banks (DESIGN CHOICE, log entry 62). -/
def State.certTables (s : State) : List CertTable :=
  if s.recovering then [s.nvm.bank0.fw.certs, s.nvm.bank1.fw.certs] else [s.boot.fw.certs]

/-- A manifest's signer chains with the update role and its signature verifies (R391). -/
def State.manifestSigned (s : State) (m : Manifest) : Bool :=
  s.certTables.any (fun t => m.sigOk t s.shadow.rootDigest m.wallId s.shadow.serial)

/-- A valid manifest (R391). -/
def State.manifestValid (s : State) (m : Manifest) : Bool :=
  m.wellFormed && s.manifestSigned m && m.pkg != 0 && (s.recovering || m.wallId == s.plan.wall.id) &&
    m.items.all (fun i => !i.region || i.serialLimit != 0) && (m.regions || m.items.all (fun i => !i.region))

/-- HAVE and TOTAL of the package as they stand. -/
def State.progress (s : State) : State :=
  let total := match s.spare.manifest with | some m => s.storesCount m | none => 0
  (s.setF F.UPD_PROG_HAVE s.upd.held.length).setF F.UPD_PROG_TOTAL total

/-- The identifier of the package in the spare bank, as `UPD_PKG` shows it. -/
def State.setPkg (s : State) (p : BitVec 64) : State :=
  (s.setF F.UPD_PKGL_PKG p.toNat).setF F.UPD_PKGH_PKG (p.toNat / 2 ^ 32)

/-- The spare bank holds this package. -/
def State.hasPkg (s : State) (p : BitVec 64) : Bool := match s.spare.manifest with | some m => m.pkg == p | none => false

/-- Every block that the device stores is held (R399). -/
def State.allHeld (s : State) : Bool :=
  match s.spare.manifest with
  | some m => (List.range m.total).all (fun n => !(s.storesBlock m n) || s.upd.held.contains n)
  | none => false

/-! ### Carrying (R394 to R396) -/

/-- The device takes update traffic from where it came (R395, R396, R398): a Head from its service port, a Tile from its
chain ports, a device in recovery mode from both. -/
def State.updFrom (s : State) (port : Option (Fin 8)) : Bool :=
  match port with
  | none => s.running && !s.boot.fuseBad && (s.isHead || s.recovering)
  | some n =>
    if s.recovering then n.val == 0
    else !s.isHead && decide (n.val < 2) && !(s.portRec n.val)

/-- An update packet queued for some ports (R121, R394). -/
def State.postUpd (s : State) (ports : List Nat) (prot : BitVec 2) (m : UpdMsg) : State :=
  if ports.isEmpty then s
  else s.post { ports := ports, hdr := { typ := 11, prot := prot, hop := true, dst := 1023, src := s.srcId,
                                         len := if m.kind = 0 then 4116 else 20 }, body := .upd m }

/-- The port by which a Tile passes on what came by another; none at a Head or a recovering device (R396, R398). -/
def State.onward (s : State) (port : Option (Fin 8)) : List Nat :=
  match port with
  | some n => if s.isHead || s.recovering then [] else [1 - n.val]
  | none => []

/-- A message passed on. -/
def State.passOn (s : State) (port : Option (Fin 8)) (m : UpdMsg) : State := s.postUpd (s.onward port) 2 m

/-- A block has not come before (R396). -/
def State.newBlock (s : State) (pkg : BitVec 64) (n : Nat) : Bool := s.upd.seenPkg != pkg || !(s.upd.seen.contains n)

/-- A block noted as seen. -/
def State.markSeen (s : State) (pkg : BitVec 64) (n : Nat) : State :=
  let old := if s.upd.seenPkg = pkg then s.upd.seen else []
  let wanted := if s.upd.seenPkg = pkg then s.upd.wanted.filter (· != n) else []
  { s with upd := { s.upd with seenPkg := pkg, seen := if old.contains n then old else n :: old, wanted := wanted } }

/-- A DATA block relayed, the first time or where a partner wants it (R396, R397): a Tile passes it by its other port, a
Head to its chains. -/
def State.relayData (s : State) (port : Option (Fin 8)) (ports : List Nat) (m : UpdMsg) : State :=
  let wants := s.upd.seenPkg == m.pkg && s.upd.wanted.contains m.arg
  let go := if s.isHead then wants else s.newBlock m.pkg m.arg || wants
  let dest := if s.isHead then ports else s.onward port
  let s1 := s.markSeen m.pkg m.arg
  if go && !dest.isEmpty then (s1.postUpd dest 2 m).bump F.UPD_CNT_RELAYED else s1

/-- The ports into which a Head sends a package (R395): its end-A ports, and its shared ring ports where it owns. -/
def State.passPorts (s : State) : List Nat :=
  (List.range 8).filter (fun n =>
    if s.sharedList.contains n && s.paired then s.owns else s.getF (F.LNK_PCFG_ROLE n) == 1)

/-! ### Manifests (R393) -/

/-- A refused manifest or ACTIVATE. -/
def State.updRefuse (s : State) : State := s.raise F.UPD_EVT_REFUSED

/-- The package that a manifest starts: the spare bank is erased before any block is stored (R393). -/
def State.takeManifest (s : State) (port : Option (Fin 8)) (m : Manifest) : State :=
  let s1 := s.setSpare { manifest := some m, blocks := [(0, m.bytes)] }
  let s2 := { s1 with upd := { s1.upd with
    held := [], prog := [], erased := false, verifying := false, source := port.map Fin.val,
    preparing := false } }
  (((s2.setF F.UPD_STAT_SPARE 1).setF F.UPD_STAT_VCODE 0).setPkg m.pkg).progress

/-- A manifest at the device (R393): refused, a duplicate, or the start of a package. -/
def State.manifestRx (s : State) (port : Option (Fin 8)) (m : Manifest) : State :=
  let active := !s.recovering && s.dirNow.pkg == m.pkg
  let sp := s.getF F.UPD_STAT_SPARE
  if s.flag F.UPD_STAT_TRIAL || active || !(s.manifestValid m) then s.updRefuse
  else if sp = 5 then s
  else if s.hasPkg m.pkg && within 1 4 sp then s
  else s.takeManifest port m

/-- `UPDATE_MANIFEST_RECEIVED` (R393, R396). -/
def execUpdateManifestReceived (port : Option (Fin 8)) (m : Manifest) (s : State) : Res :=
  if s.updFrom port then
    .next ((s.relayData port [] { kind := 0, pkg := m.pkg, arg := 0, count := m.total, data := m.bytes }).manifestRx port m)
  else .next s

/-- `SPARE_ERASE_DONE` (R393): block 0 stands in the bank, and blocks can be stored. -/
def execSpareEraseDone (s : State) : Res :=
  if s.getF F.UPD_STAT_SPARE = 1 then
    .next (({ s with upd := { s.upd with erased := true, held := [0] } }).setF F.UPD_STAT_SPARE 2).progress
  else .next s

/-! ### DATA blocks (R396) -/

/-- A block taken to be programmed, where R392 applies and it is not held. -/
def State.storeData (s : State) (port : Option (Fin 8)) (m : UpdMsg) : State :=
  match s.spare.manifest with
  | none => s
  | some mf =>
    if mf.pkg = m.pkg ∧ s.getF F.UPD_STAT_SPARE = 2 then
      let s1 := { s with upd := { s.upd with source := port.map Fin.val } }
      if s.storesBlock mf m.arg && !(s.upd.held.contains m.arg) && !(s.upd.prog.any (fun p => p.1 == m.arg)) then
        { s1 with upd := { s1.upd with prog := s1.upd.prog ++ [(m.arg, m.data)] } }
      else s1
    else s

/-- A DATA block at the device (R396). -/
def State.dataRx (s : State) (port : Option (Fin 8)) (m : UpdMsg) : State :=
  (s.relayData port s.passPorts m).storeData port m

/-- `UPDATE_DATA_RECEIVED` (R396). -/
def execUpdateDataReceived (port : Option (Fin 8)) (m : UpdMsg) (s : State) : Res :=
  if s.updFrom port && m.kind == 0 && m.arg != 0 then .next (s.dataRx port m) else .next s

/-- A block read back (R396): held where it is equal; otherwise its sector is erased and all its blocks are wanted. -/
def State.blockDone (s : State) (block : Nat) (data : List Byte) (equal : Bool) : State :=
  let b := s.spare
  let prog := s.upd.prog.filter (fun p => p.1 != block)
  if equal then
    let s1 := s.setSpare { b with blocks := tabPut b.blocks block data }
    ({ s1 with upd := { s1.upd with prog := prog, held := if s.upd.held.contains block then s.upd.held else block :: s.upd.held } }).progress
  else
    let gone := fun (k : Nat) => k == block || Config.sameSector block k
    let s1 := s.setSpare { b with blocks := b.blocks.filter (fun p => !gone p.1) }
    ({ s1 with upd := { s1.upd with prog := prog.filter (fun p => !gone p.1), held := s.upd.held.filter (fun k => !gone k) } }).progress

/-- `BLOCK_PROGRAMMED` (R396). -/
def execBlockProgrammed (block : Nat) (equal : Bool) (s : State) : Res :=
  match s.upd.prog.find? (fun p => p.1 == block) with
  | some p => .next (s.blockDone block p.2 equal)
  | none => .next s

/-! ### Passes and NEEDs (R395, R397, R398) -/

/-- The data of a block of a bank's package. -/
def Bank.data (b : Bank) (n : Nat) : List Byte := tabGet [] b.blocks n

/-- A DATA message of a bank's package. -/
def Bank.dataMsg (b : Bank) (m : Manifest) (n : Nat) : UpdMsg :=
  { kind := 0, pkg := m.pkg, arg := n, count := m.total, data := b.data n }

/-- A Head's pass begun with block 0 (R395). -/
def State.passBegin (s : State) : State :=
  match s.spare.manifest with
  | some m =>
    if s.isHead && s.released then
      ({ s with upd := { s.upd with preparing := true } }).postUpd s.passPorts 2 (s.spare.dataMsg m 0)
    else s
  | none => s

/-- The rest of a pass (R395): the blocks that the Head holds, in ascending order; it asks your software for those it does
not store (R397). -/
def State.passRest (s : State) : State :=
  match s.spare.manifest with
  | some m =>
    let l := (List.range m.total).drop 1
    let own := l.filter (fun n => s.upd.held.contains n)
    let lack := l.filter (fun n => !(s.upd.held.contains n))
    let s1 := s.forEach own (fun n t => t.postUpd t.passPorts 2 (t.spare.dataMsg m n))
    let s2 := { s1 with upd := { s1.upd with preparing := false, seenPkg := m.pkg, wanted := lack } }
    match lack with
    | [] => s2
    | n :: _ => s2.emit (.svcUpd { kind := 1, pkg := m.pkg, arg := n, count := min 256 lack.length })
  | none => s

/-- `UPDATE_PREPARE_EXPIRY` (R395). -/
def execUpdatePrepareExpiry (s : State) : Res := if s.upd.preparing then .next s.passRest else .next s

/-- The first block that the device lacks, and how many follow without a gap, at most 256 (R394, R397). -/
def State.lackRun (s : State) (m : Manifest) : Option (Nat × Nat) :=
  let lack := fun (n : Nat) => s.storesBlock m n && !(s.upd.held.contains n) && !(s.upd.prog.any (fun p => p.1 == n))
  match (List.range m.total).find? lack with
  | none => none
  | some a => some (a, ((((List.range m.total).drop a).take 256).takeWhile lack).length)

/-- A NEED sent to where the package comes from (R397). -/
def State.sendNeed (s : State) (source : Option Nat) (m : UpdMsg) : State :=
  match source with
  | some n => s.postUpd [n] (if s.recovering || s.portRec n then 0 else 2) m
  | none => s.emit (.svcUpd m)

/-- `UPDATE_NEED_TIMER` (R397). -/
def execUpdateNeedTimer (s : State) : Res :=
  match s.spare.manifest with
  | some m =>
    if s.getF F.UPD_STAT_SPARE = 2 then
      match s.lackRun m with
      | some r => .next (s.sendNeed s.upd.source { kind := 1, pkg := m.pkg, arg := r.1, count := r.2 })
      | none => .next s
    else .next s
  | none => .next s

/-- The bank from which a port's NEED is served, with its manifest, and the blocks it holds (R397, R398). -/
def State.serveFrom (s : State) (n : Nat) : Bank × List Nat :=
  if s.portRec n then
    let b := s.nvm.bank (s.flag F.UPD_STAT_RUNBANK)
    (b, b.blocks.map (fun p => p.1))
  else (s.spare, s.upd.held)

/-- A NEED passed upstream for the blocks that the device does not hold (R397). -/
def State.needOn (s : State) (n : Nat) (pkg : BitVec 64) (l : List Nat) : State :=
  match l with
  | [] => s
  | a :: _ =>
    let m : UpdMsg := { kind := 1, pkg := pkg, arg := a, count := min 256 (l.getLastD a + 1 - a) }
    let up := if s.isHead then none else if s.upd.source = none ∨ s.upd.source = some n then some (1 - n) else s.upd.source
    let keep := if s.upd.seenPkg = pkg then s.upd.wanted else []
    let s1 := { s with upd := { s.upd with
      seenPkg := pkg, seen := if s.upd.seenPkg = pkg then s.upd.seen else [],
      wanted := (l ++ keep).dedup } }
    s1.sendNeed up m

/-- A NEED at the device that serves it (R397, R398). -/
def State.needRx (s : State) (n : Nat) (m : UpdMsg) : State :=
  let src := s.serveFrom n
  let asked := (List.range (min 256 m.count)).map (fun i => m.arg + i)
  match src.1.manifest with
  | some mf =>
    if mf.pkg = m.pkg then
      let inside := asked.filter (fun b => decide (b < mf.total))
      let own := inside.filter (fun b => src.2.contains b)
      let lack := inside.filter (fun b => !(src.2.contains b))
      let s1 := s.forEach own (fun b t =>
        (t.postUpd [n] (if t.portRec n then 0 else 2) (src.1.dataMsg mf b)).bump F.UPD_CNT_REPAIRS)
      if s.portRec n then s1 else s1.needOn n m.pkg lack
    else if s.portRec n then s else s.needOn n m.pkg asked
  | none => if s.portRec n then s else s.needOn n m.pkg asked

/-- `UPDATE_NEED_RECEIVED` (R397, R398). -/
def execUpdateNeedReceived (n : Fin 8) (m : UpdMsg) (s : State) : Res :=
  if s.running && !s.recovering && m.kind == 1 && (s.isHead || decide (n.val < 2)) then .next (s.needRx n.val m) else .next s

/-- The pass of the running bank's package to a partner in recovery mode (R398). -/
def State.recoveryPass (s : State) (n : Nat) : State :=
  let b := s.nvm.bank (s.flag F.UPD_STAT_RUNBANK)
  match b.manifest with
  | some m => s.forEach ((List.range m.total).filter (fun k => b.blocks.any (fun p => p.1 == k))) (fun k t =>
      t.postUpd [n] 0 (b.dataMsg m k))
  | none => s

/-- `RECOVERY_PROBE_END` (R140, R398). -/
def execRecoveryProbeEnd (n : Fin 8) (s : State) : Res :=
  if (s.port n.val).probing then
    let s1 := s.probeEnd n.val
    .next (if (s1.port n.val).slow then s1.recoveryPass n.val else s1)
  else .next s

/-! ### Verification (R399) -/

/-- `SPARE_VERIFY` (R399). -/
def execSpareVerify (s : State) : Res :=
  if (s.getF F.UPD_STAT_SPARE = 2 ∧ s.allHeld = true) ∨ s.getF F.UPD_STAT_SPARE = 3 then
    .next (({ s with upd := { s.upd with verifying := true } }).setF F.UPD_STAT_SPARE 3)
  else .next s

/-- The spare bank's images, the missing one copied from the active bank (R392). -/
def State.completed (s : State) (m : Manifest) (b : Bank) : Bank :=
  let act := s.nvm.bank (s.flag F.UPD_STAT_RUNBANK)
  { s.spare with
    fw := if m.items.any (fun i => i.kind == 1) then b.fw else act.fw
    image := if m.items.any (fun i => i.kind == 2) then b.image else act.image }

/-- The bytes of an item, from the blocks that hold it (R391). -/
def Bank.itemBytes (b : Bank) (first : Nat) (i : UpdItem) : List Byte :=
  ((List.range i.blocks).flatMap (fun k => padTo 4096 (b.data (first + k)))).take i.length

/-- Every item that the device stores has its manifest's digest (R399, step 1). -/
def State.itemsOk (s : State) (m : Manifest) : Bool :=
  (itemsFrom 1 m.items).all (fun p => !(s.storesItem p.2) || sha384 (s.spare.itemBytes p.1 p.2) == p.2.digest)

/-- A factory region passes the check of R262 and R263: magic, version, count, and a signature under a certificate that
chains with the factory role. -/
def FactoryRegion.ok (r : FactoryRegion) (t : CertTable) (f : Fuses) (wall : BitVec 64) : Bool :=
  r.magic == 0x504E4C52 && r.version == 1 && within 1 2 r.sets && r.signed &&
    (match t.entry r.signer with | some c => t.chains f.rootDigest .factory wall f.serial c | none => false)

/-- A safety-pattern region passes the check of R186. -/
def PatternRegion.ok (r : PatternRegion) (t : CertTable) (f : Fuses) (wall : BitVec 64) : Bool :=
  r.magic == 0x53504154 && r.version == 1 && within 1 4 r.count && r.signed &&
    (match t.entry r.signer with | some c => t.chains f.rootDigest .pattern wall f.serial c | none => false)

/-- The region items that the device stores pass their own checks (R399, step 4). -/
def State.regionsOk (s : State) (m : Manifest) (c : BankCheck) : Bool :=
  m.items.all (fun i => !(s.storesItem i) ||
    (if i.kind = 3 then (match c.factory with
      | some r => s.certTables.any (fun t => r.ok t s.shadow s.plan.wall.id)
      | none => false)
    else if i.kind = 4 then (match c.pattern with
      | some r => s.certTables.any (fun t => r.ok t s.shadow s.plan.wall.id)
      | none => false)
    else true))

/-- The fault of a verification, 0 for none (R399). For a region that fails its own signature check the spec gives no
code. -/
def State.verifyCode (s : State) (m : Manifest) (c : BankCheck) : Nat × State :=
  if !(s.itemsOk m) then (0x20, s)
  else if m.regions then (if s.regionsOk m c then (0, s) else (let r := s.choose 255; (r.1 + 1, r.2)))
  else
    let b := s.completed m c.bank
    let f := fwFault s.shadow b.image.wallId b.fw
    let p := planFault s.shadow b.fw b.image
    (if f ≠ 0 then f else if p ≠ 0 then p else if !(b.image.ownedOk (fun _ => true)) then 0x09 else 0, s)

/-- A verified package (R395, R398, R399): ready; a Head begins its pass, a device in recovery mode starts from it. -/
def State.verified (s : State) (m : Manifest) (c : BankCheck) : State :=
  let s1 := s.setSpare (if m.regions then { s.spare with newFactory := c.factory, newPattern := c.pattern }
    else s.completed m c.bank)
  let s3 := (s1.setF F.UPD_STAT_SPARE 4).raise F.UPD_EVT_READY
  if s3.recovering then
    if m.regions then s3
    else
      let b := s3.spareBank
      (s3.writeDir (fun d => { d with active := b, trial := true, tries := 3, wdlim := 3, pkg := m.pkg, prev := 0 })).requestReset 3
  else s3.passBegin

/-- `SPARE_VERIFY_DONE` (R399). -/
def execSpareVerifyDone (c : BankCheck) (s : State) : Res :=
  match s.spare.manifest with
  | some m =>
    if s.upd.verifying then
      let s0 := { s with upd := { s.upd with verifying := false } }
      let r := s0.verifyCode m c
      if r.1 = 0 then .next (s0.verified m c)
      else .next (((r.2.setF F.UPD_STAT_SPARE 6).setF F.UPD_STAT_VCODE r.1).raise F.UPD_EVT_VERIFY_FAIL)
    else .next s
  | none => .next s

/-! ### Activation (R400) -/

/-- The device is ready for a package (R400, R403): verified, or fallen back from and asked for again. -/
def State.updReady (s : State) (pkg : BitVec 64) : Bool :=
  s.hasPkg pkg && (s.getF F.UPD_STAT_SPARE == 4 || s.getF F.UPD_STAT_SPARE == 7)

/-- The target lies at least `upd.act.min_lead_ms` ahead (R400). -/
def State.leadOk (s : State) (target : Word) : Bool :=
  let d := diff32 target s.imageNow
  let w := s.plan.wall
  decide (0 < d) && decide (s.plan.upd.minLeadMs * w.rateNum * s.facets ≤ d.toNat * 1000 * w.rateDen)

/-- The device stands in memory hold (R68). -/
def State.memHold (s : State) : Bool := s.boot.memFault && !s.released

/-- An ACTIVATE taken: the region copy or the directory write begins (R400). A region being copied is not whole until the
copy ends (R405). -/
def State.activateTake (s : State) (target : Word) : State :=
  let s1 := (s.setF F.UPD_STAT_SPARE 5).setF F.UPD_TGT_IMAGE target.toNat
  let s2 := { s1 with upd := { s1.upd with activate := some target, writing := true } }
  let n := s2.nvm
  let b := s2.spare
  { s2 with nvm := { n with
    factory := if b.newFactory.isSome then { n.factory with signed := false } else n.factory,
    pattern := if b.newPattern.isSome then { n.pattern with signed := false } else n.pattern } }

/-- An ACTIVATE at the device (R68, R400). -/
def State.activateRx (s : State) (port : Option (Fin 8)) (pkg : BitVec 64) (target : Word) : State :=
  let m : UpdMsg := { kind := 2, pkg := pkg, arg := target.toNat, count := 0 }
  if s.memHold then (if s.updReady pkg then s.activateTake target else s.updRefuse)
  else if s.isHead then
    if s.updReady pkg && s.leadOk target then (s.postUpd s.passPorts 2 m).activateTake target else s.updRefuse
  else
    let s1 := s.passOn port m
    if s1.updReady pkg then s1.activateTake target
    else if s1.hasPkg pkg && s1.upd.activate == some target then s1
    else s1.updRefuse

/-- `UPDATE_ACTIVATE` (R400). -/
def execUpdateActivate (port : Option (Fin 8)) (pkg : BitVec 64) (target : Word) (s : State) : Res :=
  if s.updFrom port && !s.recovering then .next (s.activateRx port pkg target) else .next s

/-- Image *S* has begun, or the device acts at once (R68, R400). -/
def State.activateDue (s : State) (target : Word) : Bool :=
  s.memHold || (s.tim.image.isSome && decide (0 ≤ diff32 s.imageNow target))

/-- What an accepted ACTIVATE writes (R400): the regions, or the directory. -/
def State.activateWrite (s : State) (m : Manifest) : State :=
  let d := s.dirNow
  if m.regions then
    let n := s.nvm
    let b := s.spare
    let s1 := { s with nvm := { n with factory := b.newFactory.getD n.factory, pattern := b.newPattern.getD n.pattern } }
    s1.writeDir (fun x => { x with prev := 0 })
  else
    let s1 := s.writeDir (fun x => { x with
      active := s.spareBank, trial := true, pkg := m.pkg, prev := d.pkg,
      tries := BitVec.ofNat 8 s.plan.upd.trialStarts, wdlim := BitVec.ofNat 8 s.plan.upd.wdtLimit })
    let r : UpdRecord := { s1.smp.upd with valid := true, pkg := 0, spare := 0, vcode := 0, starts := 0, held := [] }
    { s1 with smp := s1.smp.setUpd r, upd := { s1.upd with filled := false } }

/-- `ACTIVATION_WRITE_DONE` (R400): the reset waits for image *S*, or follows at once where that has begun. -/
def execActivationWriteDone (s : State) : Res :=
  match s.spare.manifest, s.upd.activate with
  | some m, some target =>
    if s.upd.writing then
      let s1 := (s.activateWrite m)
      let late := s1.activateDue target && !s1.memHold
      let s2 := { s1 with upd := { s1.upd with writing := false }, smp := s1.smp.setUpd { s1.smp.upd with late := late } }
      .next (if s2.activateDue target then s2.requestReset 3 else s2)
    else .next s
  | _, _ => .next s

/-- The reset of an activation at its image (R400). -/
def State.updBoundary (s : State) : State :=
  match s.upd.activate with
  | some target => if !s.upd.writing && s.activateDue target && !s.saving then s.requestReset 3 else s
  | none => s

/-- A package removed from the spare bank (R400); after the write of an ACTIVATE has begun it is ignored. -/
def State.abortPkg (s : State) : State :=
  if s.getF F.UPD_STAT_SPARE = 5 ∨ s.getF F.UPD_STAT_SPARE = 0 then s
  else
    let s1 := s.setSpare {}
    let s2 := { s1 with upd := { s1.upd with held := [], prog := [], erased := false, verifying := false, preparing := false } }
    (((s2.setF F.UPD_STAT_SPARE 0).setF F.UPD_STAT_VCODE 0).setPkg 0).progress

/-- `UPDATE_ABORT` (R400). -/
def execUpdateAbort (port : Option (Fin 8)) (pkg : BitVec 64) (s : State) : Res :=
  if s.updFrom port then
    let m : UpdMsg := { kind := 3, pkg := pkg, arg := 0, count := 0 }
    let s1 := if s.isHead && s.released then s.postUpd s.passPorts 2 m else s.passOn port m
    .next (if s1.hasPkg pkg then s1.abortPkg else s1)
  else .next s

/-! ### Trial, confirmation and fallback (R402 to R404) -/

/-- The update record written whole into the Sump within the command (R390, R403, R413; DESIGN CHOICE, log entry 33). -/
def State.writeUpdRecord (s : State) : State := { s with smp := writeRecord s.smp 2 }

/-- The device falls back (R403). -/
def State.fallBack (s : State) (cause : Nat) : State :=
  let d := s.dirNow
  let failed := s.nvm.bank d.active
  let s1 := s.writeDir (fun x => { x with active := !d.active, trial := false, pkg := d.prev, prev := 0 })
  let r : UpdRecord := { s1.smp.upd with
    valid := true, cause := cause, trialIface := none, starts := 0, fell := true, pkg := d.pkg, spare := 7, vcode := 0,
    held := failed.blocks.map (fun p => p.1) }
  let s2 : State := { s1 with smp := s1.smp.dropTrial.setUpd r, upd := { s1.upd with filled := false } }
  s2.writeUpdRecord.requestReset 3

/-- Fuse bits blown until the rollback counters stand at the versions that run (R58, R404). -/
def State.blowRollback (s : State) : State :=
  let up := fun (w : BitVec 64) (n : Nat) => if blown w < n then w ||| BitVec.ofNat 64 (2 ^ n - 1) else w
  let blow := fun (x : Fuses) =>
    { x with fwRollback := up x.fwRollback s.boot.fw.rollback, planRollback := up x.planRollback s.boot.image.rollback }
  { s with fuses := blow s.fuses, shadow := blow s.shadow }

/-- A confirmation on trial, step 1 (R404): the record in the staging, and its write into the Sump begun (R414). -/
def State.confirm (s : State) : State :=
  if s.flag F.UPD_STAT_TRIAL && s.released && !s.upd.confirming then
    let d := s.dirNow
    let r : UpdRecord := { s.smp.upd with
      valid := true, confirmed := d.pkg, oldPkg := d.prev, confirmedIface := some s.boot.fw.iface, trialIface := none }
    let s1 := { s with smp := s.smp.promoteTrial.setUpd r, upd := { s.upd with confirming := true } }
    s1.recordWrite 2
  else s

/-- Steps 2 and 3 of a confirmation (R404), after the WRITTEN of its record (R414): the directory, the rollback counters. -/
def State.confirmed (s : State) : State :=
  let s1 := ({ s with upd := { s.upd with confirming := false } }).writeDir (fun x => { x with trial := false })
  ((s1.blowRollback).setF F.UPD_STAT_TRIAL 0).raise F.UPD_EVT_CONFIRMED

/-- The save engine is writing records on request, and rows of record 2 are among those to come (R414). -/
def State.writingUpd (s : State) : Bool :=
  match s.smp.save with
  | some x => (match x.kind with | .record _ => x.rows.any (fun p => p.1 == 2) | _ => false)
  | none => false

/-- `SUMP_ROW_WRITTEN` (R407, R410, R414): a row; the last one of record 2 lets a confirmation go on (R404). -/
def execSumpRowWritten (ckeepMv : Nat) (s : State) : Res :=
  let t := s.rowWritten ckeepMv
  .next (t.when (t.upd.confirming && s.writingUpd && !t.writingUpd && decide (3000 ≤ ckeepMv)) State.confirmed)

/-- A fallback that firmware asks for (R403): on trial, or to a bank that is a valid fallback (R388). -/
def State.fallBackAsked (s : State) : State :=
  if s.flag F.UPD_STAT_TRIAL || s.dirNow.prev != 0 then s.fallBack 5 else s

/-- A write of `UPD_CTL`, guarded by its key (R400, R403, R404). -/
def State.updCtlWrite (s : State) (w : Word) : State :=
  if F.UPD_CTL_KEY.of w ≠ 0xC0F1 then s
  else
    let s1 := s.when (F.UPD_CTL_CONFIRM.of w != 0) State.confirm
    let s2 := s1.when (F.UPD_CTL_ABORT.of w != 0) State.abortPkg
    s2.when (F.UPD_CTL_FALLBACK.of w != 0) State.fallBackAsked

/-- `UPDATE_CONFIRM` (R404). -/
def execUpdateConfirm (who : Initiator) (s : State) : Res := .next (s.guarded who A.UPD_CTL State.confirm)

/-- `UPDATE_FALLBACK` (R403). -/
def execUpdateFallback (who : Initiator) (s : State) : Res := .next (s.guarded who A.UPD_CTL State.fallBackAsked)

/-- `CONFIRM_TIMEOUT` (R403). -/
def execConfirmTimeout (s : State) : Res :=
  if s.flag F.UPD_STAT_TRIAL && s.released then .next (s.fallBack 4) else .next s

/-- What an update frame within a session does (R394, R395); the manifest has a command of its own. -/
def State.updFrame (s : State) (m : UpdMsg) : State :=
  if !(s.updFrom none) then s
  else if m.kind = 0 then (if m.arg = 0 then s else s.dataRx none m)
  else if m.kind = 2 then (if s.recovering then s else s.activateRx none m.pkg (BitVec.ofNat 32 m.arg))
  else if m.kind = 3 then
    let s1 := if s.isHead && s.released then s.postUpd s.passPorts 2 m else s
    if s1.hasPkg m.pkg then s1.abortPkg else s1
  else s

end Sys2Proof.Machine
end

