-- ==== Sys2Proof/Machine/Commit.lean ====
section
/-!
DEFINITION. Staged fields, commits and epochs (R75 to R86, R449).
-/

namespace Sys2Proof.Machine

/-! ### Staging and pending values (R77) -/

/-- The mask of a register's staged fields. -/
def rwsMask (a : Nat) : Word := match specOf a with | some r => BitVec.ofNat 32 r.rws | none => 0

/-- The addresses at which a staging or an active value stands. -/
def State.stagedAddrs (s : State) : List Nat :=
  ((s.regs.map (fun p => p.1)) ++ (s.active.map (fun p => p.1))).dedup.filter (fun a => rwsMask a != 0)

/-- The staged registers whose staging value differs from the active one, with their staging values. -/
def State.dirtyRegs (s : State) : List (Nat × Word) :=
  (s.stagedAddrs.filter (fun a => (s.getW a &&& rwsMask a) != (s.actW a &&& rwsMask a))).map (fun a => (a, s.getW a))

/-- A word with its staged fields taken from another. -/
def mixStaged (a : Nat) (old new : Word) : Word := (old &&& ~~~ rwsMask a) ||| (new &&& rwsMask a)

/-- What a register's active value would be under a pending set. -/
def State.pendW (s : State) (vals : List (Nat × Word)) (a : Nat) : Word :=
  match vals.find? (fun p => p.1 == a) with
  | some p => mixStaged a (s.actW a) p.2
  | none => s.actW a

/-! ### Refusals (R79, R82, R449) -/

/-- A pending set changes a field of one of some blocks. -/
def touches (vals : List (Nat × Word)) (blocks : List Nat) : Bool := vals.any (fun p => blocks.contains (blockOf p.1))

/-- A source window does not fit (R145). -/
def State.windowRefused (s : State) (w : Nat → Word) (n : Nat) : Bool :=
  let p := s.srcPlan n
  decide (p.maxW < (F.ING_WINSIZE_W n).of (w (A.ING_WINSIZE n))) || decide (p.maxH < (F.ING_WINSIZE_H n).of (w (A.ING_WINSIZE n)))

/-- The blocks that find an inconsistency, by index, lowest first (R79): governor, ingest, composition, encoder, correction
and rail controller. Composition checks every enabled layer at each request (R170, R171). -/
def State.refusals (s : State) (vals : List (Nat × Word)) : List Nat :=
  let w := s.pendW vals
  (if touches vals [7] && !(within 10 60000 (F.GOV_HOLD_MS.of (w A.GOV_HOLD))) then [7] else []) ++
    (if touches vals [10] && [0, 1, 2, 3].any (fun n => vals.any (fun p => p.1 == A.ING_WINSIZE n) && s.windowRefused w n) then [10] else []) ++
    (if (s.cmpRefusal w).isSome then [12] else []) ++
    (if touches vals [14] && !(s.dripOk (w A.ENC_DRIP)) then [14] else []) ++
    (if touches vals [17] && s.corrRefuses w then [17] else []) ++
    (if touches vals [19] && railRefuses w then [19] else [])

/-- A target-mode request that is late (R78); a device that knows no image defers the comparison. -/
def State.lateNow (s : State) (target : Option Word) : Bool :=
  match target, s.tim.image with
  | some t, some n => decide (diff32 t n ≤ 0)
  | _, _ => false

/-- A request refused with a result code. -/
def State.commitRefuse (s : State) (result : Nat) : State := (s.setF F.CFG_STAT_RESULT result).raise F.CFG_EVT_REFUSED

/-- A request refused as inconsistent (R79): BLOCK names the first block; composition gives its reason. -/
def State.commitBad (s : State) (vals : List (Nat × Word)) (block : Nat) : State :=
  let s1 := (s.setF F.CFG_STAT_BLOCK block).commitRefuse 2
  if block = 12 then
    match s.cmpRefusal (s.pendW vals) with
    | some r => s1.recordRefusal r
    | none => s1
  else s1

/-- A write of GO (R77 to R79, R82, R449). A request in MODE 1 takes the target that `CFG_TARGET` holds then; a later write of
`CFG_TARGET` moves it not (DESIGN CHOICE, log entry 21). -/
def State.commitGo (s : State) (mode1 : Bool) : State :=
  let vals := s.dirtyRegs
  let target := if mode1 then some (s.getW A.CFG_TARGET) else none
  if !s.released then s.commitRefuse 6
  else if s.cfg.pending.isSome then s.commitRefuse 4
  else if s.lateNow target then s.commitRefuse 3
  else if s.isHead && s.plan.wall.pairId != 0 && !mode1 && touches vals [10, 11, 12, 14] then s.commitRefuse 5
  else
    match s.refusals vals with
    | b :: _ => s.commitBad vals b
    | [] =>
      let p : PendingCommit := { vals := vals, target := target, latched := s.now, deferred := mode1 && s.tim.image.isNone }
      (({ s with cfg := { s.cfg with pending := some p } }).raise F.CFG_STAT_PENDING).setF F.CFG_STAT_RESULT 8

/-- A write of CANCEL (R81). Whether it lies 2 µs or more before the boundary is known once those 2 µs have passed: until then
the commit stays pending. -/
def State.commitCancel (s : State) : State :=
  match s.cfg.pending with
  | some p => { s with cfg := { s.cfg with pending := some { p with cancelAt := some (p.cancelAt.getD s.now) } } }
  | none => s

/-- The CANCEL of a pending commit is 2 µs old: the commit is withdrawn (R81). -/
def PendingCommit.withdrawn (p : PendingCommit) (now : Nat) : Bool :=
  match p.cancelAt with
  | some t => decide (t + 2000 ≤ now)
  | none => false

/-- A pending commit that is withdrawn by now leaves (R81). -/
def State.cancelSettle (s : State) : State :=
  match s.cfg.pending with
  | some p =>
    if p.withdrawn s.now then
      (({ s with cfg := { s.cfg with pending := none } }).setF F.CFG_STAT_PENDING 0).commitRefuse 7
    else s
  | none => s

/-- A write of REVERT (R81). -/
def State.commitRevert (s : State) : State :=
  if s.cfg.pending.isSome then s
  else s.forEach s.dirtyRegs (fun p t => t.setW p.1 (mixStaged p.1 p.2 (t.actW p.1)))

/-- A write of `CFG_COMMIT` (R81, R83, R449). -/
def State.cfgCommitWrite (s : State) (who : Initiator) (w : Word) : State :=
  let go := F.CFG_COMMIT_GO.of w != 0
  let cancel := F.CFG_COMMIT_CANCEL.of w != 0
  let revert := F.CFG_COMMIT_REVERT.of w != 0
  if (go && cancel) || (go && revert) || (cancel && revert) then
    (s.setB F.CFG_STAT_SRC (who == .service)).commitRefuse 9
  else if go then (s.setB F.CFG_STAT_SRC (who == .service)).commitGo (F.CFG_COMMIT_MODE.of w != 0)
  else if cancel then s.commitCancel
  else if revert then s.commitRevert
  else s

/-- `COMMIT_REQUEST` (R77). -/
def execCommitRequest (who : Initiator) (mode1 : Bool) (s : State) : Res :=
  .next (s.guarded who A.CFG_COMMIT (fun t =>
    t.cfgCommitWrite who (F.CFG_COMMIT_MODE.put (F.CFG_COMMIT_GO.put 0 1) mode1.toNat)))

/-- `COMMIT_CANCEL` (R81). -/
def execCommitCancel (who : Initiator) (s : State) : Res :=
  .next (s.guarded who A.CFG_COMMIT (fun t => t.cfgCommitWrite who (F.CFG_COMMIT_CANCEL.put 0 1)))

/-- `COMMIT_REVERT` (R81). -/
def execCommitRevert (who : Initiator) (s : State) : Res :=
  .next (s.guarded who A.CFG_COMMIT (fun t => t.cfgCommitWrite who (F.CFG_COMMIT_REVERT.put 0 1)))

/-! ### Commits at a boundary (R78, R80, R81) -/

/-- A pending commit takes effect at the boundary that begins an image (R78). -/
def PendingCommit.due (p : PendingCommit) (now : Nat) (image : Word) : Bool :=
  match p.target with
  | none => decide (p.latched + 2000 ≤ now)
  | some t => decide (0 ≤ diff32 image t)

/-- A pending set made active (R80). -/
def State.commitApply (s : State) (p : PendingCommit) : State :=
  let s1 := s.forEach p.vals (fun v t => t.setActW v.1 (mixStaged v.1 (t.actW v.1) v.2))
  (s1.setW A.CFG_EPOCH (s1.getW A.CFG_EPOCH + 1)).raise F.CFG_EVT_APPLIED

/-- The commit of a boundary, and the addresses it changed. A CANCEL less than 2 µs before its boundary is ignored (R81); a
deferred request that is late is refused (R78). -/
def State.commitBoundary (s : State) (image : Word) : State × List Nat :=
  let s1 := s.cancelSettle
  match s1.cfg.pending with
  | none => (s1, [])
  | some p =>
    let clear := ({ s1 with cfg := { s1.cfg with pending := none } }).setF F.CFG_STAT_PENDING 0
    if p.deferred && (match p.target with | some t => decide (diff32 t image ≤ 0) | none => false) then (clear.commitRefuse 3, [])
    else if p.due s1.now image then ((clear.commitApply p).setF F.CFG_STAT_RESULT 1, p.vals.map (fun v => v.1))
    else ({ s1 with cfg := { s1.cfg with pending := some { p with deferred := false } } }, [])

end Sys2Proof.Machine
end

