-- ==== Sys2Proof/Machine/Thermal.lean ====
section
/-!
DEFINITION. Temperature: sensors, demand, grace and enforcement, trips, and the limit that an owner Head sends to its zone
(R420 to R427); with it the receipt of STATUS (R138, R425).
-/

namespace Sys2Proof.Machine

/-! ### Sensors (R421 to R423) -/

/-- A sensor beside its register. -/
def State.sensor (s : State) (i : Nat) : SensorX := tabGet {} s.thm.sensors i

/-- The state with a sensor's part replaced. -/
def State.setSensor (s : State) (i : Nat) (x : SensorX) : State :=
  { s with thm := { s.thm with sensors := tabPut s.thm.sensors i x } }

/-- A limit of `THM_LIM` in units of 0.125 °C. -/
def State.lim8 (s : State) (f : Fld) : Int := 8 * (s.getF f : Int)

/-- A sensor's effective temperature. -/
def State.teff (s : State) (i : Nat) : Int := toSigned 12 (s.getF (F.THM_T_TEFF i))

/-- A sensor counts for the highest effective temperature: it has given a reading, or is broken. -/
def State.sensorCounts (s : State) (i : Nat) : Bool := s.flag (F.THM_T_VALID i) || s.flag (F.THM_T_BROKEN i)

/-- The readings of the last window (R423). -/
def State.window (s : State) (past : List (Nat × Int)) : List (Nat × Int) :=
  past.filter (fun p => decide (s.now ≤ p.1 + s.plan.therm.rorWindowMs * 1000000))

/-- The rise over the last window exceeds its limit (R423). -/
def State.rises (s : State) (past : List (Nat × Int)) (t8 : Int) : Bool :=
  match past.getLast? with
  | some (_, old) => decide (8 * (s.plan.therm.rorCPerS : Int) * s.plan.therm.rorWindowMs < 1000 * (t8 - old))
  | none => false

/-- A sensor's effective temperature written, with WARN where it reaches its limit. -/
def State.setTeff (s : State) (i : Nat) (t8 : Int) : State :=
  let was := s.sensorCounts i && decide (s.lim8 F.THM_LIM_WARN ≤ s.teff i)
  let s1 := s.setF (F.THM_T_TEFF i) (ofSigned 12 t8)
  s1.when (decide (s.lim8 F.THM_LIM_WARN ≤ t8) && !was) (fun t => t.raise F.THM_EVT_WARN)

/-- A bad result, or none (R422). -/
def State.sensorBad (s : State) (i : Nat) : State :=
  let s1 := s.setSensor i { s.sensor i with converting := false, good := 0, hot := 0 }
  let s2 := s1.when (!(s1.flag (F.THM_T_BROKEN i))) (fun t => t.raise F.THM_EVT_BROKEN)
  ((s2.setTeff i (s2.lim8 F.THM_LIM_TRIP - 8)).raise (F.THM_T_BROKEN i)).setF (F.THM_T_ROR i) 0

/-- A good result (R421 to R423, R427). -/
def State.sensorGood (s : State) (i : Nat) (t8 : Int) : State :=
  let x := s.sensor i
  let broken := s.flag (F.THM_T_BROKEN i) && decide (x.good + 1 < 16)
  let past := s.window ((s.now, t8) :: x.past)
  let ror := !broken && s.rises past t8
  let hot := if !broken && decide (s.lim8 F.THM_LIM_TRIP ≤ t8) then x.hot + 1 else 0
  let s1 := s.setSensor i { converting := false, good := min 16 (x.good + 1), past := past, hot := hot }
  let eff := if broken then s.lim8 F.THM_LIM_TRIP - 8
    else if ror then max t8 (s.lim8 F.THM_LIM_HOT + 8 * s.plan.therm.rorAddC) else t8
  let s2 := s1.when (ror && !(s1.flag (F.THM_T_ROR i))) (fun t => t.raise F.THM_EVT_ROR)
  let s3 := (s2.setTeff i eff).setF (F.THM_T_TEMP i) (ofSigned 12 t8)
  ((s3.raise (F.THM_T_VALID i)).setB (F.THM_T_BROKEN i) broken).setB (F.THM_T_ROR i) ror

/-! ### Demand (R424, R426) -/

/-- R424: raw for an effective temperature. -/
def rawDemand (slope floor : Nat) (h8 t8 : Int) : Nat :=
  if t8 ≤ h8 then 255 else max floor (255 - ((slope * (t8 - h8) + 7) / 8)).toNat

/-- The highest effective temperature, with the lowest sensor that shows it. -/
def State.hottest (s : State) : Option (Nat × Int) :=
  ((List.range 16).filter (fun i => s.sensorCounts i)).foldl (fun b i =>
    match b with
    | none => some (i, s.teff i)
    | some (j, t) => if t < s.teff i then some (i, s.teff i) else some (j, t)) none

/-- `THM_STAT.STATE` as it stands (R426, R427). -/
def State.thermState (s : State) : State :=
  let warm := (List.range 16).any (fun i => s.sensorCounts i && decide (s.lim8 F.THM_LIM_WARN ≤ s.teff i))
  s.setF F.THM_STAT_STATE
    (if s.thm.tripped then 4 else if s.thm.enforcing then 3 else if s.thm.graced then 2 else if warm then 1 else 0)

/-- TLIMIT as the enforcement sets it (R426). -/
def State.setTlimit (s : State) (v : Nat) : State :=
  if s.getF F.LMP_CUR_TLIMIT = v then s else (s.setF F.LMP_CUR_TLIMIT v).raise F.LMP_EVT_TLIMIT

/-- A new demand (R424 to R426): a fall below the active BLIMIT starts the grace timer, a return to 255 ends grace and
enforcement; TLIMIT follows while the device enforces. -/
def State.setDemand (s : State) (d : Nat) : State :=
  let old := s.getF F.THM_STAT_DEMAND
  let s1 := s.setF F.THM_STAT_DEMAND d
  if d < old then
    let s2 := { s1 with lnk := { s1.lnk with extraStatus := true } }
    let s3 := s2.when (old == 255) (fun t => t.raise F.THM_EVT_DEMAND)
    if s3.thm.enforcing then s3.setTlimit d
    else if d < s3.actF F.LMP_CUR_BLIMIT ∧ s3.thm.graceAt = none then
      { s3 with thm := { s3.thm with graceAt := some s3.now, graced := true } }
    else s3
  else if d = 255 then
    ({ s1 with thm := { s1.thm with graceAt := none, graced := false, enforcing := false } }).setTlimit 255
  else if s1.thm.enforcing then s1.setTlimit d
  else s1

/-! ### Trips (R427) -/

/-- A thermal trip is due. -/
def State.tripDue (s : State) : Bool :=
  (List.range 16).any (fun i => decide (2 ≤ (s.sensor i).hot)) || decide (s.plan.therm.brokenTrip ≤ s.getF F.THM_STAT_NBROKEN)

/-- A thermal trip: a hard blank (R255, R427). -/
def State.trip (s : State) : State :=
  if s.thm.tripped || !s.tripDue then s
  else
    let s1 : State := { s with thm := { s.thm with tripped := true }, lmp := { s.lmp with tripHard := true } }
    ((s1.raise F.THM_EVT_TRIP).bump F.THM_CNT_TRIPS).hardBlank

/-- What holds for a trip to clear (R427). -/
def State.tripCool (s : State) : Bool :=
  (List.range 16).all (fun i => s.flag (F.THM_T_BROKEN i) || !(s.flag (F.THM_T_VALID i)) ||
    decide (toSigned 12 (s.getF (F.THM_T_TEMP i)) < s.lim8 F.THM_LIM_TRIP - 80)) &&
    decide (s.getF F.THM_STAT_NBROKEN < s.plan.therm.brokenTrip)

/-! ### The zone of an owner Head (R425) -/

/-- R424 with the plan's parameters. -/
def State.rawAt (s : State) (t8 : Int) : Nat :=
  rawDemand s.plan.therm.slope (s.getF F.THM_LIM_FLOOR) (s.lim8 F.THM_LIM_HOT) t8

/-- The Tiles that the Head knows, by identifier and chain. -/
def State.zoneTiles (s : State) : List (Nat × Nat) :=
  s.plan.comp.tiles.filterMap (fun t => if t.id = 0 then none else some (t.id, t.chain))

/-- The demand of a Tile as the owner works it out. -/
def State.tileDemand (s : State) (id : Nat) : Nat := tabGet 255 s.thm.demands id

/-- The lowest demand of some Tiles. -/
def State.lowest (s : State) (l : List (Nat × Nat)) (start : Nat) : Nat := l.foldl (fun a t => min a (s.tileDemand t.1)) start

/-- The BLIMIT write with its target-mode commit (R425). `LMP_CUR` is written whole, its other staged fields as the owner
has them. -/
def State.limitWrites (s : State) (v : Nat) : List RegWrite :=
  let target := s.imageNow + BitVec.ofNat 32 s.plan.therm.leadImages
  [⟨BitVec.ofNat 32 A.LMP_CUR, F.LMP_CUR_BLIMIT.put (s.getW A.LMP_CUR) v⟩, ⟨BitVec.ofNat 32 A.CFG_TARGET, target⟩,
    ⟨BitVec.ofNat 32 A.CFG_COMMIT, 3⟩]

/-- A limit sent to a destination. -/
def State.sendLimit (s : State) (ports : List Nat) (dst : BitVec 10) (v : Nat) : State :=
  s.post { ports := ports, hdr := { typ := 3, prot := 2, dst := dst, src := s.srcId, len := 24 }, body := .ctrl (s.limitWrites v) }

/-- A group's limit sent where it has changed. -/
def State.groupLimit (s : State) (key v : Nat) (send : State → State) : State :=
  if tabGet 255 s.thm.sent key = v then s
  else
    let s1 := send s
    { s1 with thm := { s1.thm with sent := tabPut s1.thm.sent key v } }

/-- The owner's own panel under the limit of the whole Head (R425). -/
def State.ownLimit (s : State) (v : Nat) : State :=
  let s1 := s.setF F.LMP_CUR_BLIMIT v
  (s1.setW A.CFG_TARGET (s1.imageNow + BitVec.ofNat 32 s1.plan.therm.leadImages)).commitGo true

/-- The limits of the zone (R425). -/
def State.zoneUpdate (s : State) : State :=
  if !s.owns || !s.released then s
  else
    match s.plan.therm.zone with
    | .head =>
      let v := s.lowest s.zoneTiles (s.getF F.THM_STAT_DEMAND)
      s.groupLimit 0 v (fun t => (t.sendLimit t.ringPorts 1023 v).ownLimit v)
    | .chain =>
      s.forEach (List.range 8) (fun c t =>
        let l := t.zoneTiles.filter (fun x => x.2 == c)
        let v := t.lowest l 255
        t.groupLimit (2000 + c) v (fun u => u.forEach l (fun x w => w.sendLimit (w.chainPorts c) (BitVec.ofNat 10 x.1) v)))
    | .tile =>
      s.forEach s.zoneTiles (fun x t =>
        let v := t.tileDemand x.1
        t.groupLimit x.1 v (fun u => u.sendLimit (u.chainPorts x.2) (BitVec.ofNat 10 x.1) v))

/-- What a STATUS says of a Tile's temperature, at the owner (R425). -/
def State.zoneStatus (s : State) (m : StatusMsg) : State :=
  if s.owns then
    let id := m.src.toNat
    let raw := s.rawAt m.hottest.toInt
    let s1 := { s with thm := { s.thm with
      raws := tabPut s.thm.raws id raw, demands := tabPut s.thm.demands id (min raw (s.tileDemand id)) } }
    s1.zoneUpdate
  else s

/-- `STATUS_RECEIVED` (R138, R425). -/
def execStatusReceived (m : StatusMsg) (s : State) : Res := .next ((s.statusRx m).zoneStatus m)

/-! ### Conversions -/

/-- What follows every conversion (R424 to R427). -/
def State.thermEval (s : State) : State :=
  let broken := ((List.range 16).filter (fun i => s.flag (F.THM_T_BROKEN i))).length
  let s1 := s.setF F.THM_STAT_NBROKEN broken
  match s1.hottest with
  | none => s1
  | some (i, t8) =>
    let raw := s1.rawAt t8
    let s2 := { s1.setF F.THM_STAT_HOTTEST i with thm := { s1.thm with raw := raw } }
    let s3 := if raw < s2.getF F.THM_STAT_DEMAND then s2.setDemand raw else s2
    (s3.trip.thermState).zoneUpdate

/-- `SENSOR_CONVERSION_START` (R421). -/
def execSensorConversionStart (i : Fin 16) (s : State) : Res :=
  if s.running then .next (s.setSensor i.val { s.sensor i.val with converting := true }) else .next s

/-- A write of `THM_CTL` (R421). -/
def State.thmCtlWrite (s : State) (w : Word) : State :=
  s.forEach ((List.range 16).filter (fun i => (F.THM_CTL_MEAS.of w).testBit i)) (fun i t =>
    t.setSensor i { t.sensor i with converting := true })

/-- `SENSOR_MEASURE_REQUEST` (R421). -/
def execSensorMeasureRequest (who : Initiator) (mask : BitVec 16) (s : State) : Res :=
  .next (s.guarded who A.THM_CTL (fun t => t.thmCtlWrite (F.THM_CTL_MEAS.put 0 mask.toNat)))

/-- `SENSOR_CONVERSION_DONE` (R421 to R427): a result in units of 0.125 °C. -/
def execSensorConversionDone (i : Fin 16) (t8 : Int) (s : State) : Res :=
  if (s.sensor i.val).converting then
    let s1 := if t8 < -320 ∨ 1200 < t8 then s.sensorBad i.val else s.sensorGood i.val t8
    .next s1.thermEval
  else .next s

/-- `SENSOR_TIMEOUT` (R422). -/
def execSensorTimeout (i : Fin 16) (s : State) : Res :=
  if (s.sensor i.val).converting then .next (s.sensorBad i.val).thermEval else .next s

/-- `DEMAND_RECOVER_STEP` (R424, R425): every demand that lies below its raw value rises by one step. -/
def execDemandRecoverStep (s : State) : Res :=
  let d := s.getF F.THM_STAT_DEMAND
  let s1 := if d < s.thm.raw then s.setDemand (d + 1) else s
  let up := s1.thm.demands.map (fun p => (p.1, if p.2 < tabGet 255 s1.thm.raws p.1 then p.2 + 1 else p.2))
  .next ({ s1.thermState with thm := { s1.thermState.thm with demands := up } }).zoneUpdate

/-- `GRACE_EXPIRY` (R426). -/
def execGraceExpiry (s : State) : Res :=
  match s.thm.graceAt with
  | none => .next s
  | some _ =>
    let s1 := { s with thm := { s.thm with graceAt := none } }
    let d := s1.getF F.THM_STAT_DEMAND
    if s1.actF F.LMP_CUR_BLIMIT ≤ d then .next s1
    else
      let s2 := { s1 with thm := { s1.thm with enforcing := true } }
      .next (((s2.bump F.THM_CNT_ENFORCED).raise F.THM_EVT_ENFORCE).setTlimit d).thermState

/-- `TRIP_HOLD_EXPIRY` (R427): the lamps relight under R254. -/
def execTripHoldExpiry (s : State) : Res :=
  if s.thm.tripped && s.tripCool then
    let s1 : State := { s with thm := { s.thm with tripped := false }, lmp := { s.lmp with tripHard := false } }
    .next ((s1.raise F.THM_EVT_TRIP_CLEAR).lampState).thermState
  else .next s

/-- The thermal limits written from the plan (R70). -/
def State.thermLoad (s : State) : State :=
  let p := s.plan.therm
  (((s.setF F.THM_LIM_WARN p.warnC).setF F.THM_LIM_HOT p.hotC).setF F.THM_LIM_TRIP p.tripC).setF F.THM_LIM_FLOOR p.floor

end Sys2Proof.Machine
end

