-- ==== Sys2Proof/Machine/Power.lean ====
section
/-!
DEFINITION. Supplies, `PORST_N`, the hold-up capacitor, the clocks and the watchdog (R31 to R54, R406, R408, R410).
-/

namespace Sys2Proof.Machine

/-! ### Supplies (R32, R37, R406, R408) -/

/-- A bit of `SUP_STAT` that follows a monitor. -/
def State.setSupply (s : State) (k : Supply) (ok : Bool) : State := s.setB ⟨A.SUP_STAT, k.bit, 1⟩ ok

/-- A supply whose loss the device does not survive (R37): one required for both roles, or VDDQ on a Head. -/
def State.needsSupply (s : State) (k : Supply) : Bool := k != .vddq || s.isHead

/-- The kind of the save in progress changed. -/
def State.savePor (s : State) : State :=
  match s.smp.save with
  | some x => { s with smp := { s.smp with save := some { x with kind := match x.kind with | .reset _ => .reset true | k => k } } }
  | none => s

/-- A second supply lost during the supply-loss sequence is recorded in the loss record (R408). -/
def State.lossDip (s : State) : State :=
  match s.smp.save with
  | some x =>
    (match x.kind with
      | .loss => { s with smp := s.smp.setLoss { s.smp.loss with dip := s.getF F.SUP_EVT_DIP } }
      | _ => s)
  | none => s

/-- A flag of the loss record of the save in progress set (R418): 1 for `PORST_N`, 2 for a supply that returned. -/
def State.lossFlag (s : State) (i : Nat) : State :=
  if s.saving then { s with smp := s.smp.setLoss { s.smp.loss with flags := s.smp.loss.flags ||| 2 ^ i } } else s

/-- The save in progress is that of the supply-loss sequence. A reset save keeps the loss record it began with (R406). -/
def State.lossSaving (s : State) : Bool :=
  match s.smp.save with
  | some x => (match x.kind with | .loss => true | _ => false)
  | none => false

/-- What a lost supply brings about (R37, R406). A reset save that runs after release goes on to its end, which is then
power-on reset, with events 3 to 5 of R407 at once. -/
def State.supplyLost (s : State) (k : Supply) : State :=
  if s.pwr.phase = .por ∨ s.needsSupply k = false then s
  else if s.pwr.phase = .lossSave then s.lossDip
  else if s.released then (if s.saving then s.savePor.lossEvents else s.startLoss)
  else if s.saving then { s with pwr := { s.pwr with porAfterRow := true } }
  else s.enterPor

/-- `SUPPLY_LEAVES_RANGE` (R32, R37, R406). -/
def execSupplyLeavesRange (k : Supply) (s : State) : Res :=
  let s1 := s.setSupply k false
  let s2 := if s1.pwr.phase = .por then s1 else s1.raiseBit F.SUP_EVT_DIP k.bit
  .next (s2.supplyLost k)

/-- `SUPPLY_RETURNS` (R32, R418). -/
def execSupplyReturns (k : Supply) (s : State) : Res :=
  let s1 := s.setSupply k true
  .next (s1.when s1.lossSaving (fun t => t.lossFlag 2))

/-! ### `PORST_N` and CKEEP (R34, R54, R408, R410, R431) -/

/-- `PORST_N_LOW` (R54, R408, R431). -/
def execPorstNLow (ns : Nat) (s : State) : Res :=
  if 1000 ≤ ns ∨ (100 ≤ ns ∧ Config.porstSeen ns = true) then
    let s1 := { s with pwr := { s.pwr with porstLow := true } }
    if s1.saving then .next ({ s1.lossFlag 1 with pwr := { s1.pwr with porAfterRow := true } })
    else .next s1.enterPor
  else .next s

/-- `PORST_N_HIGH` (R34). -/
def execPorstNHigh (s : State) : Res := .next { s with pwr := { s.pwr with porstLow := false } }

/-- `CKEEP_LOW` (R34, R410): its event is set after release; before release a fall holds power-on reset (log entry 39). -/
def execCkeepLow (mv : Nat) (s : State) : Res :=
  if 4500 ≤ mv then .next s
  else
    let s1 := (s.setF F.SUP_STAT_CKEEP_OK 0).setF F.SUP_STAT_CKEEP_MV mv
    .next (s1.when s1.released (fun t => t.raise F.SUP_EVT_CKEEP_LOW))

/-- `CKEEP_CHARGED` (R34). -/
def execCkeepCharged (mv : Nat) (s : State) : Res :=
  if mv < 4500 then .next s else .next ((s.raise F.SUP_STAT_CKEEP_OK).setF F.SUP_STAT_CKEEP_MV (min mv 8191))

/-! ### Leaving power-on reset, clocks (R34, R45, R50) -/

/-- `POWER_ON_RESET_END` (R31, R34): the role strap is sampled, SYSPLL is enabled. -/
def execPowerOnResetEnd (strapHead : Bool) (s : State) : Res :=
  if s.pwr.phase = .por ∧ s.porHeld = false then
    .next ({ s with pwr := { s.pwr with phase := .sysPll, porEnd := s.now } }.setB F.SUP_STAT_ROLE strapHead)
  else .next s

/-- `SYSPLL_LOCK` (R50, R53): the clocks run, the keeper leaves reset, the watchdog is armed at 2,000 ms. -/
def execSyspllLock (s : State) : Res :=
  if s.pwr.phase = .sysPll then
    let s1 : State := {
      s with
      pwr := { s.pwr with phase := .run, txIdle := false, wdtArmed := true, wdtMs := 2000, wdtAt := s.now }
      tim := { s.tim with running := true, startAt := s.now } }
    .next ((s1.raise F.CLK_STAT_SYS_LOCK).setF F.RST_CAUSE_NOREF 0)
  else .next s

/-- `SYSPLL_LOCK_TIMEOUT` (R50). -/
def execSyspllLockTimeout (s : State) : Res :=
  if s.pwr.phase = .sysPll then .next ({ s with pwr := { s.pwr with phase := .noRef } }.raise F.RST_CAUSE_NOREF) else .next s

/-- `REFCLK_RETRY` (R50). -/
def execRefclkRetry (s : State) : Res :=
  if s.pwr.phase = .noRef then .next { s with pwr := { s.pwr with phase := .sysPll } } else .next s

/-- `SYSPLL_UNLOCK` (R45, R54): CORE, MGMT and TIME stop; a device reset follows. -/
def execSyspllUnlock (s : State) : Res :=
  if s.flag F.CLK_STAT_SYS_LOCK then .next ((s.setF F.CLK_STAT_SYS_LOCK 0).requestReset 4) else .next s

/-- `MPLL_UNLOCK` (R45, R334). -/
def execMpllUnlock (s : State) : Res :=
  if s.flag F.CLK_STAT_MEM_LOCK then
    .next (((s.setF F.CLK_STAT_MEM_LOCK 0).raise F.CLK_EVT_MEM_UNLOCK).failHead 1)
  else .next s

/-- `PORT_PLL_UNLOCK` (R45). -/
def execPortPllUnlock (n : Fin 8) (s : State) : Res :=
  if s.bit F.CLK_STAT_PORT_LOCK n.val then
    .next ((s.putBit F.CLK_STAT_PORT_LOCK n.val false).raiseBit F.CLK_EVT_PORT_UNLOCK n.val)
  else .next s

/-- `SVC_PLL_UNLOCK` (R45, R362). The spec does not say that the service PLL locks again of itself: it stays unlocked until its
unit is started again (DEDUCED, log entry 19). -/
def execSvcPllUnlock (s : State) : Res :=
  if s.flag F.CLK_STAT_SVC_LOCK then
    let s1 := (s.setF F.CLK_STAT_SVC_LOCK 0).raise F.CLK_EVT_SVC_UNLOCK
    .next (if s1.lan.svcUp then s1.svcLost else s1)
  else .next s

/-- `VPLL_UNLOCK` (R45, R254): the lamps blank at the next line boundary. VID_STEER, VID_OFFS and the correction stay as they
stand while it is unlocked, which R45 leaves open (DESIGN CHOICE, log entry 61). -/
def execVpllUnlock (s : State) : Res :=
  if s.flag F.CLK_STAT_VID_LOCK then
    let s1 := (s.setF F.CLK_STAT_VID_LOCK 0).raise F.CLK_EVT_VID_UNLOCK
    .next ({ s1 with lmp := { s1.lmp with vidDark := true } }).softBlank
  else .next s

/-- `VPLL_RELOCK` (R45): the lamps relight at the first slot boundary after it. -/
def execVpllRelock (s : State) : Res :=
  if s.running then .next ({ s.raise F.CLK_STAT_VID_LOCK with lmp := { s.lmp with vidDark := false } }) else .next s

/-- `WATCHDOG_EXPIRY` (R53, R418). In memory hold and in recovery mode the keeper's kicks keep the count from running out
(R67, R68). -/
def execWatchdogExpiry (s : State) : Res :=
  if s.pwr.wdtArmed && !s.keeperKicks then
    .next ({ s with pwr := { s.pwr with wdtArmed := false } }.requestReset 2)
  else .next s

end Sys2Proof.Machine
end

