-- ==== Sys2Proof/Machine/Start.lean ====
section
/-!
DEFINITION. The start: fuses, firmware and plan, the memory of a Head, the position of a Tile, release (R56 to R74, R108,
R390, R402 to R404).
-/

namespace Sys2Proof.Machine

/-! ### The regions of the NVM (R186, R263) -/

/-- The matrix banks loaded and valid (R263): from the factory region that passed its check, or with identity entries. -/
def State.banksLoad (s : State) : State :=
  let r := s.corr.factory
  let m : MatrixSet := { identity := true }
  let s1 := if s.flag F.CORR_STAT_FACT_OK then (s.setMatrix false r.set0).setMatrix true (if r.sets = 2 then r.set1 else r.set0)
    else (s.setMatrix false m).setMatrix true m
  (s1.raise F.CORR_STAT_VALID_A).raise F.CORR_STAT_VALID_B

/-- The factory region at the start (R263): a Tile's banks are loaded at once, a Head's when its memory is up. -/
def State.factoryLoad (s : State) : State :=
  let r := s.nvm.factory
  let s1 := { s with corr := { s.corr with factory := r } }
  let s2 := if s.nvm.present && s.certTables.any (fun t => r.ok t s.shadow s.plan.wall.id) then
      (s1.raise F.CORR_STAT_FACT_OK).setF F.CORR_STAT_FACT_SETS r.sets
    else (s1.setF F.CORR_STAT_FACT_OK 0).raise F.CORR_EVT_FACT_BAD
  if s.isHead then s2 else s2.banksLoad

/-- The safety-pattern region as the start finds it (R186). -/
def State.patternLoad (s : State) : State :=
  let p := s.nvm.pattern
  if s.nvm.present && s.certTables.any (fun t => p.ok t s.shadow s.plan.wall.id) then
    (({ s with geo := { s.geo with patterns := p.patterns } }).raise F.GEO_STAT_PAT_OK).setF F.GEO_STAT_PAT_COUNT p.count
  else (s.setF F.GEO_STAT_PAT_OK 0).raise F.GEO_EVT_PAT_BAD

/-! ### Recovery mode (R67, R108) -/

/-- `LAN_CTL` in recovery mode: port A and the service lane run. -/
def recoveryUnits : Nat := 0xFFE

/-- Recovery mode entered (R67): port A runs as role 3 at 1.25 Gbaud and forwards nothing, the service lane runs (R108). A start
that ends here has checked the regions too (R186, R263), but after fault 0x01 nothing of the NVM is read (R57). -/
def State.enterRecovery (s : State) : State :=
  let s1 := s.laneControl (recoveryUnits + 1)
  let s2 := s1.forEach (List.range 8) (fun n t => t.setF (F.LNK_PCFG_FWD_EN n) 0)
  let s3 := ((s2.raise F.BOOT_STAT_RECOVERY).setF F.BOOT_STAT_STEP 7).setF F.BOOT_STAT_WAIT_HEAD 0
  let s4 := s3.when (!s3.boot.fuseBad) (fun t => (t.factoryLoad).patternLoad)
  (s4.setF (F.LNK_PCFG_ROLE 0) 3).laneControl recoveryUnits

/-- A fault that belongs to no bank and stops the start (R57, R59, R61). -/
def State.bootStop (s : State) (code : Nat) : State := (s.setF F.BOOT_FAULT_FIRST code).enterRecovery

/-! ### Step 1 (R57, R58) -/

/-- The fuses sensed: the shadow registers, the trims, the identity (R58, R366, R384). -/
def State.sensed (s : State) (f : FuseSense) : State :=
  let s1 := { s with shadow := s.fuses, boot := { s.boot with fusesDone := true, fuseBad := f.uncorrectable } }
  let s2 := s1.setF F.BOOT_STAT_FUSE_CORR (min 15 f.corrected)
  if f.uncorrectable then s2.bootStop 0x01
  else ((s2.trimLoad).secSense).setF F.BOOT_STAT_STEP 1

/-- `FUSE_SENSING_DONE` (R57). -/
def execFuseSensingDone (f : FuseSense) (s : State) : Res :=
  if s.pwr.phase = .por ∨ s.boot.fusesDone = true then .next s else .next (s.sensed f)

/-! ### Loading (R63 to R71) -/

/-- The initiator code of a block's interrupt route (R350): six blocks go to the keeper whatever the plan names. -/
def routeOf (p : SysPlan) (i : Nat) : Nat := if [3, 5, 6, 22, 24, 25].contains i then 0 else nth p.irqRoute i 0

/-- The lanes whose registers a role holds (R12, R87): a Tile holds off those of the DisplayPort receivers. -/
def State.ownLanes (s : State) : List Nat := (List.range 49).filter (fun m => s.isHead || !(within 32 47 m))

/-- The lane and port registers of the plan (R87, R88, R93, R107). -/
def State.laneLoad (s : State) : State :=
  let s1 := s.forEach s.ownLanes (fun m t => t.setF (F.LAN_CFG_TABLE m) (nth t.plan.lane.tables m 0))
  s1.forEach (List.range 8) (fun n t =>
    let r := nth t.plan.link.rates n 0
    let u := (t.setF (F.LNK_PCFG_ROLE n) (nth t.plan.link.roles n 0)).setF (F.LNK_PCFG_RATE n) r
    u.forEach [0, 1, 2, 3] (fun k v => v.setF (F.LAN_CFG_RATE (4 * n + k)) r))

/-- The update registers before release (R401), from the record in the Sump; a fallback is shown once. -/
def State.updLoad (s : State) : State :=
  let r := s.smp.upd
  let d := s.dirNow
  let sp := if r.spare = 5 then 4 else r.spare
  let s1 := ((s.setB F.UPD_STAT_RUNBANK d.active).setB F.UPD_STAT_TRIAL d.trial).setF F.UPD_STAT_SPARE sp
  let s2 := ((s1.setF F.UPD_STAT_FBCAUSE r.cause).setF F.UPD_STAT_STARTS (if d.trial then r.starts else 0)).setB
    F.UPD_STAT_LATE r.late
  let s3 := ((s2.setF F.UPD_STAT_VCODE r.vcode).setPkg r.pkg)
  let s4 := { s3 with
    upd := { s3.upd with filled := true, held := r.held, erased := decide (2 ≤ sp) }
    smp := s3.smp.setUpd { r with fell := false } }
  ((s4.progress).when d.trial (fun t => t.raise F.UPD_EVT_TRIAL)).when r.fell (fun t => t.raise F.UPD_EVT_FELL_BACK)

/-- The counters of a start that is not on trial: step 3 of a confirmation repeated, and PREV cleared where the other bank
can no longer start (R404). -/
def State.rollbackCheck (s : State) : State :=
  if s.dirNow.trial then s
  else
    let s1 := s.blowRollback
    let o := s1.nvm.bank (!s1.dirNow.active)
    let below := decide (o.fw.rollback < blown s1.fuses.fwRollback) || decide (o.image.rollback < blown s1.fuses.planRollback)
    if below && s1.dirNow.prev != 0 then s1.writeDir (fun x => { x with prev := 0 }) else s1

/-- The confirmed settings lie outside what the firmware on trial reads (R402). -/
def State.settingsBad (s : State) : Bool :=
  s.dirNow.trial &&
    (match s.smp.upd.confirmedIface with
      | some v => !(within s.boot.fw.settingsLo s.boot.fw.settingsHi v)
      | none => false)

/-- The engines of a Head loaded (R69, R70). -/
def State.headLoad (s : State) : State := (((s.ingestLoad).compLoad).encLoad).geodeRestore

/-- Every live register that mirrors a plan parameter (R70). -/
def State.planLoad (s : State) : State :=
  let s1 := ((((s.laneLoad).factoryLoad).patternLoad).lampLoad).corrLoad
  let s2 := (((s1.railLoad).timeLoad).redLoad).mbxLoad
  let s3 := (s2.thermLoad).setBoth F.GOV_HOLD_MS s2.plan.gov.recoverHoldMs
  let s4 := s3.forEach (List.range 32) (fun i t => t.setF (F.CORE_ROUTE_IRQ i) (routeOf t.plan.sys i))
  (s4.when s4.isHead State.headLoad).timeSources

/-- A Tile's ports once its wall section is loaded: they run and forward (R73, R108). -/
def State.tilePorts (s : State) : State :=
  let s1 := (s.setF (F.LNK_PCFG_FWD_EN 0) 1).setF (F.LNK_PCFG_FWD_EN 1) 1
  s1.laneControl (s1.getF laneCtl &&& 0xFFC)

/-- A bank that passed its checks put to use (R63, R69 to R71, R73). -/
def State.useBank (s : State) (b : Bool) : State :=
  let k := s.nvm.bank b
  let s1 : State := { s with plan := k.image.loaded, boot := { s.boot with loaded := true, image := k.image, fw := k.fw } }
  let strap := s1.flag F.SUP_STAT_ROLE
  let s2 := ((s1.setB F.BOOT_STAT_ROLE_PLAN k.image.isHead).setB F.BOOT_STAT_ROLE_DIFF (strap && !k.image.isHead)).setB
    F.BOOT_STAT_BANK b
  let s3 := (s2.setF F.BOOT_PLAN_SERIAL k.image.serial.toNat).setF F.BOOT_STAT_STEP 3
  let s4 := ((s3.coresStart).planLoad).secLoad
  let s5 := (s4.updLoad).rollbackCheck
  let s6 := s5.laneControl (s5.getF laneCtl &&& 0xFFF)
  if s6.isHead then s6 else (s6.tilePorts).raise F.BOOT_STAT_WAIT_HEAD

/-- A bank that passed its checks, with the settings of R402. -/
def State.takeBank (s : State) (b : Bool) : State :=
  let t := s.useBank b
  if t.settingsBad then (if t.plan.upd.settingsPolicy then t.raise F.UPD_EVT_SETTINGS_LOST else t.fallBack 6) else t

/-- The fault of a bank at a start, 0 for none (R63, R65, R66). -/
def State.bankFault (s : State) (b : Bool) : Nat :=
  let k := s.nvm.bank b
  let f := fwFault s.shadow k.image.wallId k.fw
  let p := planFault s.shadow k.fw k.image
  if f ≠ 0 then f
  else if p ≠ 0 then p
  else if !k.image.sectionsOk then 0x09
  else s.paramFault (s.flag F.SUP_STAT_ROLE) k.fw k.image

/-- The checks of a bank reached its wall section, and its `sys` parameters are in range (R53, R65, R66). -/
def State.wallLoaded (s : State) (b : Bool) : Bool :=
  let k := s.nvm.bank b
  fwFault s.shadow k.image.wallId k.fw == 0 && planFault s.shadow k.fw k.image == 0 && k.image.ownedOk (fun o => o == .wall) &&
    sysOk k.image.plan.sys

/-- What the checks of a bank leave behind, whatever they find after it: the firmware in core memory once it is verified (R63),
the watchdog's timeout once the wall section is loaded (R53). The count goes on from the last kick (DESIGN CHOICE, log entry
33). -/
def State.bankRead (s : State) (b : Bool) : State :=
  let k := s.nvm.bank b
  let s1 := s.when (fwFault s.shadow k.image.wallId k.fw == 0) (fun t => t.fwLoad k.fw)
  s1.when (s.wallLoaded b) (fun t => { t with pwr := { t.pwr with wdtMs := k.image.plan.sys.watchdogMs } })

/-- A plan refused under the evaluated configuration is reported (R386). -/
def State.noteRefused (s : State) (b : Bool) (code : Nat) : State :=
  s.when (code == 0x0A && s.evalRefuses (s.nvm.bank b).image.loaded) (fun t => t.raise F.SEC_EVT_EVAL_REFUSED)

/-- The chain ports and the receivers stopped before another bank is loaded: their idle-only fields change at rest alone
(R86, R109; DEDUCED, log entry 64). -/
def State.portsStop (s : State) : State := s.laneControl (s.getF laneCtl ||| 0xFFF)

/-- A bank found unusable: on trial the device falls back; otherwise the other bank is tried once in a start, and then the
device stops in recovery mode (R67, R403). `next` starts the other bank. -/
def State.bankFailed (s : State) (b : Bool) (code : Nat) (next : State → State) : State :=
  if s.dirNow.trial then s.fallBack 1
  else if s.flag F.BOOT_STAT_ALT_BANK then (s.setF F.BOOT_FAULT_SECOND code).enterRecovery
  else next ((((s.setF F.BOOT_FAULT_FIRST code).setB F.BOOT_FAULT_FIRST_BANK b).raise F.BOOT_STAT_ALT_BANK).portsStop)

/-- A bank tried as the last one. -/
def State.tryLast (s : State) (b : Bool) : State :=
  let f := s.bankFault b
  if f = 0 then (s.bankRead b).takeBank b else ((s.bankRead b).noteRefused b f).bankFailed b f id

/-- A bank tried first, and the other one after it (R67). -/
def State.tryBank (s : State) (b : Bool) : State :=
  let f := s.bankFault b
  let s1 := (s.setB F.BOOT_FAULT_FIRST_BANK b).bankRead b
  if f = 0 then s1.takeBank b else (s1.noteRefused b f).bankFailed b f (fun t => t.tryLast (!b))

/-- A trial start counted, before anything is loaded (R390). -/
def State.countStart (s : State) : State :=
  let r : UpdRecord := { s.smp.upd with valid := true, starts := min 15 (s.smp.upd.starts + 1) }
  ({ s with smp := s.smp.setUpd r }).writeUpdRecord

/-- The NVM read in octal DDR mode at the directory's rate from here on (R59, R61). -/
def State.octal (s : State) (mhz : Nat) : State := { s with boot := { s.boot with xspi := mhz } }

/-- Step 2 (R61, R390): the directory, what a trial asks, the bank that it names. -/
def State.startBanks (s0 : State) : State :=
  match s0.nvm.dir with
  | none => s0.bootStop 0x02
  | some (_, d) =>
    let s := s0.octal d.xclk.toNat
    let r := s.smp.upd
    let starts := if r.valid then r.starts else 15
    let wdt := s.getF F.RST_CAUSE_WDT_COUNT
    if d.trial && r.valid && r.confirmed == d.pkg then
      (s.writeDir (fun x => { x with trial := false, prev := r.oldPkg })).tryBank d.active
    else if d.trial then
      if d.tries.toNat ≤ starts then s.fallBack 3
      else if max 1 d.wdlim.toNat ≤ wdt then s.fallBack 2
      else s.countStart.tryBank d.active
    else if d.wdlim.toNat > 0 ∧ d.wdlim.toNat ≤ wdt ∧ d.prev ≠ 0 then s.fallBack 2
    else s.tryBank d.active

/-- `FIRMWARE_AND_PLAN_LOAD` (R59, R61, R63): the NVM that the board is found to carry, where one is given, is taken. -/
def execFirmwareAndPlanLoad (fitted : Option Nvm) (s : State) : Res :=
  if s.running && s.boot.fusesDone && s.boot.sumpDone && !s.boot.fuseBad && !s.boot.loaded && !s.recovering && !s.saving then
    let s1 := match fitted with | some n => { s with nvm := n } | none => s
    .next (if s1.nvm.present then s1.startBanks else s1.bootStop 0x10)
  else .next s

/-! ### Release (R74) -/

/-- The units that a Head starts at release: its ports with a Head role, the receivers of its sources (R14, R99, R107). -/
def State.headUnits (s : State) : Nat :=
  let ports := (List.range 8).filter (fun n => within 1 2 (s.getF (F.LNK_PCFG_ROLE n)))
  let dps := [0, 1, 2, 3].filter (fun n => (s.srcPlan n).enable)
  (ports ++ dps.map (fun n => n + 8)).foldl (fun a u => a + 2 ^ u) 0

/-- Release of the engines: the rail, composition and the encoder start, the lamp engine is enabled (R74). -/
def State.enginesStart (s : State) : State :=
  let s1 := (s.raise F.CLK_STAT_VID_LOCK).railCtlWrite 0
  let s2 := s1.when s1.isHead (fun t => ((t.cmpStop false).encRelease))
  let s3 := s2.when s2.isHead (fun t =>
    (t.laneControl (t.getF laneCtl &&& (8191 - t.headUnits))).forEach [0, 1, 2, 3] (fun n u => u.hpdEval n))
  s3.lmpCtlWrite 0

/-- Release (R74). -/
def State.release (s : State) : State :=
  let s1 : State := { s with pwr := { s.pwr with releaseAt := s.now } }
  let s2 := ((s1.raise F.BOOT_STAT_RELEASED).setF F.BOOT_STAT_STEP 4).setF F.RST_CAUSE_WDT_COUNT 0
  let s3 := (s2.setF F.BOOT_STAT_START_MS (min 0xFFFF ((s2.now - s2.pwr.porEnd) / 1000000))).setF F.CFG_EPOCH_EPOCH 0
  ((s3.enginesStart).govRelease).secRelease

/-! ### On a Head: external memory (R68, R72) -/

/-- A fault of the memory bring-up recorded, for the bank in use; the first one stays (R68). -/
def State.memoryFault (s : State) (code : Nat) : State :=
  let f := if s.flag F.BOOT_STAT_ALT_BANK then F.BOOT_FAULT_SECOND else F.BOOT_FAULT_FIRST
  let s1 := if s.getF f = 0 then s.setF f code else s
  { s1 with boot := { s1.boot with memFault := true } }

/-- The memory bring-up of R72: the MPLL, the supply, the training, the Head section's tables at their addresses, the matrix
banks (R263); its success leads to release. The keeper's last kick in memory hold stands at its end (R68). -/
def State.memoryUp (s : State) (trained : Bool) : State :=
  let s1 := s.raise F.CLK_STAT_MEM_LOCK
  if !(s1.flag F.SUP_STAT_VDDQ_OK) then s1.memoryFault 0x0E
  else if !trained then s1.memoryFault 0x0F
  else
    let s2 := s1.when s1.boot.memFault (fun t => { t with pwr := { t.pwr with wdtAt := t.now } })
    ({ s2 with
      boot := { s2.boot with memReady := true, memFault := false }
      core := { s2.core with mem := s2.boot.image.tables.foldl (fun m (p : Nat × Byte) => memPut m (lpddr p.1) p.2) s2.core.mem } }
      ).banksLoad.release

/-- A Head stands in step 3 before its memory is up. -/
def State.memoryDue (s : State) : Bool :=
  s.running && s.isHead && s.boot.loaded && !s.boot.memReady && !s.released && !s.saving && !s.recovering

/-- `MEMORY_BRING_UP` (R72). -/
def execMemoryBringUp (trained : Bool) (s : State) : Res :=
  if s.memoryDue && !s.boot.memFault then .next (s.memoryUp trained) else .next s

/-- `MEMORY_HOLD_RETRY` (R68): after fault 0x0E the retry waits for the supply. -/
def execMemoryHoldRetry (trained : Bool) (s : State) : Res :=
  if s.memoryDue && s.boot.memFault && s.flag F.SUP_STAT_VDDQ_OK then .next (s.memoryUp trained) else .next s

/-! ### On a Tile: its position (R66, R73) -/

/-- The position parameters lie in their ranges, the window within one image (R66). -/
def positionOk (w : WallPlan) (x : PositionSection) : Bool :=
  decide (x.upOffsetNs ≤ 4000000) && decide (x.upWindowNs ≤ 4000000) &&
    decide ((x.upOffsetNs + x.upWindowNs) * w.rateNum * w.facets ≤ 1000000000 * w.rateDen)

/-- The position section of the place that the Tile has on the chain of the Head that enumerates it (R64, R73). -/
def State.positionAt (s : State) : PositionSection :=
  (s.boot.image.positions.find? (fun x => x.head == s.lnk.headNumber && x.chain == s.getF F.LNK_ID_CHAIN &&
    x.pos == s.getF F.LNK_ID_POS)).getD {}

/-- The fault of the position section for the assigned place, 0 for none (R65 to R67). -/
def State.positionFault (s : State) : Nat :=
  let x := s.boot.image
  let c := s.getF F.LNK_ID_CHAIN
  let n := s.getF F.LNK_ID_POS
  if !(x.hasPlace s.lnk.headNumber c n) then 0x11
  else if !(x.placeOk s.lnk.headNumber c n) then 0x09
  else if !(positionOk s.plan.wall s.positionAt) then 0x0A
  else 0

/-- The position section loaded: it is put to use, or the bank is given up. -/
def State.positionTake (s : State) : State :=
  let f := s.positionFault
  if f = 0 then
    ({ s with boot := { s.boot with posLoaded := true, position := s.positionAt } }.setF F.BOOT_STAT_WAIT_HEAD 0).release
  else
    let b := s.flag F.BOOT_STAT_BANK
    (s.setF F.LNK_ID_ASSIGNED 0).bankFailed b f (fun t => t.tryLast (!b))

/-- `POSITION_SECTION_LOADED` (R73): a Tile with a position, whose plan is its Head's. -/
def execPositionSectionLoaded (s : State) : Res :=
  if s.running && s.boot.loaded && !s.isHead && s.flag F.BOOT_STAT_WAIT_HEAD && s.flag F.LNK_ID_ASSIGNED &&
      !(s.flag F.BOOT_STAT_PLAN_DIFF) && !s.saving then
    .next s.positionTake
  else .next s

end Sys2Proof.Machine
end

