-- ==== Sys2Proof/Machine/Boundary.lean ====
section
/-!
DEFINITION. Image boundaries and frame boundaries (R78, R80, R85, R150 to R154, R213, R314, R315, R337): what acts there.
-/

namespace Sys2Proof.Machine

/-! ### Image boundaries -/

/-- The device knows its boundaries: a frame boundary has given the facet offsets of a frame, and a Tile's TB0 has been
LOCKED once (R309, R314). -/
def State.boundaryKnown (s : State) : Bool :=
  s.running && s.boot.loaded && !s.tim.ofs.isEmpty && (s.isHead || s.lmp.tb0Once)

/-- The image sequence number of facet *f* in the current frame (R312). -/
def State.imageOf (s : State) (f : Nat) : Word := BitVec.ofNat 32 (s.facets * s.getF F.TIM_FRAME_FRAME + f)

/-- The capture that the read engines hold of a source, by its stamp. -/
def State.heldStamp (s : State) (n : Nat) : Option Nat := (s.src n).held.map (fun i => (tabGet {} (s.src n).stores i).stamp)

/-- The newest complete store of a source taken (R154), with the layers that a newer one freshens (R280). -/
def State.takeNewest (s : State) (n : Nat) : State :=
  let s1 := s.latchStore n
  if s1.heldStamp n = s.heldStamp n then s1
  else
    let l := (List.range 16).filter (fun k => (nth s.plan.comp.layers k {}).capture.map Fin.val == some n)
    { s1 with ing := { s1.ing with fresh := l ++ s1.ing.fresh } }

/-- What the blocks do about the active values that a commit changed: flips, the Drip schedule, the Flowstone cache, the
rail (R158, R178, R191, R284). -/
def State.afterCommit (s : State) (old : State) (changed : List Nat) (image : Word) : State :=
  let flips := (List.range 16).filter (fun l => changed.contains (A.SCN_LBASE l))
  let s1 := s.forEach flips (fun l t => t.flipLayer l (old.actF (F.SCN_LBASE_ADDR l)))
  let drips := (List.range s.facets).filter (fun f => s1.dripP f != old.dripP f)
  let s2 := s1.forEach drips (fun f t => t.dripChanged f image)
  let s3 := s2.when (s2.isHead && s2.flowTouched old) State.flowLive
  s3.railCommitted changed

/-- The commit of an image boundary (R78, R80). -/
def State.boundaryCommit (s : State) (image : Word) : State :=
  let r := s.commitBoundary image
  r.1.afterCommit s r.2 image

/-- The hand-over of facet *f* (R188, R213, R340): the image whose turn ends, its signature, the hold. -/
def State.boundaryHand (s : State) (f : Nat) (image : Word) : State :=
  if !s.released then s
  else
    let r := s.handOver f image
    let s1 := if r.2.lit then r.1.recordDsig f else r.1
    s1.holdAfter f r.2.got (r.2.lit && (s1.isHead || (s1.decBuf (s1.litBuf f)).unclean == 0))

/-- Scan-out begins the image of facet `f`: its raster, with no line cut short yet (R150, R157). -/
def State.scanBegin (s : State) (f : Nat) : State :=
  ({ s with ing := { s.ing with imgAt := some s.now, cuts := [] } }).setF F.SCN_STAT_FACET f

/-- What only a Head does at an image boundary: signatures of the image that ended, the stores of its sources,
composition, the encoder. `f` is the facet that begins (R154, R159, R177, R218). While the MPLL is out of lock, scan-out
stalls (R45). -/
def State.headBoundary (s : State) (f : Nat) (image : Word) (fetched : List Burst) : State :=
  let s1 := s.when s.memRuns (fun t => (t.scanSigs ((f + t.facets - 1) % t.facets) fetched).scanBegin f)
  let s2 := s1.boundaryCommit image
  let s3 := s2.when s2.memRuns (fun t => t.forEach [0, 1, 2, 3] (fun n u => u.takeNewest n))
  s3.cmpBoundary

/-- The boundary that begins image `image` of facet `f`. -/
def State.imageBegins (s : State) (f : Nat) (image : Word) (fetched : List Burst) : State :=
  let s0 := { s with tim := { s.tim with image := some image } }
  let last := image - BitVec.ofNat 32 s.facets
  let s1 := if s0.isHead then s0.headBoundary f image fetched else s0.boundaryCommit image
  let s2 := ((s1.govBoundary image).keyBoundary image).copyBoundary
  let s3 := (s2.geodeBoundary image).boundaryHand f last
  let s4 := if s3.isHead then (s3.encBoundary f last).readyEval else s3
  let s5 := { s4 with lnk := { s4.lnk with snap := s4.statusNow } }.copyChanged
  s5.headSync.updBoundary

/-- `IMAGE_BOUNDARY` (R150, R314). -/
def execImageBoundary (f : Fin 4) (fetched : List Burst) (s : State) : Res :=
  if s.boundaryKnown && decide (f.val < s.facets) then .next (s.imageBegins f.val (s.imageOf f.val) fetched) else .next s

/-! ### Frame boundaries -/

/-- The frame count put in force with its boundary and offsets (R314). -/
def State.setFrame (s : State) (frame : Word) (fb period : Nat) (ofs : List Nat) : State :=
  let s1 : State := {
    s with
    tim := { s.tim with fb := fb, period := period, ofs := ofs, frameAt := s.now }
    lnk := { s.lnk with framePass := false, frameFail := false } }
  (s1.setF F.TIM_FRAME_FRAME frame.toNat).setF F.TIM_FB_NS (fb / 256)

/-- A standby's frame count comes from the owner (R337). -/
def State.frameFromPeer (s : State) : Bool :=
  match s.red.peerHeart with
  | some m => s.pairLive && s.duty == 1 && s.flag F.RED_STAT_PEER && m.duty == 2
  | none => false

/-- TB0 moved where a standby corrects its frame count, so that the boundary falls where R312 says (R337). -/
def State.frameCorrect (s : State) (n : Word) : State :=
  let d := diff32 n (s.getW A.TIM_FRAME + 1)
  let took := { s with tim := { s.tim with frameTaken := s.tim.frameTaken || s.frameFromPeer } }
  if d = 0 then took
  else (took.shiftTb 0 (d * s.framePeriod)).when s.tim.frameTaken (fun t => t.raise F.RED_EVT_EPOCH_DIFF)

/-- The exposures of the frame that ended become the last ones (R152, R153). -/
def State.shutFrame (s : State) : State :=
  s.forEach [0, 1] (fun j t => t.setShut j { t.shut j with lastStart := (t.shut j).thisStart, thisStart := none })

/-- The pacing of the frame after this one (R153). -/
def State.paceFrame (s : State) : State :=
  let r := s.paceAll s.tim.nextLines
  ({ s with tim := { s.tim with nextLines := r.1 } }).when r.2 (fun t => t.raise F.SCN_EVT_SHUT_CLAMP)

/-- A Head's frame boundary (R153, R311, R312, R314). -/
def State.headFrame (s : State) : State :=
  let n := s.nextFrame
  let s1 := s.frameCorrect n
  let lines := s1.tim.nextLines
  let s2 := s1.setFrame n (n.toNat * s1.framePeriod % 2 ^ 40) s1.tim.period (s1.ofsOf lines)
  let s3 := s2.forEach (List.range s2.facets) (fun f t => t.setF (F.SCN_FOFS_LINES f) (nth lines f 0))
  s3.shutFrame.paceFrame

/-- A Tile's frame boundary (R314, R315): the frame announced, or the one that follows its own. -/
def State.tileFrame (s : State) : State :=
  match s.tim.ann with
  | none => s
  | some m =>
    if s.tim.annFresh then
      ({ s with tim := { s.tim with annFresh := false } }).setFrame m.frame m.fb m.period m.ofs
    else
      let s1 := (s.bump F.TIM_CNT_ANN_MISS).raise F.TIM_EVT_ANN_MISS
      s1.setFrame (s1.getW A.TIM_FRAME + 1) ((s1.tim.fb + s1.framePeriod) % 2 ^ 40) s1.tim.period s1.tim.ofs

/-- What ends with a frame in each block (R139, R160, R218, R232, R269, R292, R322). -/
def State.frameEnds (s : State) : State :=
  let s1 := s.forEach s.portList (fun n t => t.suspectFrame n)
  let s2 := s1.when s1.isHead (fun t => (t.srFrame.encFrame).redFrame)
  (s2.corrFrame).railFrame

/-- A Head whose image boundary coincides sends the one SYNC of both there (R310). -/
def State.frameSync (s : State) : State := if (s.tim.ofs.take s.facets).contains 0 then s else s.headSync

/-- `FRAME_BOUNDARY` (R314): `needPpb` is the correction that the VPLL needs (R44). -/
def execFrameBoundary (needPpb : Int) (s : State) : Res :=
  if s.running && s.boot.loaded && s.tim.running then
    if s.isHead then .next ((s.frameEnds.headFrame).vpllSteer needPpb).frameSync
    else if s.lmp.tb0Once && s.tim.ann.isSome then .next ((s.frameEnds.tileFrame).vpllSteer needPpb)
    else .next s
  else .next s

/-! ### Ticks -/

/-- The passing of 1 ns with no command waiting: a Tile's forward queues move (R126), packets that wait begin where their port
has come free (R132, R133), a CANCEL that is 2 µs old has withdrawn its commit (R81). -/
def State.tick (s : State) : State :=
  let s1 := { s with now := s.now + 1 }
  let s2 := if s1.isHead then s1 else s1.forEach [0, 1] (fun n t => t.queueStep n)
  ((s2.forEach (List.range 8) (fun n t => t.pumpPort n)).flushEarly).cancelSettle

end Sys2Proof.Machine
end

