-- ==== Sys2Proof/Machine/Operands.lean ====
section
/-!
DEFINITION. What a bus write leaves of a register, field by field, by the access codes (R2 to R9): the masks that are open,
the idle-only fields whose block is busy (R75, R76, R86), the bits that some members of an indexed run reserve.
-/

namespace Sys2Proof.Machine

/-- A register of an indexed run, by its place in it. -/
def runIndex (base stride count a : Nat) : Option Nat :=
  if base ≤ a ∧ (a - base) % stride = 0 ∧ (a - base) / stride < count then some ((a - base) / stride) else none

/-- Bits that are writable in a run but reserved at this address: the rate and the transmit inversion of lanes without
them, scaling on graphic layers, the routes that always name the keeper (R88, R163, R350). -/
def reservedAt (a : Nat) : Word :=
  match runIndex (A.LAN_CFG 0) 4 49 a with
  | some m => if m < 32 then 0 else if m < 48 then 0x1E else 0x1C
  | none =>
    if a = A.CORE_ROUTE 0 then 0x3CC0
    else if a = A.CORE_ROUTE 1 then 0xF3000
    else
      match runIndex (A.CMP_LSTEP 8) 64 8 a with
      | some _ => 0xFFFFFFFF
      | none => match runIndex (A.CMP_LCTL 8) 64 8 a with
        | some _ => F.CMP_LCTL_BANK 0 |>.mask
        | none => 0

/-- A register of one of the idle-only groups of R76 belongs to a block, or a part of one, that is idle. -/
def State.idleAt (s : State) (a : Nat) : Bool :=
  match blockOf a with
  | 8 => s.unitIdle (unitOf ((a - A.LAN_CFG 0) / 4))
  | 9 => s.unitIdle ((a - A.LNK_PCFG 0) / 4)
  | 10 => s.srcIdle ((a - A.ING_SCFG 0) / 4)
  | 12 => s.cmpIdle
  | 16 => s.lampIdle
  | 19 => s.railIdle
  | _ => true

/-- The fields of `TIM_SRC` whose time base runs (R300). -/
def State.srcClosed (s : State) : Word :=
  [0, 1, 2, 3].foldl (fun m i => if s.bit F.TIM_CTL_STOP i then m else m ||| BitVec.ofNat 32 (3 * 4 ^ i)) 0

/-- The idle-only bits that a write leaves as they are now (R86). -/
def State.closedAt (s : State) (r : RegSpec) (a : Nat) : Word :=
  if r.idle = 0 then 0
  else if a = A.TIM_SRC then s.srcClosed
  else if s.idleAt a then 0 else BitVec.ofNat 32 r.idle &&& ~~~ reservedAt a

/-- The bits that take the value written (R2, R3, R6, R7). -/
def RegSpec.openBits (r : RegSpec) (released : Bool) (a : Nat) (closed : Word) : Word :=
  let rwl := if released then 0 else BitVec.ofNat 32 r.rwl
  (BitVec.ofNat 32 r.rw ||| BitVec.ofNat 32 r.rws ||| rwl) &&& ~~~ closed &&& ~~~ reservedAt a

/-- The register after a write: open bits take the value, W1C bits written 1 clear, the others stay (R2 to R9). -/
def RegSpec.after (r : RegSpec) (openB old w : Word) : Word :=
  (old &&& ~~~ openB &&& ~~~ (w &&& BitVec.ofNat 32 r.w1c)) ||| (w &&& openB)

end Sys2Proof.Machine
end

