-- ==== Sys2Proof/Machine/Bus.lean ====
section
/-!
DEFINITION. The register bus: reads and writes of live registers by any initiator, with what a register's own chapter adds
to the access codes (R1 to R9, R12, R343 to R348).
-/

namespace Sys2Proof.Machine

/-- An address lies among the register blocks (R345). -/
def isRegAddr (a : Nat) : Bool := decide (0x40000000 ≤ a) && decide (a < 0x41000000)

/-! ### Writes -/

/-- The port rate and the lane rates of a port are one storage (R88). -/
def State.setPortRate (s : State) (n r : Nat) : State :=
  (s.setF (F.LNK_PCFG_RATE n) r).forEach [0, 1, 2, 3] (fun k t => t.setF (F.LAN_CFG_RATE (4 * n + k)) r)

/-- What follows a write that went by the access codes: the shared storage of a rate (R88), the receiver that has to train
afresh (R146), the error log cleared (R211). -/
def State.afterWrite (s : State) (old : State) (a : Nat) : State :=
  match runIndex (A.LAN_CFG 0) 4 32 a with
  | some m => s.setPortRate (m / 4) (s.getF (F.LAN_CFG_RATE m))
  | none =>
    match runIndex (A.LNK_PCFG 0) 4 8 a with
    | some n => s.setPortRate n (s.getF (F.LNK_PCFG_RATE n))
    | none =>
      match runIndex (A.ING_SCFG 0) 4 4 a with
      | some n =>
        if s.getF (F.ING_SCFG_LANES n) = old.getF (F.ING_SCFG_LANES n) ∧
            s.getF (F.ING_SCFG_MAXRATE n) = old.getF (F.ING_SCFG_MAXRATE n) then s
        else s.setSrc n { s.src n with changed := true }
      | none => if a = A.DEC_ERRLOG ∧ s.getF F.DEC_ERRLOG_CODE = 0 then s.setW a 0 else s

/-- A write by the access codes alone. -/
def State.codeWrite (s : State) (a : Nat) (w : Word) : State :=
  match specOf a with
  | none => s
  | some r =>
    let closed := s.closedAt r a
    let s1 := s.setW a (r.after (r.openBits s.released a closed) (s.getW a) w)
    (s1.afterWrite s a).when (closed != 0) (fun t => t.busyWrite (if blockOf a = 18 then 17 else blockOf a))

/-- Registers whose writes act (the chapters' control registers), in the order of their blocks; none for the others. -/
def State.ctlWrite (s : State) (who : Initiator) (a : Nat) (w : Word) : Option State :=
  if a = A.RST_CTL then some (s.rstCtlWrite w)
  else if a = A.RST_WDT then some (s.rstWdtWrite w)
  else if a = A.CFG_COMMIT then some (s.cfgCommitWrite who w)
  else if a = A.LAN_CTL then some (s.laneCtlWrite who (w.toNat % 8192))
  else if a = A.ING_CTL then some (s.ingCtlWrite (w.toNat % 16))
  else if a = A.CMP_CTL then some (s.cmpCtlWrite w)
  else if a = A.CMP_COEFDATA then some (s.coefPut (w.setWidth 12))
  else if a = A.CMP_COEFCFG then some (s.coefCfgWrite w)
  else if a = A.LMP_CTL then some (s.lmpCtlWrite w)
  else if a = A.CORR_CTL then some (s.corrCtlWrite w)
  else if a = A.CORR_MADDR then some (s.maddrWrite w)
  else if a = A.CORR_MDATA then some (s.mdataWrite w)
  else if a = A.RAIL_CTL then some (s.railCtlWrite w)
  else if a = A.RAIL_TCTL then some (s.railTctlWrite w)
  else if a = A.TIM_CTL then some (s.timCtlWrite w)
  else if a = A.RED_CTL then some (s.redCtlWrite who w)
  else if a = A.SEC_CTL then some (s.secCtlWrite w)
  else if a = A.UPD_CTL then some (s.updCtlWrite w)
  else if a = A.THM_CTL then some (s.thmCtlWrite w)
  else if a = A.SMP_CTL then some (if F.SMP_CTL_WRITE.of w = 1 then s.recordWrite (F.SMP_CTL_REC.of w) else s)
  else if a = A.SMP_FPOST then some (s.faultPost w)
  else if blockOf a = 6 then s.mbxWrite who a w
  else none

/-- A write of a word of the staging (R412). -/
def State.stagingWrite (s : State) (a : Nat) (w : Word) : State :=
  { s with smp := { s.smp with staging := memWrite s.smp.staging (a - 0x40198000) w.toNat 4 } }

/-- A write that passed the checks. -/
def State.regWrite (s : State) (who : Initiator) (a : Nat) (w : Word) : State :=
  match stagingRow a with
  | some _ => s.stagingWrite a w
  | none => (s.ctlWrite who a w).getD (s.codeWrite a w)

/-- A register write by the bus (R1, R12, R344, R348). -/
def State.busWrite (s : State) (who : Initiator) (a : Nat) (w : Word) : State :=
  if writeDenied who a || (blockOf a == 6 && s.mbxDenied who true a w) then s.busFault who true (BitVec.ofNat 32 a) 0
  else if headOnlyReg a && !s.isHead then s.busOk 0
  else (s.busOk 0).regWrite who a w

/-! ### Reads -/

/-- The ms left of an interval of `ms` that began at an instant, rounded up; 0 where it has run out. -/
def State.msLeft (s : State) (ms since : Nat) : Nat := (ms * 1000000 - (s.now - since) + 999999) / 1000000

/-- The fields of a state of the Sump that follow from what it holds (R412 to R417). -/
def State.smpStat (s : State) : Word :=
  let w := s.getW A.SMP_STAT
  if F.SMP_STAT_STATE.of w = 0 ∧ s.smp.posts ≠ [] then F.SMP_STAT_STATE.put w 1 else w

/-- A word of the staging (R412). -/
def State.stagingRead (s : State) (a : Nat) : Word := BitVec.ofNat 32 (memRead s.smp.staging (a - 0x40198000) 4)

/-- Two entries of the repetitive tables (R290). -/
def State.rcWord (s : State) (w : Nat) : Word :=
  let e := fun (k : Nat) => ofSigned 16 (s.rail.rcAt (w / 128) (2 * w % 256 + k))
  BitVec.ofNat 32 (e 0 + 65536 * e 1)

/-- A register as a read shows it: fields that follow from the state are worked out (R77, R53, R266, R290, R324, R393,
R412, R426). -/
def State.regValue (s : State) (who : Initiator) (a : Nat) : Word :=
  let w := s.getW a
  if a = A.CFG_STAT then F.CFG_STAT_DIRTY.put w (!s.dirtyRegs.isEmpty).toNat
  else if a = A.RST_WDT then
    F.RST_WDT_REMAIN_MS.put w
      (if !s.pwr.wdtArmed then 0 else if s.keeperKicks then min 0xFFFF s.pwr.wdtMs else min 0xFFFF (s.msLeft s.pwr.wdtMs s.pwr.wdtAt))
  else if a = A.SCN_STAT then F.SCN_STAT_LINE.put w (if s.isHead then min 16383 s.lineNow else 0)
  else if a = A.CORR_STAT then
    F.CORR_STAT_BUSY_B.put (F.CORR_STAT_BUSY_A.put w (s.matrixBusy false).toNat) (s.matrixBusy true).toNat
  else if a = A.RED_STAT then F.RED_STAT_IS_WARDEN.put w s.isWarden.toNat
  else if a = A.UPD_TRIAL then
    if s.flag F.UPD_STAT_TRIAL && s.released then
      F.UPD_TRIAL_LEFT_S.put w ((s.msLeft (1000 * s.plan.upd.confirmS) s.pwr.releaseAt + 999) / 1000) else w
  else if a = A.THM_GRACE then
    F.THM_GRACE_LEFT_MS.put w (match s.thm.graceAt with | some t => s.msLeft s.plan.therm.graceMs t | none => 0)
  else if a = A.SMP_STAT then s.smpStat
  else if a = A.SMP_DIRTY then BitVec.ofNat 32 (dirtyBits s.smp)
  else if a = A.SMP_FPEND then BitVec.ofNat 32 (s.smp.posts.foldl (fun m k => m ||| 2 ^ k) 0)
  else if a = A.MBX_DBPEND then s.bellRead who
  else
    match runIndex (A.RAIL_RCTAB 0) 4 512 a with
    | some k => s.rcWord k
    | none => w

/-- What a read shows of the fields that can be read (R2, R5); an address with no register reads 0 (R348). -/
def State.readable (s : State) (who : Initiator) (a : Nat) : Word :=
  match stagingRow a with
  | some _ => s.stagingRead a
  | none => match specOf a with
    | some r => s.regValue who a &&& ~~~ BitVec.ofNat 32 r.wo
    | none => 0

/-- A read that passed the checks; two registers change as they are read (R299, R356). -/
def State.regRead (s : State) (who : Initiator) (a : Nat) : State :=
  if a = A.RAIL_TDATA then s.traceRead.2.busOk s.traceRead.1
  else match runIndex (A.MBX_LOCK 0) 16 16 a with
    | some n => s.lockRead who n
    | none => s.busOk (s.readable who a)

/-- A register read by the bus (R1, R12, R344, R348). -/
def State.busRead (s : State) (who : Initiator) (a : Nat) : State :=
  if decide (26 ≤ blockOf a) || (blockOf a == 6 && s.mbxDenied who false a 0) then s.busFault who false (BitVec.ofNat 32 a) 0
  else if headOnlyReg a && !s.isHead then s.busOk (resetOf a &&& ~~~ (match specOf a with | some r => BitVec.ofNat 32 r.wo | none => 0))
  else s.regRead who a

/-! ### Any access -/

/-- An access to any address (R1, R345): registers take aligned words alone. R1 names the narrower and the unaligned
access; an aligned access of 64 bits gets the same bus error (DESIGN CHOICE, log entry 24). -/
def State.access (s : State) (m : MemAccess) : State :=
  if isRegAddr m.addr.toNat then
    if m.size ≠ .b32 ∨ m.addr.toNat % 4 ≠ 0 then s.busFault m.who m.write m.addr 1
    else if m.write then s.busWrite m.who m.addr.toNat (m.value.setWidth 32)
    else s.busRead m.who m.addr.toNat
  else s.memAccess m

/-- `REGISTER_WRITE` (R9). -/
def execRegisterWrite (who : Initiator) (addr : Word) (size : AccessSize) (value : Word) (s : State) : Res :=
  .next (if s.running then s.access ⟨who, true, addr, size, value.setWidth 64, .good⟩ else s)

/-- `CORE_MEMORY_ACCESS` (R346). -/
def execCoreMemoryAccess (a : MemAccess) (s : State) : Res := .next (if s.running then s.access a else s)

/-- Register writes performed by the keeper, first to last. -/
def State.keeperWrites (s : State) (l : List RegWrite) : State :=
  s.forEach l (fun w t => t.access ⟨.keeper, true, w.addr, .b32, w.value.setWidth 64, .good⟩)

end Sys2Proof.Machine
end

