-- ==== Sys2Proof/Machine/Receive.lean ====
section
/-!
DEFINITION. A whole packet at its receiver: the five checks of R122, de-duplication, delivery (R116, R121 to R124, R129,
R130); and the register writes that a CTRL packet carries (R121).
-/

namespace Sys2Proof.Machine

/-! ### Step 3 (R121) -/

/-- HOP and PROT of each packet type (R121); none for a reserved type. `rec` says that the port is in state RECOVERY. -/
def typeRule (linkProt : Nat) (rec : Bool) (typ : BitVec 4) : Option (Bool × Nat) :=
  match typ.toNat with
  | 1 => some (false, linkProt)
  | 2 => some (false, 2)
  | 3 => some (false, 2)
  | 4 => some (false, 2)
  | 5 => some (false, 2)
  | 6 => some (true, 1)
  | 7 => some (true, 0)
  | 8 => some (false, 0)
  | 9 => some (false, 2)
  | 10 => some (false, 0)
  | 11 => some (true, if rec then 0 else 2)
  | 12 => some (false, 2)
  | _ => none

/-- A header passes step 3 of R122 (R118, R121). -/
def hdrOk (linkProt : Nat) (rec : Bool) (h : Hdr) : Bool :=
  typeRule linkProt rec h.typ == some (h.hop, h.prot.toNat) && h.ver == 1 && !h.res0 && h.res1 == 0 && h.res2 == 0 &&
    decide (h.len.toNat ≤ 12288)

/-! ### Steps 1, 2 and 4 -/

/-- The bytes before the CRC. -/
def RxPacket.front (p : RxPacket) : List Byte := p.wire.take (p.wire.length - 4)

/-- The bytes are whole (step 1 of R122): /S/ to /T/, the length that LEN gives. -/
def RxPacket.whole (p : RxPacket) : Bool :=
  p.framed && decide (20 ≤ p.wire.length) &&
    p.wire.length == 16 + (hdrParse p.wire).len.toNat + tagLen (hdrParse p.wire) + 4

/-- The CRC holds (step 2 of R122, R120): the last four bytes, least significant first. -/
def RxPacket.crcOk (p : RxPacket) : Bool := crcBytes p.front == p.wire.drop (p.wire.length - 4)

/-- The payload as it stands on the wire. -/
def RxPacket.cargo (p : RxPacket) : List Byte := bytesAt p.wire 16 (hdrParse p.wire).len.toNat

/-- The tag as it stands on the wire. -/
def RxPacket.tag (p : RxPacket) : List Byte := bytesAt p.wire (16 + (hdrParse p.wire).len.toNat) 16

/-- The key a receiver checks a tag with (R375): the chain key of the packet's epoch, or the link key of the sender's
direction, which is the other way from the one the port sends in. -/
def State.rxKey (s : State) (n : Nat) (h : Hdr) : Option Key :=
  let ck := s.chainKey (s.chainOf n) h.keyEp.toNat
  if h.hop then ck.map (fun k => linkKey k h.src.toNat (1 - s.portDir n)) else ck

/-- Step 4 of R122: the tag verifies under a key that the device holds (R119); a packet of PROT 0 carries none. -/
def State.tagOk (s : State) (n : Nat) (h : Hdr) (p : RxPacket) : Bool :=
  h.prot == 0 ||
    (match s.rxKey n h with
    | some k => packetTag h.prot k (p.wire.take 16) p.cargo == p.tag
    | none => false)

/-- The payload that the packet's block gets: the plaintext that the key recovers, or the bytes as they came (R119). -/
def State.payload (s : State) (n : Nat) (p : RxPacket) : List Byte :=
  let h := hdrParse p.wire
  match (if h.prot = 2 then s.rxKey n h else none) with
  | some k => gcmCrypt k (packetNonce p.wire) p.cargo
  | none => p.cargo

/-! ### Who consumes (R108, R123) -/

/-- The device consumes a packet (R108, R118, R123): a Head those meant for it, a Tile its own, those for all and those
for an unassigned Tile. -/
def State.consumes (s : State) (h : Hdr) : Bool :=
  h.hop || (if s.isHead then h.dst == s.srcId || h.dst == 1022 || h.dst == 1023
    else s.isOwnDst h.dst || h.dst == 0 || h.dst == 1023)

/-- Step 4 towards the loss of keys (R379): a tagged packet addressed to the Tile, or to all, passed or failed. -/
def State.noteTag (s : State) (h : Hdr) (ok : Bool) : State :=
  if !s.isHead && h.prot != 0 && (s.isOwnDst h.dst || h.dst == 1023) then
    { s with lnk := { s.lnk with framePass := s.lnk.framePass || ok, frameFail := s.lnk.frameFail || !ok } }
  else s

/-! ### Step 5 and delivery (R129, R130) -/

/-- A kept packet: a SLICE goes to the decoder, the others are handed on, and on a Tile the port is counted (R130). -/
def State.keepPacket (s : State) (n : Nat) (h : Hdr) (p : RxPacket) : State :=
  let s1 := if s.isHead || h.hop then s else s.bump (if n = 0 then F.LNK_KEEPSRC_FROM_A else F.LNK_KEEPSRC_FROM_B)
  let s2 := s1.emit (.deliver n h (s.payload n p))
  if h.typ = 1 then s2.sliceRx h (s.payload n p) else s2

/-- Both copies of a packet finish step 4 together and the one from port B came first (R130): the copy from port A counts as
the kept one. Together means in the same ns of `State.now` (DESIGN CHOICE, log entry 67). -/
def State.keepA (s : State) (n : Nat) (h : Hdr) : State :=
  if s.isHead || n != 0 then s
  else if s.lnk.lastKept = some { key := dedupKey h, keyEp := h.keyEp, seq := h.seq, port := 1, at_ := s.now } then
    (s.setF F.LNK_KEEPSRC_FROM_B (s.getF F.LNK_KEEPSRC_FROM_B - 1)).bump F.LNK_KEEPSRC_FROM_A
  else s

/-- De-duplication (R129): hop-local packets have no context. -/
def State.dedupPacket (s : State) (n : Nat) (h : Hdr) (p : RxPacket) : State :=
  if h.hop then s.keepPacket n h p
  else
    match dedupStep (s.dedupCtx (dedupKey h)) h.keyEp h.seq with
    | .deliver c =>
      let k : Kept := { key := dedupKey h, keyEp := h.keyEp, seq := h.seq, port := n, at_ := s.now }
      ({ s with lnk := { s.lnk with ctx := tabPut s.lnk.ctx (dedupKey h) c, lastKept := some k } }).keepPacket n h p
    | .duplicate => (s.keepA n h).bump F.LNK_DEDUPSTAT_DUP
    | .old => s.bump F.LNK_DEDUPSTAT_OLD

/-- The checks of R122 in their order, at the device that consumes the packet. -/
def State.checkPacket (s : State) (n : Nat) (h : Hdr) (p : RxPacket) : State :=
  if !p.whole then s.bump (F.LNK_RXERR_FRAME n)
  else if !p.crcOk then s.bump (F.LNK_RXERR_CRC n)
  else if !(hdrOk s.plan.link.prot (s.getF (F.LNK_PSTAT_STATE n) == 3) h) then s.bump (F.LNK_RXERR_FRAME n)
  else if !(s.tagOk n h p) then (s.noteTag h false).authFail n h
  else (s.noteTag h true).dedupPacket n h p

/-- A packet that ended at a port: the outgoing copy ends with it (R124), then the checks. A framing error inside it ends it as
stomped (R110); one striped across a lane outside the own RXMASK is discarded (R116); a port in state RECOVERY takes hop-local
UPD alone (R108, R140). -/
def State.packetRx (s : State) (n : Nat) (p : RxPacket) : State :=
  let h := hdrParse p.wire
  let x := s.port n
  let lost := x.rxStriped || s.striped n
  let q : RxPacket := { p with framed := p.framed && !x.rxBad }
  let s1 := s.setPort n { x with rxPkt := false, rxBad := false, rxStriped := false }
  let s2 := s1.endForward n (!lost && q.whole && q.crcOk) p.wire
  let st := s2.getF (F.LNK_PSTAT_STATE n)
  if st < 2 then s2
  else if lost then s2.bump (F.LNK_RXAUTH_LANE_DROP n)
  else if st = 3 ∧ recovCarries h = false then s2
  else if s2.consumes h then s2.checkPacket n h q
  else s2

/-- `PACKET_RECEIVED` (R122). -/
def execPacketReceived (n : Fin 8) (p : RxPacket) (s : State) : Res := .next (s.packetRx n.val p)

/-- `CTRL_RECEIVED` (R121). -/
def execCtrlReceived (writes : List RegWrite) (s : State) : Res :=
  .next (if s.running && s.boot.loaded then s.keeperWrites writes else s)

end Sys2Proof.Machine
end

