-- ==== Sys2Proof/Machine/Mgmt.lean ====
section
/-!
DEFINITION. Management frames on the service port, and those relayed to a Tile (R57, R67, R68, R324, R380, R381).
-/

namespace Sys2Proof.Machine

/-- The answer of an access, put on the service port. -/
def State.svcAnswer (s : State) (session : Nat) : State :=
  s.emit (.svcReply session (s.bus.data.setWidth 32) s.bus.error)

/-- The service agent's read of a register. -/
def State.svcRead (s : State) (session : Nat) (a : Word) : State :=
  (s.access ⟨.service, false, a, .b32, 0, .good⟩).svcAnswer session

/-- The status registers that a device answers without a session (R381). -/
def isStatusAddr (a : Word) : Bool := a.toNat == A.BOOT_STAT || a.toNat == A.BOOT_FAULT

/-- What a frame does within a session, by the rights of its certificate (R324, R380): accesses and updates with the
management role, verdicts with the arbiter role. -/
def State.sessionOp (s : State) (x : Session) (op : MgmtOp) : State :=
  match op with
  | .read a => if x.manage then s.svcRead x.id a else s
  | .write a v => if x.manage then (s.access ⟨.service, true, a, .b32, v.setWidth 64, .good⟩).svcAnswer x.id else s
  | .mem m => if x.manage then (s.access { m with who := .service }).svcAnswer x.id else s
  | .update m => if x.manage then s.updFrame m else s
  | .verdict v => if x.arbiter && s.plan.red.wardenExternal then s.verdictRx v else s
  | .answer _ _ => s

/-- What a frame does without a session (R381): reads of the two status registers, reads that the plan opens, and signed
images in recovery mode; after fault 0x01 the status reads alone (R57, R67). -/
def State.openOp (s : State) (op : MgmtOp) : State :=
  match op with
  | .read a =>
    if isStatusAddr a || (s.plan.sec.openRead && s.boot.loaded && !s.boot.fuseBad) then s.svcRead 0 a else s
  | .update m => if s.recovering && !s.boot.fuseBad then s.updFrame m else s
  | _ => s

/-- A frame's counter is fresh (R380): not more than 64 below the highest accepted, and not seen. -/
def Session.counterOk (x : Session) (c : Nat) : Bool :=
  if x.high < c then true
  else decide (x.high - c ≤ 64) && !(x.seen.getLsbD (x.high - c))

/-- A session after it accepts a counter. -/
def Session.accept (x : Session) (c : Nat) : Session :=
  if x.high < c then { x with high := c, seen := (x.seen <<< (c - x.high)) ||| 1 }
  else { x with seen := x.seen ||| BitVec.twoPow 65 (x.high - c) }

/-- The nonce of a frame (R380): its 64-bit counter, little-endian, after four zero bytes (DESIGN CHOICE, log entry 63). -/
def frameNonce (c : BitVec 64) : List Byte := zeros 4 ++ bytesLe c.toNat 8

/-- A frame's tag verifies under the session's key (R380). -/
def Session.tagOk (x : Session) (f : SessionFrame) : Bool := gcmTag x.key (frameNonce f.counter) [] f.cipher == f.tag

/-- A frame in a session (R380): its tag, its counter, then its accesses. -/
def State.sessionFrame (s : State) (x : Session) (f : SessionFrame) (op : MgmtOp) : State :=
  if x.tagOk f && x.counterOk f.counter.toNat then
    (s.setSessions (s.sec.sessions.map (fun y => if y.id = x.id then x.accept f.counter.toNat else y))).sessionOp x op
  else s.sessFail

/-- `MANAGEMENT_FRAME` (R381): `frame` is none for a frame outside any session; `op` is what the frame's plaintext asks. -/
def execManagementFrame (frame : Option SessionFrame) (op : MgmtOp) (s : State) : Res :=
  if !s.running then .next s
  else
    match frame with
    | none => .next (s.openOp op)
    | some f =>
      match s.sec.sessions.find? (fun x => x.id == f.session) with
      | some x => if s.boot.fuseBad then .next s else .next (s.sessionFrame x f op)
      | none => .next s.sessFail

/-- The last access's answer sent back to the Head that asked (R381). -/
def State.relayAnswer (s : State) (head : BitVec 10) : State :=
  s.post {
    ports := s.ownPorts, hdr := { typ := 12, prot := 2, dst := head, src := s.srcId, len := Config.payloadLen 12 }
    body := .relay (.answer (s.bus.data.setWidth 32) s.bus.error) }

/-- A relayed access at its Tile: the service agent's, under the rights that the Head checked (R381). -/
def State.relayedAccess (s : State) (head : BitVec 10) (op : MgmtOp) : State :=
  match op with
  | .read a => (s.access ⟨.service, false, a, .b32, 0, .good⟩).relayAnswer head
  | .write a v => (s.access ⟨.service, true, a, .b32, v.setWidth 64, .good⟩).relayAnswer head
  | .mem m => (s.access { m with who := .service }).relayAnswer head
  | .update _ => s
  | .verdict _ => s
  | .answer _ _ => s

/-- An access for a Tile at its owner Head: carried to the Tile's chain where a session with the management role is open
(R381). -/
def State.relayOut (s : State) (tile : BitVec 10) (op : MgmtOp) : State :=
  match s.plan.comp.tiles.find? (fun p => p.id == tile.toNat) with
  | some p =>
    if s.owns && s.sec.sessions.any (fun x => x.manage) then
      s.post {
        ports := s.chainPorts p.chain
        hdr := { typ := 12, prot := 2, dst := tile, src := s.srcId, len := Config.payloadLen 12 }, body := .relay op }
    else s
  | none => s

/-- Relayed service traffic (R381): at a Head from its service port or from a Tile, at a Tile from a Head. -/
def State.relayed (s : State) (src dst : BitVec 10) (op : MgmtOp) : State :=
  if s.isHead then
    if dst = s.srcId then (match op with | .answer d e => s.emit (.svcRelay src d e) | _ => s) else s.relayOut dst op
  else if s.isOwnDst dst then s.relayedAccess src op
  else s

/-- `MGMT_RELAYED` (R381). -/
def execMgmtRelayed (src dst : BitVec 10) (op : MgmtOp) (s : State) : Res :=
  .next (if s.running then s.relayed src dst op else s)

end Sys2Proof.Machine
end

