-- ==== Sys2Proof/Machine/Flags.lean ====
section
/-!
DEFINITION. Levels that follow from the registers: the interrupts of the blocks and of the mailboxes, and `ALERT_N` (R52,
R56, R74, R350, R360).
-/

namespace Sys2Proof.Machine

/-- The event and mask registers of each block, by index; a block without a mask register has none. -/
def evtRegs : List (Nat × Nat × Option Nat) :=
  [(1, A.SUP_EVT, none), (2, A.CLK_EVT, none), (4, A.CFG_EVT, none), (5, A.CORE_EVT, none),
    (6, A.MBX_EVT, some A.MBX_MASK), (7, A.GOV_EVT, none), (8, A.LAN_EVT, some A.LAN_MASK), (9, A.LNK_EVT, some A.LNK_MASK),
    (11, A.SCN_EVT, some A.SCN_MASK), (12, A.CMP_EVT, some A.CMP_MASK), (13, A.GEO_EVT, some A.GEO_MASK),
    (14, A.ENC_EVT, some A.ENC_MASK), (15, A.DEC_EVT, some A.DEC_MASK), (16, A.LMP_EVT, some A.LMP_MASK),
    (17, A.CORR_EVT, some A.CORR_MASK), (19, A.RAIL_EVT, some A.RAIL_MASK), (20, A.TIM_EVT, some A.TIM_MASK),
    (21, A.RED_EVT, some A.RED_MASK), (22, A.SEC_EVT, some A.SEC_MASK), (23, A.UPD_EVT, some A.UPD_MASK),
    (24, A.THM_EVT, some A.THM_MASK), (25, A.SMP_EVT, some A.SMP_MASK)]

/-- A block's interrupt: an event whose mask bit is set. Where a block has no mask register every event counts
(DEDUCED, log entry 60). -/
def State.blockIrq (s : State) (i : Nat) : Bool :=
  evtRegs.any (fun x => x.1 == i && (s.getW x.2.1 &&& (match x.2.2 with | some m => s.getW m | none => 0xFFFFFFFF)) != 0)

/-- The core that a block's interrupt goes to (R350): six blocks always name the keeper, and route 3 acts as 0. -/
def State.irqCore (s : State) (i : Nat) : Initiator :=
  if [3, 5, 6, 22, 24, 25].contains i then .keeper
  else match s.getF (F.CORE_ROUTE_IRQ i) with | 1 => .a0 | 2 => .a1 | _ => .keeper

/-- A core's block interrupts (R350). -/
def State.coreIrq (s : State) (c : Initiator) : Bool := (List.range 26).any (fun i => s.blockIrq i && s.irqCore i == c)

/-- A core's mailbox interrupt (R360); the service agent has none. -/
def State.mbxIrq (s : State) (c : Initiator) : Bool :=
  c != .service &&
    ((List.range 16).any (fun n =>
      (s.getF (F.MBX_CCFG_RECEIVER n) == c.code && s.flag (F.MBX_CST_FULL n) && s.flag (F.MBX_CST_RXIE n)) ||
      (s.getF (F.MBX_CST_LASTSND n) == c.code && s.flag (F.MBX_CST_TXIE n) &&
        (s.flag (F.MBX_CST_TAKEN n) || s.flag (F.MBX_CST_LOST n)))) ||
    (List.range 32).any (fun i =>
      s.bellTarget i == c && (s.getW A.MBX_DBPEND &&& s.getW A.MBX_DBMASK).getLsbD i))

/-- `ALERT_N` is low: before release and under the clamps, while VIO18 is present (R38, R52, R56, R74). -/
def State.alertLow (s : State) : Bool := (!s.released || s.clamped) && s.flag F.SUP_STAT_VIO18_OK

/-- The output groups of R38. -/
inductive OutGroup where
  | sinks | lineGates | rail | ilkOut | alert | hpd | transmitters | memReset | xspi
  deriving DecidableEq, Repr

/-- The state of a ball that a clamp holds. A sink that is off conducts nothing. -/
inductive Clamp where
  | off | low | highZ | idle
  deriving DecidableEq, Repr

/-- The state that R38 gives an output group while the clamps hold: `ALERT_N` and `MEM_RESET_N` are low only with their bank
supply present. -/
def OutGroup.clamp (s : State) : OutGroup → Clamp
  | .sinks => .off
  | .lineGates => .low
  | .rail => .low
  | .ilkOut => .highZ
  | .alert => if s.flag F.SUP_STAT_VIO18_OK then .low else .highZ
  | .hpd => .low
  | .transmitters => .idle
  | .memReset => if s.flag F.SUP_STAT_VDDQ_OK then .low else .highZ
  | .xspi => .highZ

/-- What the clamps hold of an output group; none while they do not hold, when the group's own block drives it. -/
def State.pinClamp (s : State) (g : OutGroup) : Option Clamp := if s.clamped then some (g.clamp s) else none

end Sys2Proof.Machine
end

