-- ==== Sys2Proof/Machine/Dispatch.lean ====
section
/-!
DEFINITION. Which meaning each command has.
-/

namespace Sys2Proof.Machine

/-- The effect of a command on everything but the queue. -/
def exec (i : Instr) (s : State) : Host.Outcome State Fault Refusal :=
  match i with
  | .registerWrite who addr size value => Sys2Proof.Machine.execRegisterWrite who addr size value s
  | .coreMemoryAccess a => Sys2Proof.Machine.execCoreMemoryAccess a s
  | .supplyLeavesRange k => Sys2Proof.Machine.execSupplyLeavesRange k s
  | .supplyReturns k => Sys2Proof.Machine.execSupplyReturns k s
  | .porstNLow ns => Sys2Proof.Machine.execPorstNLow ns s
  | .porstNHigh => Sys2Proof.Machine.execPorstNHigh s
  | .ckeepLow mv => Sys2Proof.Machine.execCkeepLow mv s
  | .powerOnResetEnd strapHead => Sys2Proof.Machine.execPowerOnResetEnd strapHead s
  | .syspllLock => Sys2Proof.Machine.execSyspllLock s
  | .syspllLockTimeout => Sys2Proof.Machine.execSyspllLockTimeout s
  | .refclkRetry => Sys2Proof.Machine.execRefclkRetry s
  | .syspllUnlock => Sys2Proof.Machine.execSyspllUnlock s
  | .mpllUnlock => Sys2Proof.Machine.execMpllUnlock s
  | .portPllUnlock n => Sys2Proof.Machine.execPortPllUnlock n s
  | .svcPllUnlock => Sys2Proof.Machine.execSvcPllUnlock s
  | .vpllUnlock => Sys2Proof.Machine.execVpllUnlock s
  | .vpllRelock => Sys2Proof.Machine.execVpllRelock s
  | .watchdogExpiry => Sys2Proof.Machine.execWatchdogExpiry s
  | .watchdogKick who kick => Sys2Proof.Machine.execWatchdogKick who kick s
  | .deviceResetRequest who key => Sys2Proof.Machine.execDeviceResetRequest who key s
  | .coreResetRequest who key a0 a1 => Sys2Proof.Machine.execCoreResetRequest who key a0 a1 s
  | .testReset => Sys2Proof.Machine.execTestReset s
  | .fuseSensingDone f => Sys2Proof.Machine.execFuseSensingDone f s
  | .sumpFillDone => Sys2Proof.Machine.execSumpFillDone s
  | .firmwareAndPlanLoad fitted => Sys2Proof.Machine.execFirmwareAndPlanLoad fitted s
  | .memoryBringUp trained => Sys2Proof.Machine.execMemoryBringUp trained s
  | .memoryHoldRetry trained => Sys2Proof.Machine.execMemoryHoldRetry trained s
  | .positionSectionLoaded => Sys2Proof.Machine.execPositionSectionLoaded s
  | .startGraceExpiry => Sys2Proof.Machine.execStartGraceExpiry s
  | .recoverHoldExpiry item => Sys2Proof.Machine.execRecoverHoldExpiry item s
  | .imageBoundary f fetched => Sys2Proof.Machine.execImageBoundary f fetched s
  | .commitRequest who mode1 => Sys2Proof.Machine.execCommitRequest who mode1 s
  | .commitCancel who => Sys2Proof.Machine.execCommitCancel who s
  | .commitRevert who => Sys2Proof.Machine.execCommitRevert who s
  | .laneStop who units => Sys2Proof.Machine.execLaneStop who units s
  | .laneStart who units => Sys2Proof.Machine.execLaneStart who units s
  | .laneSignalDetect m => Sys2Proof.Machine.execLaneSignalDetect m s
  | .laneCdrLock m moves => Sys2Proof.Machine.execLaneCdrLock m moves s
  | .laneCommaAlign m inverted => Sys2Proof.Machine.execLaneCommaAlign m inverted s
  | .laneQualified m => Sys2Proof.Machine.execLaneQualified m s
  | .codeViolation m groups => Sys2Proof.Machine.execCodeViolation m groups s
  | .laneSignalLost m => Sys2Proof.Machine.execLaneSignalLost m s
  | .misalignedComma m => Sys2Proof.Machine.execMisalignedComma m s
  | .dpAuxTransaction n r => Sys2Proof.Machine.execDpAuxTransaction n r s
  | .svcLinkUp page => Sys2Proof.Machine.execSvcLinkUp page s
  | .svcFrameReceived f => Sys2Proof.Machine.execSvcFrameReceived f s
  | .laneMarkerDue n => Sys2Proof.Machine.execLaneMarkerDue n s
  | .markerReceived n ms => Sys2Proof.Machine.execMarkerReceived n ms s
  | .packetStartReceived n h => Sys2Proof.Machine.execPacketStartReceived n h s
  | .packetReceived n p => Sys2Proof.Machine.execPacketReceived n p s
  | .scheduledPacketDue e => Sys2Proof.Machine.execScheduledPacketDue e s
  | .txPacketLate n => Sys2Proof.Machine.execTxPacketLate n s
  | .upstreamWindow fit => Sys2Proof.Machine.execUpstreamWindow fit s
  | .enumPeriod n => Sys2Proof.Machine.execEnumPeriod n s
  | .enumReceived n m => Sys2Proof.Machine.execEnumReceived n m s
  | .joinPeriod => Sys2Proof.Machine.execJoinPeriod s
  | .joinReceived m => Sys2Proof.Machine.execJoinReceived m s
  | .assignReceived m => Sys2Proof.Machine.execAssignReceived m s
  | .conflictQuietExpiry => Sys2Proof.Machine.execConflictQuietExpiry s
  | .statusPeriod => Sys2Proof.Machine.execStatusPeriod s
  | .statusReceived m => Sys2Proof.Machine.execStatusReceived m s
  | .statusTimeout id => Sys2Proof.Machine.execStatusTimeout id s
  | .recoveryProbeStart n => Sys2Proof.Machine.execRecoveryProbeStart n s
  | .recoveryProbeEnd n => Sys2Proof.Machine.execRecoveryProbeEnd n s
  | .ctrlReceived writes => Sys2Proof.Machine.execCtrlReceived writes s
  | .announceReceived variant first => Sys2Proof.Machine.execAnnounceReceived variant first s
  | .mgmtRelayed src dst op => Sys2Proof.Machine.execMgmtRelayed src dst op s
  | .sourceFrameStart src format depth interlaced sdps => Sys2Proof.Machine.execSourceFrameStart src format depth interlaced sdps s
  | .storeComplete src => Sys2Proof.Machine.execStoreComplete src s
  | .captureStop who mask => Sys2Proof.Machine.execCaptureStop who mask s
  | .captureStart who mask => Sys2Proof.Machine.execCaptureStart who mask s
  | .genlockInstant src second => Sys2Proof.Machine.execGenlockInstant src second s
  | .genlockInstantMissing => Sys2Proof.Machine.execGenlockInstantMissing s
  | .shutterEdge j level => Sys2Proof.Machine.execShutterEdge j level s
  | .shutterLost j => Sys2Proof.Machine.execShutterLost j s
  | .readUnderrun e x => Sys2Proof.Machine.execReadUnderrun e x s
  | .bufferRetire l => Sys2Proof.Machine.execBufferRetire l s
  | .memSelfRefreshEntry clients busy => Sys2Proof.Machine.execMemSelfRefreshEntry clients busy s
  | .memSelfRefreshExit clients => Sys2Proof.Machine.execMemSelfRefreshExit clients s
  | .layerHoldExpiry v => Sys2Proof.Machine.execLayerHoldExpiry v s
  | .coefWrite who value => Sys2Proof.Machine.execCoefWrite who value s
  | .compStop who => Sys2Proof.Machine.execCompStop who s
  | .compStart who => Sys2Proof.Machine.execCompStart who s
  | .flowReq who => Sys2Proof.Machine.execFlowReq who s
  | .flowSettleExpiry => Sys2Proof.Machine.execFlowSettleExpiry s
  | .flowRebuildDone => Sys2Proof.Machine.execFlowRebuildDone s
  | .geodeCommand m => Sys2Proof.Machine.execGeodeCommand m s
  | .geodeRelayReceived m target => Sys2Proof.Machine.execGeodeRelayReceived m target s
  | .ownBufferComplete f => Sys2Proof.Machine.execOwnBufferComplete f s
  | .sliceDecoded => Sys2Proof.Machine.execSliceDecoded s
  | .encodeJobReady j => Sys2Proof.Machine.execEncodeJobReady j s
  | .encodeJobDone e => Sys2Proof.Machine.execEncodeJobDone e s
  | .encodeJobSkip e => Sys2Proof.Machine.execEncodeJobSkip e s
  | .lineStart samples => Sys2Proof.Machine.execLineStart samples s
  | .slotPreloadStart f => Sys2Proof.Machine.execSlotPreloadStart f s
  | .slotEnd => Sys2Proof.Machine.execSlotEnd s
  | .irefMeasurement na => Sys2Proof.Machine.execIrefMeasurement na s
  | .lampStop who => Sys2Proof.Machine.execLampStop who s
  | .lampStart who => Sys2Proof.Machine.execLampStart who s
  | .hardBlankRequest who => Sys2Proof.Machine.execHardBlankRequest who s
  | .hardBlankClear who => Sys2Proof.Machine.execHardBlankClear who s
  | .lampUnmeasuredTimeout lamp => Sys2Proof.Machine.execLampUnmeasuredTimeout lamp s
  | .faultMapClear who => Sys2Proof.Machine.execFaultMapClear who s
  | .probeRequest who all => Sys2Proof.Machine.execProbeRequest who all s
  | .probePeriodExpiry => Sys2Proof.Machine.execProbePeriodExpiry s
  | .probeStep windowLeft preloadIn blanked samples => Sys2Proof.Machine.execProbeStep windowLeft preloadIn blanked samples s
  | .matrixAddressWrite who value => Sys2Proof.Machine.execMatrixAddressWrite who value s
  | .matrixWordWrite who value => Sys2Proof.Machine.execMatrixWordWrite who value s
  | .bankSeal who bank => Sys2Proof.Machine.execBankSeal who bank s
  | .bankSealDone => Sys2Proof.Machine.execBankSealDone s
  | .factorySetLoad who bank set1 => Sys2Proof.Machine.execFactorySetLoad who bank set1 s
  | .factorySetLoadDone => Sys2Proof.Machine.execFactorySetLoadDone s
  | .railTurn vsns isns aux tick => Sys2Proof.Machine.execRailTurn vsns isns aux tick s
  | .phaseCurrentLimit n => Sys2Proof.Machine.execPhaseCurrentLimit n s
  | .auxpwmPeriodEnd high period => Sys2Proof.Machine.execAuxpwmPeriodEnd high period s
  | .auxLost => Sys2Proof.Machine.execAuxLost s
  | .headroomValue code => Sys2Proof.Machine.execHeadroomValue code s
  | .headroomDarkTimeout => Sys2Proof.Machine.execHeadroomDarkTimeout s
  | .followingErrorTrip => Sys2Proof.Machine.execFollowingErrorTrip s
  | .railFaultRetry => Sys2Proof.Machine.execRailFaultRetry s
  | .railRetriesReset => Sys2Proof.Machine.execRailRetriesReset s
  | .railClearFault who => Sys2Proof.Machine.execRailClearFault who s
  | .railStop who => Sys2Proof.Machine.execRailStop who s
  | .railStart who => Sys2Proof.Machine.execRailStart who s
  | .rcClr who => Sys2Proof.Machine.execRcClr who s
  | .traceArm who => Sys2Proof.Machine.execTraceArm who s
  | .traceForce who => Sys2Proof.Machine.execTraceForce who s
  | .traceDataRead who => Sys2Proof.Machine.execTraceDataRead who s
  | .timeCapture who => Sys2Proof.Machine.execTimeCapture who s
  | .timeBaseWrap item => Sys2Proof.Machine.execTimeBaseWrap item s
  | .dreqPeriod => Sys2Proof.Machine.execDreqPeriod s
  | .dreqReceived n seqId sub => Sys2Proof.Machine.execDreqReceived n seqId sub s
  | .drespReceived n seqId tRx tTx sub => Sys2Proof.Machine.execDrespReceived n seqId tRx tTx sub s
  | .drespTimeout n => Sys2Proof.Machine.execDrespTimeout n s
  | .syncReceived n m sub => Sys2Proof.Machine.execSyncReceived n m sub s
  | .syncSourceTimeout n => Sys2Proof.Machine.execSyncSourceTimeout n s
  | .frameBoundary needPpb => Sys2Proof.Machine.execFrameBoundary needPpb s
  | .settleExpiry => Sys2Proof.Machine.execSettleExpiry s
  | .ptpMessageReceived m => Sys2Proof.Machine.execPtpMessageReceived m s
  | .ptpAnnounceTimeout => Sys2Proof.Machine.execPtpAnnounceTimeout s
  | .heartPeriod => Sys2Proof.Machine.execHeartPeriod s
  | .heartReceived m => Sys2Proof.Machine.execHeartReceived m s
  | .peerMissTimeout endB => Sys2Proof.Machine.execPeerMissTimeout endB s
  | .verdictPeriod => Sys2Proof.Machine.execVerdictPeriod s
  | .verdictReceived v => Sys2Proof.Machine.execVerdictReceived v s
  | .wardenMissTimeout => Sys2Proof.Machine.execWardenMissTimeout s
  | .ilkClaimSettle => Sys2Proof.Machine.execIlkClaimSettle s
  | .ilkLeaseExpiry => Sys2Proof.Machine.execIlkLeaseExpiry s
  | .refclkStopDetected => Sys2Proof.Machine.execRefclkStopDetected s
  | .ilkOrphanExpiry => Sys2Proof.Machine.execIlkOrphanExpiry s
  | .fwAlive who => Sys2Proof.Machine.execFwAlive who s
  | .fwAliveTimeout => Sys2Proof.Machine.execFwAliveTimeout s
  | .failRequest who => Sys2Proof.Machine.execFailRequest who s
  | .yieldRequest who => Sys2Proof.Machine.execYieldRequest who s
  | .yieldExpiry => Sys2Proof.Machine.execYieldExpiry s
  | .copyPeriod => Sys2Proof.Machine.execCopyPeriod s
  | .copyPartReceived p => Sys2Proof.Machine.execCopyPartReceived p s
  | .copyTimeout => Sys2Proof.Machine.execCopyTimeout s
  | .epochDiffTimeout => Sys2Proof.Machine.execEpochDiffTimeout s
  | .holdExpiry f => Sys2Proof.Machine.execHoldExpiry f s
  | .mailboxDataWrite who n w => Sys2Proof.Machine.execMailboxDataWrite who n w s
  | .mailboxTake who n => Sys2Proof.Machine.execMailboxTake who n s
  | .lockRead who n => Sys2Proof.Machine.execLockRead who n s
  | .lockRelease who n => Sys2Proof.Machine.execLockRelease who n s
  | .lockForce who n => Sys2Proof.Machine.execLockForce who n s
  | .lockTimeout n => Sys2Proof.Machine.execLockTimeout n s
  | .doorbellRing who bits => Sys2Proof.Machine.execDoorbellRing who bits s
  | .doorbellClear who bits => Sys2Proof.Machine.execDoorbellClear who bits s
  | .entropyRetry healthy => Sys2Proof.Machine.execEntropyRetry healthy s
  | .keyxReceived m => Sys2Proof.Machine.execKeyxReceived m s
  | .keyxStepTimeout serial => Sys2Proof.Machine.execKeyxStepTimeout serial s
  | .rekeyTimer => Sys2Proof.Machine.execRekeyTimer s
  | .rekeyRequest who => Sys2Proof.Machine.execRekeyRequest who s
  | .keyLostDetect => Sys2Proof.Machine.execKeyLostDetect s
  | .sessionSetup m => Sys2Proof.Machine.execSessionSetup m s
  | .managementFrame frame op => Sys2Proof.Machine.execManagementFrame frame op s
  | .keyZeroise who => Sys2Proof.Machine.execKeyZeroise who s
  | .lifecycleCommand bit c => Sys2Proof.Machine.execLifecycleCommand bit c s
  | .debugUnlock c => Sys2Proof.Machine.execDebugUnlock c s
  | .updateManifestReceived port m => Sys2Proof.Machine.execUpdateManifestReceived port m s
  | .spareEraseDone => Sys2Proof.Machine.execSpareEraseDone s
  | .updateDataReceived port m => Sys2Proof.Machine.execUpdateDataReceived port m s
  | .blockProgrammed block equal => Sys2Proof.Machine.execBlockProgrammed block equal s
  | .updatePrepareExpiry => Sys2Proof.Machine.execUpdatePrepareExpiry s
  | .updateNeedTimer => Sys2Proof.Machine.execUpdateNeedTimer s
  | .updateNeedReceived n m => Sys2Proof.Machine.execUpdateNeedReceived n m s
  | .spareVerify => Sys2Proof.Machine.execSpareVerify s
  | .spareVerifyDone c => Sys2Proof.Machine.execSpareVerifyDone c s
  | .updateActivate port pkg target => Sys2Proof.Machine.execUpdateActivate port pkg target s
  | .updateAbort port pkg => Sys2Proof.Machine.execUpdateAbort port pkg s
  | .updateConfirm who => Sys2Proof.Machine.execUpdateConfirm who s
  | .updateFallback who => Sys2Proof.Machine.execUpdateFallback who s
  | .confirmTimeout => Sys2Proof.Machine.execConfirmTimeout s
  | .sumpRowWritten ckeepMv => Sys2Proof.Machine.execSumpRowWritten ckeepMv s
  | .recordWrite who r => Sys2Proof.Machine.execRecordWrite who r s
  | .faultPost who slots => Sys2Proof.Machine.execFaultPost who slots s
  | .faultDrain => Sys2Proof.Machine.execFaultDrain s
  | .sensorConversionStart item => Sys2Proof.Machine.execSensorConversionStart item s
  | .sensorMeasureRequest who mask => Sys2Proof.Machine.execSensorMeasureRequest who mask s
  | .sensorConversionDone item t8 => Sys2Proof.Machine.execSensorConversionDone item t8 s
  | .sensorTimeout item => Sys2Proof.Machine.execSensorTimeout item s
  | .demandRecoverStep => Sys2Proof.Machine.execDemandRecoverStep s
  | .graceExpiry => Sys2Proof.Machine.execGraceExpiry s
  | .tripHoldExpiry => Sys2Proof.Machine.execTripHoldExpiry s
  | .cdrFrequencyLockLost m signal => Sys2Proof.Machine.execCdrFrequencyLockLost m signal s
  | .dpAlignmentLost n => Sys2Proof.Machine.execDpAlignmentLost n s
  | .ckeepCharged mv => Sys2Proof.Machine.execCkeepCharged mv s
  | .ilkInChange outBall low => Sys2Proof.Machine.execIlkInChange outBall low s
  | .activationWriteDone => Sys2Proof.Machine.execActivationWriteDone s

end Sys2Proof.Machine
end

