-- ==== Sys2Proof/Safety.lean ====
section
/-!
DEFINITION. The terms in which statements speak of what a command leaves as it was: the fuse array as something that only
grows, and states that differ in named registers alone.
-/

namespace Sys2Proof.Machine

/-- Every bit blown in the first array is blown in the second, and what no rule lets the keeper advance is the same
(R58). -/
def Fuses.within (f g : Fuses) : Prop :=
  g.serial = f.serial ∧ g.rootDigest = f.rootDigest ∧ g.trims = f.trims ∧ g.sinkTrim = f.sinkTrim ∧ g.evalLock = f.evalLock ∧
    f.fwRollback &&& g.fwRollback = f.fwRollback ∧ f.planRollback &&& g.planRollback = f.planRollback ∧
    f.life &&& g.life = f.life ∧ f.options &&& g.options = f.options

/-- Every live register outside a list reads as before. -/
def State.regsKept (s t : State) (l : List Nat) : Prop := ∀ a, a ∉ l → t.getW a = s.getW a

/-- Nothing changed but live registers, and of those only the ones listed: memory, staged active values, stores, queues
and every other part of the device are as before. -/
def State.onlyRegs (s t : State) (l : List Nat) : Prop := t = { s with regs := t.regs } ∧ s.regsKept t l

/-- The same where the command is a bus access, whose answer changes too. -/
def State.onlyBus (s t : State) (l : List Nat) : Prop := t = { s with regs := t.regs, bus := t.bus } ∧ s.regsKept t l

/-- A register differs from before in one field alone, which holds a value (cut to the field's width). -/
def State.wrote (s t : State) (f : Fld) (v : Nat) : Prop := t.getW f.addr = f.put (s.getW f.addr) v

/-- The access completed with a bus error, returned 0 and changed nothing but the record of the error, which keeps the first
one until it is cleared (R1, R344). -/
def State.busError (s t : State) (who : Initiator) (write : Bool) (a : Word) (kind : Nat) : Prop :=
  t.bus = ⟨0, true⟩ ∧ s.onlyBus t [A.CORE_FAULT, A.CORE_FADDR] ∧
    if s.flag F.CORE_FAULT_VALID then t.getW A.CORE_FAULT = s.getW A.CORE_FAULT ∧ t.getW A.CORE_FADDR = s.getW A.CORE_FADDR
    else t.getF F.CORE_FAULT_INIT = who.code ∧ t.getF F.CORE_FAULT_WRITE = write.toNat ∧ t.getF F.CORE_FAULT_VALID = 1 ∧
      t.getF F.CORE_FAULT_KIND = kind ∧ t.getW A.CORE_FADDR = a

/-- Nothing changed but the answer of the access, which completed without an error with this data. -/
def State.busAnswer (s t : State) (data : Word) : Prop := t = { s with bus := ⟨data.setWidth 64, false⟩ }

/-- An initiator's write passes the checks of R12 and R344 at this register. -/
def State.mayWrite (s : State) (who : Initiator) (a : Nat) : Prop :=
  s.running = true ∧ writeDenied who a = false ∧ (headOnlyReg a = true → s.isHead = true)

/-- Power-on reset has happened (R51): every register and every part of the device but the monitors' bits is as after reset,
and what the fuses, the Sump and the external memory hold has stayed. -/
def State.poweredOff (s t : State) : Prop :=
  t.pwr.phase = .por ∧ (∀ a, a ≠ A.SUP_STAT → t.getW a = resetOf a) ∧ t.active = [] ∧ t.core.mem = [] ∧ t.plan = {} ∧
    t.boot.loaded = false ∧ t.sec = {} ∧ t.smp.staging = [] ∧ t.smp.save = none ∧ t.fuses = s.fuses ∧ t.kar = s.kar ∧ t.nvm = s.nvm

/-- The records in the Sump's NVM are what they were. -/
def State.sumpKept (s t : State) : Prop :=
  t.smp.copyA = s.smp.copyA ∧ t.smp.copyB = s.smp.copyB ∧ t.smp.ring = s.smp.ring ∧ t.smp.ringNext = s.smp.ringNext

/-- A save that has just begun (R407, R415, R418): its rows in order, none written yet, the engine saving. -/
def State.saveBegun (t : State) (kind : SaveKind) : Prop :=
  t.smp.save = some { kind := kind, rows := saveRows t.smp } ∧ t.getF F.SMP_STAT_STATE = 3

/-- The supply-loss sequence has taken its first steps (R38, R329, R406, R407): the watchdog stopped, the lamps hard-blanked
and the other outputs in their safe states. -/
def State.lossBegun (t : State) : Prop :=
  t.pwr.phase = .lossSave ∧ t.pwr.wdtArmed = false ∧ t.pwr.txIdle = true ∧ t.lmp.slot = none ∧ t.getF F.LMP_STAT_STATE = 3 ∧
    t.rail.duty = [] ∧ t.getF F.RED_STAT_ILK_OUT = 0 ∧ ∀ n, n < 4 → t.getF (F.LAN_DPLINK_HPD n) = 0

/-- A reset save has just begun (R418): the loss record holds the cause; but for the registers listed and the Sump, the device is
as it was, since the reset takes effect when its save ends (log entry 33). -/
def State.resetSaveBegun (s t : State) (cause : Nat) (l : List Nat) : Prop :=
  t.saveBegun (.reset false) ∧ s.sumpKept t ∧ t.smp.loss.cause = cause ∧ t.smp.loss.saves = s.smp.lossSaved.saves + 1 ∧
    t = { s with regs := t.regs, smp := t.smp, bus := t.bus, pwr := t.pwr } ∧ s.regsKept t (A.RST_CAUSE :: A.SMP_STAT :: l)

/-- The registers whose writes act, by the rules of their chapters, beside those of the mailbox block. -/
def ctlRegs : List Nat :=
  [A.RST_CTL, A.RST_WDT, A.CFG_COMMIT, A.LAN_CTL, A.ING_CTL, A.CMP_CTL, A.CMP_COEFDATA, A.CMP_COEFCFG, A.LMP_CTL,
    A.CORR_CTL, A.CORR_MADDR, A.CORR_MDATA, A.RAIL_CTL, A.RAIL_TCTL, A.TIM_CTL, A.RED_CTL, A.SEC_CTL, A.UPD_CTL, A.THM_CTL,
    A.SMP_CTL, A.SMP_FPOST]

end Sys2Proof.Machine
end

