-- ==== Sys2Proof/Certificates/Slice0/Obligations.lean ====
section
/-!
DEFINITION. What is claimed of the device: one statement per group of commands and per kind of state, from the rules of the
spec. `OBLIGATIONS.json` lists them with what each cites.
-/

open Sys2Proof Sys2Proof.Machine

/-- The Reset column (R8): the fields of every register table whose reset value is not 0, and 0 for all the others. -/
def Obligations.ResetGivesTheResetColumn : Prop :=
  (∀ i, i < 6 → State.reset.bit ⟨A.SUP_STAT, 0, 9⟩ i = true) ∧ State.reset.getW A.SUP_STAT = 0x1BF ∧
  State.reset.getW A.RST_CAUSE = 1 ∧ State.reset.getF F.LAN_CTL_PSTOP = 0xFF ∧ State.reset.getF F.LAN_CTL_DSTOP = 0xF ∧
  State.reset.getF F.LAN_CTL_SSTOP = 1 ∧ State.reset.getW A.LAN_CTL = 0x1FFF ∧ State.reset.getW A.ING_CTL = 0xF ∧
  State.reset.getW A.CMP_CTL = 1 ∧ State.reset.getW A.GEO_STAT = 31 ∧ State.reset.getW A.DEC_STAT = 0xFFFF0 ∧
  State.reset.getW A.LMP_CTL = 1 ∧ State.reset.getF F.LMP_CUR_TLIMIT = 255 ∧ State.reset.getW A.LMP_CUR = 0xFF000000 ∧
  State.reset.getW A.CORR_FUNMEAS = 196608 ∧ State.reset.getW A.RAIL_CTL = 1 ∧ State.reset.getW A.RAIL_HR = 0xFFFF ∧
  State.reset.getW A.TIM_CTL = 0xF0 ∧ State.reset.getF F.THM_STAT_DEMAND = 255 ∧ State.reset.getW A.THM_STAT = 0xFF00 ∧
  State.reset.getF F.THM_LIM_WARN = 90 ∧ State.reset.getF F.THM_LIM_HOT = 100 ∧ State.reset.getF F.THM_LIM_TRIP = 115 ∧
  State.reset.getF F.THM_LIM_FLOOR = 64 ∧
  (∀ b, b < 4 → State.reset.getW (A.CORR_HR b) = 255) ∧ (∀ w, w < 12288 → State.reset.getW (A.CORR_FMAP w) = 0x55555555) ∧
  (∀ a, a ∉ [A.SUP_STAT, A.RST_CAUSE, A.LAN_CTL, A.ING_CTL, A.CMP_CTL, A.GEO_STAT, A.DEC_STAT, A.LMP_CTL, A.LMP_CUR, A.CORR_FUNMEAS,
      A.RAIL_CTL, A.RAIL_HR, A.TIM_CTL, A.THM_STAT, A.THM_LIM] →
    (∀ b, b < 4 → a ≠ A.CORR_HR b) → (∀ w, w < 12288 → a ≠ A.CORR_FMAP w) → State.reset.getW a = 0) ∧
  (∀ a, State.reset.actW a = State.reset.getW a)

/-- For every command and state, a step of the state with the command at the front of its queue is `exec` of the command on
the state with the queue's rest. The queue is the model's own (log entry 1). -/
def Obligations.StepRunsFrontCommand : Prop :=
  ∀ (c : Instr) (s : State), step { s with pending := c :: s.pending } = exec c s

/-- With no command waiting, a step answers a next state one nanosecond later, with the queue still empty and the fuse array
as it was. DESIGN CHOICE of the model (log entry 1). -/
def Obligations.EmptyQueueLetsOneNanosecondPass : Prop :=
  ∀ s : State, s.pending = [] → ∃ t, step s = .next t ∧ t.now = s.now + 1 ∧ t.pending = [] ∧ t.fuses = s.fuses

/-- No command changes the queue of the commands that wait, and commands take no time (log entry 1): for every command and
state, a next state has the queue and the time it began with. -/
def Obligations.CommandsLeaveQueueAndTime : Prop :=
  ∀ (c : Instr) (s t : State), exec c s = .next t → t.pending = s.pending ∧ t.now = s.now

/-- Fuse bits only ever change from unblown to blown, and no step changes a fuse value but the rollback counters, the
lifecycle state and the debug-disable option, nor the key array (R58): true of every step from every state. -/
def Obligations.EveryStepKeepsBlownFuses : Prop :=
  ∀ s t : State, step s = .next t → s.fuses.within t.fuses ∧ t.kar = s.kar

/-- Whatever the command, its operands and the state, the device goes on: an access that the spec denies is a bus error
(R344), a command whose conditions do not hold leaves the device as it is. -/
def Obligations.EveryCommandAnswersANextState : Prop :=
  ∀ (c : Instr) (s : State), ∃ t, exec c s = .next t

/-- An access to a live register that is not an aligned 32-bit word completes with a bus error, returns 0 and changes nothing
but the record of the error (R1): by `CORE_MEMORY_ACCESS` in either direction and by `REGISTER_WRITE`. -/
def Obligations.UnalignedRegisterAccessIsABusError : Prop :=
  (∀ (m : MemAccess) (s : State), s.running = true → isRegAddr m.addr.toNat = true →
    (m.size ≠ .b32 ∨ m.addr.toNat % 4 ≠ 0) →
    ∃ t, exec (.coreMemoryAccess m) s = .next t ∧ s.busError t m.who m.write m.addr 1) ∧
  (∀ (who : Initiator) (a : Word) (size : AccessSize) (v : Word) (s : State), s.running = true →
    isRegAddr a.toNat = true → (size ≠ .b32 ∨ a.toNat % 4 ≠ 0) →
    ∃ t, exec (.registerWrite who a size v) s = .next t ∧ s.busError t who true a 1)

/-- Aligned 32-bit accesses that do not reach their register: a denied write, and any access to an absent block, are bus
errors that change nothing but their record (R344, R348); on a Tile the registers of the Head-only blocks ignore writes and
read as after reset, without an error (R12). -/
def Obligations.DeniedAndHeldOffRegisterAccesses : Prop :=
  (∀ (who : Initiator) (a v : Word) (s : State), s.running = true → isRegAddr a.toNat = true → a.toNat % 4 = 0 →
    writeDenied who a.toNat = true →
    ∃ t, exec (.registerWrite who a .b32 v) s = .next t ∧ s.busError t who true a 0) ∧
  (∀ (m : MemAccess) (s : State), s.running = true → isRegAddr m.addr.toNat = true → m.size = .b32 →
    m.addr.toNat % 4 = 0 → 26 ≤ blockOf m.addr.toNat →
    ∃ t, exec (.coreMemoryAccess m) s = .next t ∧ s.busError t m.who m.write m.addr 0) ∧
  (∀ (m : MemAccess) (s : State), s.running = true → isRegAddr m.addr.toNat = true → m.size = .b32 →
    m.addr.toNat % 4 = 0 → headOnlyReg m.addr.toNat = true → s.isHead = false →
    ∃ t, exec (.coreMemoryAccess m) s = .next t ∧
      s.busAnswer t (if m.write then 0 else
        match specOf m.addr.toNat with
        | some r => BitVec.ofNat 32 r.reset &&& ~~~ BitVec.ofNat 32 r.wo
        | none => 0))

/-- A write to a register whose writes have no further effect acts on each bit by its own code, within one write: RW and RWS
bits, and RWL bits before release, take the value; a W1C bit written 1 clears; RO and reserved bits stay (R2 to R9). Nothing
else changes. -/
def Obligations.RegisterWriteFollowsAccessCodes : Prop :=
  ∀ (who : Initiator) (a v : Word) (r : RegSpec) (s : State), s.mayWrite who a.toNat → isRegAddr a.toNat = true →
    a.toNat % 4 = 0 → blockOf a.toNat ≠ 6 → stagingRow a.toNat = none → specOf a.toNat = some r →
    a.toNat ∉ ctlRegs → r.idle = 0 → a.toNat ≠ A.DEC_ERRLOG →
    ∃ t, exec (.registerWrite who a .b32 v) s = .next t ∧ t.bus = ⟨0, false⟩ ∧ s.onlyBus t [a.toNat] ∧
      ∀ i, i < 32 → (t.getW a.toNat).getLsbD i =
        if (r.rw.testBit i || r.rws.testBit i || (r.rwl.testBit i && !s.released)) && !(reservedAt a.toNat).getLsbD i then
          v.getLsbD i
        else (s.getW a.toNat).getLsbD i && !(v.getLsbD i && r.w1c.testBit i)

/-- A write to an idle-only field while its block is not idle is ignored: it completes without a bus error, sets
`CFG_EVT.BUSYWR` and records the block in `CFG_STAT.BUSY_BLK` (R86). `closedAt` gives the idle-only bits whose block is not
idle; the registers that hold a lane's or a port's rate, and a source's lane count, write shared storage (R88, R146) and
are left out of the frame. -/
def Obligations.IdleOnlyBitsStayWhileBlockRuns : Prop :=
  ∀ (who : Initiator) (a v : Word) (r : RegSpec) (s : State), s.mayWrite who a.toNat → isRegAddr a.toNat = true →
    a.toNat % 4 = 0 → blockOf a.toNat ≠ 6 → stagingRow a.toNat = none → specOf a.toNat = some r →
    a.toNat ∉ ctlRegs → s.closedAt r a.toNat ≠ 0 →
    ∃ t, exec (.registerWrite who a .b32 v) s = .next t ∧ t.bus = ⟨0, false⟩ ∧
      (∀ i, i < 32 → (s.closedAt r a.toNat).getLsbD i = true →
        (t.getW a.toNat).getLsbD i = ((s.getW a.toNat).getLsbD i && !(v.getLsbD i && r.w1c.testBit i))) ∧
      t.getF F.CFG_EVT_BUSYWR = 1 ∧
      t.getF F.CFG_STAT_BUSY_BLK = (if blockOf a.toNat = 18 then 17 else blockOf a.toNat) ∧
      (runIndex (A.LAN_CFG 0) 4 32 a.toNat = none → runIndex (A.LNK_PCFG 0) 4 8 a.toNat = none →
        runIndex (A.ING_SCFG 0) 4 4 a.toNat = none → s.onlyBus t [a.toNat, A.CFG_STAT, A.CFG_EVT])

/-- Accesses to the memories with an error-correcting code (R345, R346): a write stores the bytes of its value, least
significant first, and no other byte; a read answers the bytes it covers, counts a corrected error and changes nothing
else; an uncorrectable word makes a read a bus error of kind 2 with `CORE_EVT.ECC_BAD`; an address that R345 does not grant
the initiator is a bus error of kind 0. -/
def Obligations.CodedMemoryAccesses : Prop :=
  (∀ (m : MemAccess) (r : MemRegion) (s : State), s.running = true → isRegAddr m.addr.toNat = false →
    s.memAccessRegion m.who m.write m.addr.toNat m.size.bytes = some r → r.coded = true → m.write = true →
    ∃ t, exec (.coreMemoryAccess m) s = .next t ∧ t.bus = ⟨0, false⟩ ∧
      t = { s with regs := t.regs, bus := t.bus, core := t.core } ∧ s.regsKept t [A.CORE_STAT] ∧
      (∀ i, i < m.size.bytes → memGet t.core.mem (m.addr.toNat + i) = BitVec.ofNat 8 (m.value.toNat / 256 ^ i)) ∧
      ∀ x, (x < m.addr.toNat ∨ m.addr.toNat + m.size.bytes ≤ x) → memGet t.core.mem x = memGet s.core.mem x) ∧
  (∀ (m : MemAccess) (r : MemRegion) (s : State), s.running = true → isRegAddr m.addr.toNat = false →
    s.memAccessRegion m.who m.write m.addr.toNat m.size.bytes = some r → r.coded = true → m.write = false →
    s.eccBad m = false →
    ∃ t, exec (.coreMemoryAccess m) s = .next t ∧
      t.bus = ⟨BitVec.ofNat 64 (memRead s.core.mem m.addr.toNat m.size.bytes), false⟩ ∧ s.onlyBus t [A.CORE_STAT] ∧
      t.getF F.CORE_STAT_ECC_CORR =
        if m.ecc = .single then min (s.getF F.CORE_STAT_ECC_CORR + 1) 65535 else s.getF F.CORE_STAT_ECC_CORR) ∧
  (∀ (m : MemAccess) (r : MemRegion) (s : State), s.running = true → isRegAddr m.addr.toNat = false →
    s.memAccessRegion m.who m.write m.addr.toNat m.size.bytes = some r → r.coded = true → m.write = false →
    s.eccBad m = true →
    ∃ t, exec (.coreMemoryAccess m) s = .next t ∧ t.bus = ⟨0, true⟩ ∧ t.getF F.CORE_EVT_ECC_BAD = 1 ∧
      t.core.mem = s.core.mem ∧ s.regsKept t [A.CORE_FAULT, A.CORE_FADDR, A.CORE_EVT] ∧
      (s.flag F.CORE_FAULT_VALID = false → t.getF F.CORE_FAULT_KIND = 2 ∧ t.getW A.CORE_FADDR = m.addr)) ∧
  (∀ (m : MemAccess) (s : State), s.running = true → isRegAddr m.addr.toNat = false →
    s.memAccessRegion m.who m.write m.addr.toNat m.size.bytes = none →
    ∃ t, exec (.coreMemoryAccess m) s = .next t ∧ s.busError t m.who m.write m.addr 0)

/-- Any access to a memory address, by any initiator and whatever it stores, keeps the memories in their canonical form:
addresses rising, and no entry equal to what a byte not listed reads as (the form is the model's, log entry 6). -/
def Obligations.MemoryStaysCanonical : Prop :=
  ∀ (m : MemAccess) (s t : State), isRegAddr m.addr.toNat = false → Memory.wf s.core.mem = true →
    exec (.coreMemoryAccess m) s = .next t → Memory.wf t.core.mem = true

/-- A needed supply lost before release: power-on reset without a save (R37). Lost after release: the supply-loss sequence
starts with its save, cause 1 in the loss record, and a Head of a pair enters the failed duty (R406, R407, R418); during it a
further dip goes into the loss record (R408). One that the role does not need: only its bits in `SUP_STAT` and `SUP_EVT.DIP`
(R32). A supply back in range: its bit, and during the sequence a flag of the loss record (R418).
`PORST_N` low for 1 µs or more is a power-on reset at once, delayed to the end of the row while a save runs (R54, R408);
a pulse below 100 ns is ignored (R54). CKEEP below 4,500 mV, and charged to it (R34, R410). The end of
power-on reset with the conditions of R34 met: the strap is sampled and SYSPLL enabled (R31, R50). -/
def Obligations.SuppliesPinAndHoldUpCapacitor : Prop :=
  ((∀ (k : Supply) (s : State), s.pwr.phase ≠ .por → s.pwr.phase ≠ .lossSave → s.needsSupply k = true →
    s.saving = false → s.released = false →
    ∃ t, exec (.supplyLeavesRange k) s = .next t ∧ s.poweredOff t ∧ s.sumpKept t ∧ t.getF ⟨A.SUP_STAT, k.bit, 1⟩ = 0) ∧
  (∀ (k : Supply) (s : State), s.pwr.phase ≠ .por → s.pwr.phase ≠ .lossSave → s.needsSupply k = true →
    s.saving = false → s.released = true →
    ∃ t, exec (.supplyLeavesRange k) s = .next t ∧ t.lossBegun ∧ t.saveBegun .loss ∧ s.sumpKept t ∧
      t.smp.loss.cause = 1 ∧ t.smp.loss.saves = s.smp.lossSaved.saves + 1 ∧ t.getF ⟨A.SUP_STAT, k.bit, 1⟩ = 0 ∧
      t.bit F.SUP_EVT_DIP k.bit = true ∧
      (s.paired = true → t.getF F.RED_STAT_DUTY = 3 ∧ t.getF F.RED_STAT_CAUSE = 5 ∧ t.getF F.RED_EVT_FAILED = 1)) ∧
  (∀ (k : Supply) (s : State), s.pwr.phase = .lossSave → s.needsSupply k = true → s.lossSaving = true →
    ∃ t, exec (.supplyLeavesRange k) s = .next t ∧ t = { s with regs := t.regs, smp := t.smp } ∧
      s.regsKept t [A.SUP_STAT, A.SUP_EVT] ∧ t.getF ⟨A.SUP_STAT, k.bit, 1⟩ = 0 ∧ t.bit F.SUP_EVT_DIP k.bit = true ∧
      t.smp = s.smp.setLoss { s.smp.loss with dip := t.getF F.SUP_EVT_DIP }) ∧
  (∀ (k : Supply) (s : State), s.pwr.phase ≠ .por → s.needsSupply k = false →
    ∃ t, exec (.supplyLeavesRange k) s = .next t ∧ s.onlyRegs t [A.SUP_STAT, A.SUP_EVT] ∧
      t.getF ⟨A.SUP_STAT, k.bit, 1⟩ = 0 ∧ t.bit F.SUP_EVT_DIP k.bit = true) ∧
  (∀ (k : Supply) (s : State),
    ∃ t, exec (.supplyReturns k) s = .next t ∧ t = { s with regs := t.regs, smp := t.smp } ∧ s.regsKept t [A.SUP_STAT] ∧
      t.getF ⟨A.SUP_STAT, k.bit, 1⟩ = 1 ∧
      t.smp = if s.lossSaving then s.smp.setLoss { s.smp.loss with flags := s.smp.loss.flags ||| 4 } else s.smp)) ∧
  ((∀ (ns : Nat) (s : State), 1000 ≤ ns → s.saving = false →
    ∃ t, exec (.porstNLow ns) s = .next t ∧ s.poweredOff t ∧ s.sumpKept t ∧ t.pwr.porstLow = true) ∧
  (∀ (ns : Nat) (s : State), 1000 ≤ ns → s.saving = true →
    ∃ t, exec (.porstNLow ns) s = .next t ∧ t.pwr.porAfterRow = true ∧ t.pwr.porstLow = true ∧
      t.pwr.phase = s.pwr.phase ∧ t.smp = s.smp.setLoss { s.smp.loss with flags := s.smp.loss.flags ||| 2 } ∧
      t = { s with pwr := t.pwr, smp := t.smp }) ∧
  (∀ (ns : Nat) (s : State), ns < 100 → exec (.porstNLow ns) s = .next s) ∧
  (∀ s : State, ∃ t, exec .porstNHigh s = .next t ∧ t = { s with pwr := t.pwr } ∧
    t.pwr = { s.pwr with porstLow := false }) ∧
  (∀ (mv : Nat) (s : State), mv < 4500 →
    ∃ t, exec (.ckeepLow mv) s = .next t ∧ s.onlyRegs t [A.SUP_STAT, A.SUP_EVT] ∧ t.getF F.SUP_STAT_CKEEP_OK = 0 ∧
      t.getF F.SUP_STAT_CKEEP_MV = mv ∧
      t.getF F.SUP_EVT_CKEEP_LOW = (if s.released = true then 1 else s.getF F.SUP_EVT_CKEEP_LOW)) ∧
  (∀ (mv : Nat) (s : State), 4500 ≤ mv →
    ∃ t, exec (.ckeepCharged mv) s = .next t ∧ s.onlyRegs t [A.SUP_STAT] ∧ t.getF F.SUP_STAT_CKEEP_OK = 1 ∧
      t.getF F.SUP_STAT_CKEEP_MV = min mv 8191) ∧
  (∀ (head : Bool) (s : State), s.pwr.phase = .por → s.getW A.SUP_STAT &&& 0x1BF = 0x1BF → s.pwr.porstLow = false →
    ∃ t, exec (.powerOnResetEnd head) s = .next t ∧ t = { s with regs := t.regs, pwr := t.pwr } ∧
      s.regsKept t [A.SUP_STAT] ∧ t.getF F.SUP_STAT_ROLE = head.toNat ∧
      t.pwr = { s.pwr with phase := .sysPll, porEnd := s.now }))

/-- The order of R50: SYSPLL locked, the keeper out of reset with TIME running and the watchdog armed at 2,000 ms; not locked,
a wait with `RST_CAUSE.NOREF`, then another try. A lost port PLL and VPLL (R45): their lock bits, their events, and for the
VPLL a soft blank at the next line boundary that lasts to its relock. -/
def Obligations.ClocksStartAndAreLost : Prop :=
  (∀ s : State, s.pwr.phase = .sysPll →
    ∃ t, exec .syspllLock s = .next t ∧ t = { s with regs := t.regs, pwr := t.pwr, tim := t.tim } ∧
      s.regsKept t [A.CLK_STAT, A.RST_CAUSE] ∧ t.running = true ∧ t.getF F.RST_CAUSE_NOREF = 0 ∧ t.tim.running = true ∧
      t.pwr.wdtArmed = true ∧ t.pwr.wdtMs = 2000 ∧ t.pwr.wdtAt = s.now) ∧
  (∀ s : State, s.pwr.phase = .sysPll →
    ∃ t, exec .syspllLockTimeout s = .next t ∧ t = { s with regs := t.regs, pwr := t.pwr } ∧ s.regsKept t [A.RST_CAUSE] ∧
      t.pwr = { s.pwr with phase := .noRef } ∧ t.getF F.RST_CAUSE_NOREF = 1) ∧
  (∀ s : State, s.pwr.phase = .noRef →
    ∃ t, exec .refclkRetry s = .next t ∧ t = { s with pwr := t.pwr } ∧ t.pwr = { s.pwr with phase := .sysPll }) ∧
  (∀ (n : Fin 8) (s : State), s.bit F.CLK_STAT_PORT_LOCK n = true →
    ∃ t, exec (.portPllUnlock n) s = .next t ∧ s.onlyRegs t [A.CLK_STAT, A.CLK_EVT] ∧
      t.bit F.CLK_STAT_PORT_LOCK n = false ∧ t.bit F.CLK_EVT_PORT_UNLOCK n = true) ∧
  (∀ s : State, s.flag F.CLK_STAT_VID_LOCK = true →
    ∃ t, exec .vpllUnlock s = .next t ∧ t = { s with regs := t.regs, lmp := t.lmp } ∧
      s.regsKept t [A.CLK_STAT, A.CLK_EVT] ∧ t.getF F.CLK_STAT_VID_LOCK = 0 ∧ t.getF F.CLK_EVT_VID_UNLOCK = 1 ∧
      t.lmp = { s.lmp with vidDark := true, softPend := s.lmp.slot.isSome }) ∧
  (∀ s : State, s.running = true →
    ∃ t, exec .vpllRelock s = .next t ∧ t = { s with regs := t.regs, lmp := t.lmp } ∧ s.regsKept t [A.CLK_STAT] ∧
      t.getF F.CLK_STAT_VID_LOCK = 1 ∧ t.lmp = { s.lmp with vidDark := false }) ∧
  (∀ s : State, s.isHead = false → s.flag F.CLK_STAT_MEM_LOCK = true →
    ∃ t, exec .mpllUnlock s = .next t ∧ s.onlyRegs t [A.CLK_STAT, A.CLK_EVT] ∧
      t.getF F.CLK_STAT_MEM_LOCK = 0 ∧ t.getF F.CLK_EVT_MEM_UNLOCK = 1)

/-- Writes to the reset registers by others than the keeper are bus errors that change nothing but their record, and a write
of `RST_CTL` without its key changes nothing (R55). -/
def Obligations.ResetRegistersNeedKeeperAndKey : Prop :=
  (∀ (who : Initiator) (key : BitVec 16) (a0 a1 : Bool) (s : State), s.running = true → who ≠ .keeper →
    (∃ t, exec (.deviceResetRequest who key) s = .next t ∧ s.busError t who true 0x40030004 0) ∧
    (∃ t, exec (.coreResetRequest who key a0 a1) s = .next t ∧ s.busError t who true 0x40030004 0) ∧
    (∃ t, exec (.watchdogKick who key) s = .next t ∧ s.busError t who true 0x40030008 0)) ∧
  (∀ (who : Initiator) (a v : Word) (s : State), s.running = true → who ≠ .keeper → (a = 0x40030004 ∨ a = 0x40030008) →
    ∃ t, exec (.registerWrite who a .b32 v) s = .next t ∧ s.busError t who true a 0) ∧
  (∀ (key : BitVec 16) (a0 a1 : Bool) (s : State), s.running = true → key ≠ 0xD5E7 →
    (∃ t, exec (.deviceResetRequest .keeper key) s = .next t ∧ s.busAnswer t 0) ∧
    (∃ t, exec (.coreResetRequest .keeper key a0 a1) s = .next t ∧ s.busAnswer t 0)) ∧
  (∀ (v : Word) (s : State), s.running = true → F.RST_CTL_KEY.of v ≠ 0xD5E7 →
    ∃ t, exec (.registerWrite .keeper 0x40030004 .b32 v) s = .next t ∧ s.busAnswer t 0)

/-- Each device reset records its cause and begins with the reset save (R54, R418), or is absorbed by the save that runs already,
beside whose causes it is recorded. In memory hold and in recovery mode the keeper's kicks keep the watchdog from running
out (R67, R68). The key `0xC0DE` restarts the watchdog (R53). The test reset touches test logic only (R51). -/
def Obligations.ResetsAreRequested : Prop :=
  (∀ s : State, s.pwr.wdtArmed = true → s.keeperKicks = false → s.saving = false → s.pwr.phase ≠ .por →
    ∃ t, exec .watchdogExpiry s = .next t ∧ s.resetSaveBegun t 2 [] ∧ t.bus = s.bus ∧
      t.pwr = { s.pwr with wdtArmed := false } ∧
      t.getF F.RST_CAUSE_WDT = 1 ∧ t.getF F.RST_CAUSE_WDT_COUNT = min (s.getF F.RST_CAUSE_WDT_COUNT + 1) 15) ∧
  (∀ s : State, s.pwr.wdtArmed = true → s.keeperKicks = false → s.saving = true →
    ∃ t, exec .watchdogExpiry s = .next t ∧ t = { s with regs := t.regs, pwr := t.pwr } ∧ s.regsKept t [A.RST_CAUSE] ∧
      t.pwr = { s.pwr with wdtArmed := false } ∧ t.getF F.RST_CAUSE_WDT = 1) ∧
  (∀ s : State, s.keeperKicks = true → exec .watchdogExpiry s = .next s) ∧
  (∀ s : State, s.running = true → s.saving = false →
    ∃ t, exec (.deviceResetRequest .keeper 0xD5E7) s = .next t ∧ s.resetSaveBegun t 3 [] ∧ t.pwr = s.pwr ∧
      t.bus = ⟨0, false⟩ ∧ t.getF F.RST_CAUSE_SOFT = 1) ∧
  (∀ s : State, s.running = true → s.saving = true →
    ∃ t, exec (.deviceResetRequest .keeper 0xD5E7) s = .next t ∧ s.onlyBus t [A.RST_CAUSE] ∧ t.bus = ⟨0, false⟩ ∧
      t.getF F.RST_CAUSE_SOFT = 1) ∧
  (∀ s : State, s.running = true → s.saving = false →
    ∃ t, exec .syspllUnlock s = .next t ∧ s.resetSaveBegun t 4 [A.CLK_STAT] ∧ t.pwr = s.pwr ∧ t.bus = s.bus ∧
      t.getF F.RST_CAUSE_SYSCLK = 1 ∧ t.getF F.CLK_STAT_SYS_LOCK = 0 ∧ t.running = false) ∧
  (∀ (key : BitVec 16) (s : State), s.running = true → s.pwr.wdtArmed = true →
    ∃ t, exec (.watchdogKick .keeper key) s = .next t ∧ t = { s with bus := ⟨0, false⟩, pwr := t.pwr } ∧
      t.pwr = (if key = 0xC0DE then { s.pwr with wdtAt := s.now } else s.pwr)) ∧
  (∀ s : State, exec .testReset s = .next s)

/-- The reset of application cores that run (R51, R55) and what becomes of the messages pending at that moment (R362): `hit`
says whether an initiator is one of the cores reset. -/
def Obligations.CoreResetAndPendingMessages : Prop :=
  ∀ (a0 a1 : Bool) (s : State), s.running = true → s.getF F.CORE_STAT_A0 ≠ 0 → s.getF F.CORE_STAT_A1 ≠ 0 →
    let hit : Nat → Bool := fun c => (a0 && c == 1) || (a1 && c == 2)
    ∃ t, exec (.coreResetRequest .keeper 0xD5E7 a0 a1) s = .next t ∧
      t = { s with regs := t.regs, bus := ⟨0, false⟩ } ∧ (∀ a, blockOf a ≠ 6 → t.getW a = s.getW a) ∧
      (∀ n, n < 16 → s.flag (F.MBX_CST_FULL n) = true → hit (s.getF (F.MBX_CCFG_RECEIVER n)) = true →
        t.getF (F.MBX_CST_FULL n) = 0 ∧ t.getF (F.MBX_CST_LOST n) = 1 ∧ t.getF (F.MBX_CST_TAKEN n) = 1) ∧
      (∀ n, n < 16 → s.flag (F.MBX_CST_FULL n) = true → hit (s.getF (F.MBX_CCFG_RECEIVER n)) = false →
        hit (s.getF (F.MBX_CST_LASTSND n)) = true →
        t.getF (F.MBX_CST_FULL n) = 1 ∧ t.getF (F.MBX_CST_SNDRST n) = 1 ∧ t.getW (A.MBX_DATA n) = s.getW (A.MBX_DATA n)) ∧
      (∀ n, n < 16 → s.flag (F.MBX_LOCK_HELD n) = true → hit (s.getF (F.MBX_LOCK_HOLDER n)) = true →
        t.getF (F.MBX_LOCK_HELD n) = 0) ∧
      (∀ n, n < 16 → s.flag (F.MBX_LOCK_HELD n) = true → hit (s.getF (F.MBX_LOCK_HOLDER n)) = false →
        t.getF (F.MBX_LOCK_HELD n) = 1)

/-- Row by row (R407, R413); after the last row, power-on reset for the supply-loss sequence (R406), device reset for a reset save
(R418), the idle engine with `SMP_EVT.WRITTEN` for a record write (R414); cut short by CKEEP at its floor (R410) and by
`PORST_N` once the row is written (R408).
A record write begins (R414); a fault slot is posted or ignored (R417); up to eight posted slots are drained into the ring
in the order of their posts (R417); the staging is filled once in each start and the last save is reported (R416). -/
def Obligations.SaveEngineFaultRecordAndRecordWrites : Prop :=
  ((∀ (mv r row : Nat) (rest : List (Nat × Nat)) (x : SaveX) (s : State), s.smp.save = some x →
    x.rows = (r, row) :: rest → rest ≠ [] → 3000 ≤ mv → s.pwr.porAfterRow = false → (r ≠ 2 ∨ s.upd.confirming = false) →
    ∃ t, exec (.sumpRowWritten mv) s = .next t ∧ t = { s with smp := t.smp } ∧
      t.smp.save = some { x with rows := rest, done := x.done + 1 } ∧ t.smp.staging = s.smp.staging ∧
      t.smp.copyA = (writeRow s.smp r row).copyA ∧ t.smp.copyB = (writeRow s.smp r row).copyB ∧
      (∀ q, newestIsA s.smp r = true → tabGet {} t.smp.copyA q = tabGet {} s.smp.copyA q) ∧
      (∀ q, newestIsA s.smp r = false → tabGet {} t.smp.copyB q = tabGet {} s.smp.copyB q)) ∧
  (∀ (mv r row : Nat) (x : SaveX) (s : State), s.smp.save = some x → x.rows = [(r, row)] → 3000 ≤ mv →
    s.pwr.porAfterRow = false → x.kind = .loss →
    ∃ t, exec (.sumpRowWritten mv) s = .next t ∧ s.poweredOff t ∧ t.smp.lastSaved = true ∧ t.smp.lastCut = false ∧
      t.smp.lossSaved.rows = x.done + 1 ∧ t.smp.copyA = (writeRow s.smp r row).copyA ∧ t.smp.copyB = (writeRow s.smp r row).copyB) ∧
  (∀ (mv r row : Nat) (x : SaveX) (s : State), s.smp.save = some x → x.rows = [(r, row)] → 3000 ≤ mv →
    s.pwr.porAfterRow = false → x.kind = .reset false →
    ∃ t, exec (.sumpRowWritten mv) s = .next t ∧ t.smp.save = none ∧ t.getF F.SMP_STAT_STATE = 0 ∧
      (∀ a, blockOf a ≠ 1 → blockOf a ≠ 25 → a ≠ A.RST_CAUSE → a ≠ A.CLK_STAT → t.getW a = resetOf a) ∧
      t.getW A.SUP_STAT = s.getW A.SUP_STAT ∧ t.getW A.SUP_EVT = s.getW A.SUP_EVT ∧ t.getW A.RST_CAUSE = s.getW A.RST_CAUSE ∧
      t.fuses = s.fuses ∧ t.nvm = s.nvm ∧ t.plan = {} ∧ t.boot.loaded = false ∧
      t.pwr.phase = (if s.flag F.CLK_STAT_SYS_LOCK then .run else .sysPll)) ∧
  (∀ (mv r row k : Nat) (x : SaveX) (s : State), s.smp.save = some x → x.rows = [(r, row)] → 3000 ≤ mv →
    s.pwr.porAfterRow = false → x.kind = .record k → (r ≠ 2 ∨ s.upd.confirming = false) →
    ∃ t, exec (.sumpRowWritten mv) s = .next t ∧ t = { s with regs := t.regs, smp := t.smp } ∧
      s.regsKept t [A.SMP_STAT, A.SMP_EVT] ∧ t.smp.save = none ∧ t.getF F.SMP_STAT_STATE = 0 ∧ t.getF F.SMP_EVT_WRITTEN = 1) ∧
  (∀ (mv : Nat) (p : Nat × Nat) (rest : List (Nat × Nat)) (x : SaveX) (s : State), s.smp.save = some x →
    x.rows = p :: rest → mv < 3000 → x.kind = .loss →
    ∃ t, exec (.sumpRowWritten mv) s = .next t ∧ s.poweredOff t ∧ s.sumpKept t ∧ t.smp.lastCut = true) ∧
  (∀ (mv r row : Nat) (rest : List (Nat × Nat)) (x : SaveX) (s : State), s.smp.save = some x →
    x.rows = (r, row) :: rest → 3000 ≤ mv → s.pwr.porAfterRow = true →
    ∃ t, exec (.sumpRowWritten mv) s = .next t ∧ s.poweredOff t ∧ t.smp.lastSaved = true ∧
      t.smp.lastCut = !rest.isEmpty ∧ t.smp.copyA = (writeRow s.smp r row).copyA)) ∧
  ((∀ (who : Initiator) (r : Fin 8) (s : State), s.mayWrite who A.SMP_CTL → 1 ≤ r.val → r.val ≤ 4 → s.smp.save = none →
    ∃ t, exec (.recordWrite who r) s = .next t ∧ t = { s with regs := t.regs, bus := ⟨0, false⟩, smp := t.smp } ∧
      s.regsKept t [A.SMP_STAT] ∧ t.getF F.SMP_STAT_STATE = 2 ∧
      t.smp = { s.smp with save := some { kind := .record r, rows := (recordRows r).map (fun k => (r.val, k)) } }) ∧
  (∀ (who : Initiator) (k : Nat) (s : State), s.mayWrite who A.SMP_FPOST → k < 32 → s.smp.posts.contains k = false →
    ∃ t, exec (.faultPost who (BitVec.ofNat 32 (2 ^ k))) s = .next t ∧ t = { s with bus := ⟨0, false⟩, smp := t.smp } ∧
      t.smp = { s.smp with posts := s.smp.posts ++ [k] }) ∧
  (∀ (who : Initiator) (k : Nat) (s : State), s.mayWrite who A.SMP_FPOST → k < 32 → s.smp.posts.contains k = true →
    ∃ t, exec (.faultPost who (BitVec.ofNat 32 (2 ^ k))) s = .next t ∧ t.bus = ⟨0, false⟩ ∧ s.onlyBus t [A.SMP_EVT] ∧
      t.getF F.SMP_EVT_FPOST_IGN = 1) ∧
  (∀ s : State, s.smp.save = none →
    ∃ t, exec .faultDrain s = .next t ∧ t = { s with regs := t.regs, smp := t.smp } ∧ s.regsKept t [A.SMP_FSEQ] ∧
      t.smp.posts = s.smp.posts.drop 8 ∧ t.smp.ringNext = s.smp.ringNext + min 8 s.smp.posts.length ∧
      (∀ i, i < min 8 s.smp.posts.length →
        tabGet [] t.smp.ring ((s.smp.ringNext + i) % 1024) = faultSlot s.smp (s.smp.posts.getD i 0))) ∧
  (∀ s : State, s.pwr.phase ≠ .por → s.boot.sumpDone = false →
    ∃ t, exec .sumpFillDone s = .next t ∧ t = { s with regs := t.regs, smp := t.smp, boot := t.boot } ∧
      s.regsKept t [A.SMP_STAT, A.SMP_EVT, A.SMP_FSEQ] ∧ t.boot = { s.boot with sumpDone := true } ∧ s.sumpKept t ∧
      t.smp.staging = ((List.range 5).foldl fillRecord s.smp).staging ∧ t.smp.loss = lossOf t.smp.staging ∧
      t.smp.sys = sysOf t.smp.staging ∧ t.smp.upd = updOf t.smp.staging ∧
      ((∀ r, r < 5 → newestCopy s.smp r = none) → t.smp.upd = {} ∧ t.smp.sys = {} ∧
        ∀ a, a < 32768 → memGet t.smp.staging a = 0) ∧
      ((∃ r, r < 5 ∧ newestCopy s.smp r = none) → t.getF F.SMP_EVT_RECBAD = 1) ∧
      (s.smp.lastSaved = true → t.getF F.SMP_EVT_SAVED = 1 ∧ (s.smp.lastCut = true → t.getF F.SMP_EVT_CUT = 1)) ∧
      (∀ r, r < 5 → t.bit F.SMP_STAT_RECBAD r = (newestCopy s.smp r).isNone) ∧
      t.getF F.SMP_STAT_LASTROWS = s.smp.lossSaved.rows % 128 ∧ t.getF F.SMP_STAT_LASTCUT = s.smp.lastCut.toNat))

/-- Fuse sensing (R57, R58), and the load of firmware and plan from the bank that the directory names (R61, R63, R69 to
R71), with the watchdog's timeout from the plan (R53) and a Tile's wait for its Head (R73).
The two ways to release: a Head's memory up (R68, R72), a Tile's position section loaded (R66, R73), and what release sets (R74);
a memory that cannot be brought up holds the Head (R68). -/
def Obligations.StartLoadsABankBringsUpMemoryAndReleases : Prop :=
  ((∀ (f : FuseSense) (s : State), s.pwr.phase ≠ .por → s.boot.fusesDone = false → f.uncorrectable = false →
    ∃ t, exec (.fuseSensingDone f) s = .next t ∧ t.shadow = s.fuses ∧ t.fuses = s.fuses ∧ t.boot.fusesDone = true ∧
      t.boot.fuseBad = false ∧ t.getF F.BOOT_STAT_STEP = 1 ∧ t.getF F.BOOT_STAT_FUSE_CORR = min 15 f.corrected ∧
      t.getF F.BOOT_STAT_RECOVERY = s.getF F.BOOT_STAT_RECOVERY) ∧
  (∀ (f : FuseSense) (s : State), s.pwr.phase ≠ .por → s.boot.fusesDone = false → f.uncorrectable = true →
    ∃ t, exec (.fuseSensingDone f) s = .next t ∧ t.boot.fuseBad = true ∧ t.getF F.BOOT_FAULT_FIRST = 1 ∧
      t.recovering = true ∧ t.getF F.BOOT_STAT_STEP = 7) ∧
  (∀ (fitted : Option Nvm) (d : DirCopy) (s : State), s.running = true → s.boot.fusesDone = true → s.boot.sumpDone = true →
    s.boot.fuseBad = false → s.boot.loaded = false → s.recovering = false → s.saving = false →
    (fitted.getD s.nvm).present = true → (fitted.getD s.nvm).dir.map (fun p => p.2) = some d → d.trial = false → d.wdlim = 0 →
    ({ s with nvm := fitted.getD s.nvm } : State).bankFault d.active = 0 →
    let k := (fitted.getD s.nvm).bank d.active
    ∃ t, exec (.firmwareAndPlanLoad fitted) s = .next t ∧ t.plan = k.image.loaded ∧ t.boot.loaded = true ∧ t.boot.image = k.image ∧
      t.boot.fw = k.fw ∧ t.pwr.wdtMs = k.image.plan.sys.watchdogMs ∧ t.getF F.BOOT_STAT_STEP = 3 ∧
      t.getF F.BOOT_STAT_ROLE_PLAN = k.image.isHead.toNat ∧ t.getF F.BOOT_STAT_BANK = d.active.toNat ∧
      t.getW A.BOOT_PLAN = k.image.serial ∧ t.boot.xspi = d.xclk.toNat ∧ t.released = s.released ∧
      (t.isHead = false → t.getF F.BOOT_STAT_WAIT_HEAD = 1)) ∧
  (∀ s : State, s.running = true → s.boot.fusesDone = true → s.boot.sumpDone = true → s.boot.fuseBad = false →
    s.boot.loaded = false → s.recovering = false → s.saving = false → s.nvm.present = false →
    ∃ t, exec (.firmwareAndPlanLoad none) s = .next t ∧ t.getF F.BOOT_FAULT_FIRST = 0x10 ∧ t.recovering = true ∧
      t.boot.loaded = false)) ∧
  ((∀ s : State, s.memoryDue = true → s.boot.memFault = false → s.flag F.SUP_STAT_VDDQ_OK = true →
    ∃ t, exec (.memoryBringUp true) s = .next t ∧ t.released = true ∧ t.getF F.BOOT_STAT_STEP = 4 ∧
      t.boot.memReady = true ∧ t.getF F.CLK_STAT_MEM_LOCK = 1 ∧ t.getF F.RST_CAUSE_WDT_COUNT = 0 ∧ t.getW A.CFG_EPOCH = 0 ∧
      t.pwr.releaseAt = s.now) ∧
  (∀ s : State, s.memoryDue = true → s.boot.memFault = true → s.flag F.SUP_STAT_VDDQ_OK = true →
    ∃ t, exec (.memoryHoldRetry true) s = .next t ∧ t.released = true ∧ t.boot.memReady = true ∧ t.boot.memFault = false) ∧
  (∀ (trained : Bool) (s : State), s.memoryDue = true → s.boot.memFault = false → s.flag F.BOOT_STAT_ALT_BANK = false →
    s.getF F.BOOT_FAULT_FIRST = 0 → (s.flag F.SUP_STAT_VDDQ_OK = false ∨ trained = false) →
    ∃ t, exec (.memoryBringUp trained) s = .next t ∧ t = { s with regs := t.regs, boot := t.boot } ∧
      s.regsKept t [A.CLK_STAT, A.BOOT_FAULT] ∧ t.boot = { s.boot with memFault := true } ∧
      t.getF F.BOOT_FAULT_FIRST = if s.flag F.SUP_STAT_VDDQ_OK = true then 0x0F else 0x0E) ∧
  (∀ (trained : Bool) (s : State), s.memoryDue = true → s.boot.memFault = true → s.flag F.SUP_STAT_VDDQ_OK = false →
    exec (.memoryHoldRetry trained) s = .next s) ∧
  (∀ (p : PositionSection) (s : State), s.running = true → s.boot.loaded = true → s.isHead = false →
    s.flag F.BOOT_STAT_WAIT_HEAD = true → s.flag F.LNK_ID_ASSIGNED = true → s.flag F.BOOT_STAT_PLAN_DIFF = false →
    s.saving = false → s.boot.image.positions.find? (fun x => x.head == s.lnk.headNumber && x.chain == s.getF F.LNK_ID_CHAIN &&
      x.pos == s.getF F.LNK_ID_POS) = some p →
    s.boot.image.hasPlace s.lnk.headNumber (s.getF F.LNK_ID_CHAIN) (s.getF F.LNK_ID_POS) = true →
    s.boot.image.placeOk s.lnk.headNumber (s.getF F.LNK_ID_CHAIN) (s.getF F.LNK_ID_POS) = true → positionOk s.plan.wall p = true →
    ∃ t, exec .positionSectionLoaded s = .next t ∧ t.released = true ∧ t.getF F.BOOT_STAT_STEP = 4 ∧
      t.getF F.BOOT_STAT_WAIT_HEAD = 0 ∧ t.boot.posLoaded = true ∧ t.boot.position = p ∧ t.getW A.CFG_EPOCH = 0) ∧
  (∀ s : State, s.running = true → s.boot.loaded = true → s.isHead = false → s.flag F.BOOT_STAT_WAIT_HEAD = true →
    s.flag F.LNK_ID_ASSIGNED = true → s.flag F.BOOT_STAT_PLAN_DIFF = false → s.saving = false →
    s.boot.image.hasPlace s.lnk.headNumber (s.getF F.LNK_ID_CHAIN) (s.getF F.LNK_ID_POS) = false →
    s.dirNow.trial = false → s.flag F.BOOT_STAT_ALT_BANK = true →
    ∃ t, exec .positionSectionLoaded s = .next t ∧ t.getF F.BOOT_FAULT_SECOND = 0x11 ∧ t.recovering = true ∧
      t.released = s.released))

/-- A write of `CFG_COMMIT.GO`: what is accepted becomes pending, with `RESULT` 8 (R77); each refusal has its own result (R78,
R79, R81, R82) and leaves the staging and pending sets. `CFG_STAT.SRC` records the source (R83).
`CANCEL`, `REVERT` and an ambiguous write of `CFG_COMMIT` (R81). A cancelled commit stays pending until 2 µs have passed, since
a `CANCEL` latched less than 2 µs before its boundary is ignored there; then it is withdrawn with `RESULT` 7. -/
def Obligations.CommitRequestsAreJudgedAndWithdrawn : Prop :=
  (∀ (who : Initiator) (mode1 : Bool) (s : State), s.mayWrite who A.CFG_COMMIT →
    let target := if mode1 then some (s.getW A.CFG_TARGET) else none
    let unpaired := s.isHead && s.plan.wall.pairId != 0 && !mode1 && touches s.dirtyRegs [10, 11, 12, 14]
    let refused : Nat → Prop := fun r => ∃ t, exec (.commitRequest who mode1) s = .next t ∧ t.bus = ⟨0, false⟩ ∧
      s.onlyBus t [A.CFG_STAT, A.CFG_EVT] ∧ t.getF F.CFG_STAT_RESULT = r ∧ t.getF F.CFG_EVT_REFUSED = 1 ∧
      t.getF F.CFG_STAT_SRC = (who == .service).toNat
    (s.released = true → s.cfg.pending = none → s.lateNow target = false → unpaired = false → s.refusals s.dirtyRegs = [] →
      ∃ t, exec (.commitRequest who mode1) s = .next t ∧ t = { s with regs := t.regs, bus := ⟨0, false⟩, cfg := t.cfg } ∧
        s.regsKept t [A.CFG_STAT] ∧ t.getF F.CFG_STAT_RESULT = 8 ∧ t.getF F.CFG_STAT_PENDING = 1 ∧
        t.getF F.CFG_STAT_SRC = (who == .service).toNat ∧
        t.cfg = { s.cfg with pending := some {
          vals := s.dirtyRegs, target := target, latched := s.now, deferred := mode1 && s.tim.image.isNone } }) ∧
    (s.released = false → refused 6) ∧
    (s.released = true → s.cfg.pending ≠ none → refused 4) ∧
    (s.released = true → s.cfg.pending = none → s.lateNow target = true → refused 3) ∧
    (s.released = true → s.cfg.pending = none → s.lateNow target = false → unpaired = true → refused 5) ∧
    (∀ (b : Nat) (l : List Nat), s.released = true → s.cfg.pending = none → s.lateNow target = false → unpaired = false →
      s.refusals s.dirtyRegs = b :: l → b ≠ 12 →
      refused 2 ∧ ∃ t, exec (.commitRequest who mode1) s = .next t ∧ t.getF F.CFG_STAT_BLOCK = b)) ∧
  ((∀ (who : Initiator) (p : PendingCommit) (s : State), s.mayWrite who A.CFG_COMMIT → s.cfg.pending = some p →
    ∃ t, exec (.commitCancel who) s = .next t ∧ t = { s with bus := ⟨0, false⟩, cfg := t.cfg } ∧
      t.cfg = { s.cfg with pending := some { p with cancelAt := some (p.cancelAt.getD s.now) } }) ∧
  (∀ (p : PendingCommit) (s : State), s.cfg.pending = some p → p.withdrawn s.now = true →
    s.cancelSettle.cfg = { s.cfg with pending := none } ∧ s.cancelSettle.getF F.CFG_STAT_RESULT = 7 ∧
      s.cancelSettle.getF F.CFG_STAT_PENDING = 0 ∧ s.cancelSettle.getF F.CFG_EVT_REFUSED = 1) ∧
  (∀ (who : Initiator) (s : State), s.mayWrite who A.CFG_COMMIT → s.cfg.pending = none →
    ∃ t, exec (.commitCancel who) s = .next t ∧ s.busAnswer t 0) ∧
  (∀ (who : Initiator) (s : State), s.mayWrite who A.CFG_COMMIT → s.cfg.pending = none →
    ∃ t, exec (.commitRevert who) s = .next t ∧ t = { s with regs := t.regs, bus := ⟨0, false⟩ } ∧
      ∀ a, t.getW a = mixStaged a (s.getW a) (s.actW a)) ∧
  (∀ (who : Initiator) (s : State), s.mayWrite who A.CFG_COMMIT → s.cfg.pending ≠ none →
    ∃ t, exec (.commitRevert who) s = .next t ∧ s.busAnswer t 0) ∧
  (∀ (who : Initiator) (v : Word) (s : State), s.mayWrite who A.CFG_COMMIT →
    1 < F.CFG_COMMIT_GO.of v + F.CFG_COMMIT_CANCEL.of v + F.CFG_COMMIT_REVERT.of v →
    ∃ t, exec (.registerWrite who (BitVec.ofNat 32 A.CFG_COMMIT) .b32 v) s = .next t ∧ t.bus = ⟨0, false⟩ ∧
      s.onlyBus t [A.CFG_STAT, A.CFG_EVT] ∧ t.getF F.CFG_STAT_RESULT = 9 ∧ t.getF F.CFG_EVT_REFUSED = 1 ∧
      t.getF F.CFG_STAT_SRC = (who == .service).toNat))

/-- The advance of a lane (R96), the equaliser's code (R94), and the one way back before Locked.
The four ways to lose lock (R97), where the lane goes, its `LOSS` counter, and its report: `LAN_EVT.LOST` for a chain port, `DP_LOST` for
a receiver (R104), the lost link for the service lane (R105). -/
def Obligations.LanesAcquireLockAndLoseIt : Prop :=
  ((∀ (m : Fin 49) (s : State), s.getF (F.LAN_STATE m) = 1 →
    ∃ t, exec (.laneSignalDetect m) s = .next t ∧ s.onlyRegs t [(F.LAN_STATE m).addr, A.LAN_CFG m] ∧
      t.getF (F.LAN_STATE m) = 2 ∧ t.getF (F.LAN_CFG_ADAPT m) = (s.adaptive m).toNat ∧
      t.getF (F.LAN_CFG_PEAK m) =
        (if s.adaptive m then (if (s.lane m).lost then (s.lane m).frozen.getD 8 else 8)
          else (nth (s.boardOf m).lanes m {}).peak) % 16) ∧
  (∀ (m : Fin 49) (moves : List Bool) (s : State), s.getF (F.LAN_STATE m) = 2 → s.adaptive m = true →
    let peak := moves.foldl peakStep (s.getF (F.LAN_CFG_PEAK m))
    ∃ t, exec (.laneCdrLock m moves) s = .next t ∧ t = { s with regs := t.regs, lan := t.lan } ∧
      s.regsKept t [(F.LAN_STATE m).addr, A.LAN_CFG m, A.LAN_EVT] ∧ t.getF (F.LAN_STATE m) = 3 ∧
      t.getF (F.LAN_CFG_PEAK m) = peak ∧ ((m.val < 32 ∨ m.val = 48) → (t.lane m).frozen = some peak) ∧
      t.getF (F.LAN_EQ_LIMIT m) = (peak == 0 || peak == 15).toNat) ∧
  (∀ (m : Fin 49) (moves : List Bool) (s : State), s.getF (F.LAN_STATE m) = 2 → s.adaptive m = false →
    ∃ t, exec (.laneCdrLock m moves) s = .next t ∧ s.onlyRegs t [(F.LAN_STATE m).addr] ∧ t.getF (F.LAN_STATE m) = 3) ∧
  (∀ (m : Fin 49) (inverted : Bool) (s : State), s.getF (F.LAN_STATE m) = 3 →
    ∃ t, exec (.laneCommaAlign m inverted) s = .next t ∧ s.onlyRegs t [(F.LAN_STATE m).addr] ∧
      t.getF (F.LAN_STATE m) = (if inverted then 3 else 4) ∧ t.getF (F.LAN_POL_SUSPECT m) = inverted.toNat) ∧
  (∀ (m : Fin 49) (s : State), s.getF (F.LAN_STATE m) = 4 →
    ∃ t, exec (.laneQualified m) s = .next t ∧ t = { s with regs := t.regs, lan := t.lan, out := t.out } ∧
      s.regsKept t [(F.LAN_STATE m).addr, A.LAN_EVT] ∧ t.getF (F.LAN_STATE m) = 5 ∧ (t.lane m).lost = false ∧
      t.out = (if m.val = 48 ∧ s.svcNegotiates = true then [.svcPage svcAdvert] else []) ++ s.out ∧
      ((s.lane m).lost = true → m.val < 32 → t.bit F.LAN_EVT_REGAINED (m.val / 4) = true) ∧
      (((s.lane m).lost = false ∨ 32 ≤ m.val) → t.getW A.LAN_EVT = s.getW A.LAN_EVT)) ∧
  (∀ (m : Fin 49) (g : BitVec 10) (s : State), s.getF (F.LAN_STATE m) = 4 → m.val < 48 →
    (decode10 (s.lane m).rd g.toNat).1 = none →
    ∃ t, exec (.codeViolation m [g]) s = .next t ∧ t = { s with regs := t.regs, lan := t.lan } ∧
      s.regsKept t [(F.LAN_STATE m).addr, A.LAN_ERR m] ∧
      t.getF (F.LAN_STATE m) = 3 ∧ t.getF (F.LAN_ERR_CV m) = min (s.getF (F.LAN_ERR_CV m) + 1) 65535) ∧
  (∀ (m : Fin 49) (groups : List (BitVec 10)) (s : State), s.getF (F.LAN_STATE m) ≠ 4 → s.getF (F.LAN_STATE m) ≠ 5 →
    exec (.codeViolation m groups) s = .next s)) ∧
  (let lost : Fin 49 → Nat → State → State → Prop := fun m st s t =>
    t.getF (F.LAN_STATE m) = st ∧ t.getF (F.LAN_ERR_LOSS m) = min (s.getF (F.LAN_ERR_LOSS m) + 1) 255 ∧ (t.lane m).lost = true ∧
      (∀ j : Fin 49, j ≠ m → t.getF (F.LAN_STATE j) = s.getF (F.LAN_STATE j)) ∧
      (m.val < 32 → t.bit F.LAN_EVT_LOST (m.val / 4) = true ∧
        (t.getF (F.LNK_PSTAT_RXMASK (m.val / 4))).testBit (m.val % 4) = false) ∧
      (32 ≤ m.val → m.val < 48 → s.dpUses ((m.val - 32) / 4) (m.val % 4) = true →
        t.bit F.LAN_EVT_DP_LOST ((m.val - 32) / 4) = true) ∧
      (m.val = 48 → t.getF F.LAN_EVT_SVC_LOST = 1 ∧ t.lan.svcUp = false)
  (∀ (m : Fin 49) (s : State), s.getF (F.LAN_STATE m) = 5 →
    (∃ t, exec (.laneSignalLost m) s = .next t ∧ lost m 1 s t) ∧
    (∃ t, exec (.misalignedComma m) s = .next t ∧ lost m 2 s t) ∧
    (∀ signal, ∃ t, exec (.cdrFrequencyLockLost m signal) s = .next t ∧ lost m (if signal then 2 else 1) s t)) ∧
  (∀ (m : Fin 49) (g : BitVec 10) (a b c : Nat) (l : List Nat) (s : State), s.getF (F.LAN_STATE m) = 5 →
    (decode10 (s.lane m).rd g.toNat).1 = none → (s.lane m).gaps = a :: b :: c :: l → (s.lane m).since + 1 + a + b ≤ 63 →
    ∃ t, exec (.codeViolation m [g]) s = .next t ∧ lost m 2 s t) ∧
  (∀ (m : Fin 49) (g : BitVec 10) (a b c : Nat) (l : List Nat) (s : State), s.getF (F.LAN_STATE m) = 5 →
    (decode10 (s.lane m).rd g.toNat).1 = none → (s.lane m).gaps = a :: b :: c :: l → 63 < (s.lane m).since + 1 + a + b →
    ∃ t, exec (.codeViolation m [g]) s = .next t ∧ t.getF (F.LAN_STATE m) = 5 ∧
      (t.lane m).gaps = [(s.lane m).since + 1, a, b, c] ∧ t.out = .char m none :: s.out) ∧
  (∀ (m : Fin 49) (g : BitVec 10) (s : State), s.getF (F.LAN_STATE m) = 5 → (decode10 (s.lane m).rd g.toNat).1 = none →
    (s.lane m).gaps = [] →
    ∃ t, exec (.codeViolation m [g]) s = .next t ∧ t.getF (F.LAN_STATE m) = 5 ∧ (t.lane m).gaps = [0] ∧
      t.out = .char m none :: s.out ∧
      (m.val < 48 → t.getF (F.LAN_ERR_CV m) = min (s.getF (F.LAN_ERR_CV m) + 1) 65535)) ∧
  (∀ (m : Fin 49) (g : BitVec 10) (c : LineChar) (s : State), s.getF (F.LAN_STATE m) = 5 →
    (decode10 (s.lane m).rd g.toNat).1 = some c → c.ctl = false →
    ∃ t, exec (.codeViolation m [g]) s = .next t ∧ t = { s with lan := t.lan, out := t.out } ∧
      t.out = .char m (some (false, c.byte)) :: s.out ∧ (t.lane m).rd = some (decode10 (s.lane m).rd g.toNat).2 ∧
      (t.lane m).since = (s.lane m).since + 1))

/-- `LAN_CTL` by the keeper (R99): stopped units are powered down, started ones begin at No signal (R96). Ports that feed the
active Geode set cannot be stopped (R183); that guard is left to the Geode statements.
Training (R103) within what the receiver offers (R102), the reads it answers, and the loss of a trained link (R104).
The service link (R105) and its frames (R106). -/
def Obligations.UnitsTrainingAndServiceLane : Prop :=
  ((∀ (units : BitVec 13) (s : State), s.mayWrite .keeper A.LAN_CTL → (s.isHead = false ∨ s.geodePorts = []) →
    ∃ t, exec (.laneStop .keeper units) s = .next t ∧ t.bus = ⟨0, false⟩ ∧
      t.getF laneCtl = s.getF laneCtl ||| units.toNat ∧
      (∀ u m, u < 13 → m ∈ unitLanes u → units.getLsbD u = true → s.bit laneCtl u = false → t.getF (F.LAN_STATE m) = 0) ∧
      (∀ u m, u < 13 → m ∈ unitLanes u → (units.getLsbD u = false ∨ s.bit laneCtl u = true) →
        t.getF (F.LAN_STATE m) = s.getF (F.LAN_STATE m))) ∧
  (∀ (units : BitVec 13) (s : State), s.mayWrite .keeper A.LAN_CTL → (s.isHead = false ∨ s.geodePorts = []) →
    ∃ t, exec (.laneStart .keeper units) s = .next t ∧ t.bus = ⟨0, false⟩ ∧
      t.getF laneCtl = s.getF laneCtl &&& (8191 - units.toNat) ∧
      (∀ u m, u < 13 → m ∈ unitLanes u → units.getLsbD u = true → s.bit laneCtl u = true → s.unitFitted u = true →
        (8 ≤ u ∨ s.portRuns u = true) → t.getF (F.LAN_STATE m) = if s.getF (F.LAN_STATE m) = 0 then 1 else s.getF (F.LAN_STATE m)) ∧
      (∀ u m, u < 13 → m ∈ unitLanes u → (units.getLsbD u = false ∨ s.bit laneCtl u = false ∨ s.unitFitted u = false) →
        t.getF (F.LAN_STATE m) = s.getF (F.LAN_STATE m)))) ∧
  ((∀ (n : Fin 4) (rate : Fin 4) (lanes : Nat) (s : State), s.unitOn (8 + n) = true →
    ∃ t, exec (.dpAuxTransaction n (.begin rate lanes)) s = .next t ∧ t.getF (F.LAN_DPLINK_TRAIN n) = 1 ∧
      t.getF (F.LAN_DPLINK_ALIGNED n) = 0 ∧ t.getF (F.LAN_DPLINK_LANES n) = 0 ∧ (t.dp n).rate = rate ∧ (t.dp n).lanes = lanes ∧
      t.getF (F.LAN_DPLINK_RETRAINS n) =
        (if (s.dp n).ever then min (s.getF (F.LAN_DPLINK_RETRAINS n) + 1) 255 else s.getF (F.LAN_DPLINK_RETRAINS n)) ∧
      t.out = .auxReply n .ack :: s.out ∧
      (s.getF (F.LAN_DPLINK_TRAIN n) ≠ 3 →
        t = { s with regs := t.regs, lan := t.lan, out := t.out } ∧ s.regsKept t [A.LAN_DPLINK n]) ∧
      (s.getF (F.LAN_DPLINK_TRAIN n) = 3 → s.getF (F.ING_SSTAT_STATE n) ≠ 0 → (s.src n).stopAtEnd = false →
        t.getF (F.ING_SSTAT_STATE n) = 1)) ∧
  (∀ (n : Fin 4) (s : State), s.unitOn (8 + n) = true → s.getF (F.LAN_DPLINK_TRAIN n) = 1 →
    (s.dp n).rate ≤ s.getF (F.ING_SCFG_MAXRATE n) → (s.dp n).lanes ≤ s.dpMaxLanes n → (s.dp n).lanes ∈ [1, 2, 4] →
    ∃ t, exec (.dpAuxTransaction n (.clockRecovery 1 true)) s = .next t ∧ t.getF (F.LAN_DPLINK_TRAIN n) = 2 ∧
      t.out = .auxReply n .ack :: s.out ∧ t = { s with regs := t.regs, out := t.out } ∧ s.regsKept t [A.LAN_DPLINK n]) ∧
  (∀ (n : Fin 4) (tps maxSwing maxPre : Nat) (s : State), s.unitOn (8 + n) = true → s.getF (F.LAN_DPLINK_TRAIN n) = 2 →
    (eqPattern (s.dp n).rate tps = true →
      ∃ t, exec (.dpAuxTransaction n (.equalisation tps true maxSwing maxPre)) s = .next t ∧ t.getF (F.LAN_DPLINK_TRAIN n) = 3 ∧
      t.getF (F.LAN_DPLINK_ALIGNED n) = 1 ∧ t.getF (F.LAN_DPLINK_RATE n) = (s.dp n).rate % 4 ∧
      t.getF (F.LAN_DPLINK_LANES n) = (s.dp n).lanes % 8 ∧ (t.dp n).ever = true ∧
      (∀ k, k < 4 → s.dpUses n k = true →
        (t.lane (32 + 4 * n + k)).frozen = some (s.getF (F.LAN_CFG_PEAK (32 + 4 * n + k))))) ∧
    (∃ t, exec (.dpAuxTransaction n (.equalisation tps false maxSwing maxPre)) s = .next t ∧ t.getF (F.LAN_DPLINK_TRAIN n) = 2 ∧
      (t.dp n).swing = dpRaise (s.boardOf (32 + 4 * n)).dpVswing.isNone (s.dp n).swing maxSwing ∧
      (t.dp n).pre = dpRaise (s.boardOf (32 + 4 * n)).dpPreemph.isNone (s.dp n).pre maxPre)) ∧
  (∀ (n : Fin 4) (s : State), s.unitOn (8 + n) = true →
    (∃ t, exec (.dpAuxTransaction n .readCaps) s = .next t ∧ t = { s with out := t.out } ∧
      t.out = .auxReply n (.caps (s.getF (F.ING_SCFG_MAXRATE n)) (s.dpMaxLanes n) s.plan.lane.dpAuxRdInterval) :: s.out) ∧
    (∃ t, exec (.dpAuxTransaction n .readSupport) s = .next t ∧
      t = { s with out := .auxReply n (.support false false false) :: s.out }) ∧
    (∃ t, exec (.dpAuxTransaction n .readHdcp) s = .next t ∧ t = { s with out := .auxReply n .hdcpNotCapable :: s.out })) ∧
  (∀ (n : Fin 4) (s : State), s.getF (F.LAN_DPLINK_TRAIN n) = 3 →
    ∃ t, exec (.dpAlignmentLost n) s = .next t ∧ t.getF (F.LAN_DPLINK_TRAIN n) = 4 ∧ t.getF (F.LAN_DPLINK_ALIGNED n) = 0 ∧
      t.bit F.LAN_EVT_DP_LOST n = true ∧ t.out = .hpdPulse n :: s.out)) ∧
  ((∀ (page : BitVec 16) (s : State), s.getF (F.LAN_STATE 48) = 5 → s.flag F.CLK_STAT_SVC_LOCK = true →
    ((s.plan.lane.svcAnEnable = false ∧ s.boot.loaded = true) ∨ page.getLsbD 5 = true) →
    ∃ t, exec (.svcLinkUp page) s = .next t ∧ t = { s with lan := t.lan } ∧ t.lan = { s.lan with svcUp := true }) ∧
  (∀ (f : SvcFrame) (s : State), s.lan.svcUp = true → f.fcsOk = true → 64 ≤ f.length → f.length ≤ 1522 → f.toDevice = true →
    ∃ t, exec (.svcFrameReceived f) s = .next t ∧ t = { s with out := .svcToKeeper f.length :: s.out }) ∧
  (∀ (f : SvcFrame) (s : State), s.lan.svcUp = true → f.fcsOk = false →
    ∃ t, exec (.svcFrameReceived f) s = .next t ∧ s.onlyRegs t [A.LAN_ERR 48] ∧
      t.getF (F.LAN_ERR_CV 48) = min (s.getF (F.LAN_ERR_CV 48) + 1) 65535) ∧
  (∀ (f : SvcFrame) (s : State), s.lan.svcUp = false → exec (.svcFrameReceived f) s = .next s) ∧
  (∀ s : State, s.flag F.CLK_STAT_SVC_LOCK = true →
    ∃ t, exec .svcPllUnlock s = .next t ∧ t.getF F.CLK_STAT_SVC_LOCK = 0 ∧ t.getF F.CLK_EVT_SVC_UNLOCK = 1 ∧
      t.lan.svcUp = false ∧ (s.lan.svcUp = true → t.getF F.LAN_EVT_SVC_LOST = 1) ∧
      (s.lan.svcUp = false → s.onlyRegs t [A.CLK_STAT, A.CLK_EVT])))

/-- Markers sent (R111, R112, R115) and a column of markers received (R112, R113). A Head's end port that comes UP sends its
`ENUM` (R134). -/
def Obligations.LaneMarkersCarryMasks : Prop :=
  (∀ (n : Fin 8) (s : State), s.unitOn n = true → s.bit F.CLK_STAT_PORT_LOCK n = true → s.pwr.txIdle = false →
    (s.isHead = false ∨ s.portUp n = true) →
    ∃ t ms, exec (.laneMarkerDue n) s = .next t ∧ t.out = .markers n ms :: s.out ∧ ms.length = 4 ∧
      (∀ k : Fin 4, ∃ m, ms[k.val]? = some m ∧ m.lane = k ∧ m.m0.toNat % 4 = k ∧ m.m0.toNat / 4 % 16 = s.wantTx n ∧
        m.m0.toNat / 64 = (s.port n).markCount % 4 ∧ m.m1.toNat % 16 = s.getF (F.LNK_PSTAT_RXMASK n) ∧
        markerOdd m.m0 m.m1 = true) ∧
      (t.port n).markCount = ((s.port n).markCount + 1) % 4 ∧ t.getF (F.LNK_PSTAT_RXMASK n) = s.getF (F.LNK_PSTAT_RXMASK n) ∧
      t.getF (F.LNK_PSTAT_TXMASK n) = if s.getF (F.LNK_PSTAT_RXMASK n) = 0 then 0 else s.wantTx n) ∧
  (∀ (n : Fin 8) (s : State), s.unitOn n = true → s.bit F.CLK_STAT_PORT_LOCK n = true → s.pwr.txIdle = false →
    s.isHead = true → s.portUp n = false → s.wantTx n ≠ 0 → s.portRec n = false → s.getF (F.LNK_PCFG_ROLE n) ∈ [1, 2] →
    ∃ t ms h m, exec (.laneMarkerDue n) s = .next t ∧ t.portUp n = true ∧ t.bit F.LNK_EVT_UP n = true ∧
      t.out = .packet n (s.wantTx n) h (.enum m) none :: .markers n ms :: s.out ∧ h.typ = 7 ∧ m.hops = 1) ∧
  (∀ (n : Fin 8) (m : LaneMarker) (s : State), s.markerFits n m = true → ((s.port n).slow = false ∨ m.m1.getLsbD 5 = true) →
    ∃ t, exec (.markerReceived n [m]) s = .next t ∧ t.getF (F.LNK_PSTAT_PRXMASK n) = m.m1.toNat % 16 ∧
      t.getF (F.LNK_PSTAT_PFWD n) = (m.m1.getLsbD 4).toNat ∧ t.getF (F.LNK_PSTAT_PRECOV n) = (m.m1.getLsbD 5).toNat ∧
      t.getF (F.LNK_PSTAT_PROLE n) = (m.m1.getLsbD 6).toNat ∧
      (t.getF (F.LNK_PSTAT_RXMASK n)).testBit m.lane = true ∧ (t.port n).prxSeen = true ∧
      (t.port n).partnerTx = m.m0.toNat / 4 % 16) ∧
  (∀ (n : Fin 8) (m p : LaneMarker) (s : State), s.markerFits n m = true → s.markerFits n p = true → m.lane ≠ p.lane →
    (s.port n).slow = false → markerCount m = markerCount p → m.skew + 64 < p.skew →
    ∃ t, exec (.markerReceived n [m, p]) s = .next t ∧ (t.getF (F.LNK_PSTAT_RXMASK n)).testBit p.lane = false ∧
      (t.getF (F.LNK_PSTAT_RXMASK n)).testBit m.lane = true ∧ t.getF (F.LNK_PSTAT_SKEW n) = 1) ∧
  (∀ (n : Fin 8) (m p : LaneMarker) (s : State), s.markerFits n m = true → s.markerFits n p = true → m.lane ≠ p.lane →
    (s.port n).slow = false → markerCount m ≠ markerCount p → (s.getF (F.LNK_PSTAT_RXMASK n)).testBit m.lane = true →
    (s.getF (F.LNK_PSTAT_RXMASK n)).testBit p.lane = false →
    ∃ t, exec (.markerReceived n [m, p]) s = .next t ∧ (t.getF (F.LNK_PSTAT_RXMASK n)).testBit p.lane = false ∧
      (t.getF (F.LNK_PSTAT_RXMASK n)).testBit m.lane = true ∧ t.getF (F.LNK_PSTAT_SKEW n) = 1) ∧
  (∀ (n : Fin 8) (ms : List LaneMarker) (s : State), ms.filter (fun m => s.markerFits n m) = [] →
    exec (.markerReceived n ms) s = .next s)

/-- `ENUM` sent by a Head, taken and passed on by a Tile (R134, R135), refused from the wrong side (R137), and the end of a
conflict (R450).
`JOIN`, `ASSIGN` (R136, R137), `STATUS` (R138), and the upstream window (R133). -/
def Obligations.PlacesJoinAssignAndStatus : Prop :=
  ((∀ (n : Fin 8) (s : State), s.isHead = true → s.portUp n = true → s.getF (F.LNK_PCFG_ROLE n) ∈ [1, 2] → s.canSend n = true →
    ∃ t h m, exec (.enumPeriod n) s = .next t ∧
      t.out = .packet n (s.getF (F.LNK_PSTAT_TXMASK n)) h (.enum m) none :: s.out ∧ h.typ = 7 ∧ h.hop = true ∧
      h.dst = 1023 ∧ m.wallId = s.plan.wall.id ∧ m.planSerial = s.plan.wall.serial ∧
      m.chain = BitVec.ofNat 8 (s.chainOf n) ∧ m.hops = 1 ∧ m.endB = (s.getF (F.LNK_PCFG_ROLE n) == 2) ∧
      t = { s with lnk := t.lnk, lan := t.lan, out := t.out }) ∧
  (∀ (m : EnumMsg) (s : State), s.isHead = false → s.flag (F.LNK_PCFG_FWD_EN 1) = true → m.endB = false →
    s.released = false → s.flag F.LNK_ID_ASSIGNED = false → s.flag F.LNK_ID_CONFLICT = false → s.getF F.LNK_ID_HOPS_B = 0 →
    1 ≤ m.hops → m.hops ≤ 24 →
    ∃ t, exec (.enumReceived 0 m) s = .next t ∧ t.getF F.LNK_ID_HOPS_A = m.hops ∧ t.getF F.LNK_ID_POS = m.hops ∧
      t.getF F.LNK_ID_CHAIN = m.chain.toNat % 8 ∧ t.lnk.tilesOnChain = m.tiles.toNat ∧ t.lnk.headNumber = m.head.toNat ∧
      t.getF F.BOOT_STAT_PLAN_DIFF = (m.wallId != s.plan.wall.id || m.planSerial != s.plan.wall.serial).toNat ∧
      s.regsKept t [A.LNK_ID, A.BOOT_STAT] ∧
      (s.portUp 1 = true → s.canSend 1 = true →
        ∃ h, t.out = .packet 1 (s.getF (F.LNK_PSTAT_TXMASK 1)) h (.enum { m with hops := m.hops + 1 }) none :: s.out) ∧
      (s.portUp 1 = false → t.out = s.out)) ∧
  (∀ (n : Fin 8) (m : EnumMsg) (s : State), s.isHead = false → n.val < 2 → s.flag (F.LNK_PCFG_FWD_EN (1 - n.val)) = true →
    m.endB ≠ (n == 1) → s.flag F.LNK_ID_CONFLICT = false →
    ∃ t, exec (.enumReceived n m) s = .next t ∧ t.getF F.LNK_ID_CONFLICT = 1 ∧ t.getF F.LNK_EVT_CONFLICT = 1 ∧
      s.regsKept t [A.LNK_ID, A.LNK_EVT] ∧ t = { s with regs := t.regs, lnk := t.lnk } ∧
      t.lnk = { s.lnk with extraStatus := true }) ∧
  (∀ (m : EnumMsg) (s : State), s.isHead = false → s.flag (F.LNK_PCFG_FWD_EN 0) = true → m.endB = true →
    s.released = false → s.flag F.LNK_ID_ASSIGNED = false → s.flag F.LNK_ID_CONFLICT = false → s.getF F.LNK_ID_HOPS_A = 0 →
    1 ≤ m.hops → m.hops ≤ m.tiles.toNat → m.tiles.toNat ≤ 24 →
    ∃ t, exec (.enumReceived 1 m) s = .next t ∧ t.getF F.LNK_ID_HOPS_B = m.hops ∧
      t.getF F.LNK_ID_POS = m.tiles.toNat + 1 - m.hops ∧ t.getF F.LNK_ID_CHAIN = m.chain.toNat % 8) ∧
  (∀ (n : Fin 8) (m : EnumMsg) (s : State), (s.isHead = true ∨ 2 ≤ n.val) → exec (.enumReceived n m) s = .next s) ∧
  (∀ s : State, s.released = false → s.isHead = false → s.flag F.LNK_ID_CONFLICT = true → s.hopsBad = false →
    s.flag F.LNK_ID_ASSIGNED = false →
    ∃ t, exec .conflictQuietExpiry s = .next t ∧ s.onlyRegs t [A.LNK_ID] ∧ t.getF F.LNK_ID_CONFLICT = 0 ∧
      t.getF F.LNK_ID_POS = s.hopsPos)) ∧
  ((∀ s : State, s.isHead = false → s.flag F.LNK_ID_ASSIGNED = false → s.getF F.LNK_ID_POS ≠ 0 → s.flag F.SEC_STAT_DEBUG = false →
    s.sec.entropyBad = false → s.lnk.own = [] → s.portFree 0 = false →
    ∃ t p pub sig, exec .joinPeriod s = .next t ∧ t.lnk.own = [p] ∧ p.ports = s.ownPorts ∧ p.hdr.typ = 8 ∧ p.hdr.dst = 1022 ∧
      p.hdr.len = 488 ∧ p.body = .join { bytes := s.joinBytes pub ++ sig } ∧ t.regs = s.regs) ∧
  (∀ (m : AssignMsg) (s : State), s.isHead = false → m.serial = s.shadow.serial → s.getF F.LNK_ID_POS ≠ 0 →
    s.getF F.LNK_ID_POS = m.pos → (s.released = false ∨ s.flag F.LNK_ID_ASSIGNED = false) →
    ∃ t, exec (.assignReceived m) s = .next t ∧ s.onlyRegs t [A.LNK_ID, A.LNK_EVT] ∧ t.getF F.LNK_ID_TILE_ID = m.id.toNat ∧
      t.getF F.LNK_ID_CHAIN = m.chain ∧ t.getF F.LNK_ID_ASSIGNED = 1 ∧ t.getF F.LNK_EVT_ASSIGNED = 1 ∧
      t.getF F.LNK_ID_POS = s.getF F.LNK_ID_POS) ∧
  (∀ (m : AssignMsg) (s : State), m.serial ≠ s.shadow.serial → exec (.assignReceived m) s = .next s) ∧
  (∀ (m : AssignMsg) (s : State), s.isHead = false → m.serial = s.shadow.serial → s.getF F.LNK_ID_POS ≠ m.pos →
    s.flag F.LNK_ID_CONFLICT = false →
    ∃ t, exec (.assignReceived m) s = .next t ∧ t.getF F.LNK_ID_CONFLICT = 1 ∧ t.getF F.LNK_EVT_CONFLICT = 1 ∧
      t.getF F.LNK_ID_ASSIGNED = s.getF F.LNK_ID_ASSIGNED ∧ t.getF F.LNK_ID_TILE_ID = s.getF F.LNK_ID_TILE_ID) ∧
  (∀ s : State, s.isHead = false → s.flag F.LNK_ID_ASSIGNED = true → s.hasWindow = true →
    ∃ t p, exec .statusPeriod s = .next t ∧ t = { s with lnk := t.lnk } ∧ t.lnk = { s.lnk with own := s.lnk.own ++ [p] } ∧
      p.hdr.typ = 4 ∧ p.hdr.prot = 2 ∧ p.hdr.dst = 1022 ∧ p.ports = s.ownPorts ∧ ∃ m, p.body = .status m) ∧
  (∀ (p : OutPkt) (rest : List OutPkt) (s : State), s.isHead = false → s.hasWindow = true → s.lnk.extraStatus = false →
    s.lnk.own = p :: rest → p.hdr.typ ≠ 11 → p.ports = [0] → p.hdr.hop = false → p.hdr.prot = 0 → s.canSend 0 = true →
    s.portUp 0 = true → s.queueEmpty 0 = true → (∀ m, p.body ≠ .status m) →
    ∃ t h, exec (.upstreamWindow 1) s = .next t ∧ t = { s with lnk := t.lnk, lan := t.lan, out := t.out } ∧ t.lnk.own = rest ∧
      t.out = .packet 0 (s.getF (F.LNK_PSTAT_TXMASK 0)) h p.body none :: s.out ∧
      h.seq = BitVec.ofNat 32 (s.nextSeq (dstKind p.hdr.dst)).1 ∧ h.typ = p.hdr.typ) ∧
  (∀ (p : OutPkt) (rest : List OutPkt) (m : StatusMsg) (k : Key) (s : State), s.isHead = false → s.hasWindow = true →
    s.lnk.extraStatus = false → s.lnk.own = p :: rest → p.hdr.typ = 4 → p.ports = [0] → p.hdr.hop = false → p.hdr.prot = 2 →
    s.canSend 0 = true → s.portUp 0 = true → s.queueEmpty 0 = true → p.body = .status m →
    s.chainKey (s.chainOf 0) s.curEp = some k →
    ∃ t h, exec (.upstreamWindow 1) s = .next t ∧ t.lnk.own = rest ∧ t.regs = s.regs ∧
      t.out = .packet 0 (s.getF (F.LNK_PSTAT_TXMASK 0)) h (.status s.statusMsg) (some k) :: s.out ∧ h.typ = 4))

/-- The order of the checks of R122, their counters, de-duplication (R129) and delivery. `only` says what stays: everything
but the registers listed, the ports and the contexts. In state RECOVERY a port takes hop-local UPD alone (R140). -/
def Obligations.PacketChecksInOrder : Prop :=
  ∀ (n : Fin 8) (p : RxPacket) (s : State), 2 ≤ s.getF (F.LNK_PSTAT_STATE n) → s.striped n = false →
    (s.port n).rxStriped = false → (s.port n).rxBad = false → s.consumes (hdrParse p.wire) = true →
    (2 ≤ n.val ∨ (s.port (1 - n.val)).fq.any (fun e => e.ended.isNone) = false) →
    let h := hdrParse p.wire
    let recov := s.getF (F.LNK_PSTAT_STATE n) == 3
    (recov = true → recovCarries h = true) →
    let only : List Nat → State → Prop := fun l t => t = { s with regs := t.regs, lnk := t.lnk } ∧ s.regsKept t l
    (p.whole = false →
      ∃ t, exec (.packetReceived n p) s = .next t ∧ only [A.LNK_RXERR n] t ∧
        t.getF (F.LNK_RXERR_FRAME n) = min (s.getF (F.LNK_RXERR_FRAME n) + 1) 65535) ∧
    (p.whole = true → p.crcOk = false →
      ∃ t, exec (.packetReceived n p) s = .next t ∧ only [A.LNK_RXERR n] t ∧
        t.getF (F.LNK_RXERR_CRC n) = min (s.getF (F.LNK_RXERR_CRC n) + 1) 65535) ∧
    (p.whole = true → p.crcOk = true → hdrOk s.plan.link.prot recov h = false →
      ∃ t, exec (.packetReceived n p) s = .next t ∧ only [A.LNK_RXERR n] t ∧
        t.getF (F.LNK_RXERR_FRAME n) = min (s.getF (F.LNK_RXERR_FRAME n) + 1) 65535) ∧
    (p.whole = true → p.crcOk = true → hdrOk s.plan.link.prot recov h = true → s.tagOk n h p = false →
      ∃ t, exec (.packetReceived n p) s = .next t ∧ only [A.LNK_RXAUTH n, A.LNK_EVT, A.LNK_PSTAT n] t ∧
        t.getF (F.LNK_RXAUTH_AUTH n) = min (s.getF (F.LNK_RXAUTH_AUTH n) + 1) 65535 ∧ t.getF F.LNK_EVT_AUTH = 1) ∧
    (p.whole = true → p.crcOk = true → hdrOk s.plan.link.prot recov h = true → s.tagOk n h p = true → h.hop = false →
      dedupStep (s.dedupCtx (dedupKey h)) h.keyEp h.seq = .duplicate →
      ∃ t, exec (.packetReceived n p) s = .next t ∧ only [A.LNK_DEDUPSTAT, A.LNK_KEEPSRC] t ∧ t.lnk.ctx = s.lnk.ctx ∧
        t.getF F.LNK_DEDUPSTAT_DUP = min (s.getF F.LNK_DEDUPSTAT_DUP + 1) 65535 ∧
        (n ≠ 0 → t.getW A.LNK_KEEPSRC = s.getW A.LNK_KEEPSRC)) ∧
    (p.whole = true → p.crcOk = true → hdrOk s.plan.link.prot recov h = true → s.tagOk n h p = true → h.hop = false →
      dedupStep (s.dedupCtx (dedupKey h)) h.keyEp h.seq = .old →
      ∃ t, exec (.packetReceived n p) s = .next t ∧ only [A.LNK_DEDUPSTAT] t ∧ t.lnk.ctx = s.lnk.ctx ∧
        t.getF F.LNK_DEDUPSTAT_OLD = min (s.getF F.LNK_DEDUPSTAT_OLD + 1) 65535) ∧
    (∀ c, p.whole = true → p.crcOk = true → hdrOk s.plan.link.prot recov h = true → s.tagOk n h p = true → h.hop = false →
      dedupStep (s.dedupCtx (dedupKey h)) h.keyEp h.seq = .deliver c → h.typ ≠ 1 →
      ∃ t, exec (.packetReceived n p) s = .next t ∧ t.out = .deliver n h (s.payload n p) :: s.out ∧
        t.dedupCtx (dedupKey h) = some c ∧ s.regsKept t [A.LNK_KEEPSRC] ∧
        t = { s with regs := t.regs, lnk := t.lnk, out := t.out }) ∧
    (p.whole = true → p.crcOk = true → hdrOk s.plan.link.prot recov h = true → s.tagOk n h p = true → h.hop = true →
      ∃ t, exec (.packetReceived n p) s = .next t ∧ t.out = .deliver n h (s.payload n p) :: s.out ∧ t.regs = s.regs ∧
        t.lnk.ctx = s.lnk.ctx)

/-- What the context of R129 guarantees: no packet is delivered twice in a row of copies, whichever way it comes. -/
def Obligations.DeliveredPacketIsNotDeliveredTwice : Prop :=
  (∀ (c : Option Dedup) (ep : BitVec 6) (seq : Word) (d : Dedup), dedupStep c ep seq = .deliver d →
    dedupStep (some d) ep seq = .duplicate ∧ d.keyEp = ep) ∧
  (∀ (ep : BitVec 6) (seq : Word), ∃ d, dedupStep none ep seq = .deliver d ∧ d.high = seq) ∧
  (∀ (c : Dedup) (ep : BitVec 6) (seq : Word), (epochNewer ep c.keyEp = true ∨ (ep = c.keyEp ∧ 0 < diff32 seq c.high)) →
    ∃ d, dedupStep (some c) ep seq = .deliver d ∧ d.high = seq) ∧
  (∀ (c : Dedup) (ep : BitVec 6) (seq : Word), epochNewer ep c.keyEp = false →
    (ep ≠ c.keyEp ∨ diff32 seq c.high ≤ -64) → dedupStep (some c) ep seq = .old)

/-- Cut-through forwarding (R123, R124), the wait behind a packet in progress (R125), the end with the packet and the overflow
of the forward queue (R126), and the drop of R116. -/
def Obligations.PacketsAreForwardedWhileTheyArrive : Prop :=
  (∀ (n : Fin 8) (h : Hdr) (s : State), s.forwards n h = true → s.striped n = false → (s.port (1 - n.val)).fq = [] →
    ∃ t, exec (.packetStartReceived n h) s = .next t ∧ t = { s with lnk := t.lnk, out := t.out } ∧ (t.port n).rxPkt = true ∧
      ((s.port (1 - n.val)).busyUntil ≤ s.now → t.out = .fwdStart (1 - n.val) h :: s.out ∧
        (t.port (1 - n.val)).fq = [{ hdr := h, total := wireLen h, begun := true }]) ∧
      (s.now < (s.port (1 - n.val)).busyUntil → t.out = s.out ∧
        (t.port (1 - n.val)).fq = [{ hdr := h, total := wireLen h }])) ∧
  (∀ (n : Fin 8) (h : Hdr) (s : State), (s.forwards n h = false ∨ s.striped n = true) →
    ∃ t, exec (.packetStartReceived n h) s = .next t ∧ t = { s with lnk := t.lnk } ∧ (t.port n).rxPkt = true ∧
      (t.port n).rxStriped = s.striped n ∧ (∀ k, k ≠ n.val → t.port k = s.port k)) ∧
  (∀ (n : Fin 8) (p : RxPacket) (e : FwdPkt) (s : State), n.val < 2 → (s.port (1 - n.val)).fq = [e] →
    (s.port (1 - n.val)).fqAt = s.now → e.begun = true → e.ended = none → e.sent = e.got → e.got ≤ e.total →
    s.consumes (hdrParse p.wire) = false → s.striped n = false → (s.port n).rxStriped = false → (s.port n).rxBad = false →
    ∃ t, exec (.packetReceived n p) s = .next t ∧ t.out = .fwdEnd (1 - n.val) (!(p.whole && p.crcOk)) :: s.out ∧
      (t.port (1 - n.val)).fq = [] ∧ t.regs = s.regs) ∧
  (∀ (n : Fin 8) (p : RxPacket) (e : FwdPkt) (s : State), n.val < 2 → (s.port (1 - n.val)).fq = [e] →
    (s.port (1 - n.val)).fqAt = s.now → e.begun = true → e.ended = none → e.got ≤ e.total → e.sent + 16 * 32768 < e.got →
    s.consumes (hdrParse p.wire) = false → s.striped n = false → (s.port n).rxStriped = false → (s.port n).rxBad = false →
    ∃ t, exec (.packetReceived n p) s = .next t ∧ t.out = .fwdEnd (1 - n.val) true :: s.out ∧
      (t.port (1 - n.val)).fq = [] ∧ s.regsKept t [A.LNK_TXSTAT] ∧
      t.getF F.LNK_TXSTAT_FWD_DROP = min (s.getF F.LNK_TXSTAT_FWD_DROP + 1) 65535) ∧
  (∀ (n : Fin 8) (p : RxPacket) (s : State), 2 ≤ s.getF (F.LNK_PSTAT_STATE n) →
    (s.striped n = true ∨ (s.port n).rxStriped = true) →
    (2 ≤ n.val ∨ (s.port (1 - n.val)).fq.any (fun e => e.ended.isNone) = false) →
    ∃ t, exec (.packetReceived n p) s = .next t ∧ t = { s with regs := t.regs, lnk := t.lnk } ∧ s.regsKept t [A.LNK_RXAUTH n] ∧
      t.getF (F.LNK_RXAUTH_LANE_DROP n) = min (s.getF (F.LNK_RXAUTH_LANE_DROP n) + 1) 65535)

/-- Register accesses that arrive in packets and management frames: `CTRL` (R121), frames with and without a session (R380,
R381), and relayed service traffic at both ends (R381). -/
def Obligations.AccessesComeByPacketAndFrame : Prop :=
  (∀ (w : RegWrite) (l : List RegWrite) (s : State), s.running = true → s.boot.loaded = true →
    ∃ u, exec (.registerWrite .keeper w.addr .b32 w.value) s = .next u ∧
      (u.running = true → u.boot.loaded = true → exec (.ctrlReceived (w :: l)) s = exec (.ctrlReceived l) u)) ∧
  (∀ s : State, exec (.ctrlReceived []) s = .next s) ∧
  (∀ (a : Word) (s : State), s.running = true → (a.toNat = A.BOOT_STAT ∨ a.toNat = A.BOOT_FAULT) →
    ∃ t, exec (.managementFrame none (.read a)) s = .next t ∧ t.out = .svcReply 0 (s.getW a.toNat) false :: s.out ∧
      t = { s with bus := t.bus, out := t.out }) ∧
  (∀ (a : Word) (s : State), s.running = true → a.toNat ≠ A.BOOT_STAT → a.toNat ≠ A.BOOT_FAULT →
    s.plan.sec.openRead = false → exec (.managementFrame none (.read a)) s = .next s) ∧
  (∀ (x : Session) (f : SessionFrame) (a v : Word) (s : State), s.running = true → s.boot.fuseBad = false →
    s.sec.sessions = [x] → f.session = x.id → x.manage = true → x.tagOk f = true → x.counterOk f.counter.toNat = true →
    ∃ u, exec (.registerWrite .service a .b32 v) (s.setSessions [x.accept f.counter.toNat]) = .next u ∧
      exec (.managementFrame (some f) (.write a v)) s = .next (u.svcAnswer x.id)) ∧
  (∀ (x : Session) (f : SessionFrame) (op : MgmtOp) (s : State), s.running = true → s.boot.fuseBad = false →
    s.sec.sessions = [x] → f.session = x.id → (x.tagOk f = false ∨ x.counterOk f.counter.toNat = false) →
    ∃ t, exec (.managementFrame (some f) op) s = .next t ∧ s.onlyRegs t [A.SEC_CNT0, A.SEC_EVT] ∧
      t.getF F.SEC_EVT_SESS_FAIL = 1) ∧
  (∀ (src dst : BitVec 10) (a v : Word) (s : State), s.running = true → s.isHead = false → s.isOwnDst dst = true →
    ∃ u, exec (.registerWrite .service a .b32 v) s = .next u ∧
      exec (.mgmtRelayed src dst (.write a v)) s = .next (u.relayAnswer src)) ∧
  (∀ (src : BitVec 10) (data : Word) (error : Bool) (s : State), s.running = true → s.isHead = true →
    ∃ t, exec (.mgmtRelayed src s.srcId (.answer data error)) s = .next t ∧ t = { s with out := .svcRelay src data error :: s.out })

/-- Slots of the schedule and late packets (R128, R132), the recovery probe from start to end (R140). -/
def Obligations.ScheduleSlotsAndTheRecoveryProbe : Prop :=
  (∀ (e : SchedEntry) (s : State), s.isHead = true → s.released = true → e.port < 8 → e.variant = s.getF F.GOV_STAT_VARIANT →
    e.typ = 1 → s.mute e.port = false → s.sliceHeld e.port e.facet = false → s.portFree e.port = false →
    ∃ t p, exec (.scheduledPacketDue e) s = .next t ∧ t = { s with lnk := t.lnk } ∧
      (t.port e.port).wait = (s.port e.port).wait ++ [p] ∧ p.body = .slice e.facet e.dst e.slice ∧
      p.hdr.seq = BitVec.ofNat 32 (64 * ((s.facetImage e.facet).toNat % 67108864) + e.slice) ∧
      p.hdr.image = s.facetImage e.facet ∧ p.hdr.src = 1022 ∧ p.due = s.now ∧
      (∀ k, k ≠ e.port → t.port k = s.port k)) ∧
  (∀ (e : SchedEntry) (p : OutPkt) (rest : List OutPkt) (s : State), s.isHead = true → s.released = true → e.port < 8 →
    e.variant = s.getF F.GOV_STAT_VARIANT → 4 ≤ e.typ → e.typ ≠ 9 → e.typ < 16 → e.pair = false → s.lnk.own = p :: rest →
    p.hdr.typ = BitVec.ofNat 4 e.typ → p.ports = [e.port] → p.numbered = true → s.ownStreamsOk = true → s.portFree e.port = false →
    ∃ t, exec (.scheduledPacketDue e) s = .next t ∧ t = { s with lnk := t.lnk } ∧ t.lnk.own = rest ∧
      (t.port e.port).wait = (s.port e.port).wait ++ [{ p with due := s.now }]) ∧
  (∀ (e : SchedEntry) (p : OutPkt) (rest : List OutPkt) (s : State), s.isHead = true → s.released = true → e.port < 8 →
    e.variant = s.getF F.GOV_STAT_VARIANT → 4 ≤ e.typ → e.typ ≠ 9 → e.typ < 16 → e.pair = true → s.mute e.port = false →
    s.lnk.own = p :: rest → p.hdr.typ = BitVec.ofNat 4 e.typ → p.ports = [e.port] → p.hdr.hop = false → p.numbered = false →
    s.portFree e.port = false →
    ∃ t q, exec (.scheduledPacketDue e) s = .next t ∧ t = { s with lnk := t.lnk } ∧ t.lnk.own = rest ∧
      (t.port e.port).wait = (s.port e.port).wait ++ [q] ∧ q.body = p.body ∧ q.hdr.src = 1022 ∧
      q.hdr.image = s.facetImage e.facet ∧ q.hdr.seq =
        BitVec.ofNat 32 (64 * ((s.facetImage e.facet).toNat % 67108864) + (32 + pairPlace s.plan.link.sched e))) ∧
  (∀ (e : SchedEntry) (s : State), e.variant ≠ s.getF F.GOV_STAT_VARIANT → exec (.scheduledPacketDue e) s = .next s) ∧
  (∀ (n : Fin 8) (p : OutPkt) (rest : List OutPkt) (s : State), (s.port n).wait = p :: rest →
    (∀ f t k, p.body ≠ .slice f t k) →
    ∃ t, exec (.txPacketLate n) s = .next t ∧ t = { s with regs := t.regs, lnk := t.lnk } ∧ s.regsKept t [A.LNK_TXSTAT, A.LNK_EVT] ∧
      (t.port n).wait = rest ∧ t.getF F.LNK_TXSTAT_LATE = min (s.getF F.LNK_TXSTAT_LATE + 1) 65535 ∧ t.getF F.LNK_EVT_LATE = 1) ∧
  (∀ (n : Fin 8) (s : State), s.unitOn n = true → (unitLanes n).any (fun m => decide (2 ≤ s.getF (F.LAN_STATE m))) = true →
    (unitLanes n).any (fun m => s.getF (F.LAN_STATE m) == 5) = false → s.recovering = false → (s.port n).slow = false →
    ∃ t, exec (.recoveryProbeStart n) s = .next t ∧ (t.port n).probing = true ∧ t.getF (F.LNK_PSTAT_RXMASK n) = 0 ∧
      t.getF (F.LNK_PSTAT_STATE n) = 3 ∧ t.portRate n = 0 ∧
      (∀ m, m ∈ unitLanes n → 2 ≤ s.getF (F.LAN_STATE m) → t.getF (F.LAN_STATE m) = 2)) ∧
  (∀ (n : Fin 8) (s : State), (s.port n).probing = true → (s.port n).slow = false → s.recovering = false →
    ((unitLanes n).any (fun m => s.getF (F.LAN_STATE m) == 5) = false ∨ (s.port n).prxSeen = false ∨
      s.flag (F.LNK_PSTAT_PRECOV n) = false) →
    ∃ t, exec (.recoveryProbeEnd n) s = .next t ∧ (t.port n).probing = false ∧ (t.port n).slow = false ∧
      t.getF (F.LNK_PSTAT_RXMASK n) = 0 ∧ t.getF (F.LNK_PSTAT_STATE n) = 0) ∧
  (∀ (n : Fin 8) (s : State), (s.port n).probing = true → (unitLanes n).any (fun m => s.getF (F.LAN_STATE m) == 5) = true →
    (s.port n).prxSeen = true → s.flag (F.LNK_PSTAT_PRECOV n) = true →
    (s.nvm.bank (s.flag F.UPD_STAT_RUNBANK)).manifest = none →
    ∃ t, exec (.recoveryProbeEnd n) s = .next t ∧ t = { s with lnk := t.lnk } ∧ (t.port n).probing = false ∧ (t.port n).slow = true)

/-- Image boundaries and commits (R78, R80, R81).
Frame boundaries (R314, R315) on a Head that counts for itself and on a Tile. -/
def Obligations.BoundariesApplyCommitsAndNumberFrames : Prop :=
  ((∀ (f : Fin 4) (x : List Burst) (s : State), s.boundaryKnown = true → f.val < s.facets →
    ∃ t, exec (.imageBoundary f x) s = .next t ∧
      t.tim.image = some (BitVec.ofNat 32 (s.facets * s.getF F.TIM_FRAME_FRAME + f.val)) ∧
      (s.isHead = true → s.memRuns = true → t.getF F.SCN_STAT_FACET = f.val)) ∧
  (∀ (f : Fin 4) (x : List Burst) (p : PendingCommit) (s : State), s.boundaryKnown = true → f.val < s.facets →
    s.cfg.pending = some p → p.withdrawn s.now = false → p.deferred = false →
    p.due s.now (s.imageOf f) = true → (p.vals.map (fun v => v.1)).Nodup →
    ∃ t, exec (.imageBoundary f x) s = .next t ∧ (∀ a, t.actW a = s.pendW p.vals a) ∧
      t.getW A.CFG_EPOCH = s.getW A.CFG_EPOCH + 1 ∧ t.getF F.CFG_STAT_RESULT = 1 ∧ t.getF F.CFG_STAT_PENDING = 0 ∧
      t.getF F.CFG_EVT_APPLIED = 1 ∧ t.cfg = {}) ∧
  (∀ (f : Fin 4) (x : List Burst) (s : State), s.boundaryKnown = true → f.val < s.facets → s.cfg = {} →
    ∃ t, exec (.imageBoundary f x) s = .next t ∧ t.active = s.active ∧ t.getW A.CFG_EPOCH = s.getW A.CFG_EPOCH ∧
      t.getW A.CFG_STAT = s.getW A.CFG_STAT ∧ t.getW A.CFG_EVT = s.getW A.CFG_EVT ∧ t.cfg = {}) ∧
  (∀ (f : Fin 4) (x : List Burst) (p : PendingCommit) (s : State), s.boundaryKnown = true → f.val < s.facets →
    s.cfg.pending = some p → p.withdrawn s.now = false → p.deferred = false → p.due s.now (s.imageOf f) = false →
    ∃ t, exec (.imageBoundary f x) s = .next t ∧ t.active = s.active ∧ t.getW A.CFG_EPOCH = s.getW A.CFG_EPOCH ∧
      t.getW A.CFG_STAT = s.getW A.CFG_STAT ∧ t.cfg.pending = some p) ∧
  (∀ (f : Fin 4) (x : List Burst) (p : PendingCommit) (g : Word) (s : State), s.boundaryKnown = true →
    f.val < s.facets → s.cfg.pending = some p → p.withdrawn s.now = false → p.deferred = true →
    p.target = some g → diff32 g (s.imageOf f) ≤ 0 →
    ∃ t, exec (.imageBoundary f x) s = .next t ∧ t.active = s.active ∧ t.getW A.CFG_EPOCH = s.getW A.CFG_EPOCH ∧
      t.getF F.CFG_STAT_RESULT = 3 ∧ t.getF F.CFG_EVT_REFUSED = 1 ∧ t.getF F.CFG_STAT_PENDING = 0 ∧ t.cfg.pending = none) ∧
  (∀ (f : Fin 4) (x : List Burst) (p : PendingCommit) (s : State), s.boundaryKnown = true → f.val < s.facets →
    s.cfg.pending = some p → p.withdrawn s.now = true →
    ∃ t, exec (.imageBoundary f x) s = .next t ∧ t.active = s.active ∧ t.getW A.CFG_EPOCH = s.getW A.CFG_EPOCH ∧
      t.getF F.CFG_STAT_RESULT = 7 ∧ t.getF F.CFG_STAT_PENDING = 0 ∧ t.cfg.pending = none)) ∧
  ((∀ (need : Int) (s : State), s.running = true → s.boot.loaded = true → s.tim.running = true → s.isHead = true →
    s.frameFromPeer = false →
    ∃ t, exec (.frameBoundary need) s = .next t ∧ t.getW A.TIM_FRAME = s.getW A.TIM_FRAME + 1 ∧
      t.tim.ofs = s.ofsOf s.tim.nextLines ∧ t.tim.period = s.tim.period ∧
      t.tim.fb = (s.getW A.TIM_FRAME + 1).toNat * s.framePeriod % 2 ^ 40 ∧
      (∀ f, f < s.facets → t.getF (F.SCN_FOFS_LINES f) = nth s.tim.nextLines f 0 % 2 ^ 16)) ∧
  (∀ (need : Int) (m : SyncMsg) (s : State), s.running = true → s.boot.loaded = true → s.tim.running = true →
    s.isHead = false → s.lmp.tb0Once = true → s.tim.ann = some m → s.tim.annFresh = true →
    ∃ t, exec (.frameBoundary need) s = .next t ∧ t.getW A.TIM_FRAME = m.frame ∧ t.tim.fb = m.fb ∧ t.tim.period = m.period ∧
      t.tim.ofs = m.ofs ∧ t.tim.annFresh = false ∧ t.getW A.TIM_CNT = s.getW A.TIM_CNT) ∧
  (∀ (need : Int) (m : SyncMsg) (s : State), s.running = true → s.boot.loaded = true → s.tim.running = true →
    s.isHead = false → s.lmp.tb0Once = true → s.tim.ann = some m → s.tim.annFresh = false →
    ∃ t, exec (.frameBoundary need) s = .next t ∧ t.getW A.TIM_FRAME = s.getW A.TIM_FRAME + 1 ∧
      t.tim.fb = (s.tim.fb + s.framePeriod) % 2 ^ 40 ∧ t.tim.period = s.tim.period ∧ t.tim.ofs = s.tim.ofs ∧
      t.getF F.TIM_CNT_ANN_MISS = min (s.getF F.TIM_CNT_ANN_MISS + 1) (2 ^ F.TIM_CNT_ANN_MISS.width - 1) ∧
      t.getF F.TIM_EVT_ANN_MISS = 1))

/-- The selection of R20 among the variants that R24 permits: no permitted variant covers more of the failed items, the move is
one that R24 permits, and the variant of R20 is chosen where R24 permits it.
`ANNOUNCE` (R23, R25), the governor's two times (R24, R448), an absent Tile (R138). -/
def Obligations.VariantsAreSelectedAnnouncedAndFollowed : Prop :=
  (∀ s : State,
    let failed := s.failedItems
    let cv := s.variantOf (s.getF F.GOV_STAT_VARIANT)
    let r := s.selectVariant
    s.moveOk cv (s.variantOf r.1) = true ∧
    (∀ (m : Nat) (w : Variant), s.plan.gov.variants[m]? = some w → s.moveOk cv w = true →
      coveredCount failed w ≤ coveredCount failed (s.variantOf r.1)) ∧
    (∀ (m : Nat) (w : Variant), s.plan.gov.variants[m]? = some w → s.moveOk cv w = true →
      (∀ (k : Nat) (v : Variant), s.plan.gov.variants[k]? = some v → coveredCount failed v ≤ coveredCount failed w ∧
        (coveredCount failed v = coveredCount failed w → w.cover.length ≤ v.cover.length ∧
          (w.cover.length = v.cover.length → m ≤ k))) → r.1 = m) ∧
    (r.2 = true ↔ ∃ i ∈ failed, variantCovers failed (s.variantOf r.1) i = false)) ∧
  ((∀ (v : Fin 64) (first image : Word) (s : State), s.selects = false → s.tim.image = some image → diff32 image first < 0 →
    ∃ t, exec (.announceReceived v first) s = .next t ∧ t.getF F.GOV_STAT_PENDING = v.val ∧ t.getF F.GOV_STAT_PEND_VALID = 1 ∧
      t.getF F.GOV_STAT_VARIANT = s.getF F.GOV_STAT_VARIANT ∧ t.gov.pendFirst = first ∧ s.regsKept t [A.GOV_STAT] ∧
      t = { s with regs := t.regs, gov := t.gov }) ∧
  (∀ (v : Fin 64) (first image : Word) (s : State), s.selects = false → s.tim.image = some image → 0 ≤ diff32 image first →
    v.val ≠ s.getF F.GOV_STAT_VARIANT →
    ∃ t, exec (.announceReceived v first) s = .next t ∧ t.getF F.GOV_STAT_VARIANT = v.val ∧ t.getF F.GOV_STAT_PEND_VALID = 0 ∧
      t.getF F.GOV_STAT_SWITCHES = min (s.getF F.GOV_STAT_SWITCHES + 1) 65535 ∧ t.getF F.GOV_EVT_CHANGED = 1 ∧
      ((s.variantOf v).cover.length < (s.variantOf (s.getF F.GOV_STAT_VARIANT)).cover.length → t.getF F.GOV_EVT_RECOVERED = 1) ∧
      s.regsKept t [A.GOV_STAT, A.GOV_EVT] ∧ t = { s with regs := t.regs, gov := t.gov }) ∧
  (∀ (v : Fin 64) (first : Word) (s : State), s.selects = true → exec (.announceReceived v first) s = .next s) ∧
  (∀ s : State, s.isHead = true → s.released = true →
    exec .startGraceExpiry s = .next { s with gov := { s.gov with graceOver := true } }) ∧
  (∀ (i : HealthItem) (at0 : Nat) (rest : List (Nat × Bool)) (s : State),
    (healthOf s.gov.items i).hist = (at0, true) :: rest →
    ∃ t, exec (.recoverHoldExpiry i) s = .next t ∧ t.itemHeld i = true ∧ t = { s with gov := t.gov }) ∧
  (∀ (id : BitVec 10) (s : State), s.isHead = true →
    ∃ t, exec (.statusTimeout id) s = .next t ∧ t.tileReport id.toNat = none ∧
      (∃ x, (healthOf t.gov.items (.tile id.toNat)).hist.head? = some (x, false)) ∧
      t = { s with gov := t.gov, lnk := { s.lnk with tiles := t.lnk.tiles } }))

/-- Capture of a source frame (R141, R143) and its completion (R142, R143, R146). The store taken among the free ones is a free
value: the statement holds whichever it is. -/
def Obligations.SourceFramesAreCaptured : Prop :=
  (∀ (n : Fin 4) (fmt : Fin 4) (dep : Fin 3) (il : Bool) (sdps : Nat) (s : State), s.isHead = true →
    s.getF (F.LAN_DPLINK_TRAIN n) = 3 → s.getF (F.ING_SSTAT_STATE n) ≠ 0 → (s.srcPlan n).enable = true →
    (s.src n).stopAtEnd = false → s.formatAgrees n fmt dep il = true → s.freeStores n ≠ [] →
    ∃ t i, exec (.sourceFrameStart n fmt dep il sdps) s = .next t ∧ i ∈ s.freeStores n ∧
      t.getF (F.ING_SSTAT_STATE n) = 2 ∧ t.getF (F.ING_SSTAT_WRITING n) = i % 4 ∧
      (t.src n).filling = (s.src n).filling ++ [i] ∧ (t.src n).holdFrom = none ∧
      (tabGet {} (t.src n).stores i).complete = false ∧ (tabGet {} (t.src n).stores i).x = s.actF (F.ING_WINPOS_X n) ∧
      (tabGet {} (t.src n).stores i).y = s.actF (F.ING_WINPOS_Y n) ∧ (tabGet {} (t.src n).stores i).w = s.actF (F.ING_WINSIZE_W n) ∧
      (tabGet {} (t.src n).stores i).h = s.actF (F.ING_WINSIZE_H n) ∧
      t.getF (F.LAN_DPLINK_SDP_DROP n) = min (s.getF (F.LAN_DPLINK_SDP_DROP n) + sdps) 255 ∧
      s.regsKept t [A.ING_SSTAT n, A.LAN_DPLINK n] ∧ t = { s with regs := t.regs, ing := t.ing, fresh := t.fresh }) ∧
  (∀ (n : Fin 4) (fmt : Fin 4) (dep : Fin 3) (il : Bool) (sdps : Nat) (s : State), s.isHead = true →
    s.getF (F.LAN_DPLINK_TRAIN n) = 3 → s.getF (F.ING_SSTAT_STATE n) ≠ 0 → (s.srcPlan n).enable = true →
    (s.src n).stopAtEnd = false → s.formatAgrees n fmt dep il = true → s.freeStores n = [] →
    ∃ t, exec (.sourceFrameStart n fmt dep il sdps) s = .next t ∧ t.getF (F.ING_SSTAT_STATE n) = 2 ∧
      t.getF (F.ING_SSTAT_DROPS n) = min (s.getF (F.ING_SSTAT_DROPS n) + 1) 255 ∧ t.bit F.SCN_EVT_SRC_DROP n = true ∧
      t.src n = { s.src n with holdFrom := none } ∧
      s.regsKept t [A.ING_SSTAT n, A.LAN_DPLINK n, A.SCN_EVT] ∧ t = { s with regs := t.regs, ing := t.ing }) ∧
  (∀ (n : Fin 4) (fmt : Fin 4) (dep : Fin 3) (il : Bool) (sdps : Nat) (s : State), s.isHead = true →
    s.getF (F.LAN_DPLINK_TRAIN n) = 3 → s.getF (F.ING_SSTAT_STATE n) ≠ 0 → (s.srcPlan n).enable = true →
    (s.src n).stopAtEnd = false → s.formatAgrees n fmt dep il = false →
    ∃ t, exec (.sourceFrameStart n fmt dep il sdps) s = .next t ∧ t.getF (F.ING_SSTAT_STATE n) = 3 ∧
      t.getF (F.ING_SSTAT_FMT_ERR n) = min (s.getF (F.ING_SSTAT_FMT_ERR n) + 1) 255 ∧ (t.src n).filling = (s.src n).filling ∧
      (t.src n).stores = (s.src n).stores ∧ (s.getF (F.ING_SSTAT_STATE n) = 2 → t.bit F.SCN_EVT_SRC_HOLD n = true) ∧
      s.regsKept t [A.ING_SSTAT n, A.LAN_DPLINK n, A.SCN_EVT] ∧ t = { s with regs := t.regs, ing := t.ing }) ∧
  (∀ (n : Fin 4) (fmt : Fin 4) (dep : Fin 3) (il : Bool) (sdps : Nat) (s : State), s.isHead = true →
    s.getF (F.LAN_DPLINK_TRAIN n) = 3 → s.getF (F.ING_SSTAT_STATE n) ≠ 0 → (s.srcPlan n).enable = true →
    (s.src n).stopAtEnd = true →
    ∃ t, exec (.sourceFrameStart n fmt dep il sdps) s = .next t ∧
      t.getF (F.ING_SSTAT_STATE n) = (if (s.src n).filling = [] then 0 else s.getF (F.ING_SSTAT_STATE n)) ∧
      (t.src n).stopAtEnd = !(s.src n).filling.isEmpty ∧ (t.src n).filling = (s.src n).filling ∧ (t.src n).stores = (s.src n).stores ∧
      s.regsKept t [A.ING_SSTAT n, A.LAN_DPLINK n, A.SCN_EVT] ∧ t = { s with regs := t.regs, ing := t.ing }) ∧
  (∀ (n : Fin 4) (fmt : Fin 4) (dep : Fin 3) (il : Bool) (sdps : Nat) (s : State), s.isHead = true →
    s.getF (F.LAN_DPLINK_TRAIN n) = 3 → (s.getF (F.ING_SSTAT_STATE n) = 0 ∨ (s.srcPlan n).enable = false) →
    ∃ t, exec (.sourceFrameStart n fmt dep il sdps) s = .next t ∧ s.onlyRegs t [A.LAN_DPLINK n] ∧
      s.wrote t (F.LAN_DPLINK_SDP_DROP n) (min (s.getF (F.LAN_DPLINK_SDP_DROP n) + sdps) 255)) ∧
  (∀ (n : Fin 4) (i : Nat) (rest : List Nat) (s : State), (s.src n).filling = i :: rest → s.memRuns = true →
    ∃ t st, exec (.storeComplete n) s = .next t ∧ st = { tabGet {} (s.src n).stores i with complete := true } ∧
      t.getF (F.ING_SSTAT_NEWEST n) = i % 4 ∧ t.getF (F.ING_SSTAT_HAVE n) = 1 ∧ (t.src n).filling = rest ∧
      (t.src n).stores = tabPut (s.src n).stores i st ∧
      (t.src n).stopAtEnd = ((s.src n).stopAtEnd && !rest.isEmpty) ∧
      t.getF (F.ING_SSTAT_STATE n) = (if (s.src n).stopAtEnd = true ∧ rest = [] then 0 else s.getF (F.ING_SSTAT_STATE n)) ∧
      t.core.mem = (s.storeWrite n i st).core.mem ∧
      (∀ a, (a < lpddr (s.storeBase n i) ∨ lpddr (s.storeBase n i) + st.planes.size ≤ a) → memGet t.core.mem a = memGet s.core.mem a) ∧
      s.regsKept t [A.ING_SSTAT n, A.SCN_EVT] ∧
      t = { s with regs := t.regs, ing := t.ing, core := { s.core with mem := t.core.mem } }) ∧
  (∀ (n : Fin 4) (s : State), ((s.src n).filling = [] ∨ s.memRuns = false) → exec (.storeComplete n) s = .next s)

/-- `ING_CTL` (R146).
Read underruns (R157), retirement (R158, R178), self-refresh (R160, R161). -/
def Obligations.CapturesStopReadsAndMemorySleep : Prop :=
  ((∀ (who : Initiator) (mask : BitVec 4) (s : State), s.mayWrite who A.ING_CTL →
    ∃ t, exec (.captureStop who mask) s = .next t ∧ t.bus = ⟨0, false⟩ ∧ t.getF F.ING_CTL_STOP = s.getF F.ING_CTL_STOP ||| mask.toNat ∧
      (∀ n, n < 4 → mask.getLsbD n = true → s.bit F.ING_CTL_STOP n = false → (s.src n).filling = [] →
        t.getF (F.ING_SSTAT_STATE n) = 0) ∧
      (∀ n, n < 4 → mask.getLsbD n = true → s.bit F.ING_CTL_STOP n = false → (s.src n).filling ≠ [] →
        t.getW (A.ING_SSTAT n) = s.getW (A.ING_SSTAT n) ∧ t.src n = { s.src n with stopAtEnd := true }) ∧
      (∀ n, n < 4 → (mask.getLsbD n = false ∨ s.bit F.ING_CTL_STOP n = true) →
        t.getW (A.ING_SSTAT n) = s.getW (A.ING_SSTAT n) ∧ t.src n = s.src n) ∧
      s.regsKept t [A.ING_CTL, A.ING_SSTAT 0, A.ING_SSTAT 1, A.ING_SSTAT 2, A.ING_SSTAT 3, A.SCN_EVT] ∧
      t = { s with regs := t.regs, ing := t.ing, bus := t.bus }) ∧
  (∀ (who : Initiator) (mask : BitVec 4) (s : State), s.mayWrite who A.ING_CTL →
    ∃ t, exec (.captureStart who mask) s = .next t ∧ t.bus = ⟨0, false⟩ ∧
      t.getF F.ING_CTL_STOP = s.getF F.ING_CTL_STOP &&& (15 - mask.toNat) ∧
      (∀ n, n < 4 → mask.getLsbD n = true → s.bit F.ING_CTL_STOP n = true →
        t.getF (F.ING_SSTAT_STATE n) = (if s.getF (F.ING_SSTAT_STATE n) = 0 ∧ (s.srcPlan n).enable = true then 1
          else s.getF (F.ING_SSTAT_STATE n)) ∧
        t.src n = { s.src n with stopAtEnd := false, changed := false } ∧
        ((s.src n).changed = true → Emission.hpdPulse n ∈ t.out)) ∧
      (∀ n, n < 4 → (mask.getLsbD n = false ∨ s.bit F.ING_CTL_STOP n = false) →
        t.getW (A.ING_SSTAT n) = s.getW (A.ING_SSTAT n) ∧ t.src n = s.src n) ∧
      s.regsKept t [A.ING_CTL, A.ING_SSTAT 0, A.ING_SSTAT 1, A.ING_SSTAT 2, A.ING_SSTAT 3] ∧
      t = { s with regs := t.regs, ing := t.ing, bus := t.bus, out := t.out })) ∧
  ((∀ (e : Fin 64) (x : Nat) (s : State), s.isHead = true →
    ∃ t, exec (.readUnderrun e x) s = .next t ∧ s.regsKept t [A.SCN_UNDERRUN, A.SCN_EVT] ∧ t.getF F.SCN_UNDERRUN_ENGINE = e.val ∧
      t.getF F.SCN_UNDERRUN_COUNT = min (s.getF F.SCN_UNDERRUN_COUNT + 1) 65535 ∧ t.getF F.SCN_EVT_UNDERRUN = 1 ∧
      (∀ st, nth s.plan.comp.stripes (e.val / 16) (0, 0) = st → ∀ c, x ≤ c → st.1 ≤ c → c < st.1 + st.2 →
        t.cutAt (e.val % 16) c (s.lineNow - s.plan.ingest.leadLines) = true) ∧
      t = { s with regs := t.regs, ing := { s.ing with cuts := t.ing.cuts } }) ∧
  (∀ (l : Fin 16) (b : Nat) (rest : List Nat) (s : State), tabGet [] s.ing.unretired l.val = b :: rest →
    (s.flowBuilding = false ∨ s.cmp.flowReads.contains (l.val, b) = false) →
    ∃ t, exec (.bufferRetire l) s = .next t ∧ t = { s with regs := t.regs, ing := t.ing } ∧
      t.ing = { s.ing with unretired := tabPut s.ing.unretired l.val rest } ∧ s.regsKept t [A.SCN_LSTAT l, A.SCN_EVT] ∧
      t.getF (F.SCN_LSTAT_RETIRE l) = (s.getF (F.SCN_LSTAT_RETIRE l) + 1) % 65536 ∧
      t.getF (F.SCN_LSTAT_FLIPS l) = s.getF (F.SCN_LSTAT_FLIPS l) ∧ t.getF F.SCN_EVT_RETIRED = 1) ∧
  (∀ (l : Fin 16) (b : Nat) (rest : List Nat) (s : State), tabGet [] s.ing.unretired l.val = b :: rest →
    s.getF F.CMP_STAT_FLOW = 2 → s.cmp.flowDone = none → s.cmp.flowReads.contains (l.val, b) = true →
    exec (.bufferRetire l) s = .next s) ∧
  (∀ (cs : List MemClient) (s : State), s.isHead = true → s.boot.memReady = true → s.plan.ingest.srEnable = true →
    (∀ c ∈ cs, s.plan.ingest.srMinUs * 1000 ≤ s.tolerance c) → s.flag F.SCN_STAT_MEM_SR = false →
    ∃ t, exec (.memSelfRefreshEntry cs false) s = .next t ∧ t = { s with regs := t.regs, ing := t.ing } ∧
      s.regsKept t [A.SCN_STAT] ∧ s.wrote t F.SCN_STAT_MEM_SR 1 ∧
      t.ing = { s.ing with srIn := some s.now, srEntries := s.ing.srEntries + 1 }) ∧
  (∀ (cs : List MemClient) (busy : Bool) (s : State),
    (busy = true ∨ ∃ c ∈ cs, s.tolerance c < s.plan.ingest.srMinUs * 1000) → exec (.memSelfRefreshEntry cs busy) s = .next s) ∧
  (∀ (cs : List MemClient) (m : MemClient) (c : Nat) (s : State), s.ing.srIn = some c → m ∈ cs →
    s.tolerance m ≤ (3 + s.plan.ingest.srGuardUs) * 1000 →
    ∃ t, exec (.memSelfRefreshExit cs) s = .next t ∧ t = { s with regs := t.regs, ing := t.ing } ∧
      s.regsKept t [A.SCN_STAT] ∧ s.wrote t F.SCN_STAT_MEM_SR 0 ∧
      t.ing = { s.ing with srIn := none, srSum := s.ing.srSum + (s.now - c) }))

/-- Shutter inputs (R152); what a recorded start does to TB1 and TB2 (R313) is left to the time statements. -/
def Obligations.ExposuresAreRecorded : Prop :=
  (∀ (j : Fin 2) (s : State), s.isHead = true → (s.shut j).level = nth s.plan.ingest.shutterPolarity j false →
    (s.shut j).thisStart = none →
    ∃ t, exec (.shutterEdge j (!(nth s.plan.ingest.shutterPolarity j false))) s = .next t ∧
      t.getF (F.SCN_SHUT_START j) = (s.now - s.tim.frameAt) / 4 % 2 ^ 24 ∧
      t.getF (if j = 0 then F.SCN_STAT_SHUT0_OK else F.SCN_STAT_SHUT1_OK) = 1 ∧
      (t.shut j).thisStart = some ((s.now - s.tim.frameAt) / 4) ∧ (t.shut j).openAt = some s.now ∧
      (t.shut j).level = !(nth s.plan.ingest.shutterPolarity j false)) ∧
  (∀ (j : Fin 2) (s : State) (u : Nat), s.isHead = true → (s.shut j).level = nth s.plan.ingest.shutterPolarity j false →
    (s.shut j).thisStart = some u →
    ∃ t, exec (.shutterEdge j (!(nth s.plan.ingest.shutterPolarity j false))) s = .next t ∧ t = { s with ing := t.ing } ∧
      t.shut j = { s.shut j with level := !(nth s.plan.ingest.shutterPolarity j false) }) ∧
  (∀ (j : Fin 2) (s : State) (c : Nat), s.isHead = true → (s.shut j).level ≠ nth s.plan.ingest.shutterPolarity j false →
    (s.shut j).openAt = some c →
    ∃ t, exec (.shutterEdge j (nth s.plan.ingest.shutterPolarity j false)) s = .next t ∧
      t.getF (F.SCN_SHUTW_WIDTH j) = (s.now - c) / 4 % 2 ^ 24 ∧ s.regsKept t [A.SCN_SHUTW j] ∧ (t.shut j).openAt = none ∧
      t = { s with regs := t.regs, ing := t.ing }) ∧
  (∀ (j : Fin 2) (s : State), s.isHead = true → (s.shut j).thisStart = none → (s.shut j).lastStart = none →
    ∃ t, exec (.shutterLost j) s = .next t ∧ t.bit F.SCN_EVT_SHUT_LOST j = true ∧
      t.getF (if j = 0 then F.SCN_STAT_SHUT0_OK else F.SCN_STAT_SHUT1_OK) = 0)

/-- `CMP_COEFDATA` (R169). -/
def Obligations.CoefficientsAreLoaded : Prop :=
  (∀ (who : Initiator) (v : BitVec 12) (s : State), s.mayWrite who A.CMP_COEFDATA →
    s.bankBusy (s.getF F.CMP_COEFADDR_LAYER) (s.getF F.CMP_COEFADDR_BANK) = false →
    (s.getF F.CMP_COEFADDR_DIR = 0 ∨ s.getF F.CMP_COEFADDR_TAP < 6) →
    ∃ t, exec (.coefWrite who v) s = .next t ∧ t.bus = ⟨0, false⟩ ∧
      t.coef (s.getF F.CMP_COEFADDR_LAYER) (s.getF F.CMP_COEFADDR_BANK) (s.getF F.CMP_COEFADDR_DIR)
        (s.getF F.CMP_COEFADDR_PHASE) (s.getF F.CMP_COEFADDR_TAP) = toSigned 12 v.toNat ∧
      (∀ l b d ph tap, l < 8 → b < 2 → d < 2 → ph < 64 → tap < 8 →
        (l, b, d, ph, tap) ≠ (s.getF F.CMP_COEFADDR_LAYER, s.getF F.CMP_COEFADDR_BANK, s.getF F.CMP_COEFADDR_DIR,
          s.getF F.CMP_COEFADDR_PHASE, s.getF F.CMP_COEFADDR_TAP) → t.coef l b d ph tap = s.coef l b d ph tap) ∧
      s.regsKept t [A.CMP_COEFADDR] ∧ (s.flag F.CMP_COEFADDR_INC = false → t.regs = s.regs) ∧
      (s.flag F.CMP_COEFADDR_INC = true → t.getF F.CMP_COEFADDR_TAP = (s.getF F.CMP_COEFADDR_TAP + 1) % 8 ∧
        t.getF F.CMP_COEFADDR_PHASE =
          (if s.getF F.CMP_COEFADDR_TAP = 7 then (s.getF F.CMP_COEFADDR_PHASE + 1) % 64 else s.getF F.CMP_COEFADDR_PHASE)) ∧
      t = { s with regs := t.regs, cmp := { s.cmp with coef := t.cmp.coef }, bus := t.bus }) ∧
  (∀ (who : Initiator) (v : BitVec 12) (s : State), s.mayWrite who A.CMP_COEFDATA →
    s.bankBusy (s.getF F.CMP_COEFADDR_LAYER) (s.getF F.CMP_COEFADDR_BANK) = false →
    s.getF F.CMP_COEFADDR_DIR = 1 → 6 ≤ s.getF F.CMP_COEFADDR_TAP →
    ∃ t, exec (.coefWrite who v) s = .next t ∧ t.bus = ⟨0, false⟩ ∧ s.onlyBus t [A.CMP_COEFADDR]) ∧
  (∀ (who : Initiator) (v : BitVec 12) (s : State), s.mayWrite who A.CMP_COEFDATA →
    s.bankBusy (s.getF F.CMP_COEFADDR_LAYER) (s.getF F.CMP_COEFADDR_BANK) = true →
    ∃ t, exec (.coefWrite who v) s = .next t ∧ t.bus = ⟨0, false⟩ ∧ s.onlyBus t [A.CMP_EVT] ∧ t.getF F.CMP_EVT_COEF_BUSY = 1)

/-- `CMP_CTL` (R174, R178, R183), Flowstone's times (R177), held layers (R165), own-panel buffers (R188). -/
def Obligations.CompositionStopsAndCaches : Prop :=
  (∀ (who : Initiator) (s : State), s.mayWrite who A.CMP_CTL → s.flag F.CMP_CTL_STOP = false → s.getF F.GEO_STAT_ACTIVE = 31 →
    ∃ t, exec (.compStop who) s = .next t ∧ t.bus = ⟨0, false⟩ ∧ s.onlyBus t [A.CMP_CTL, A.CMP_STAT] ∧ t.getF F.CMP_CTL_STOP = 1 ∧
      t.getF F.CMP_STAT_STATE = (if s.getF F.CMP_STAT_STATE = 2 then 1 else s.getF F.CMP_STAT_STATE)) ∧
  (∀ (who : Initiator) (s : State), s.mayWrite who A.CMP_CTL → s.getF F.GEO_STAT_ACTIVE ≠ 31 →
    ∃ t, exec (.compStop who) s = .next t ∧ t.bus = ⟨0, false⟩ ∧ s.onlyBus t [A.CMP_EVT] ∧ t.getF F.CMP_EVT_STOP_GUARD = 1) ∧
  (∀ (who : Initiator) (s : State), s.mayWrite who A.CMP_CTL → s.flag F.CMP_CTL_STOP = true →
    ∃ t, exec (.compStart who) s = .next t ∧ t.bus = ⟨0, false⟩ ∧ s.onlyBus t [A.CMP_CTL, A.CMP_STAT] ∧ t.getF F.CMP_CTL_STOP = 0 ∧
      t.getF F.CMP_STAT_STATE = 2 ∧ t.getF F.CMP_STAT_FLOW = s.getF F.CMP_STAT_FLOW) ∧
  (∀ (who : Initiator) (s : State), s.mayWrite who A.CMP_CTL → s.getF F.CMP_STAT_FLOW ≠ 0 →
    (s.flag F.CMP_CTL_STOP = true → s.getF F.GEO_STAT_ACTIVE = 31) →
    ∃ t, exec (.flowReq who) s = .next t ∧ t.bus = ⟨0, false⟩ ∧ t.getF F.CMP_STAT_FLOW = 2 ∧
      t.getF F.CMP_CTL_STOP = s.getF F.CMP_CTL_STOP ∧
      (s.getF F.CMP_STAT_FLOW = 2 → s.cmp.flowDone = none →
        t.getF F.CMP_FLOW_ABANDONED = min (s.getF F.CMP_FLOW_ABANDONED + 1) 65535 ∧ t.getF F.CMP_EVT_FLOW_ABANDON = 1) ∧
      s.regsKept t [A.CMP_STAT, A.CMP_FLOW, A.CMP_EVT] ∧
      t = { s with
        regs := t.regs
        bus := t.bus
        cmp := { s.cmp with
          flowDone := none
          flowReads := s.plan.comp.group.map (fun l => (l, s.actF (F.SCN_LBASE_ADDR l))) } }) ∧
  (∀ (who : Initiator) (s : State), s.mayWrite who A.CMP_CTL → s.getF F.CMP_STAT_FLOW = 0 →
    (s.flag F.CMP_CTL_STOP = true → s.getF F.GEO_STAT_ACTIVE = 31) → exec (.flowReq who) s = .next (s.busOk 0)) ∧
  (∀ s : State, s.isHead = true → s.getF F.CMP_STAT_FLOW = 1 →
    ∃ t, exec .flowSettleExpiry s = .next t ∧ t.getF F.CMP_STAT_FLOW = 2 ∧ s.regsKept t [A.CMP_STAT] ∧
      t = { s with
        regs := t.regs
        cmp := { s.cmp with
          flowDone := none
          flowReads := s.plan.comp.group.map (fun l => (l, s.actF (F.SCN_LBASE_ADDR l))) } }) ∧
  (∀ s : State, s.isHead = true → s.getF F.CMP_STAT_FLOW = 2 → s.cmp.flowDone = none → s.memRuns = true →
    ∃ t, exec .flowRebuildDone s = .next t ∧ t.getF F.CMP_FLOW_BUILDS = min (s.getF F.CMP_FLOW_BUILDS + 1) 65535 ∧
      s.regsKept t [A.CMP_FLOW] ∧ t.cmp = { s.cmp with flowDone := some s.now, flowReads := [] } ∧
      (∀ a, (∀ f, f < s.facets → s.groupLayers f ≠ [] →
          a < lpddr (s.flowAddr f (1 - s.cmp.flowHalf) (s.flowBox f).x0 (s.flowBox f).y0) ∨
          lpddr (s.flowAddr f (1 - s.cmp.flowHalf) (s.flowBox f).x0 (s.flowBox f).y0) +
            12 * (((s.flowBox f).x1 - (s.flowBox f).x0) * ((s.flowBox f).y1 - (s.flowBox f).y0)) ≤ a) →
        memGet t.core.mem a = memGet s.core.mem a) ∧
      t = { s with regs := t.regs, cmp := t.cmp, core := { s.core with mem := t.core.mem } }) ∧
  (∀ (v : Fin 8) (c : Fin 4) (s : State), s.isHead = true → (s.layer v).capture = some c →
    (nth s.plan.comp.vl v {}).onHold ≠ 0 → (s.src c).holdFrom ≠ none →
    ∃ t, exec (.layerHoldExpiry v) s = .next t ∧
      t = { s with cmp := { s.cmp with holdOut := t.cmp.holdOut } } ∧ (v.val, s.newestStamp c) ∈ t.cmp.holdOut) ∧
  (∀ (f : Fin 4) (s : State), s.composing = true → f.val < s.facets → s.facetImage f = s.imageNow →
    s.lineComposed (panelLine s.plan.comp.own 0 256) = true → s.ownRead f ((s.facetImage f).toNat / s.facets % 2) = false →
    ∃ t half base, exec (.ownBufferComplete f) s = .next t ∧ half = (s.facetImage f).toNat / s.facets % 2 ∧
      base = lpddr (s.ownBase f half) ∧
      t.core.mem = (s.ownWrite f half (s.facetImage f)).core.mem ∧
      (∀ a, (a < base ∨ base + 393216 ≤ a) → memGet t.core.mem a = memGet s.core.mem a) ∧
      tabGet 0 t.cmp.ownDone (f.val, half) = s.facetImage f ∧
      t = { s with cmp := { s.cmp with ownDone := t.cmp.ownDone }, core := { s.core with mem := t.core.mem } })

/-- Geode commands (R180 to R182). -/
def Obligations.GeodeCommandsAreAcceptedOrRejected : Prop :=
  (∀ (m : GeodeMsg) (s : State), s.isHead = true → s.released = true → s.geodeAccepts m = true → s.smp.save = none →
    ∃ t, exec (.geodeCommand m) s = .next t ∧ t.geo.counter = m.counter ∧
      t.geo.pending = s.geo.pending ++ [⟨if m.set = 255 then 31 else m.set, m.counter,
        if m.target = 0 then s.imageNow + BitVec.ofNat 32 s.plan.comp.geodeLead else m.target⟩] ∧
      t.smp.sys.geodeCounter = m.counter ∧ t.smp.sys.geodeSet = (if m.set = 255 then 31 else m.set) ∧
      (t.smp.save.map (fun x => x.kind)) = some (.record 1) ∧ t.getF F.GEO_CNT_COUNTER = m.counter.toNat % 2 ^ 32 ∧
      t.getF F.GEO_EVT_ACCEPT = 1 ∧ s.regsKept t [A.GEO_CNT, A.GEO_EVT, A.SMP_STAT] ∧
      (s.paired = true → t.lnk.own.length = s.lnk.own.length + 1) ∧ (s.paired = false → t.lnk = s.lnk)) ∧
  (∀ (m : GeodeMsg) (target : Word) (s : State), s.isHead = true → s.released = true → s.geodeAccepts m = true → s.smp.save = none →
    ∃ t, exec (.geodeRelayReceived m target) s = .next t ∧ t.geo.counter = m.counter ∧
      t.geo.pending = s.geo.pending ++ [⟨if m.set = 255 then 31 else m.set, m.counter, target⟩] ∧
      t.smp.sys.geodeCounter = m.counter ∧ t.getF F.GEO_EVT_ACCEPT = 1 ∧ t.lnk = s.lnk ∧
      s.regsKept t [A.GEO_CNT, A.GEO_EVT, A.SMP_STAT] ∧
      (∀ i, s.tim.image = some i → 0 ≤ diff32 i target → t.getF F.GEO_EVT_LATE = 1)) ∧
  (∀ (m : GeodeMsg) (target : Word) (s : State), s.isHead = true → s.released = true →
    (m.form = false ∨ ecdsaOk s.geodeKey (m.bytes.take 32) m.sig = false ∨ m.wallId ≠ s.plan.wall.id ∨ m.counter ≤ s.geo.counter ∨ s.geodeSetOk m.set = false) →
    (∃ t, exec (.geodeCommand m) s = .next t ∧ s.onlyRegs t [A.GEO_EVT] ∧ t.getF F.GEO_EVT_REJECT = 1) ∧
    (∃ t, exec (.geodeRelayReceived m target) s = .next t ∧ s.onlyRegs t [A.GEO_EVT] ∧ t.getF F.GEO_EVT_REJECT = 1)) ∧
  (∀ (m : GeodeMsg) (target : Word) (s : State), (s.isHead = false ∨ s.released = false) →
    exec (.geodeCommand m) s = .next s ∧ exec (.geodeRelayReceived m target) s = .next s)

/-- `SLICE_DECODED` (R190 to R197, R211, R212): the Clear path whole, and the refusals; the blocks of a Packed slice are the
decoding functions of Codec.lean, of which the tests show the spec's examples. -/
def Obligations.DecodedSlicesCommitOrCount : Prop :=
  (∀ (x : SliceIn) (rest : List SliceIn) (s : State), s.dec.staging = x :: rest →
    s.handedOver x.hdr.image x.hdr.facet.toNat = true →
    ∃ t, exec .sliceDecoded s = .next t ∧ t.dec = { s.dec with staging := rest } ∧
      t.getF F.DEC_CNT1_LATE = min (s.getF F.DEC_CNT1_LATE + 1) 65535 ∧ t.getF F.DEC_EVT_LATE = 1 ∧
      s.regsKept t [A.DEC_STAT, A.DEC_CNT1, A.DEC_EVT] ∧ t = { s with regs := t.regs, dec := t.dec }) ∧
  (∀ (x : SliceIn) (rest : List SliceIn) (code : Nat) (s : State), s.dec.staging = x :: rest →
    s.handedOver x.hdr.image x.hdr.facet.toNat = false →
    ((31 < x.hdr.seq.toNat % 64 ∧ code = 2) ∨
      (x.hdr.seq.toNat % 64 ≤ 31 ∧ s.isPacked x.hdr.image x.hdr.facet.toNat = true ∧
        pkCheck x.payload (x.hdr.seq.toNat % 64) x.hdr.facet.toNat x.hdr.image = some code) ∨
      (x.hdr.seq.toNat % 64 ≤ 31 ∧ s.isPacked x.hdr.image x.hdr.facet.toNat = false ∧ clearDepth x.payload.length = none ∧ code = 6)) →
    ∃ t, exec .sliceDecoded s = .next t ∧ t.dec = { s.dec with staging := rest } ∧
      t.getF F.DEC_CNT0_SYNTAX = min (s.getF F.DEC_CNT0_SYNTAX + 1) 65535 ∧ t.getF F.DEC_EVT_SYNTAX = 1 ∧
      (s.getF F.DEC_ERRLOG_CODE = 0 → t.getF F.DEC_ERRLOG_CODE = code ∧ t.getF F.DEC_ERRLOG_FACET = x.hdr.facet.toNat ∧
        t.getF F.DEC_ERRLOG_IMAGE = x.hdr.image.toNat % 65536) ∧
      (s.getF F.DEC_ERRLOG_CODE ≠ 0 → t.getW A.DEC_ERRLOG = s.getW A.DEC_ERRLOG) ∧
      s.regsKept t [A.DEC_STAT, A.DEC_CNT0, A.DEC_EVT, A.DEC_ERRLOG] ∧ t = { s with regs := t.regs, dec := t.dec }) ∧
  (∀ (x : SliceIn) (rest : List SliceIn) (d f dest k : Nat) (s : State), s.dec.staging = x :: rest →
    f = x.hdr.facet.toNat → s.handedOver x.hdr.image f = false → k = x.hdr.seq.toNat % 64 → k ≤ 31 →
    s.isPacked x.hdr.image f = false → clearDepth x.payload.length = some (d, false) → x.hdr.geode = false →
    dest = s.clearBuf f (x.hdr.image.toNat / s.facets) → dest < 12 → s.destBad x.hdr dest = false →
    ∃ t, exec .sliceDecoded s = .next t ∧ t.dec.staging = rest ∧
      (∀ i, i < 32 → tabGet [] (t.decBuf dest).pix (32 * k + i) =
        ((clearBlocks x.payload d 0).getD i { codes := [], clean := false, geode := false }).codes.map (fun v => v <<< (16 - d))) ∧
      (t.decBuf dest).present.getLsbD k = true ∧ tabGet 0 (t.decBuf dest).depth k = d ∧
      (t.facetImg x.hdr.image f).dest = some dest ∧
      ((s.facetImg x.hdr.image f).dest = none → t.getF (F.DEC_BUF_HOLDS dest) = 1 ∧ t.getF (F.DEC_BUF_FACET dest) = f ∧
        t.getF (F.DEC_BUF_IMAGE dest) = x.hdr.image.toNat % 65536 ∧ (t.decBuf dest).present = BitVec.twoPow 32 k) ∧
      (∀ b, b ≠ dest → t.decBuf b = s.decBuf b) ∧ s.regsKept t [A.DEC_STAT, A.DEC_BUF dest] ∧
      t = { s with regs := t.regs, dec := t.dec })

/-- Block jobs (R216 to R221, R232). The engine's own choices among the codings that the rules allow are free values (log entry
17): the statement holds whichever they are. -/
def Obligations.BlockJobsAreQueuedCodedAndSkipped : Prop :=
  (∀ (j : BlockJob) (p : PanelMap) (s : State), s.panelOf j.tile = some p → s.composing = true → s.readyNow j p = true →
    s.isPacked j.image j.facet.val = false → s.enc.inflight.length < 16384 →
    ∃ t, exec (.encodeJobReady j) s = .next t ∧ t.enc.inflight = s.enc.inflight ++ [(j, max 1 (s.sliceSlots j).length)] ∧
      t.getF F.ENC_STAT_JOBS = s.enc.inflight.length + 1 ∧
      tabGet {} t.enc.payloads (s.payKey j) = ⟨j.image, s.clearPayload p j.facet.val j.slice.val j.image, .ready⟩ ∧
      t.enc.queue = s.enc.queue ∧ t.enc.running = s.enc.running ∧ s.regsKept t [A.ENC_STAT] ∧
      t = { s with regs := t.regs, enc := t.enc }) ∧
  (∀ (j : BlockJob) (p : PanelMap) (e budget base : Nat) (s : State), s.panelOf j.tile = some p → s.composing = true →
    s.readyNow j p = true → s.isPacked j.image j.facet.val = true → s.enc.inflight.length < 16384 →
    e = s.plan.codec.engineOf (s.variantFor j.image) j.tile →
    budget = s.plan.codec.budgetOf (s.variantFor j.image) j.facet.val j.tile j.slice.val → 16 ≤ budget →
    base = lpddr (s.reconAt j.facet j.tile (j.image.toNat / s.facets)) + 12288 * j.slice.val →
    ∃ t x, exec (.encodeJobReady j) s = .next t ∧ t.enc.inflight = s.enc.inflight ++ [(j, max 1 (s.sliceSlots j).length)] ∧
      t.getF F.ENC_STAT_JOBS = s.enc.inflight.length + 1 ∧ x.job = j ∧ x.ready = s.now ∧
      (tabGet {} t.enc.payloads (s.payKey j)).image = j.image ∧ (tabGet {} t.enc.payloads (s.payKey j)).state = .coding ∧
      (tabGet {} t.enc.payloads (s.payKey j)).bytes.length = budget ∧
      (∀ y, s.engineJob e = some y → y.begun ≠ s.now →
        t.engineJob e = some y ∧ tabGet [] t.enc.queue e = queueJob x (tabGet [] s.enc.queue e)) ∧
      (s.engineJob e = none → tabGet [] s.enc.queue e = [] →
        t.engineJob e = some { x with begun := s.now } ∧ tabGet [] t.enc.queue e = [] ∧ t.bit F.ENC_STAT_BUSY e = true) ∧
      (∀ a, (a < base ∨ base + 12288 ≤ a) → memGet t.core.mem a = memGet s.core.mem a) ∧
      s.regsKept t [A.ENC_STAT, A.ENC_PHASE] ∧ t = { s with regs := t.regs, enc := t.enc, core := { s.core with mem := t.core.mem } }) ∧
  (∀ (j : BlockJob) (p : PanelMap) (s : State), s.panelOf j.tile = some p → s.composing = true → s.readyNow j p = true →
    16384 ≤ s.enc.inflight.length →
    ∃ t, exec (.encodeJobReady j) s = .next t ∧ t.enc.inflight = s.enc.inflight ∧ t.enc.queue = s.enc.queue ∧
      t.enc.running = s.enc.running ∧ t.getF F.ENC_CNT0_JOBFULL = min (s.getF F.ENC_CNT0_JOBFULL + 1) 65535 ∧
      t.getF F.ENC_EVT_JOBFULL = 1 ∧
      tabGet {} t.enc.payloads (s.payKey j) = ⟨j.image, List.replicate (s.sliceLen j) 0, .dropped⟩ ∧
      s.regsKept t [A.ENC_CNT0, A.ENC_EVT] ∧ t = { s with regs := t.regs, enc := t.enc, core := { s.core with mem := t.core.mem } }) ∧
  (∀ (j : BlockJob) (p : PanelMap) (s : State), s.panelOf j.tile = some p → (s.composing = false ∨ s.readyNow j p = false) →
    exec (.encodeJobReady j) s = .next s) ∧
  (∀ (e : Fin 8) (x : EncJob) (s : State), s.engineJob e = some x →
    ∃ t, exec (.encodeJobDone e) s = .next t ∧
      (∀ y, s.enc.payloads.find? (fun p => decide (p.1 = s.payKey x.job)) = some (s.payKey x.job, y) → y.image = x.job.image →
        tabGet {} t.enc.payloads (s.payKey x.job) = { y with state := .ready }) ∧
      (∀ y rest, tabGet [] s.enc.queue e.val = y :: rest →
        t.engineJob e = some { y with begun := s.now } ∧ tabGet [] t.enc.queue e.val = rest ∧ t.bit F.ENC_STAT_BUSY e = true) ∧
      (tabGet [] s.enc.queue e.val = [] → t.engineJob e = none ∧ t.bit F.ENC_STAT_BUSY e = false) ∧
      (x.floor = true → t.getF F.ENC_CNT0_FLOOR = min (s.getF F.ENC_CNT0_FLOOR + 1) 65535 ∧ t.getF F.ENC_EVT_FLOOR = 1) ∧
      (x.intra = true → t.getF F.ENC_CNT1_INTRA_ONLY = min (s.getF F.ENC_CNT1_INTRA_ONLY + 1) 65535) ∧
      s.regsKept t [A.ENC_STAT, A.ENC_CNT0, A.ENC_CNT1, A.ENC_EVT] ∧
      t.enc.inflight = s.enc.inflight ∧ t = { s with regs := t.regs, enc := t.enc }) ∧
  (∀ (e : Fin 8) (x : EncJob) (rest : List EncJob) (s : State), tabGet [] s.enc.queue e.val = x :: rest → s.skipDue x = true →
    ∃ t, exec (.encodeJobSkip e) s = .next t ∧ tabGet [] t.enc.queue e.val = rest ∧ t.enc.running = s.enc.running ∧
      t.enc.inflight = s.enc.inflight.filter (fun y => !(y.1.isOf x.job.facet x.job.tile x.job.slice x.job.image)) ∧
      t.getF F.ENC_CNT1_SKIPJOB = min (s.getF F.ENC_CNT1_SKIPJOB + 1) 65535 ∧ t.getF F.ENC_EVT_SKIPJOB = 1 ∧
      tabGet {} t.enc.payloads (s.payKey x.job) = ⟨x.job.image, List.replicate (s.sliceLen x.job) 0, .dropped⟩ ∧
      s.regsKept t [A.ENC_STAT, A.ENC_CNT1, A.ENC_EVT] ∧ t = { s with regs := t.regs, enc := t.enc })

/-- The slice header (R196): written and read. -/
def Obligations.PackedHeadersRoundTrip : Prop :=
  ∀ (h : PkHdr) (rest : List Byte) (image : Word), h.slice < 32 → h.facet < 4 → h.depth < 3 → h.drip < 64 → h.dest < 12 →
    (h.ref < 12 ∨ h.ref = 15) → h.refImage < 65536 → h.refFacet < 4 → h.qbase < 32 → h.dataBits < 16777216 → h.gset < 16 →
    h.image = image.toNat % 65536 →
    (pkBytes h).length = 16 ∧ pkParse (pkBytes h ++ rest) = { h with mark := 0x5CA5, reserved := 0, hcrcOk := true } ∧
      pkCheck (pkBytes h ++ rest) h.slice h.facet image = none

/-- The packet header (R118): no field is dropped or overlaps another. -/
def Obligations.PacketHeadersRoundTrip : Prop :=
  ∀ (h : Hdr) (rest : List Byte), (hdrBytes h).length = 16 ∧ hdrParse (hdrBytes h ++ rest) = h

/-- Slots and lines (R238 to R246, R253, R254).
`LMP_CTL` (R255, R256), IREF (R252), unmeasured lamps (R272). -/
def Obligations.SlotsRunAndLampsStopStartAndBlank : Prop :=
  ((∀ (f : Fin 4) (s : State), f.val < s.facets → s.released = true → s.lmp.slot = none → s.slotsOk = true →
    ∃ t, exec (.slotPreloadStart f) s = .next t ∧ t.lmp.slot = some (s.takeSlot f) ∧ t.getF F.LMP_STAT_FACET = f.val ∧
      t.getF F.LMP_STAT_INSLOT = 1 ∧ t.getF F.LMP_STAT_SEG = 0 ∧ t.getF F.LMP_STAT_LINE = 0 ∧
      t.lmp.chain = s.columnsOf (s.takeSlot f) (s.rowAt 0) ∧
      t.getF F.CORR_STAT_INUSE = s.actF F.CORR_BANK_SEL ∧ s.regsKept t [A.LMP_STAT, A.CORR_STAT, A.LMP_EVT] ∧
      t = { s with regs := t.regs, lmp := t.lmp }) ∧
  (∀ (f : Fin 4) (x : SlotX) (s : State), f.val < s.facets → s.released = true → s.lmp.slot = some x →
    ∃ t, exec (.slotPreloadStart f) s = .next t ∧ t.lmp = { s.lmp with waiting := s.lmp.waiting ++ [f.val] } ∧
      t.getF F.LMP_CNT_SLOT_LATE = min (s.getF F.LMP_CNT_SLOT_LATE + 1) 65535 ∧ t.getF F.LMP_EVT_SLOT_LATE = 1 ∧
      s.regsKept t [A.LMP_CNT, A.LMP_EVT] ∧ t = { s with regs := t.regs, lmp := t.lmp }) ∧
  (∀ (f : Fin 4) (s : State), f.val < s.facets → s.released = true → s.lmp.slot = none → s.slotsOk = false →
    exec (.slotPreloadStart f) s = .next { s with lmp := { s.lmp with waiting := [] } }) ∧
  (∀ (l : List LampSample) (x : SlotX) (p n : Nat × Nat) (s : State), s.lmp.slot = some x → s.lmp.softPend = false →
    p = nextLine x.preload (s.getF F.LMP_STAT_SEG) (s.getF F.LMP_STAT_LINE) → p.1 < s.segments → n = nextLine false p.1 p.2 →
    ∃ t, exec (.lineStart l) s = .next t ∧ t.getF F.LMP_STAT_SEG = p.1 ∧ t.getF F.LMP_STAT_LINE = p.2 ∧
      t.lmp.slot = some { x with preload := false, driven := x.driven || x.lit } ∧
      t.lmp.gate = (if x.lit then some (nth s.lmp.lineOrder p.2 p.2) else none) ∧ t.lmp.pieces = s.segPieces p.1 ∧
      t.lmp.latch = s.lmp.chain.map (fun v => v >>> (16 - s.getF F.LMP_PLANECFG_DEPTH)) ∧
      (x.lit = true → s.lmp.chain = s.columnsOf x (s.rowAt p.2) → ∀ k, k < 3072 → nth t.lmp.latch k 0 = s.grey x k (s.rowAt p.2)) ∧
      t.lmp.chain = (if n.1 < s.segments then s.columnsOf x (s.rowAt n.2) else [])) ∧
  (∀ (l : List LampSample) (x : SlotX) (s : State), s.lmp.slot = some x → s.lmp.softPend = true → s.lmp.waiting = [] →
    ∃ t, exec (.lineStart l) s = .next t ∧ t.lmp.slot = none ∧ t.lmp.gate = none ∧ t.lmp.softPend = false ∧
      t.getF F.LMP_STAT_INSLOT = 0 ∧
      (x.driven = true → t.getF F.LMP_EVT_BLANKED = 1 ∧ t.getF F.LMP_CNT_BLANKS = min (s.getF F.LMP_CNT_BLANKS + 1) 65535)) ∧
  (∀ (x : SlotX) (s : State), s.lmp.slot = some x → x.preload = false → s.lmp.waiting = [] →
    ∃ t, exec .slotEnd s = .next t ∧ t.lmp.slot = none ∧ t.lmp.gate = none ∧ t.lmp.pieces = [] ∧ t.lmp.latch = [] ∧
      t.lmp.chain = [] ∧ t.getF F.LMP_STAT_INSLOT = 0)) ∧
  ((∀ (who : Initiator) (s : State), s.mayWrite who A.LMP_CTL → s.flag F.LMP_CTL_STOP = false → s.hardHeld = false →
    ∃ t, exec (.lampStop who) s = .next t ∧ t.bus = ⟨0, false⟩ ∧ t.getF F.LMP_CTL_STOP = 1 ∧
      t.getF F.LMP_STAT_STATE = (if s.lmp.slot.isSome then 1 else 0) ∧
      t.lmp = { s.lmp with softPend := s.lmp.slot.isSome } ∧ s.regsKept t [A.LMP_CTL, A.LMP_STAT] ∧
      t = { s with regs := t.regs, lmp := t.lmp, rail := { s.rail with rc := t.rail.rc }, bus := t.bus }) ∧
  (∀ (who : Initiator) (s : State), s.mayWrite who A.LMP_CTL → s.hardHeld = false →
    ∃ t, exec (.lampStart who) s = .next t ∧ t.bus = ⟨0, false⟩ ∧ t.getF F.LMP_CTL_STOP = 0 ∧ t.getF F.LMP_STAT_STATE = 2 ∧
      s.onlyBus t [A.LMP_CTL, A.LMP_STAT]) ∧
  (∀ (who : Initiator) (s : State), s.mayWrite who A.LMP_CTL → s.flag F.LMP_CTL_HARD = false →
    ∃ t, exec (.hardBlankRequest who) s = .next t ∧ t.bus = ⟨0, false⟩ ∧ t.getF F.LMP_CTL_HARD = 1 ∧
      t.getF F.LMP_STAT_STATE = 3 ∧ t.lmp.slot = none ∧ (s.lmp.slot ≠ none → t.lmp.gate = none ∧ t.getF F.LMP_STAT_INSLOT = 0) ∧
      t.getF F.LMP_EVT_HARD = 1 ∧ s.regsKept t [A.LMP_CTL, A.LMP_STAT, A.LMP_CNT, A.LMP_EVT]) ∧
  (∀ (who : Initiator) (s : State), s.mayWrite who A.LMP_CTL → s.lmp.tripHard = false → s.lmp.lossHard = false →
    s.flag F.LMP_CTL_STOP = false →
    ∃ t, exec (.hardBlankClear who) s = .next t ∧ t.bus = ⟨0, false⟩ ∧ t.getF F.LMP_CTL_HARD = 0 ∧ t.getF F.LMP_STAT_STATE = 2 ∧
      s.onlyBus t [A.LMP_CTL, A.LMP_STAT]) ∧
  (∀ (na : Nat) (s : State), s.running = true → 18000 ≤ na → na ≤ 110000 →
    ∃ t, exec (.irefMeasurement na) s = .next t ∧ s.onlyRegs t [A.LMP_IREF] ∧ t.getF F.LMP_IREF_NA = na ∧ t.getF F.LMP_IREF_BAD = 0) ∧
  (∀ (na : Nat) (s : State), s.running = true → (na < 18000 ∨ 110000 < na) →
    ∃ t, exec (.irefMeasurement na) s = .next t ∧ s.regsKept t [A.LMP_IREF, A.LMP_EVT] ∧ t.getF F.LMP_IREF_NA = min na 131071 ∧
      t.getF F.LMP_IREF_BAD = 1 ∧ t.getF F.LMP_EVT_IREF_BAD = 1 ∧ t.lmp = { s.lmp with softPend := s.lmp.slot.isSome } ∧
      t.slotsOk = false) ∧
  (∀ (i : Fin 196608) (s : State), s.running = true → s.lampAt i = 0 →
    ∃ t, exec (.lampUnmeasuredTimeout i) s = .next t ∧ t.lampAt i = 1 ∧
      t.getF F.CORR_FUNMEAS_COUNT = (s.getF F.CORR_FUNMEAS_COUNT + 1) % 2 ^ 18 ∧ t.getF F.CORR_EVT_UNMEAS = 1 ∧
      (∀ j, j < 196608 → j ≠ i.val → t.lampAt j = s.lampAt j) ∧
      s.regsKept t [A.CORR_FMAP (i.val / 16), A.CORR_FUNMEAS, A.CORR_EVT] ∧ t = { s with regs := t.regs, corr := t.corr }))

/-- Matrix banks (R261 to R266).
The fault map and the probe (R272 to R277). -/
def Obligations.MatrixBanksAndProbeSweeps : Prop :=
  ((∀ (who : Initiator) (v : BitVec 19) (s : State), s.mayWrite who A.CORR_MADDR → s.matrixBusy (v.getLsbD 18) = false →
    ∃ t, exec (.matrixAddressWrite who v) s = .next t ∧ t.bus = ⟨0, false⟩ ∧ s.onlyBus t [A.CORR_MADDR, A.CORR_STAT] ∧
      t.getF F.CORR_MADDR_WORD = v.toNat % 2 ^ 18 ∧ t.getF F.CORR_MADDR_BANK = (v.getLsbD 18).toNat ∧
      t.getF (validFld (v.getLsbD 18)) = 0) ∧
  (∀ (who : Initiator) (w : Word) (s : State), s.mayWrite who A.CORR_MDATA → s.matrixBusy (s.flag F.CORR_MADDR_BANK) = false →
    s.getF F.CORR_MADDR_WORD < 196608 →
    ∃ t, exec (.matrixWordWrite who w) s = .next t ∧ t.bus = ⟨0, false⟩ ∧
      t.matrixWord (s.flag F.CORR_MADDR_BANK) (s.getF F.CORR_MADDR_WORD) = w.toNat ∧
      (∀ a, (a < s.bankBase (s.flag F.CORR_MADDR_BANK).toNat + 4 * s.getF F.CORR_MADDR_WORD ∨
          s.bankBase (s.flag F.CORR_MADDR_BANK).toNat + 4 * s.getF F.CORR_MADDR_WORD + 4 ≤ a) →
        memGet t.core.mem a = memGet s.core.mem a) ∧
      t.getF F.CORR_MADDR_WORD = s.getF F.CORR_MADDR_WORD + 1 ∧ s.regsKept t [A.CORR_MADDR] ∧
      t = { s with regs := t.regs, core := { s.core with mem := t.core.mem }, bus := t.bus }) ∧
  (∀ (who : Initiator) (b : Bool) (s : State), s.mayWrite who A.CORR_CTL → s.matrixBusy b = false →
    ∃ t, exec (.bankSeal who b) s = .next t ∧ t.bus = ⟨0, false⟩ ∧ t.corr = { s.corr with sealing := s.corr.sealing ++ [⟨b, none⟩] } ∧
      t.getF F.CORR_STAT_SEALING = 1 ∧ s.regsKept t [A.CORR_STAT] ∧ t = { s with regs := t.regs, corr := t.corr, bus := t.bus }) ∧
  (∀ (who : Initiator) (b set1 : Bool) (s : State), s.mayWrite who A.CORR_CTL → s.matrixBusy b = false →
    s.flag F.CORR_STAT_FACT_OK = true → set1.toNat < s.getF F.CORR_STAT_FACT_SETS →
    ∃ t, exec (.factorySetLoad who b set1) s = .next t ∧ t.bus = ⟨0, false⟩ ∧
      memBytes t.core.mem (s.bankBase b.toNat) 786432 = (if set1 then s.corr.factory.set1 else s.corr.factory.set0).bytes ∧
      (∀ a, (a < s.bankBase b.toNat ∨ s.bankBase b.toNat + 786432 ≤ a) → memGet t.core.mem a = memGet s.core.mem a) ∧
      t.corr.sealing = s.corr.sealing ++ [⟨b, some (if set1 then s.corr.factory.crc1 else s.corr.factory.crc0)⟩] ∧
      t.getF (validFld b) = 0 ∧ t.getF F.CORR_STAT_SEALING = 1 ∧ s.regsKept t [A.CORR_STAT]) ∧
  (∀ (who : Initiator) (b set1 : Bool) (s : State), s.mayWrite who A.CORR_CTL → s.matrixBusy b = false →
    (s.flag F.CORR_STAT_FACT_OK = false ∨ s.getF F.CORR_STAT_FACT_SETS ≤ set1.toNat) →
    ∃ t, exec (.factorySetLoad who b set1) s = .next t ∧ s.onlyBus t [A.CORR_EVT] ∧ t.getF F.CORR_EVT_SEAL_FAIL = 1) ∧
  (∀ (who : Initiator) (b set1 : Bool) (v : BitVec 19) (w : Word) (s : State), s.mayWrite who A.CORR_CTL → s.matrixBusy b = true →
    (∃ t, exec (.bankSeal who b) s = .next t ∧ s.onlyBus t [A.CORR_EVT] ∧ t.getF F.CORR_EVT_BANK_BUSY = 1) ∧
    (∃ t, exec (.factorySetLoad who b set1) s = .next t ∧ s.onlyBus t [A.CORR_EVT] ∧ t.getF F.CORR_EVT_BANK_BUSY = 1) ∧
    (v.getLsbD 18 = b → ∃ t, exec (.matrixAddressWrite who v) s = .next t ∧ s.onlyBus t [A.CORR_EVT] ∧ t.getF F.CORR_EVT_BANK_BUSY = 1) ∧
    (s.flag F.CORR_MADDR_BANK = b →
      ∃ t, exec (.matrixWordWrite who w) s = .next t ∧ s.onlyBus t [A.CORR_EVT] ∧ t.getF F.CORR_EVT_BANK_BUSY = 1)) ∧
  (∀ (b : Bool) (rest : List SealJob) (s : State), s.corr.sealing = ⟨b, none⟩ :: rest →
    ∃ t, exec .bankSealDone s = .next t ∧ t.corr = { s.corr with sealing := rest } ∧ s.regsKept t [A.CORR_STAT, A.CORR_EVT] ∧
      t.getF F.CORR_STAT_SEALING = (!rest.isEmpty).toNat ∧
      (s.bankCrc b = s.getW A.CORR_MCRC → t.getF (validFld b) = 1 ∧ t.getF F.CORR_EVT_SEALED = 1) ∧
      (s.bankCrc b ≠ s.getW A.CORR_MCRC → t.getF (validFld b) = 0 ∧ t.getF F.CORR_EVT_SEAL_FAIL = 1)) ∧
  (∀ (b : Bool) (c : Word) (rest : List SealJob) (s : State), s.corr.sealing = ⟨b, some c⟩ :: rest →
    ∃ t, exec .factorySetLoadDone s = .next t ∧ t.corr = { s.corr with sealing := rest } ∧ s.regsKept t [A.CORR_STAT, A.CORR_EVT] ∧
      (s.bankCrc b = c → t.getF (validFld b) = 1 ∧ t.getF F.CORR_EVT_SEALED = 1) ∧
      (s.bankCrc b ≠ c → t.getF (validFld b) = 0 ∧ t.getF F.CORR_EVT_SEAL_FAIL = 1))) ∧
  ((∀ (who : Initiator) (s : State), s.mayWrite who A.CORR_CTL →
    ∃ t, exec (.faultMapClear who) s = .next t ∧ t.bus = ⟨0, false⟩ ∧ (∀ i, i < 196608 → t.lampAt i = 1) ∧
      t.getF F.CORR_FUNMEAS_COUNT = 196608 ∧ t.getF F.CORR_FOPEN_COUNT = 0 ∧ t.getF F.CORR_FSHORT_COUNT = 0 ∧
      t.corr = { s.corr with lamps := [], shorts := [] } ∧
      (∀ a, (a < A.CORR_FMAP 0 ∨ A.CORR_FMAP 12287 < a) → a ∉ [A.CORR_FUNMEAS, A.CORR_FOPEN, A.CORR_FSHORT] → t.getW a = s.getW a) ∧
      t = { s with regs := t.regs, corr := t.corr, bus := t.bus }) ∧
  (∀ (who : Initiator) (all : Bool) (s : State), s.mayWrite who A.CORR_CTL →
    s.flag F.CORR_PROBE_PENDING = false → s.flag F.CORR_STAT_PROBING = false →
    ∃ t, exec (.probeRequest who all) s = .next t ∧ t.bus = ⟨0, false⟩ ∧ t.getF F.CORR_PROBE_PENDING = 1 ∧
      t.corr = { s.corr with probeAll := all } ∧ s.regsKept t [A.CORR_PROBE] ∧ t = { s with regs := t.regs, corr := t.corr, bus := t.bus }) ∧
  (∀ (who : Initiator) (all : Bool) (s : State), s.mayWrite who A.CORR_CTL → s.flag F.CORR_STAT_PROBING = true →
    ∃ t, exec (.probeRequest who all) s = .next t ∧ t.bus = ⟨0, false⟩ ∧
      t = { s with bus := t.bus, corr := { s.corr with probeAll := all || s.corr.probeAll } }) ∧
  (∀ s : State, s.released = true → s.plan.corr.probePeriod ≠ 0 → s.getF F.CORR_FUNMEAS_COUNT ≠ 0 →
    s.flag F.CORR_PROBE_PENDING = false → s.flag F.CORR_STAT_PROBING = false →
    ∃ t, exec .probePeriodExpiry s = .next t ∧ t.getF F.CORR_PROBE_PENDING = 1 ∧ t.corr = { s.corr with probeAll := false } ∧
      s.regsKept t [A.CORR_PROBE]) ∧
  (∀ (left pre row : Nat) (l : List LampSample) (s : State),
    (s.flag F.CORR_PROBE_PENDING || s.flag F.CORR_STAT_PROBING) = true → s.getF F.LMP_STAT_STATE = 2 → s.stepTicks ≤ left →
    s.stepTicks + (s.getF F.LMP_LINECFG_BLANK + s.getF F.LMP_LINECFG_WINDOW) ≤ pre → s.lmp.slot = none →
    s.probeRow (s.getF F.CORR_PROBE_NEXT_ROW) = some row →
    ∃ t, exec (.probeStep left pre true l) s = .next t ∧ t.getF F.CORR_PROBE_NEXT_ROW = row ∧ t.getF F.CORR_STAT_PROBING = 1 ∧
      t.getF F.CORR_PROBE_PENDING = 0 ∧ s.regsKept t [A.CORR_PROBE, A.CORR_STAT] ∧
      t = { s with
        regs := t.regs
        corr := { s.corr with
          probe := some { row := row, sinks := s.probeTargets row, code := roundNear (s.plan.corr.probeUa * 4096) 12000 } } }) ∧
  (∀ (left pre row mv : Nat) (k : Fin 3072) (r : Fin 64) (s : State),
    (s.flag F.CORR_PROBE_PENDING || s.flag F.CORR_STAT_PROBING) = true → s.getF F.LMP_STAT_STATE = 2 → s.stepTicks ≤ left →
    s.stepTicks + (s.getF F.LMP_LINECFG_BLANK + s.getF F.LMP_LINECFG_WINDOW) ≤ pre → s.lmp.slot = none →
    s.probeRow (s.getF F.CORR_PROBE_NEXT_ROW) = some row → row = r.val → k.val ∈ s.probeTargets row → 1 ≤ s.plan.corr.sagCount →
    ∃ t, exec (.probeStep left pre false [⟨k, r, mv⟩]) s = .next t ∧
      t.lampAt (64 * k.val + row) = (if 2 ≤ s.lampAt (64 * k.val + row) then s.lampAt (64 * k.val + row)
        else match s.plan.corr.reads mv with | 0 => 0 | 1 => 2 | _ => 3) ∧
      (∀ j, j < 196608 → j ≠ 64 * k.val + row → t.lampAt j = s.lampAt j)) ∧
  (∀ (left pre : Nat) (b : Bool) (l : List LampSample) (s : State),
    (s.flag F.CORR_PROBE_PENDING || s.flag F.CORR_STAT_PROBING) = true → s.getF F.LMP_STAT_STATE = 2 → s.stepTicks ≤ left →
    s.stepTicks + (s.getF F.LMP_LINECFG_BLANK + s.getF F.LMP_LINECFG_WINDOW) ≤ pre → s.lmp.slot = none →
    s.probeRow (s.getF F.CORR_PROBE_NEXT_ROW) = none →
    ∃ t, exec (.probeStep left pre b l) s = .next t ∧ t.getF F.CORR_STAT_PROBING = 0 ∧ t.getF F.CORR_PROBE_PENDING = 0 ∧
      t.getF F.CORR_PROBE_NEXT_ROW = 0 ∧ t.getF F.CORR_CNT_SWEEPS = min (s.getF F.CORR_CNT_SWEEPS + 1) 65535 ∧
      t.getF F.CORR_EVT_SWEEP_DONE = 1 ∧ t.getF F.CORR_PROBE_LAMPS = s.corr.probeTargets % 2 ^ 18 ∧
      s.regsKept t [A.CORR_PROBE, A.CORR_STAT, A.CORR_CNT, A.CORR_EVT]) ∧
  (∀ (left pre : Nat) (b : Bool) (l : List LampSample) (s : State),
    ((s.flag F.CORR_PROBE_PENDING || s.flag F.CORR_STAT_PROBING) = false ∨ s.getF F.LMP_STAT_STATE ≠ 2 ∨ left < s.stepTicks ∨
      pre < s.stepTicks + (s.getF F.LMP_LINECFG_BLANK + s.getF F.LMP_LINECFG_WINDOW) ∨ s.lmp.slot ≠ none) →
    exec (.probeStep left pre b l) s = .next s))

/-- `RAIL_TURN` (R283 to R296). -/
def Obligations.RailTurnsMeasureAndRegulate : Prop :=
  (∀ (v : Fin 4096) (i : List (Fin 1024)) (a : Fin 1024) (tick n : Nat) (s : State), s.running = true →
    n = s.getF F.RAIL_PWM_PHASES → 1 ≤ n → n ≤ 4 → s.railOn = true → s.flag F.RAIL_CTL_STOP = false →
    s.actF F.RAIL_DLIM_DMIN ≤ s.actF F.RAIL_DLIM_DMAX →
    ∃ t, exec (.railTurn v i a tick) s = .next t ∧ t.rail.phase = (s.rail.phase % n + 1) % n ∧
      s.actF F.RAIL_DLIM_DMIN ≤ t.getF F.RAIL_MEAS_DUTY ∧ t.getF F.RAIL_MEAS_DUTY ≤ s.actF F.RAIL_DLIM_DMAX ∧
      tabGet 0 t.rail.duty ((s.rail.phase % n + 1) % n) ≤ s.actF F.RAIL_DLIM_DMAX ∧
      (t.getF F.RAIL_STAT_STATE ≠ 3 →
        tabGet 0 t.rail.pulse (s.rail.phase % n) = tabGet 0 s.rail.duty (s.rail.phase % n) * s.getF F.RAIL_PWM_PERIOD / 65536) ∧
      (∀ k, k < n → t.getF (F.RAIL_ISNS_CODE k) = nth (i.map (fun x => x.val)) k 0)) ∧
  (∀ (v : Fin 4096) (i : List (Fin 1024)) (a : Fin 1024) (tick : Nat) (s : State), s.running = true →
    1 ≤ s.getF F.RAIL_PWM_PHASES → s.getF F.RAIL_PWM_PHASES ≤ 4 → s.railOn = true → s.flag F.RAIL_CTL_STOP = true →
    ∃ t, exec (.railTurn v i a tick) s = .next t ∧ t.getF F.RAIL_STAT_STATE = 0 ∧ t.rail.duty = [] ∧ t.rail.pulse = [] ∧
      (s.getF F.RAIL_STAT_STATE = 2 → t.lmp.softPend = s.lmp.slot.isSome ∧ t.rail.rc = []) ∧ t.slotsOk = false) ∧
  (∀ (v : Fin 4096) (i : List (Fin 1024)) (a : Fin 1024) (tick : Nat) (s : State), s.running = true →
    1 ≤ s.getF F.RAIL_PWM_PHASES → s.getF F.RAIL_PWM_PHASES ≤ 4 → s.railOn = true → s.flag F.RAIL_CTL_STOP = false →
    1 ≤ s.rail.ovCount → spCode s.plan.rail.div s.plan.rail.ovpMv < v.val →
    ∃ t, exec (.railTurn v i a tick) s = .next t ∧ t.getF F.RAIL_STAT_STATE = 3 ∧ t.rail.duty = [] ∧ t.rail.pulse = [] ∧
      t.getF F.RAIL_FE_OVP = min (s.getF F.RAIL_FE_OVP + 1) 255 ∧ t.getF F.RAIL_EVT_OVP = 1 ∧ t.getF F.RAIL_EVT_FAULT = 1 ∧
      t.slotsOk = false) ∧
  (∀ (v : Fin 4096) (i : List (Fin 1024)) (a : Fin 1024) (tick : Nat) (s : State), s.running = true →
    1 ≤ s.getF F.RAIL_PWM_PHASES → s.getF F.RAIL_PWM_PHASES ≤ 4 → s.railOn = false →
    ∃ t, exec (.railTurn v i a tick) s = .next t ∧ t.getF F.RAIL_STAT_STATE = s.getF F.RAIL_STAT_STATE ∧ t.rail.duty = s.rail.duty ∧
      t.getF F.RAIL_MEAS_DUTY = s.getF F.RAIL_MEAS_DUTY) ∧
  (∀ (n : Fin 4) (s : State), s.railOn = true → n.val < s.getF F.RAIL_PWM_PHASES → s.rail.cut.getLsbD n.val = false →
    ∃ t, exec (.phaseCurrentLimit n) s = .next t ∧ t.getF (F.RAIL_ISNS_ILIM n) = min (s.getF (F.RAIL_ISNS_ILIM n) + 1) 65535 ∧
      t.getF F.RAIL_EVT_ILIM = 1 ∧ t.rail.cut.getLsbD n.val = true ∧ s.regsKept t [A.RAIL_ISNS n, A.RAIL_EVT] ∧
      t = { s with regs := t.regs, rail := { s.rail with cut := t.rail.cut } } ∧ exec (.phaseCurrentLimit n) t = .next t)

/-- Sources of the set-point (R291 to R293). How the quotient of the `AUXPWM` target rounds is not stated: the statement holds
for either neighbour. -/
def Obligations.SetPointSourcesMoveTheTarget : Prop :=
  (∀ (high period : Nat) (s : State), s.getF F.RAIL_STAT_SRC = 2 → s.flag F.RAIL_STAT_AUX_LOST = false → 4000 ≤ period →
    period ≤ 800000 →
    ∃ t q, exec (.auxpwmPeriodEnd high period) s = .next t ∧
      (q = min high period * s.plan.rail.auxSpan / period ∨ q = min high period * s.plan.rail.auxSpan / period + 1) ∧
      t.getF F.RAIL_SP_TARGET = (clampI (s.plan.rail.auxOffset + q : Nat) s.plan.rail.spMin s.plan.rail.spMax).toNat % 2 ^ 13 ∧
      (clampI (s.plan.rail.auxOffset + q : Nat) s.plan.rail.spMin s.plan.rail.spMax ≠ (s.plan.rail.auxOffset + q : Nat) →
        t.getF F.RAIL_EVT_SP_LIMIT = 1) ∧
      s.regsKept t [A.RAIL_SP, A.RAIL_EVT] ∧ t = { s with regs := t.regs, rail := { s.rail with auxGood := s.rail.auxGood + 1 } }) ∧
  (∀ (high period : Nat) (s : State), s.getF F.RAIL_STAT_SRC = 2 → (period < 4000 ∨ 800000 < period) →
    exec (.auxpwmPeriodEnd high period) s = .next { s with rail := { s.rail with auxGood := 0 } }) ∧
  (∀ (high period : Nat) (s : State), s.getF F.RAIL_STAT_SRC ≠ 2 →
    exec (.auxpwmPeriodEnd high period) s = .next s ∧ exec .auxLost s = .next s) ∧
  (∀ s : State, s.getF F.RAIL_STAT_SRC = 2 →
    ∃ t, exec .auxLost s = .next t ∧ t.getF F.RAIL_STAT_AUX_LOST = 1 ∧
      (s.flag F.RAIL_STAT_AUX_LOST = false → t.getF F.RAIL_EVT_AUX_LOST = 1) ∧ t.getF F.RAIL_SP_TARGET = s.getF F.RAIL_SP_TARGET ∧
      s.regsKept t [A.RAIL_STAT, A.RAIL_EVT] ∧ t = { s with regs := t.regs, rail := { s.rail with auxGood := 0 } }) ∧
  (∀ (c : BitVec 8) (s : State),
    ∃ t, exec (.headroomValue c) s = .next t ∧ t.rail.lineHr = some c.toNat ∧
      t.rail.segMin = some (match s.rail.segMin with | some m => min m c.toNat | none => c.toNat) ∧
      t.rail.frameMin = some (match s.rail.frameMin with | some m => min m c.toNat | none => c.toNat) ∧
      s.regsKept t [A.RAIL_TCTL] ∧ t = { s with regs := t.regs, rail := t.rail }) ∧
  (∀ s : State, s.running = true → s.getF F.RAIL_STAT_SRC = 0 →
    ∃ t, exec .headroomDarkTimeout s = .next t ∧
      t.getF F.RAIL_SP_TARGET = (clampI s.plan.rail.hrDarkMv s.plan.rail.spMin s.plan.rail.spMax).toNat % 2 ^ 13 ∧
      s.onlyRegs t [A.RAIL_SP, A.RAIL_EVT])

/-- Protection, retries and `RAIL_CTL` (R290, R294 to R297). -/
def Obligations.RailFaultsRetryAndLatch : Prop :=
  (∀ s : State, s.railOn = true → (0 < s.rail.feTicks ∨ (s.getF F.RAIL_STAT_STATE = 1 ∧ 0 < s.rail.rampDone)) →
    ∃ t, exec .followingErrorTrip s = .next t ∧ t.getF F.RAIL_STAT_STATE = 3 ∧ t.rail.duty = [] ∧
      t.getF F.RAIL_FE_TRIPS = min (s.getF F.RAIL_FE_TRIPS + 1) 255 ∧ t.getF F.RAIL_EVT_FAULT = 1 ∧
      (s.plan.rail.retries ≤ s.getF F.RAIL_STAT_RETRIES → t.getF F.RAIL_STAT_LATCHED = 1 ∧ t.getF F.RAIL_EVT_LATCHED = 1) ∧
      (s.getF F.RAIL_STAT_RETRIES < s.plan.rail.retries → t.getF F.RAIL_STAT_LATCHED = s.getF F.RAIL_STAT_LATCHED) ∧ t.slotsOk = false) ∧
  (∀ s : State, s.getF F.RAIL_STAT_STATE = 3 → s.flag F.RAIL_STAT_LATCHED = false → s.getF F.RAIL_STAT_RETRIES < s.plan.rail.retries →
    ∃ t, exec .railFaultRetry s = .next t ∧ t.getF F.RAIL_STAT_STATE = 1 ∧
      t.getF F.RAIL_STAT_RETRIES = min (s.getF F.RAIL_STAT_RETRIES + 1) 15 ∧ t.rail.ramp = 8000 * s.getF F.RAIL_MEAS_VSNS_MV ∧
      t.rail.uTot = s.actF F.RAIL_DLIM_DMIN ∧ s.regsKept t [A.RAIL_STAT] ∧ t = { s with regs := t.regs, rail := t.rail }) ∧
  (∀ s : State, s.getF F.RAIL_STAT_STATE = 3 → s.flag F.RAIL_STAT_LATCHED = false → s.plan.rail.retries ≤ s.getF F.RAIL_STAT_RETRIES →
    ∃ t, exec .railFaultRetry s = .next t ∧ t.getF F.RAIL_STAT_LATCHED = 1 ∧ t.getF F.RAIL_EVT_LATCHED = 1 ∧
      s.onlyRegs t [A.RAIL_STAT, A.RAIL_EVT]) ∧
  (∀ s : State, s.getF F.RAIL_STAT_STATE = 2 →
    ∃ t, exec .railRetriesReset s = .next t ∧ t.getF F.RAIL_STAT_RETRIES = 0 ∧ s.onlyRegs t [A.RAIL_STAT]) ∧
  (∀ (who : Initiator) (s : State), s.mayWrite who A.RAIL_CTL → s.flag F.RAIL_STAT_LATCHED = true →
    ∃ t, exec (.railClearFault who) s = .next t ∧ t.bus = ⟨0, false⟩ ∧ t.getF F.RAIL_STAT_STATE = 1 ∧ t.getF F.RAIL_STAT_LATCHED = 0 ∧
      t.getF F.RAIL_STAT_RETRIES = 0 ∧ t.rail.ramp = 8000 * s.getF F.RAIL_MEAS_VSNS_MV ∧ s.regsKept t [A.RAIL_CTL, A.RAIL_STAT]) ∧
  (∀ (who : Initiator) (s : State), s.mayWrite who A.RAIL_CTL → s.flag F.RAIL_STAT_LATCHED = false →
    ∃ t, exec (.railClearFault who) s = .next t ∧ t.bus = ⟨0, false⟩ ∧ s.onlyBus t []) ∧
  (∀ (who : Initiator) (s : State), s.mayWrite who A.RAIL_CTL →
    ∃ t, exec (.railStop who) s = .next t ∧ t.bus = ⟨0, false⟩ ∧ t.getF F.RAIL_CTL_STOP = 1 ∧ s.onlyBus t [A.RAIL_CTL]) ∧
  (∀ (who : Initiator) (s : State), s.mayWrite who A.RAIL_CTL → s.flag F.RAIL_CTL_STOP = true → s.getF F.RAIL_STAT_STATE = 0 →
    ∃ t, exec (.railStart who) s = .next t ∧ t.bus = ⟨0, false⟩ ∧ t.getF F.RAIL_CTL_STOP = 0 ∧ t.getF F.RAIL_STAT_STATE = 1 ∧
      t.rail.ramp = 8000 * s.getF F.RAIL_MEAS_VSNS_MV ∧ t.rail.uTot = s.actF F.RAIL_DLIM_DMIN ∧
      s.regsKept t [A.RAIL_CTL, A.RAIL_STAT] ∧ t = { s with regs := t.regs, rail := t.rail, bus := t.bus }) ∧
  (∀ (who : Initiator) (s : State), s.mayWrite who A.RAIL_CTL →
    ∃ t, exec (.rcClr who) s = .next t ∧ t.bus = ⟨0, false⟩ ∧ t.rail = { s.rail with rc := [] } ∧ s.regsKept t [] ∧
      t = { s with regs := t.regs, rail := t.rail, bus := t.bus })

/-- The trace (R298, R299). -/
def Obligations.TheTraceArmsTriggersAndReads : Prop :=
  (∀ (who : Initiator) (s : State), s.mayWrite who A.RAIL_TCTL →
    ∃ t, exec (.traceArm who) s = .next t ∧ t.bus = ⟨0, false⟩ ∧ t.getF F.RAIL_TCTL_TSTATE = 1 ∧
      t.getF F.RAIL_TCTL_PRE = s.getF F.RAIL_TCTL_PRE ∧ t.rail = { s.rail with trace := [], traceDiv := 0, traceLeft := 0 } ∧
      s.regsKept t [A.RAIL_TCTL] ∧ t = { s with regs := t.regs, rail := t.rail, bus := t.bus }) ∧
  (∀ (who : Initiator) (s : State), s.mayWrite who A.RAIL_TCTL → s.getF F.RAIL_TCTL_TSTATE = 1 →
    ∃ t, exec (.traceForce who) s = .next t ∧ t.bus = ⟨0, false⟩ ∧ t.getF F.RAIL_TCTL_TSTATE = 2 ∧ t.getF F.RAIL_TCTL_CAUSE = 0 ∧
      t.rail = { s.rail with traceLeft := 2048 - s.getF F.RAIL_TCTL_PRE } ∧ s.regsKept t [A.RAIL_TCTL] ∧
      t = { s with regs := t.regs, rail := t.rail, bus := t.bus }) ∧
  (∀ (who : Initiator) (s : State), s.mayWrite who A.RAIL_TCTL → s.getF F.RAIL_TCTL_TSTATE ≠ 1 →
    ∃ t, exec (.traceForce who) s = .next t ∧ t.bus = ⟨0, false⟩ ∧ s.onlyBus t []) ∧
  (∀ (who : Initiator) (s : State), s.running = true →
    ∃ t, exec (.traceDataRead who) s = .next t ∧ t.bus.error = false ∧
      t.bus.data = BitVec.ofNat 64 ((if s.getF F.RAIL_TCTL_TSTATE = 1 ∨ s.getF F.RAIL_TCTL_TSTATE = 2 then 0
        else nth (nth s.rail.trace (2047 - s.getF F.RAIL_TADDR_SAMPLE) []) (s.getF F.RAIL_TADDR_CH) 0) % 2 ^ 32) ∧
      t.getF F.RAIL_TADDR_SAMPLE = (s.getF F.RAIL_TADDR_SAMPLE + 1) % 2048 ∧
      t.getF F.RAIL_TADDR_CH = s.getF F.RAIL_TADDR_CH ∧ s.onlyBus t [A.RAIL_TADDR])

/-- Time bases (R302, R316) and genlock (R148, R311, R312). -/
def Obligations.TimeBasesCaptureSettleAndFollowGenlock : Prop :=
  (∀ (who : Initiator) (s : State), s.mayWrite who A.TIM_CTL →
    ∃ t, exec (.timeCapture who) s = .next t ∧ t.bus = ⟨0, false⟩ ∧
      (∀ i, i < 4 → t.getF (F.TIM_CNS_NS i) = s.tbVal i / 256 ∧ t.getF (F.TIM_CFRAC_FRAC i) = s.tbVal i % 256) ∧
      s.onlyBus t (((List.range 4).map A.TIM_CNS) ++ ((List.range 4).map A.TIM_CFRAC))) ∧
  (∀ (i : Fin 4) (s : State), s.tim.running = true →
    ∃ t, exec (.timeBaseWrap i) s = .next t ∧ t.bit F.TIM_EVT_WRAP i = true ∧ s.onlyRegs t [A.TIM_EVT]) ∧
  (∀ s : State, s.tbState 0 = 2 → (s.isHead = true ∨ ∃ m, s.tim.ann = some m ∧ m.settled = true) →
    ∃ t, exec .settleExpiry s = .next t ∧ t.getF F.TIM_STAT_SETTLED = 1 ∧ s.regsKept t [A.TIM_STAT] ∧
      t = { s with regs := t.regs, tim := { s.tim with settled := true } }) ∧
  (∀ (m : SyncMsg) (s : State), s.tbState 0 = 2 → s.isHead = false → s.tim.ann = some m → m.settled = false →
    ∃ t, exec .settleExpiry s = .next t ∧ t.getF F.TIM_STAT_SETTLED = 0 ∧ s.regsKept t [A.TIM_STAT]) ∧
  (∀ s : State, s.tbState 0 ≠ 2 → exec .settleExpiry s = .next s) ∧
  (∀ (src : GlkSource) (second : Bool) (s : State), s.glkOn = false →
    exec (.genlockInstant src second) s = .next s ∧ exec .genlockInstantMissing s = .next s) ∧
  (∀ (src : GlkSource) (second : Bool) (s : State),
    (s.plan.ingest.glk ≠ src ∨ (second = true ∧ (src ≠ .biLevel ∨ s.plan.ingest.fieldRef = false))) →
    exec (.genlockInstant src second) s = .next s) ∧
  (∀ (src : GlkSource) (second : Bool) (s : State), s.glkOn = true → s.glkCounts src second = true → s.ing.glkLast = none →
    exec (.genlockInstant src second) s = .next { s with ing := { s.ing with glkLast := some s.now, glkMiss := 0 } }) ∧
  (∀ (src : GlkSource) (second : Bool) (l : Nat) (s : State), s.glkOn = true → s.glkCounts src second = true → s.ing.glkLast = some l → s.glkWindow l = true → s.ing.glkMiss = 0 →
    s.getF F.SCN_STAT_GLK ≠ 2 → s.tbSrc 0 ≠ 1 →
    ∃ t, exec (.genlockInstant src second) s = .next t ∧ t.getF F.SCN_STAT_GLK = 2 ∧ t.getF F.SCN_EVT_GLK_VALID = 1 ∧
      s.regsKept t [A.SCN_STAT, A.SCN_EVT] ∧
      t = { s with regs := t.regs, ing := { s.ing with glkLast := some s.now, glkMiss := 0 } }) ∧
  (∀ (src : GlkSource) (second : Bool) (l : Nat) (s : State), s.glkOn = true → s.glkCounts src second = true → s.ing.glkLast = some l → s.glkWindow l = true → s.ing.glkMiss = 0 →
    s.tbSrc 0 = 1 → s.tim.period ≠ 0 →
    ∃ t, exec (.genlockInstant src second) s = .next t ∧ t.getF F.SCN_STAT_GLK = 2 ∧ t.tbState 0 = 2 ∧
      (s.tbState 0 ≠ 2 → s.plan.time.stepNs * 256 < (s.nearBoundary (s.tbVal 0 + s.plan.ingest.phaseNs * 256)).2.natAbs →
        t.getF F.TIM_EVT_STEP = 1 ∧ t.lmp.softPend = s.lmp.slot.isSome) ∧
      (s.tbState 0 = 2 → t.getF F.TIM_FRAME_FRAME = s.getF F.TIM_FRAME_FRAME ∧ t.lmp = s.lmp) ∧
      s.regsKept t [A.SCN_STAT, A.SCN_EVT, A.TIM_STAT, A.TIM_EVT, A.TIM_FRAME, A.TIM_RATE 0]) ∧
  (∀ (src : GlkSource) (second : Bool) (l : Nat) (s : State), s.glkOn = true → s.glkCounts src second = true → s.ing.glkLast = some l → s.glkWindow l = false → s.getF F.SCN_STAT_GLK = 2 →
    ∃ t, exec (.genlockInstant src second) s = .next t ∧ t.getF F.SCN_STAT_GLK = 3 ∧ t.getF F.SCN_EVT_GLK_RATE = 1 ∧
      t.ing = { s.ing with glkLast := some s.now, glkMiss := 0 } ∧
      (s.tbSrc 0 = 1 → s.tbState 0 = 2 → t.tbState 0 = 3 ∧ t.bit F.TIM_EVT_LOST 0 = true) ∧
      s.regsKept t [A.SCN_STAT, A.SCN_EVT, A.TIM_STAT, A.TIM_EVT, A.CLK_STAT, A.CLK_EVT]) ∧
  (∀ s : State, s.glkOn = true → s.ing.glkLast ≠ none → s.ing.glkMiss = 0 →
    exec .genlockInstantMissing s = .next { s with ing := { s.ing with glkMiss := 1 } }) ∧
  (∀ s : State, s.glkOn = true → s.ing.glkLast ≠ none → 1 ≤ s.ing.glkMiss → s.getF F.SCN_STAT_GLK = 2 →
    ∃ t, exec .genlockInstantMissing s = .next t ∧ t.getF F.SCN_STAT_GLK = 3 ∧ t.getF F.SCN_EVT_GLK_LOST = 1 ∧
      t.ing = { s.ing with glkMiss := s.ing.glkMiss + 1 } ∧
      (s.tbSrc 0 = 1 → s.tbState 0 = 2 → t.tbState 0 = 3 ∧ t.bit F.TIM_EVT_LOST 0 = true))

/-- Path delays (R306), `SYNC` (R305, R307 to R310) and IEEE 1588 (R317). How an average that no whole number of 1/256 ns meets
is rounded is not stated, and the clause on the average says nothing of it. -/
def Obligations.PathDelaysAndSyncAreFollowed : Prop :=
  (∀ s : State, s.tim.running = true →
    ∃ t, exec .dreqPeriod s = .next t ∧ t = { s with lnk := t.lnk, lan := t.lan, out := t.out } ∧
      (∀ n ∈ s.upPorts, (t.port n).dreq = some (((s.port n).seqId + 1) % 256, s.tbAt 0 (s.clearAt n))) ∧
      (∀ (n : Nat) (k : Key), s.upPorts = [n] → s.canSend n = true →
        s.chainKey (s.chainOf n) (BitVec.ofNat 6 s.curEp).toNat = some k →
        ∃ h m k1, t.out = .packet n (s.getF (F.LNK_PSTAT_TXMASK n)) h (.sync m) (some k1) :: s.out ∧ h.typ = 6 ∧ h.hop = true ∧ m.kind = 1 ∧
          m.seqId = ((s.port n).seqId + 1) % 256 ∧ m.tTx = s.tbAt 0 (s.clearAt n))) ∧
  (∀ (n : Fin 8) (id : Byte) (sub : Fin 256) (k : Key) (s : State), s.tim.running = true → s.portUp n = true →
    s.canSend n = true → s.chainKey (s.chainOf n) (BitVec.ofNat 6 s.curEp).toNat = some k →
    ∃ t h m k1, exec (.dreqReceived n id sub) s = .next t ∧ t.out = .packet n (s.getF (F.LNK_PSTAT_TXMASK n)) h (.sync m) (some k1) :: s.out ∧ h.typ = 6 ∧
      h.hop = true ∧ m.kind = 2 ∧ m.seqId = id.toNat ∧ m.tRx = (s.tbVal 0 + sub) % 2 ^ 40 ∧
      m.tTx = s.tbAt 0 (s.clearAt n) ∧ t = { s with lnk := t.lnk, lan := t.lan, out := t.out }) ∧
  (∀ (n : Fin 8) (id : Byte) (sub : Fin 256) (s : State), s.portUp n = false → exec (.dreqReceived n id sub) s = .next s) ∧
  (∀ (n : Fin 8) (id : Byte) (tRx tTx : BitVec 40) (sub : Fin 256) (t3 : Nat) (l : List Int) (s : State),
    s.tim.running = true → (s.port n).dreq = some (id.toNat, t3) →
    l = ((tbDiff ((s.tbVal 0 + sub) % 2 ^ 40) t3 - tbDiff tTx.toNat tRx.toNat) :: (s.port n).delays).take 16 →
    ∃ t, exec (.drespReceived n id tRx tTx sub) s = .next t ∧ t.port n = { s.port n with delays := l, dreq := none } ∧
      (∀ q : Int, l.sum = 2 * l.length * q → t.getF (F.TIM_DELAY_MEAN n) = ofSigned 24 q) ∧
      s.regsKept t [A.TIM_DELAY n] ∧ t = { s with regs := t.regs, lnk := t.lnk }) ∧
  (∀ (n : Fin 8) (id : Byte) (tRx tTx : BitVec 40) (sub : Fin 256) (s : State),
    (∀ t3, (s.port n).dreq ≠ some (id.toNat, t3)) → exec (.drespReceived n id tRx tTx sub) s = .next s) ∧
  (∀ (n : Fin 8) (s : State), exec (.drespTimeout n) s = .next (s.setPort n { s.port n with dreq := none })) ∧
  (∀ (n : Fin 8) (m : SyncMsg) (sub : Fin 256) (s : State), m.invalid = true →
    ∃ t, exec (.syncReceived n m sub) s = .next t ∧ s.onlyRegs t [A.LNK_RXERR n] ∧
      t.getF (F.LNK_RXERR_FRAME n) = min (s.getF (F.LNK_RXERR_FRAME n) + 1) 65535) ∧
  (∀ (n : Fin 8) (m : SyncMsg) (sub : Fin 256) (s : State), m.invalid = false → m.kind = 0 →
    (s.tim.running = false ∨ m.back = true ∨ m.valid.getLsbD 0 = false) → exec (.syncReceived n m sub) s = .next s) ∧
  (∀ (n : Fin 8) (m : SyncMsg) (sub : Fin 256) (o : Int) (s : State), m.invalid = false → m.kind = 0 → m.usable = true →
    s.tim.running = true → s.isHead = false → n.val < 2 → s.tbSrc 0 = 2 → s.tbSrc 1 ≠ 2 → s.tbSrc 2 ≠ 2 → s.tbSrc 3 ≠ 2 →
    (s.tim.follow = none ∨ s.tim.follow = some n.val) → (s.port (1 - n.val)).sync = none →
    o = tbDiff ((s.tbVal 0 + sub) % 2 ^ 40) m.tTx - s.pathDelay n →
    ∃ t, exec (.syncReceived n m sub) s = .next t ∧ t.tim.follow = some n.val ∧ t.tim.ann = some m ∧ t.tim.annFresh = true ∧
      t.getF F.TIM_STAT_HOPS = m.hops ∧ t.getF F.TIM_STAT_END = m.endB.toNat ∧ t.getF F.TIM_OFS_OFS = ofSigned 32 o ∧
      (s.tim.follow = none → t.getF F.TIM_STAT_PORT = n.val) ∧
      (s.tbState 0 ≠ 2 → s.plan.time.stepNs * 256 < o.natAbs → s.plan.time.lockNs ≤ s.plan.time.stepNs → t.tbState 0 = 1 ∧
        t.getF F.TIM_EVT_STEP = 1 ∧ t.getF F.TIM_CNT_STEPS = min (s.getF F.TIM_CNT_STEPS + 1) 65535 ∧
        t.lmp.softPend = s.lmp.slot.isSome ∧ t.getF (F.TIM_RATE_RATE 0) = s.getF (F.TIM_RATE_RATE 0)) ∧
      ((s.tbState 0 = 0 ∨ s.tbState 0 = 3) → t.tbState 0 = 1) ∧
      (s.tbState 0 = 1 → (s.tb 0).good = 15 → o.natAbs ≤ s.plan.time.lockNs * 256 →
        t.tbState 0 = 2 ∧ t.bit F.TIM_EVT_LOCK 0 = true) ∧
      (s.tbState 0 = 1 → (s.tb 0).good < 15 → t.tbState 0 = 1) ∧
      (s.tbState 0 = 2 → t.getF F.TIM_CNT_STEPS = s.getF F.TIM_CNT_STEPS) ∧
      (s.tbState 0 = 2 → 3 ≤ (s.tb 0).bad → 10 * s.plan.time.lockNs * 256 < o.natAbs → t.tbState 0 = 1) ∧
      (s.tbState 0 = 2 → (s.tb 0).bad < 3 → t.tbState 0 = 2) ∧
      (∀ (q : Nat) (k : Key), s.upPorts = [q] → s.canSend q = true →
        s.chainKey (s.chainOf q) (BitVec.ofNat 6 s.curEp).toNat = some k →
        ∃ h m1 k1, t.out = .packet q (s.getF (F.LNK_PSTAT_TXMASK q)) h (.sync m1) (some k1) :: s.out ∧ m1.kind = 0 ∧ m1.hops = m.hops + 1 ∧
          m1.back = (q == n.val) ∧ m1.frame = m.frame ∧ m1.fb = m.fb ∧ m1.period = m.period ∧ m1.ofs = m.ofs ∧
          m1.endB = m.endB ∧ m1.valid = m.valid) ∧
      s.regsKept t [A.TIM_STAT, A.TIM_EVT, A.TIM_OFS, A.TIM_RATE 0, A.TIM_CNT, A.CLK_STAT, A.CLK_EVT]) ∧
  (∀ (n : Fin 8) (m mf : SyncMsg) (sub : Fin 256) (c : Nat) (s : State), m.invalid = false → m.kind = 0 → m.usable = true →
    s.tim.running = true → s.isHead = false → n.val < 2 → s.tbSrc 0 = 2 → s.tim.follow = some (1 - n.val) →
    (s.port (1 - n.val)).sync = some mf → m.hops < mf.hops → s.tim.challenger = some (n.val, c) →
    (c < 15 → exec (.syncReceived n m sub) s = .next { s.setPort n { s.port n with sync := some m } with
      tim := { s.tim with challenger := some (n.val, c + 1) } }) ∧
    (15 ≤ c → ∃ t, exec (.syncReceived n m sub) s = .next t ∧ t.tim.follow = some n.val ∧ t.getF F.TIM_STAT_PORT = n.val ∧
      t.getF F.TIM_EVT_SWITCH = 1 ∧ t.getF F.TIM_STAT_HOPS = m.hops)) ∧
  (∀ (n : Fin 8) (s : State), s.isHead = false → n.val < 2 → s.tim.follow = some n.val → (s.port (1 - n.val)).sync = none →
    ∃ t, exec (.syncSourceTimeout n) s = .next t ∧ t.tim.follow = none ∧ t.getF F.TIM_STAT_PORT = 0 ∧
      t.getF F.TIM_STAT_HOPS = 0 ∧ t.getF F.TIM_STAT_END = 0 ∧
      (∀ i, i < 4 → s.tbSrc i = 2 → s.tbState i = 2 → t.tbState i = 3 ∧ t.bit F.TIM_EVT_LOST i = true ∧
        t.getF (F.TIM_RATE_RATE i) = s.getF (F.TIM_RATE_RATE i)) ∧
      s.regsKept t [A.TIM_STAT, A.TIM_EVT, A.CLK_STAT, A.CLK_EVT]) ∧
  (∀ (n : Fin 8) (m : SyncMsg) (s : State), s.isHead = false → n.val < 2 → s.tim.follow = some n.val →
    (s.port (1 - n.val)).sync = some m →
    ∃ t, exec (.syncSourceTimeout n) s = .next t ∧ t.tim.follow = some (1 - n.val) ∧ t.getF F.TIM_STAT_PORT = 1 - n.val ∧
      t.getF F.TIM_EVT_SWITCH = 1 ∧ (t.port n).sync = none ∧ s.regsKept t [A.TIM_STAT, A.TIM_EVT]) ∧
  (∀ (d : Byte) (x : PtpMaster) (s : State), s.lan.svcUp = true → s.tbSrc 3 = 1 → d.toNat = s.plan.time.ptpDomain →
    ∃ t b, exec (.ptpMessageReceived (.announce d x)) s = .next t ∧
      t.tim.ptp.masters = x :: s.tim.ptp.masters.filter (fun y => y.source != x.source) ∧ t.tim.ptp.master = some b ∧
      b ∈ t.tim.ptp.masters ∧ (∀ y ∈ t.tim.ptp.masters, rankBefore y.rank b.rank = false) ∧
      t.getF F.TIM_PTPSTAT_DOMAIN = d.toNat ∧ t.getF F.TIM_PTPSTAT_STEPS_REMOVED = min 255 b.stepsRemoved.toNat ∧
      t.getF F.TIM_PTPSTAT_MASTER = 1 ∧ t.tbState 3 = (if s.tbState 3 = 2 then 2 else 1) ∧
      s.regsKept t [A.TIM_PTPSTAT, A.TIM_STAT] ∧ t = { s with regs := t.regs, tim := t.tim }) ∧
  (∀ (d : Byte) (b : PtpMaster) (q : BitVec 16) (t1 t2 : Nat) (sub : Fin 256) (o : Int) (s : State), s.lan.svcUp = true →
    s.tbSrc 3 = 1 → d.toNat = s.plan.time.ptpDomain → s.tim.ptp.master = some b → t2 = (s.tbVal 3 + sub) % 2 ^ 40 →
    o = tbDiff t2 (t1 % 2 ^ 40) - s.tim.ptp.delay2 / 2 →
    (∃ t, exec (.ptpMessageReceived (.sync d b.source q (some t1) sub)) s = .next t ∧
      t.tbState 3 = (if o.natAbs ≤ s.plan.time.lockNs * 4 * 256 then 2 else 1) ∧ t.tim.ptp.last = some (t1, t2) ∧
      t.tim.ptp.asked = some (s.tim.ptp.seq + 1, s.tbVal 3) ∧ t.out = .ptpDelayReq (s.tim.ptp.seq + 1) :: s.out ∧
      s.regsKept t [A.TIM_STAT, A.TIM_EVT, A.TIM_RATE 3]) ∧
    exec (.ptpMessageReceived (.sync d b.source q none sub)) s = .next (s.setPtp { s.tim.ptp with wait := some (q, t2) })) ∧
  (∀ (d : Byte) (b : PtpMaster) (q : BitVec 16) (t1 t2 : Nat) (o : Int) (s : State), s.lan.svcUp = true →
    s.tbSrc 3 = 1 → d.toNat = s.plan.time.ptpDomain → s.tim.ptp.master = some b → s.tim.ptp.wait = some (q, t2) →
    o = tbDiff t2 (t1 % 2 ^ 40) - s.tim.ptp.delay2 / 2 →
    ∃ t, exec (.ptpMessageReceived (.followUp d b.source q t1)) s = .next t ∧ t.tim.ptp.wait = none ∧
      t.tbState 3 = (if o.natAbs ≤ s.plan.time.lockNs * 4 * 256 then 2 else 1) ∧
      t.out = .ptpDelayReq (s.tim.ptp.seq + 1) :: s.out ∧ s.regsKept t [A.TIM_STAT, A.TIM_EVT, A.TIM_RATE 3]) ∧
  (∀ (d : Byte) (b : PtpMaster) (q : BitVec 16) (t1 t2 t3 t4 : Nat) (s : State), s.lan.svcUp = true →
    s.tbSrc 3 = 1 → d.toNat = s.plan.time.ptpDomain → s.tim.ptp.master = some b → s.tim.ptp.asked = some (q, t3) →
    s.tim.ptp.last = some (t1, t2) →
    exec (.ptpMessageReceived (.delayResp d b.source q t4)) s =
      .next (s.setPtp { s.tim.ptp with asked := none, delay2 := tbDiff t2 (t1 % 2 ^ 40) + tbDiff (t4 % 2 ^ 40) t3 })) ∧
  (∀ (m : PtpMsg) (s : State), m.from.1.toNat ≠ s.plan.time.ptpDomain → exec (.ptpMessageReceived m) s = .next s) ∧
  (∀ (m : PtpMsg) (s : State), (s.lan.svcUp = false ∨ s.tbSrc 3 ≠ 1) → exec (.ptpMessageReceived m) s = .next s) ∧
  (∀ s : State, s.flag F.TIM_PTPSTAT_MASTER = true → s.tbSrc 3 = 1 → (s.tbState 3 = 1 ∨ s.tbState 3 = 2) →
    ∃ t, exec .ptpAnnounceTimeout s = .next t ∧ t.getF F.TIM_PTPSTAT_MASTER = 0 ∧ t.tbState 3 = 3 ∧
      t.bit F.TIM_EVT_LOST 3 = true ∧ s.regsKept t [A.TIM_PTPSTAT, A.TIM_STAT, A.TIM_EVT])

/-- Heartbeats (R321 to R323, R325, R337, R338). -/
def Obligations.HeartbeatsFindThePartner : Prop :=
  (∀ (q : Nat) (s : State), s.paired = true → s.duty ≠ 3 → s.sec.quiet = false → s.sec.pairWait = false → s.heartPorts = [q] →
    ∃ t h m k, exec .heartPeriod s = .next t ∧ t.out = .packet q (s.getF (F.LNK_PSTAT_TXMASK q)) h (.heart m) (some k) :: s.out ∧ h.typ = 5 ∧ h.prot = 2 ∧
      h.dst = 1023 ∧ h.hop = false ∧ m.duty = s.duty ∧ m.endB = s.plan.red.endB ∧ m.term = s.getW A.RED_TERM ∧
      m.pair = s.plan.wall.pairId ∧ m.frame = s.getW A.TIM_FRAME ∧ m.copy = s.getW A.RED_COPY ∧ m.epoch = s.getW A.CFG_EPOCH ∧
      m.peer = s.flag F.RED_STAT_PEER ∧ m.ilkOut = s.flag F.RED_STAT_ILK_OUT ∧ m.yield = s.red.yieldOn ∧
      (s.duty = 2 → t.red.leaseAt = s.now + s.plan.red.leaseUs * 1000) ∧ (s.duty ≠ 2 → t.red = s.red) ∧ t.regs = s.regs) ∧
  (∀ s : State, (s.paired = false ∨ s.duty = 3) → exec .heartPeriod s = .next s) ∧
  (∀ (m : HeartMsg) (s : State), s.pairLive = true → m.endB ≠ s.plan.red.endB → s.red.pairSeen = false →
    m.pair ≠ s.plan.wall.pairId →
    ∃ t, exec (.heartReceived m) s = .next t ∧ t.getF F.RED_STAT_PAIR_REFUSED = 1 ∧ t.getF F.RED_EVT_PAIR_REFUSED = 1 ∧
      t.getF F.RED_STAT_DUTY = 0 ∧ t.getF F.RED_STAT_ILK_OUT = 0 ∧ t.red.claim = none ∧ s.regsKept t [A.RED_STAT, A.RED_EVT]) ∧
  (∀ (m : HeartMsg) (s : State), s.pairLive = true → m.endB ≠ s.plan.red.endB →
    (s.red.pairSeen = true ∨ m.pair = s.plan.wall.pairId) → m.duty ≠ 3 → s.flag F.RED_STAT_PEER = false →
    ∃ t, exec (.heartReceived m) s = .next t ∧ t.red.peerHeart = some m ∧ t.red.pairSeen = true ∧
      (s.red.lostOnce = false → t.getF F.RED_STAT_PEER = 1 ∧ t.getF F.RED_STAT_PAIRED = 1) ∧
      (s.red.lostOnce = true → s.red.back < 15 → t.getF F.RED_STAT_PEER = 0 ∧ t.red.back = s.red.back + 1) ∧
      (s.red.lostOnce = true → 15 ≤ s.red.back → t.getF F.RED_STAT_PEER = 1 ∧ t.getF F.RED_EVT_PEER_BACK = 1)) ∧
  (∀ (m : HeartMsg) (s : State), s.pairLive = true → m.endB ≠ s.plan.red.endB →
    (s.red.pairSeen = true ∨ m.pair = s.plan.wall.pairId) → m.duty = 3 → s.flag F.RED_STAT_PEER = true →
    ∃ t, exec (.heartReceived m) s = .next t ∧ t.getF F.RED_STAT_PEER = 0 ∧ t.getF F.RED_STAT_PAIRED = 0 ∧
      t.getF F.RED_EVT_PEER_LOST = 1 ∧ t.getF F.RED_CNT_PEER_LOSS = min (s.getF F.RED_CNT_PEER_LOSS + 1) 255 ∧
      t.red.copyIn = none) ∧
  (∀ (m : HeartMsg) (s : State), s.isHead = true → (s.pairLive = false ∨ m.endB = s.plan.red.endB) →
    exec (.heartReceived m) s = .next s) ∧
  (∀ (m : HeartMsg) (f b : Nat) (s : State), s.pairLive = true → m.endB ≠ s.plan.red.endB → s.red.pairSeen = true → m.duty = 2 →
    s.flag F.RED_STAT_PEER = true → s.duty = 1 → f < s.facets → m.sigFrame = s.red.sigFrame → s.red.sigSeen ≠ some m.sigFrame →
    m.conv.getLsbD f = true → s.bit F.ENC_STAT_CONV f = true → tabGet 0 s.red.sigBad f = b → nth m.sigs f 0 ≠ nth s.red.sigs f 0 →
    ∃ t, exec (.heartReceived m) s = .next t ∧ tabGet 0 t.red.sigBad f = b + 1 ∧ t.red.sigSeen = some m.sigFrame ∧
      (s.enc.held.getLsbD f = false → s.plan.red.sigLimit ≤ b + 1 → t.enc.held.getLsbD f = true ∧ t.getF F.RED_EVT_SIG_DIFF = 1 ∧
        (s.facets = 1 → t.getF F.RED_CNT_SIG_DIFF = min (s.getF F.RED_CNT_SIG_DIFF + 1) 255)) ∧
      ((s.enc.held.getLsbD f = true ∨ b + 1 < s.plan.red.sigLimit) → t.enc.held.getLsbD f = s.enc.held.getLsbD f)) ∧
  (∀ (m : HeartMsg) (f g : Nat) (s : State), s.pairLive = true → m.endB ≠ s.plan.red.endB → s.red.pairSeen = true → m.duty = 2 →
    s.flag F.RED_STAT_PEER = true → s.duty = 1 → f < s.facets → m.sigFrame = s.red.sigFrame → s.red.sigSeen ≠ some m.sigFrame →
    m.conv.getLsbD f = true → s.bit F.ENC_STAT_CONV f = true → tabGet 0 s.red.sigGood f = g → nth m.sigs f 0 = nth s.red.sigs f 0 →
    ∃ t, exec (.heartReceived m) s = .next t ∧ tabGet 0 t.red.sigGood f = g + 1 ∧ tabGet 0 t.red.sigBad f = 0 ∧
      (s.plan.red.sigLimit ≤ g + 1 → t.enc.held.getLsbD f = false) ∧
      (g + 1 < s.plan.red.sigLimit → t.enc.held.getLsbD f = s.enc.held.getLsbD f)) ∧
  (∀ (m : HeartMsg) (s : State), s.isWarden = true →
    ∃ t, exec (.heartReceived m) s = .next t ∧ t = { s with red := t.red } ∧
      t.red.term = (if s.red.term.toNat < m.term.toNat then m.term else s.red.term) ∧
      (if m.endB then t.red.seenB else t.red.seenA) = some m ∧ t.red.owner = s.red.owner ∧
      (m.peer = true → m.duty ≠ 3 → (if m.endB then t.red.vouchB else t.red.vouchA) = some s.now)) ∧
  (∀ (m : HeartMsg) (s : State), s.isHead = false → s.isWarden = false → exec (.heartReceived m) s = .next s) ∧
  (∀ s : State, s.paired = true → s.flag F.RED_STAT_PEER = true →
    ∃ t, exec (.peerMissTimeout (!s.plan.red.endB)) s = .next t ∧ t.getF F.RED_STAT_PEER = 0 ∧ t.getF F.RED_STAT_PAIRED = 0 ∧
      t.getF F.RED_EVT_PEER_LOST = 1 ∧ t.getF F.RED_CNT_PEER_LOSS = min (s.getF F.RED_CNT_PEER_LOSS + 1) 255 ∧
      t.red.copyIn = none ∧ t.red.back = 0 ∧
      t.getF F.RED_CNT_COPY_ABORT = (if s.red.copyIn.isSome then min (s.getF F.RED_CNT_COPY_ABORT + 1) 255
        else s.getF F.RED_CNT_COPY_ABORT) ∧
      s.regsKept t [A.RED_STAT, A.RED_EVT, A.RED_CNT]) ∧
  (∀ (e : Bool) (s : State), s.isHead = false →
    exec (.peerMissTimeout e) s = .next { s with red := if e then { s.red with seenB := none } else { s.red with seenA := none } }) ∧
  (∀ (m : HeartMsg) (s : State), s.paired = true → s.red.peerHeart = some m → m.epoch ≠ s.getW A.CFG_EPOCH →
    ∃ t, exec .epochDiffTimeout s = .next t ∧ t.getF F.RED_EVT_EPOCH_DIFF = 1 ∧ s.onlyRegs t [A.RED_EVT]) ∧
  (∀ (m : HeartMsg) (s : State), s.red.peerHeart = some m → m.epoch = s.getW A.CFG_EPOCH → exec .epochDiffTimeout s = .next s)

/-- Verdicts (R324 to R326), claims and duties (R328 to R332). -/
def Obligations.VerdictsAndClaimsGiveTheOwner : Prop :=
  (∀ (a b : Bool) (s : State), s.isWarden = true → a = aliveOf s.red.seenA (s.vouched s.red.vouchB) →
    b = aliveOf s.red.seenB (s.vouched s.red.vouchA) →
    ∃ t, exec .verdictPeriod s = .next t ∧ t.regs = s.regs ∧
      (a = false → b = false → t.red.owner = s.red.owner) ∧
      (a = true → b = false → t.red.owner = 1) ∧ (a = false → b = true → t.red.owner = 2) ∧
      (a = true → b = true → s.red.owner = 0 → t.red.owner = if s.plan.red.prefB then 2 else 1) ∧
      (∀ m n, a = true → b = true → s.red.owner = 1 → s.red.seenA = some m → s.red.seenB = some n →
        t.red.owner = if m.yield && n.ready then 2 else 1) ∧
      (∀ m n, a = true → b = true → s.red.owner = 2 → s.red.seenA = some m → s.red.seenB = some n →
        t.red.owner = if n.yield && m.ready then 1 else 2) ∧
      t.red.term = (if t.red.owner = s.red.owner then s.red.term else s.red.term + 1)) ∧
  (∀ s : State, s.isWarden = false → exec .verdictPeriod s = .next s) ∧
  (∀ (v : VerdictMsg) (s : State), (s.pairLive = false ∨ v.pair ≠ s.plan.wall.pairId ∨ v.owner = 3 ∨
    v.term.toNat < s.getF F.RED_TERM_TERM) → exec (.verdictReceived v) s = .next s) ∧
  (∀ (v : VerdictMsg) (s : State), s.pairLive = true → v.pair = s.plan.wall.pairId → v.owner ≠ 3 →
    s.getF F.RED_TERM_TERM ≤ v.term.toNat →
    ∃ t, exec (.verdictReceived v) s = .next t ∧ t.getF F.RED_TERM_TERM = v.term.toNat ∧ t.getF F.RED_STAT_WARDEN = 1 ∧
      (s.getF F.RED_TERM_TERM < v.term.toNat → t.getF F.RED_EVT_VERDICT = 1) ∧
      (s.duty = 1 → v.owner = s.endNo → s.red.claim = none → s.flag F.RED_STAT_ILK_IN = false →
        t.red.claim = some false ∧ t.getF F.RED_STAT_ILK_OUT = 1 ∧ t.getF F.RED_STAT_DUTY = 1) ∧
      (s.duty = 1 → v.owner = s.endNo → s.red.claim = none → s.flag F.RED_STAT_ILK_IN = true →
        t.red.claim = none ∧ t.getF F.RED_STAT_ILK_OUT = 0 ∧ t.getF F.RED_STAT_DUTY = 1 ∧ t.getF F.RED_EVT_CLAIM_FAIL = 1) ∧
      (s.duty = 2 → v.owner = 3 - s.endNo → t.getF F.RED_STAT_DUTY = 1 ∧ t.getF F.RED_STAT_ILK_OUT = 0 ∧
        t.getF F.RED_EVT_STANDBY = 1 ∧ t.red.yieldOn = false) ∧
      (s.duty = 2 → v.owner ≠ 3 - s.endNo → t.getF F.RED_STAT_DUTY = 2 ∧
        t.getF F.RED_STAT_ILK_OUT = s.getF F.RED_STAT_ILK_OUT) ∧
      (s.duty = 0 → s.flag F.RED_STAT_PEER = false → v.owner = 0 → t.getF F.RED_STAT_DUTY = 1 ∧ t.getF F.RED_EVT_STANDBY = 1) ∧
      s.regsKept t [A.RED_STAT, A.RED_TERM, A.RED_EVT] ∧ t = { s with regs := t.regs, red := t.red }) ∧
  (∀ s : State, s.paired = true → s.flag F.RED_STAT_WARDEN = true →
    ∃ t, exec .wardenMissTimeout s = .next t ∧ t.getF F.RED_STAT_WARDEN = 0 ∧ t.getF F.RED_EVT_WARDEN_LOST = 1 ∧
      t.getF F.RED_STAT_DUTY = s.getF F.RED_STAT_DUTY ∧ s.onlyRegs t [A.RED_STAT, A.RED_EVT]) ∧
  (∀ s : State, s.red.claim = none → exec .ilkClaimSettle s = .next s) ∧
  (∀ (b : Bool) (s : State), s.red.claim = some b → s.flag F.RED_STAT_ILK_IN = false →
    ∃ t, exec .ilkClaimSettle s = .next t ∧ t.getF F.RED_STAT_DUTY = 2 ∧ t.red.claim = none ∧ t.getF F.RED_EVT_OWNER = 1 ∧
      t.getF F.RED_STAT_ILK_OUT = s.getF F.RED_STAT_ILK_OUT ∧
      t.getF F.RED_CNT_SWITCHES = min (s.getF F.RED_CNT_SWITCHES + 1) 255 ∧ t.red.copyIn = none ∧
      t.red.leaseAt = s.now + s.plan.red.leaseUs * 1000) ∧
  (∀ (b : Bool) (s : State), s.red.claim = some b → s.flag F.RED_STAT_ILK_IN = true → (b = true ∨ s.plan.red.endB = true) →
    ∃ t, exec .ilkClaimSettle s = .next t ∧ t.red = { s.red with claim := none } ∧ t.getF F.RED_STAT_ILK_OUT = 0 ∧
      t.getF F.RED_EVT_CLAIM_FAIL = 1 ∧ t.getF F.RED_STAT_DUTY = s.getF F.RED_STAT_DUTY ∧
      s.regsKept t [A.RED_STAT, A.RED_EVT] ∧ t = { s with regs := t.regs, red := t.red }) ∧
  (∀ s : State, s.red.claim = some false → s.flag F.RED_STAT_ILK_IN = true → s.plan.red.endB = false →
    exec .ilkClaimSettle s = .next { s with red := { s.red with claim := some true } }) ∧
  (∀ (low : Bool) (s : State), s.running = true → (s.isHead = true → s.paired = true) → s.red.claim ≠ some true →
    ∃ t, exec (.ilkInChange false low) s = .next t ∧ t.getF F.RED_STAT_ILK_IN = low.toNat ∧
      t.pwr = { s.pwr with ilkInLow := low } ∧ s.regsKept t [A.RED_STAT] ∧ t = { s with regs := t.regs, pwr := t.pwr }) ∧
  (∀ s : State, s.running = true → s.paired = true → s.red.claim = some true →
    ∃ t, exec (.ilkInChange false false) s = .next t ∧ t.getF F.RED_STAT_DUTY = 2 ∧ t.getF F.RED_STAT_ILK_IN = 0 ∧
      t.getF F.RED_EVT_OWNER = 1) ∧
  (∀ (low : Bool) (s : State),
    exec (.ilkInChange true low) s = .next { s with pwr := { s.pwr with ilkOutLow := low } }) ∧
  (∀ s : State, s.pairLive = true → s.duty < 2 → s.flag F.RED_STAT_WARDEN = false → s.flag F.RED_STAT_PEER = false →
    s.flag F.RED_STAT_ILK_IN = false → s.red.claim = none →
    ∃ t, exec .ilkOrphanExpiry s = .next t ∧ t.red = { s.red with claim := some false } ∧ t.getF F.RED_STAT_ILK_OUT = 1 ∧
      s.regsKept t [A.RED_STAT] ∧ t = { s with regs := t.regs, red := t.red }) ∧
  (∀ s : State, (s.flag F.RED_STAT_WARDEN = true ∨ s.flag F.RED_STAT_PEER = true ∨ s.flag F.RED_STAT_ILK_IN = true) →
    exec .ilkOrphanExpiry s = .next s)

/-- Failed Heads (R330, R334), handover (R339), state copies (R335, R336), holding (R340). How the records
of a copy are written as bytes is not stated (log entry 12). -/
def Obligations.FailedHeadsYieldsCopiesAndHolds : Prop :=
  (∀ s : State, s.paired = true → s.duty = 2 → s.flag F.RED_STAT_ILK_OUT = true →
    ∃ t, exec .ilkLeaseExpiry s = .next t ∧ t.getF F.RED_STAT_DUTY = 3 ∧ t.getF F.RED_STAT_CAUSE = 2 ∧
      t.getF F.RED_STAT_ILK_OUT = 0 ∧ t.getF F.RED_EVT_FAILED = 1 ∧ t.red.copyIn = none ∧ t.red.claim = none ∧
      t.lmp.failDark = true ∧ t.lmp.softPend = s.lmp.slot.isSome ∧ s.regsKept t [A.RED_STAT, A.RED_EVT]) ∧
  (∀ s : State, (s.duty ≠ 2 ∨ s.flag F.RED_STAT_ILK_OUT = false) → exec .ilkLeaseExpiry s = .next s) ∧
  (∀ s : State,
    ∃ t, exec .refclkStopDetected s = .next t ∧ t.getF F.RED_STAT_ILK_OUT = 0 ∧ t.red = { s.red with claim := none } ∧
      s.regsKept t [A.RED_STAT] ∧ t = { s with regs := t.regs, red := t.red }) ∧
  (∀ (who : Initiator) (s : State), s.mayWrite who A.RED_CTL →
    ∃ t, exec (.fwAlive who) s = .next t ∧ t.bus = ⟨0, false⟩ ∧ t.red = { s.red with aliveAt := s.now } ∧
      t = { s with red := t.red, bus := t.bus }) ∧
  (∀ s : State, s.paired = true → s.released = true → s.duty ≠ 3 →
    ∃ t, exec .fwAliveTimeout s = .next t ∧ t.getF F.RED_STAT_DUTY = 3 ∧ t.getF F.RED_STAT_CAUSE = 3 ∧
      t.getF F.RED_STAT_ILK_OUT = 0 ∧ t.getF F.RED_EVT_FAILED = 1 ∧ t.lmp.failDark = true) ∧
  (∀ s : State, (s.paired = false ∨ s.released = false ∨ s.duty = 3) → exec .fwAliveTimeout s = .next s) ∧
  (∀ (who : Initiator) (s : State), s.mayWrite who A.RED_CTL → who ≠ .service → s.paired = true → s.duty ≠ 3 →
    ∃ t, exec (.failRequest who) s = .next t ∧ t.bus = ⟨0, false⟩ ∧ t.getF F.RED_STAT_DUTY = 3 ∧ t.getF F.RED_STAT_CAUSE = 4 ∧
      t.getF F.RED_STAT_ILK_OUT = 0 ∧ t.lmp.failDark = true) ∧
  (∀ s : State, s.mayWrite .service A.RED_CTL →
    ∃ t, exec (.failRequest .service) s = .next t ∧ t.bus = ⟨0, false⟩ ∧ s.onlyBus t []) ∧
  (∀ (who : Initiator) (m : HeartMsg) (s : State), s.mayWrite who A.RED_CTL → s.paired = true → s.duty = 2 →
    s.red.peerHeart = some m →
    ∃ t, exec (.yieldRequest who) s = .next t ∧ t.bus = ⟨0, false⟩ ∧
      (s.flag F.RED_STAT_WARDEN = true → s.flag F.RED_STAT_PEER = true → m.ready = true → t.red = { s.red with yieldOn := true } ∧
        t.regs = s.regs) ∧
      ((s.flag F.RED_STAT_WARDEN = false ∨ s.flag F.RED_STAT_PEER = false ∨ m.ready = false) → t.getF F.RED_EVT_YIELD_REF = 1 ∧
        s.onlyBus t [A.RED_EVT])) ∧
  (∀ (who : Initiator) (s : State), s.mayWrite who A.RED_CTL → s.duty ≠ 2 →
    ∃ t, exec (.yieldRequest who) s = .next t ∧ t.bus = ⟨0, false⟩ ∧ s.onlyBus t []) ∧
  (∀ s : State, s.red.yieldOn = true →
    ∃ t, exec .yieldExpiry s = .next t ∧ t.red = { s.red with yieldOn := false } ∧ t.getF F.RED_EVT_YIELD_REF = 1 ∧
      s.regsKept t [A.RED_EVT] ∧ t = { s with regs := t.regs, red := t.red }) ∧
  (∀ s : State, s.pairLive = true → s.duty = 2 →
    ∃ t ps ms, exec .copyPeriod s = .next t ∧ ms = copyParts (s.copyTop + 1) (s.getW A.RED_TERM) s.copyRecords ∧
      1 ≤ ms.length ∧ ms.length ≤ 48 ∧ ps.map (fun p => p.body) = ms.map Body.copy ∧
      (∀ p ∈ ps, p.ports = s.sharedList ∧ p.hdr.typ = 12 ∧ p.hdr.dst = s.peerId) ∧
      (∀ m ∈ ms, m.epoch = s.copyTop + 1 ∧ m.term = s.getW A.RED_TERM ∧ m.parts = ms.length ∧ m.part < ms.length ∧
        m.recs.frame = s.getW A.TIM_FRAME ∧ m.recs.cfgEpoch = s.getW A.CFG_EPOCH ∧ m.recs.variant = s.getF F.GOV_STAT_VARIANT ∧
        m.recs.keys = s.sec.keys ∧ m.recs.roster = s.sec.roster) ∧
      t = { s with
        red := { s.red with copied := some (s.sec.roster, s.sec.keys) }
        lnk := { s.lnk with own := s.lnk.own ++ ps } }) ∧
  (∀ s : State, (s.pairLive = false ∨ s.duty ≠ 2) → exec .copyPeriod s = .next s) ∧
  (∀ (p : CopyPart) (s : State), s.pairLive = true → s.duty ≠ 2 → p.parts ≤ 48 → p.part < p.parts → s.red.copyIn = none →
    ∃ t, exec (.copyPartReceived p) s = .next t ∧ t = { s with red := t.red } ∧
      (p.parts = 1 → t.red.copyIn = none ∧ ∃ c, t.red.copyReady = some c ∧ c.epoch = p.epoch ∧ c.last = p ∧
        tabGet [] c.bodies p.part = p.body) ∧
      (p.parts ≠ 1 → t.red.copyReady = s.red.copyReady ∧ ∃ c, t.red.copyIn = some c ∧ c.epoch = p.epoch ∧ c.got = [p.part] ∧
        c.parts = p.parts)) ∧
  (∀ (p : CopyPart) (c : CopyIn) (s : State), s.pairLive = true → s.duty ≠ 2 → p.parts ≤ 48 → p.part < p.parts →
    s.red.copyIn = some c →
    ∃ t, exec (.copyPartReceived p) s = .next t ∧
      (p.epoch = c.epoch → c.got.contains p.part = false → c.got.length + 1 = p.parts → t.red.copyIn = none ∧
        t.getF F.RED_CNT_COPY_ABORT = s.getF F.RED_CNT_COPY_ABORT ∧ ∃ d, t.red.copyReady = some d ∧ d.epoch = c.epoch ∧
          tabGet [] d.bodies p.part = p.body) ∧
      (0 < diff32 p.epoch c.epoch → t.getF F.RED_EVT_COPY_ABORT = 1 ∧
        t.getF F.RED_CNT_COPY_ABORT = min (s.getF F.RED_CNT_COPY_ABORT + 1) 255) ∧
      (diff32 p.epoch c.epoch < 0 → t = s)) ∧
  (∀ (p : CopyPart) (s : State), (s.pairLive = false ∨ s.duty = 2 ∨ p.parts ≤ p.part ∨ 48 < p.parts) →
    exec (.copyPartReceived p) s = .next s) ∧
  (∀ s : State, s.red.copyIn ≠ none →
    ∃ t, exec .copyTimeout s = .next t ∧ t.red = { s.red with copyIn := none } ∧ t.getF F.RED_EVT_COPY_ABORT = 1 ∧
      t.getF F.RED_CNT_COPY_ABORT = min (s.getF F.RED_CNT_COPY_ABORT + 1) 255 ∧ s.regsKept t [A.RED_CNT, A.RED_EVT] ∧
      t = { s with regs := t.regs, red := t.red }) ∧
  (∀ s : State, s.red.copyIn = none → exec .copyTimeout s = .next s) ∧
  (∀ (f : Fin 4) (s : State), s.bit F.RED_TSTAT_HOLDING f = true → s.bit F.RED_TSTAT_EXPIRED f = false →
    ∃ t, exec (.holdExpiry f) s = .next t ∧ t.bit F.RED_TSTAT_EXPIRED f = true ∧ t.getF F.RED_EVT_HOLD_EXPIRED = 1 ∧
      (s.geo.wasGeode.getLsbD f = false → s.onlyRegs t [A.RED_TSTAT, A.RED_EVT])) ∧
  (∀ (f : Fin 4) (s : State), (s.bit F.RED_TSTAT_HOLDING f = false ∨ s.bit F.RED_TSTAT_EXPIRED f = true) →
    exec (.holdExpiry f) s = .next s)

/-- Mailboxes (R352, R353), locks (R356), doorbells (R359). -/
def Obligations.MailboxesLocksAndDoorbells : Prop :=
  (∀ (who : Initiator) (n : Fin 16) (w : Word) (s : State), s.running = true → s.isSender who n = true →
    s.flag (F.MBX_CST_FULL n) = false → (s.flag (F.MBX_CCFG_LOCK_REQ n) = true →
      s.flag (F.MBX_LOCK_HELD n) = true ∧ s.getF (F.MBX_LOCK_HOLDER n) = who.code) →
    ∃ t, exec (.mailboxDataWrite who n w) s = .next t ∧ t.bus = ⟨0, false⟩ ∧ t.getW (A.MBX_DATA n) = w ∧
      t.getF (F.MBX_CST_FULL n) = 1 ∧ t.getF (F.MBX_CST_LASTSND n) = who.code ∧ t.getF (F.MBX_CST_SNDRST n) = 0 ∧
      t.getF (F.MBX_CST_COUNT n) = (s.getF (F.MBX_CST_COUNT n) + 1) % 65536 ∧
      t.getF (F.MBX_CST_TAKEN n) = s.getF (F.MBX_CST_TAKEN n) ∧ t.getF (F.MBX_CST_REFUSED n) = s.getF (F.MBX_CST_REFUSED n) ∧
      s.onlyBus t [A.MBX_DATA n, A.MBX_CST n]) ∧
  (∀ (who : Initiator) (n : Fin 16) (w : Word) (s : State), s.running = true → s.isSender who n = true →
    (s.flag (F.MBX_CST_FULL n) = true ∨ (s.flag (F.MBX_CCFG_LOCK_REQ n) = true ∧
      (s.flag (F.MBX_LOCK_HELD n) = false ∨ s.getF (F.MBX_LOCK_HOLDER n) ≠ who.code))) →
    ∃ t, exec (.mailboxDataWrite who n w) s = .next t ∧ t.bus = ⟨0, false⟩ ∧ t.getF (F.MBX_CST_REFUSED n) = 1 ∧
      t.getF (F.MBX_CST_FULL n) = s.getF (F.MBX_CST_FULL n) ∧ s.onlyBus t [A.MBX_CST n]) ∧
  (∀ (who : Initiator) (n : Fin 16) (w : Word) (s : State), s.running = true → s.isSender who n = false →
    s.isReceiver who n = true →
    ∃ t, exec (.mailboxDataWrite who n w) s = .next t ∧ t.bus = ⟨0, false⟩ ∧ s.onlyBus t []) ∧
  (∀ (who : Initiator) (n : Fin 16) (w : Word) (s : State), s.running = true → s.isSender who n = false →
    s.isReceiver who n = false →
    ∃ t, exec (.mailboxDataWrite who n w) s = .next t ∧ s.busError t who true (BitVec.ofNat 32 (A.MBX_DATA n)) 0) ∧
  (∀ (who : Initiator) (n : Fin 16) (s : State), s.running = true → s.isReceiver who n = true →
    ∃ t, exec (.mailboxTake who n) s = .next t ∧ t.bus = ⟨0, false⟩ ∧
      (s.flag (F.MBX_CST_FULL n) = true → t.getF (F.MBX_CST_FULL n) = 0 ∧ t.getF (F.MBX_CST_TAKEN n) = 1 ∧
        t.getF (F.MBX_CST_SNDRST n) = 0 ∧ s.onlyBus t [A.MBX_CST n]) ∧
      (s.flag (F.MBX_CST_FULL n) = false → s.onlyBus t [])) ∧
  (∀ (who : Initiator) (n : Fin 16) (s : State), s.running = true → s.isSender who n = true → s.isReceiver who n = false →
    ∃ t, exec (.mailboxTake who n) s = .next t ∧ t.bus = ⟨0, false⟩ ∧ s.onlyBus t []) ∧
  (∀ (who : Initiator) (n : Fin 16) (s : State), s.running = true → s.isSender who n = true → s.flag (F.MBX_LOCK_HELD n) = false →
    ∃ t, exec (.lockRead who n) s = .next t ∧ t.bus.error = false ∧ t.bus.data.toNat % 2 = 1 ∧ t.getF (F.MBX_LOCK_HELD n) = 1 ∧
      t.getF (F.MBX_LOCK_HOLDER n) = who.code ∧ s.onlyBus t [A.MBX_LOCK n]) ∧
  (∀ (who : Initiator) (n : Fin 16) (s : State), s.running = true → (s.isSender who n = true ∨ s.isReceiver who n = true) →
    (s.flag (F.MBX_LOCK_HELD n) = true ∨ s.isSender who n = false) →
    ∃ t, exec (.lockRead who n) s = .next t ∧ t.bus.error = false ∧ s.onlyBus t [] ∧
      (t.bus.data.toNat % 2 = 1 ↔ s.flag (F.MBX_LOCK_HELD n) = true ∧ s.getF (F.MBX_LOCK_HOLDER n) = who.code)) ∧
  (∀ (who : Initiator) (n : Fin 16) (s : State), s.running = true → (s.isSender who n = true ∨ s.isReceiver who n = true) →
    ∃ t, exec (.lockRelease who n) s = .next t ∧ t.bus = ⟨0, false⟩ ∧
      (s.getF (F.MBX_LOCK_HOLDER n) = who.code → t.getF (F.MBX_LOCK_HELD n) = 0 ∧ s.onlyBus t [A.MBX_LOCK n]) ∧
      (s.getF (F.MBX_LOCK_HOLDER n) ≠ who.code → s.onlyBus t [])) ∧
  (∀ (n : Fin 16) (s : State), s.running = true →
    ∃ t, exec (.lockForce .keeper n) s = .next t ∧ t.bus = ⟨0, false⟩ ∧ t.getF (F.MBX_LOCK_HELD n) = 0 ∧
      s.onlyBus t [A.MBX_LOCK n]) ∧
  (∀ (who : Initiator) (n : Fin 16) (s : State), s.running = true → (s.isSender who n = true ∨ s.isReceiver who n = true) →
    who ≠ .keeper → ∃ t, exec (.lockForce who n) s = .next t ∧ t.bus = ⟨0, false⟩ ∧ s.onlyBus t []) ∧
  (∀ (n : Fin 16) (s : State), s.flag (F.MBX_LOCK_HELD n) = true → s.plan.mbx.lockTimeoutUs ≠ 0 →
    ∃ t, exec (.lockTimeout n) s = .next t ∧ t.getF (F.MBX_LOCK_HELD n) = 0 ∧ t.bit F.MBX_EVT_LOCKTO n = true ∧
      s.onlyRegs t [A.MBX_LOCK n, A.MBX_EVT]) ∧
  (∀ (n : Fin 16) (s : State), (s.flag (F.MBX_LOCK_HELD n) = false ∨ s.plan.mbx.lockTimeoutUs = 0) →
    exec (.lockTimeout n) s = .next s) ∧
  (∀ (who : Initiator) (bits : Word) (s : State), s.running = true →
    ∃ t, exec (.doorbellRing who bits) s = .next t ∧ t.bus = ⟨0, false⟩ ∧
      (∀ i, i < 32 → (t.getW A.MBX_DBPEND).getLsbD i = ((s.getW A.MBX_DBPEND).getLsbD i || (bits.getLsbD i && s.mayRing who i))) ∧
      ((∃ i, i < 32 ∧ bits.getLsbD i = true ∧ s.mayRing who i = false) → t.getF F.MBX_EVT_DB_DENY = 1) ∧
      ((∀ i, i < 32 → bits.getLsbD i = true → s.mayRing who i = true) → s.onlyBus t [A.MBX_DBPEND]) ∧
      s.onlyBus t [A.MBX_DBPEND, A.MBX_EVT]) ∧
  (∀ (who : Initiator) (bits : Word) (s : State), s.running = true →
    ∃ t, exec (.doorbellClear who bits) s = .next t ∧ t.bus = ⟨0, false⟩ ∧ s.onlyBus t [A.MBX_DBPEND] ∧
      (∀ i, i < 32 → (t.getW A.MBX_DBPEND).getLsbD i =
        ((s.getW A.MBX_DBPEND).getLsbD i && !(bits.getLsbD i && s.bellTarget i == who))))

/-- Rekeys (R377), enrolment (R371 to R373), the key exchange of a pair (R374), lost keys (R379). -/
def Obligations.RekeysAndEnrolment : Prop :=
  (∀ (ep : Nat) (s : State), s.owns = true → s.sec.keys ≠ [] → s.sec.entropyBad = false → s.flag F.SEC_KEYEP_NEXT_VALID = false →
    ep = (s.curEp + 1) % 64 →
    ∃ t, exec .rekeyTimer s = .next t ∧ t.getF F.SEC_KEYEP_NEXT = ep ∧ t.getF F.SEC_KEYEP_NEXT_VALID = 1 ∧ t.curEp = s.curEp ∧
      t.getW A.SEC_SWITCH = s.imageNow + BitVec.ofNat 32 s.plan.sec.rekeyLead ∧ t.sec.rekeyOn = true ∧
      (∀ c ∈ s.headChains, (t.chainKey c ep).isSome = true) ∧
      (∀ c e, e % 64 ≠ ep → t.chainKey c e = s.chainKey c e) ∧ s.regsKept t [A.SEC_KEYEP, A.SEC_SWITCH, A.SEC_STAT] ∧
      t = { s with regs := t.regs, sec := t.sec, fresh := t.fresh }) ∧
  (∀ s : State, (s.owns = false ∨ s.sec.keys = [] ∨ s.sec.entropyBad = true ∨ s.flag F.SEC_KEYEP_NEXT_VALID = true) →
    exec .rekeyTimer s = .next s) ∧
  (∀ (who : Initiator) (s : State), s.mayWrite who A.SEC_CTL →
    ∃ t, exec (.rekeyRequest who) s = .next t ∧ t.bus = ⟨0, false⟩ ∧
      (s.owns = true → s.sec.keys ≠ [] → s.sec.entropyBad = false → t.getF F.SEC_KEYEP_NEXT_VALID = 1) ∧
      (s.owns = false → s.onlyBus t [])) ∧
  (∀ (m : JoinMsg) (e : Fld) (s : State), s.ownsChain m.chain.val = true → s.flag F.SEC_STAT_DEBUG = false → s.joinFails m = some e →
    ∃ t, exec (.joinReceived m) s = .next t ∧ t.getF F.SEC_CNT0_ENROL_FAIL = min (s.getF F.SEC_CNT0_ENROL_FAIL + 1) 65535 ∧
      t.getF e = 1 ∧ s.onlyRegs t [A.SEC_CNT0, A.SEC_EVT] ∧
      ((m.bytes.length ≠ 488 ∨ s.deviceCertOk m.serial m.cert = false ∨ ecdsaOk (certKey m.cert) (m.bytes.take 392) m.sig = false ∨
          m.wallId ≠ s.plan.wall.id ∨ s.plan.sec.deny.contains m.serial = true) →
        e = F.SEC_EVT_ENROL_FAIL)) ∧
  (∀ (m : JoinMsg) (s : State), (m.bytes.length ≠ 488 ∨ s.deviceCertOk m.serial m.cert = false ∨
    ecdsaOk (certKey m.cert) (m.bytes.take 392) m.sig = false ∨ m.wallId ≠ s.plan.wall.id ∨
    m.planSerial ≠ s.plan.wall.serial ∨ s.joinAt m = 0) → s.joinFails m = some F.SEC_EVT_ENROL_FAIL) ∧
  (∀ (m : JoinMsg) (id : Nat) (z : List Byte) (ek : Key) (s : State), s.ownsChain m.chain.val = true →
    s.flag F.SEC_STAT_DEBUG = false → s.joinFails m = none → s.sec.entropyBad = false →
    s.idAt m.chain.val (s.joinAt m) = some id → ecdh s.drawScalar.1 m.pub = some z →
    ek = enrolKey z m.serial s.shadow.serial s.plan.wall.id →
    ∃ t r p o, exec (.joinReceived m) s = .next t ∧ t.rosterOf m.serial = some r ∧ r.id = BitVec.ofNat 10 id ∧ r.chain = m.chain ∧
      r.pos = s.joinAt m ∧ r.waiting = true ∧ r.ek = some ek ∧ p ∈ t.lnk.own ∧ p.hdr.typ = 10 ∧ p.body = .keyx o ∧ o.step = 1 ∧
      o.toSerial = m.serial ∧ o.fromSerial = s.shadow.serial ∧ t.regs = s.regs ∧
      (∀ k, s.chainKey m.chain.val s.curEp = some k → ∃ q x, q ∈ t.lnk.own ∧ q.body = .keyx x ∧ x.step = 3 ∧
        x.toSerial = m.serial ∧ x.wrapped = gcmCrypt ek x.nonce (keyBytes k) ∧
        x.wrapTag = gcmTag ek x.nonce (x.bytes.take 44) x.wrapped ∧ x.ep = BitVec.ofNat 6 s.curEp)) ∧
  (∀ (m : JoinMsg) (s : State), s.ownsChain m.chain.val = false → exec (.joinReceived m) s = .next s) ∧
  (∀ (m : KeyxMsg) (s : State), (s.flag F.SEC_STAT_DEBUG = true ∨ (s.isHead = false ∧ m.toSerial ≠ s.shadow.serial)) →
    exec (.keyxReceived m) s = .next s) ∧
  (∀ (m : KeyxMsg) (p : Nat) (z : List Byte) (s : State), s.flag F.SEC_STAT_DEBUG = false → s.isHead = false →
    m.toSerial = s.shadow.serial → m.step = 1 → s.sec.share = some p → s.keyxAuth m (publicKey p) = true → ecdh p m.pub = some z →
    exec (.keyxReceived m) s =
      .next { s with sec := { s.sec with ek := some (enrolKey z s.shadow.serial m.fromSerial s.plan.wall.id), share := none } }) ∧
  (∀ (m : KeyxMsg) (s : State), s.isHead = false → m.step = 1 → s.sec.share = none → exec (.keyxReceived m) s = .next s) ∧
  (∀ (m : KeyxMsg) (s : State), s.flag F.SEC_STAT_DEBUG = false → s.isHead = false → m.toSerial = s.shadow.serial →
    ((m.step = 1 ∧ ∃ p, s.sec.share = some p ∧ (m.bytes.length ≠ 496 ∨ s.deviceCertOk m.fromSerial m.cert = false ∨
        ecdsaOk (certKey m.cert) (m.bytes.take 400 ++ publicKey p) m.sig = false)) ∨
      (m.step = 3 ∧ ∀ ek, s.sec.ek = some ek → gcmTag ek m.nonce (m.bytes.take 44) m.wrapped ≠ m.wrapTag)) →
    ∃ t, exec (.keyxReceived m) s = .next t ∧ t.getF F.SEC_CNT1_KEYX_FAIL = min (s.getF F.SEC_CNT1_KEYX_FAIL + 1) 65535 ∧
      s.onlyRegs t [A.SEC_CNT1]) ∧
  (∀ (m : KeyxMsg) (k ek : Key) (s : State), s.flag F.SEC_STAT_DEBUG = false → s.isHead = false → m.toSerial = s.shadow.serial →
    m.step = 3 → s.sec.ek = some ek → gcmTag ek m.nonce (m.bytes.take 44) m.wrapped = m.wrapTag →
    k = keyOf (gcmCrypt ek m.nonce m.wrapped) →
    ∃ t, exec (.keyxReceived m) s = .next t ∧ t.chainKey (s.chainOf 0) m.ep.toNat = some k ∧ t.getF F.SEC_STAT_CHAINKEY = 1 ∧
      (∀ c e, (c ≠ s.chainOf 0 ∨ e % 64 ≠ m.ep.toNat) → t.chainKey c e = s.chainKey c e) ∧
      (s.sec.keys = [] → t.curEp = m.ep.toNat) ∧
      (s.sec.keys ≠ [] → m.ep.toNat ≠ s.curEp → 0 < diff32 m.switch s.imageNow → t.curEp = s.curEp ∧
        t.getF F.SEC_KEYEP_NEXT = m.ep.toNat ∧ t.getF F.SEC_KEYEP_NEXT_VALID = 1 ∧ t.getW A.SEC_SWITCH = m.switch) ∧
      (s.sec.keys ≠ [] → m.ep.toNat ≠ s.curEp → diff32 m.switch s.imageNow ≤ 0 → t.curEp = m.ep.toNat) ∧
      (s.sec.keys ≠ [] → m.ep.toNat = s.curEp → t.getW A.SEC_KEYEP = s.getW A.SEC_KEYEP) ∧
      (s.hasWindow = true → ∃ p a, t.lnk.own = s.lnk.own ++ [p] ∧ p.hdr.dst = 1022 ∧ p.body = .keyx a ∧ a.step = 4 ∧
        a.toSerial = m.fromSerial ∧ a.fromSerial = s.shadow.serial ∧ a.ep = m.ep ∧ a.ackOk ek = true) ∧
      s.regsKept t [A.SEC_STAT, A.SEC_KEYEP, A.SEC_SWITCH]) ∧
  (∀ (m : KeyxMsg) (r : RosterEntry) (s : State), s.flag F.SEC_STAT_DEBUG = false → s.ownsChain m.chain.val = true →
    m.fromHead = false → m.step = 4 → s.rosterOf m.fromSerial = some r →
    ∃ t, exec (.keyxReceived m) s = .next t ∧
      ((∀ ek, r.ek = some ek → m.ackOk ek = false) →
        t.getF F.SEC_CNT1_KEYX_FAIL = min (s.getF F.SEC_CNT1_KEYX_FAIL + 1) 65535 ∧ t.sec = s.sec) ∧
      (∀ ek, r.ek = some ek → m.ackOk ek = true → r.waiting = true → m.ep.toNat = s.curEp →
        ∃ x p, t.rosterOf m.fromSerial = some x ∧ x.assigned = true ∧
        x.waiting = false ∧ x.acks.contains m.ep.toNat = true ∧ x.id = r.id ∧ t.lnk.own = s.lnk.own ++ [p] ∧ p.hdr.typ = 9 ∧
        p.body = .assign { serial := r.serial, id := r.id, pos := r.pos, chain := r.chain })) ∧
  (∀ (m : KeyxMsg) (s : State), s.paired = true → s.flag F.RED_STAT_PAIR_REFUSED = false → m.fromHead = true →
    ∃ t, exec (.keyxReceived m) s = .next t ∧
      ((m.step = 1 ∨ (m.step = 2 ∧ s.sec.share ≠ none)) →
        (m.bytes.length ≠ 496 ∨ s.deviceCertOk m.fromSerial m.cert = false ∨
          (s.plan.sec.peerSerial ≠ 0 ∧ m.fromSerial ≠ s.plan.sec.peerSerial)) →
        t.getF F.SEC_EVT_PAIR_AUTH = 1 ∧ t.getF F.SEC_CNT1_KEYX_FAIL = min (s.getF F.SEC_CNT1_KEYX_FAIL + 1) 65535 ∧
        t.getF F.RED_STAT_PAIR_REFUSED = 1 ∧ t.getF F.RED_STAT_DUTY = 0 ∧ t.sec = s.sec) ∧
      (∀ p z, ((m.step = 2 ∧ s.sec.share = some p) ∨ (m.step = 1 ∧ p = s.drawScalar.1 ∧ m.pub ≠ s.sec.peerPub ∧
          s.sec.entropyBad = false ∧ (s.sec.share = none ∨ s.plan.red.endB = true))) → s.partnerOk m = true → ecdh p m.pub = some z →
        t.sec.pairKey = some (if s.plan.red.endB then pairKeyOf z m.fromSerial s.shadow.serial
          else pairKeyOf z s.shadow.serial m.fromSerial) ∧ t.getF F.SEC_STAT_PAIRKEY = 1) ∧
      (∀ k pk, m.step = 3 → s.sec.pairKey = some pk → m.unwrap pk = some k →
        t.chainKey m.chain.val m.ep.toNat = some k ∧ t.curEp = m.ep.toNat ∧ t.sec.pairWait = false) ∧
      (∀ pk, m.step = 4 → s.sec.pairKey = some pk → m.ackOk pk = true →
        t = { s with sec := { s.sec with pairWait := false } })) ∧
  (∀ (x : Serial) (r : RosterEntry) (s : State), s.rosterOf x = some r →
    ∃ t, exec (.keyxStepTimeout x) s = .next t ∧ t = { s with sec := { s.sec with roster := t.sec.roster } } ∧
      (r.waiting = false → t = s) ∧
      (r.waiting = true → r.assigned = false → t.sec.roster = s.sec.roster.filter (fun y => y.serial != x)) ∧
      (r.waiting = true → r.assigned = true → t.rosterOf x = some { r with waiting := false })) ∧
  (∀ (x : Serial) (s : State), s.rosterOf x = none → s.paired = false → exec (.keyxStepTimeout x) s = .next s) ∧
  (∀ s : State, s.isHead = false → s.lnk.frameFail = true → s.lnk.framePass = false → s.flag F.SEC_STAT_DEBUG = false →
    ∃ t, exec .keyLostDetect s = .next t ∧ t.sec.keys = [] ∧ t.sec.ek = none ∧ t.lnk.ctx = [] ∧ t.getF F.SEC_STAT_CHAINKEY = 0 ∧
      t.getF F.SEC_KEYEP_CUR = 0 ∧ t.getF F.SEC_KEYEP_NEXT_VALID = 0 ∧ t.getF F.SEC_EVT_KEY_LOST = 1 ∧
      t.getW A.LNK_ID = s.getW A.LNK_ID ∧ s.regsKept t [A.SEC_STAT, A.SEC_KEYEP, A.SEC_EVT]) ∧
  (∀ s : State, (s.isHead = true ∨ s.lnk.frameFail = false ∨ s.lnk.framePass = true) → exec .keyLostDetect s = .next s)

/-- Zeroise (R387), the entropy source (R367), sessions (R380), lifecycle (R383), debug (R384). That a lifecycle command acts
in the shadow registers at once is the model's choice (log entry 42). -/
def Obligations.ZeroiseEntropySessionsAndLifecycle : Prop :=
  (∀ (who : Initiator) (s : State), s.mayWrite who A.SEC_CTL →
    ∃ t, exec (.keyZeroise who) s = .next t ∧ t.bus = ⟨0, false⟩ ∧ t.sec.pairKey = none ∧ t.sec.sessions = [] ∧
      (∀ r ∈ t.sec.roster, r.ek = none) ∧ t.getF F.SEC_STAT_PAIRKEY = 0 ∧ t.getF F.SEC_STAT_SESSIONS = 0 ∧
      t.getF F.SEC_EVT_ZEROISED = 1 ∧ t.sec.identity = s.sec.identity ∧
      (s.isHead = false → t.sec.keys = [] ∧ t.sec.ek = none ∧ t.getF F.SEC_STAT_CHAINKEY = 0 ∧
        s.regsKept t [A.SEC_STAT, A.SEC_KEYEP, A.SEC_EVT]) ∧
      (s.paired = true → s.duty ≠ 3 → t.sec.keys = [] ∧ t.getF F.RED_STAT_DUTY = 3 ∧ t.getF F.RED_STAT_ILK_OUT = 0 ∧
        t.lmp.failDark = true) ∧
      (s.isHead = true → s.paired = false → s.sec.entropyBad = false →
        ∀ c ∈ s.headChains, (t.chainKey c t.curEp).isSome = true)) ∧
  (∀ s : State,
    ∃ t, exec (.entropyRetry false) s = .next t ∧ t.sec = { s.sec with entropyBad := true } ∧ t.getF F.SEC_EVT_ENTROPY = 1 ∧
      s.regsKept t [A.SEC_EVT] ∧ t = { s with regs := t.regs, sec := t.sec }) ∧
  (∀ s : State, (s.sec.entropyBad = false ∨ s.isHead = false ∨ s.released = false) →
    exec (.entropyRetry true) s = .next { s with sec := { s.sec with entropyBad := false } }) ∧
  (∀ s : State, s.sec.entropyBad = true → s.released = true → s.isHead = true → s.paired = false → s.sec.keys = [] →
    ∃ t, exec (.entropyRetry true) s = .next t ∧ t.sec.entropyBad = false ∧
      ∀ c ∈ s.headChains, (t.chainKey c t.curEp).isSome = true) ∧
  (∀ (m : SessionMsg) (s : State), s.running = true → s.lan.svcUp = true → s.sec.identity.isSome = true → s.sec.entropyBad = false →
    s.sessionOk m = true → s.sec.sessions.length ≤ 4 →
    ∃ t x g, exec (.sessionSetup m) s = .next t ∧ x.manage = s.sessionRole m .manage ∧ x.arbiter = s.sessionRole m .arbiter ∧
      x.id = s.sec.sessionNext ∧ x.high = 0 ∧ x.key = sessionKey ((ecdh s.drawScalar.1 m.pub).getD []) ∧
      t.sec.sessions = (if s.sec.sessions.length = 4 then s.sec.sessions.drop 1 else s.sec.sessions) ++ [x] ∧
      t.getF F.SEC_STAT_SESSIONS = min (s.sec.sessions.length + 1) 4 ∧ s.regsKept t [A.SEC_STAT] ∧
      t.out = .svcSession x.id (publicKey s.drawScalar.1) s.kar.cert g :: s.out ∧
      t = { s with regs := t.regs, sec := t.sec, fresh := t.fresh, out := t.out }) ∧
  (∀ (m : SessionMsg) (s : State), s.running = true → s.lan.svcUp = true → s.sec.identity.isSome = true → s.sec.entropyBad = false →
    ((s.sessionRole m .manage = false ∧ s.sessionRole m .arbiter = false) ∨
      ecdsaOk (certKey m.cert) (m.transcript ++ m.pub) m.sig = false) →
    ∃ t, exec (.sessionSetup m) s = .next t ∧ t.getF F.SEC_CNT0_SESS_FAIL = min (s.getF F.SEC_CNT0_SESS_FAIL + 1) 65535 ∧
      t.getF F.SEC_EVT_SESS_FAIL = 1 ∧ s.onlyRegs t [A.SEC_CNT0, A.SEC_EVT]) ∧
  (∀ (b : Fin 3) (c : SignedCmd) (s : State), s.running = true → s.shadow.life = s.fuses.life → lifeState s.fuses.life < b.val + 1 →
    s.debugSigned c (c.body ++ [BitVec.ofNat 8 b.val]) = true →
    ∃ t, exec (.lifecycleCommand b c) s = .next t ∧ t.fuses.life = s.fuses.life ||| BitVec.ofNat 8 (2 ^ b.val) ∧
      t.getF F.SEC_STAT_LIFE = b.val + 1 ∧ (b.val = 2 → t.fuses.options = s.fuses.options ||| 2) ∧
      t.fuses.serial = s.fuses.serial ∧ s.regsKept t [A.SEC_STAT]) ∧
  (∀ (b : Fin 3) (c : SignedCmd) (s : State),
    (certSerial c.cert ≠ s.shadow.serial ∨ certSerial c.cert = 0 ∨
      ecdsaOk (certKey c.cert) (c.body ++ [BitVec.ofNat 8 b.val]) c.sig = false ∨ b.val + 1 ≤ lifeState s.fuses.life) →
    exec (.lifecycleCommand b c) s = .next s) ∧
  (∀ (c : SignedCmd) (x : Key) (s : State), s.running = true → lifeState s.fuses.life = 2 → s.sec.challenge = some x →
    s.debugSigned c (c.body ++ keyBytes x) = true →
    exec (.debugUnlock c) s =
      .next { s with boot := { s.boot with debugNext := true }, sec := { s.sec with challenge := none } }) ∧
  (∀ (c : SignedCmd) (s : State), (certSerial c.cert ≠ s.shadow.serial ∨ certSerial c.cert = 0 ∨ lifeState s.fuses.life ≠ 2 ∨
    ∀ x, s.sec.challenge = some x → ecdsaOk (certKey c.cert) (c.body ++ keyBytes x) c.sig = false) →
    exec (.debugUnlock c) s = .next s)

/-- Carrying a package (R391 to R397). -/
def Obligations.PackagesArriveAreStoredAndPassedOn : Prop :=
  (∀ (port : Option (Fin 8)) (m : Manifest) (d : UpdMsg) (pkg : BitVec 64) (x : Word) (s : State), s.updFrom port = false →
    exec (.updateManifestReceived port m) s = .next s ∧ exec (.updateDataReceived port d) s = .next s ∧
      exec (.updateActivate port pkg x) s = .next s ∧ exec (.updateAbort port pkg) s = .next s) ∧
  (∀ (port : Option (Fin 8)) (m : Manifest) (s : State), s.updFrom port = true →
    (s.flag F.UPD_STAT_TRIAL = true ∨ (s.recovering = false ∧ s.dirNow.pkg = m.pkg) ∨ s.manifestValid m = false) →
    ∃ t, exec (.updateManifestReceived port m) s = .next t ∧ t.getF F.UPD_EVT_REFUSED = 1 ∧ t.nvm = s.nvm ∧ t.upd.held = s.upd.held ∧
      s.regsKept t [A.UPD_EVT, A.UPD_CNT]) ∧
  (∀ (port : Option (Fin 8)) (m : Manifest) (s : State), s.updFrom port = true → s.flag F.UPD_STAT_TRIAL = false →
    (s.recovering = true ∨ s.dirNow.pkg ≠ m.pkg) → s.manifestValid m = true → s.getF F.UPD_STAT_SPARE ≠ 5 → s.hasPkg m.pkg = false →
    ∃ t, exec (.updateManifestReceived port m) s = .next t ∧ t.getF F.UPD_STAT_SPARE = 1 ∧ t.getF F.UPD_STAT_VCODE = 0 ∧
      t.getW A.UPD_PKGL = BitVec.ofNat 32 m.pkg.toNat ∧ t.getW A.UPD_PKGH = BitVec.ofNat 32 (m.pkg.toNat / 2 ^ 32) ∧
      t.getF F.UPD_PROG_HAVE = 0 ∧ t.getF F.UPD_PROG_TOTAL = s.storesCount m % 65536 ∧ t.spare = { manifest := some m, blocks := [(0, m.bytes)] } ∧
      t.nvm.dir = s.nvm.dir ∧ t.upd.held = [] ∧ t.upd.erased = false ∧ t.upd.source = port.map Fin.val ∧
      s.regsKept t [A.UPD_STAT, A.UPD_PKGL, A.UPD_PKGH, A.UPD_PROG, A.UPD_CNT]) ∧
  (∀ (port : Option (Fin 8)) (m : Manifest) (s : State), s.updFrom port = true → s.flag F.UPD_STAT_TRIAL = false →
    (s.recovering = true ∨ s.dirNow.pkg ≠ m.pkg) → s.manifestValid m = true →
    (s.getF F.UPD_STAT_SPARE = 5 ∨ (s.hasPkg m.pkg = true ∧ 1 ≤ s.getF F.UPD_STAT_SPARE ∧ s.getF F.UPD_STAT_SPARE ≤ 4)) →
    ∃ t, exec (.updateManifestReceived port m) s = .next t ∧ t.nvm = s.nvm ∧ t.upd.held = s.upd.held ∧ s.regsKept t [A.UPD_CNT]) ∧
  (∀ s : State, s.getF F.UPD_STAT_SPARE = 1 →
    ∃ t, exec .spareEraseDone s = .next t ∧ t.getF F.UPD_STAT_SPARE = 2 ∧ t.getF F.UPD_PROG_HAVE = 1 ∧
      t.upd = { s.upd with erased := true, held := [0] } ∧ s.regsKept t [A.UPD_STAT, A.UPD_PROG] ∧
      t = { s with regs := t.regs, upd := t.upd }) ∧
  (∀ s : State, s.getF F.UPD_STAT_SPARE ≠ 1 → exec .spareEraseDone s = .next s) ∧
  (∀ (port : Option (Fin 8)) (m : UpdMsg) (mf : Manifest) (s : State), s.updFrom port = true → m.kind = 0 → m.arg ≠ 0 →
    s.spare.manifest = some mf → mf.pkg = m.pkg → s.getF F.UPD_STAT_SPARE = 2 →
    ∃ t, exec (.updateDataReceived port m) s = .next t ∧ t.nvm = s.nvm ∧ t.upd.held = s.upd.held ∧
      t.upd.source = port.map Fin.val ∧
      (s.storesBlock mf m.arg = true → s.upd.held.contains m.arg = false → (∀ p ∈ s.upd.prog, p.1 ≠ m.arg) →
        t.upd.prog = s.upd.prog ++ [(m.arg, m.data)]) ∧
      ((s.storesBlock mf m.arg = false ∨ s.upd.held.contains m.arg = true) → t.upd.prog = s.upd.prog) ∧
      (∀ n, port = some n → s.isHead = false → s.recovering = false → s.newBlock m.pkg m.arg = true →
        t.getF F.UPD_CNT_RELAYED = min (s.getF F.UPD_CNT_RELAYED + 1) 65535 ∧ t.upd.seen.contains m.arg = true) ∧
      (∀ n, port = some n → s.isHead = false → s.newBlock m.pkg m.arg = false → s.upd.wanted.contains m.arg = false →
        t.lnk = s.lnk ∧ t.getF F.UPD_CNT_RELAYED = s.getF F.UPD_CNT_RELAYED) ∧ s.regsKept t [A.UPD_CNT]) ∧
  (∀ (port : Option (Fin 8)) (m : UpdMsg) (s : State), (m.kind ≠ 0 ∨ m.arg = 0) → exec (.updateDataReceived port m) s = .next s) ∧
  (∀ (b : Nat) (d : List Byte) (s : State), s.upd.prog.find? (fun p => p.1 == b) = some (b, d) → s.upd.held.contains b = false →
    ∃ t, exec (.blockProgrammed b true) s = .next t ∧ t.upd = { s.upd with prog := s.upd.prog.filter (fun p => p.1 != b), held := b :: s.upd.held } ∧
      t.spare = { s.spare with blocks := tabPut s.spare.blocks b d } ∧ t.getF F.UPD_PROG_HAVE = (s.upd.held.length + 1) % 65536 ∧
      s.regsKept t [A.UPD_PROG]) ∧
  (∀ (b : Nat) (d : List Byte) (s : State), s.upd.prog.find? (fun p => p.1 == b) = some (b, d) →
    ∃ t, exec (.blockProgrammed b false) s = .next t ∧ t.upd.held.contains b = false ∧ (∀ p ∈ t.upd.prog, p.1 ≠ b) ∧
      (∀ p ∈ t.spare.blocks, p.1 ≠ b) ∧ (∀ k ∈ t.upd.held, k ∈ s.upd.held) ∧ s.regsKept t [A.UPD_PROG]) ∧
  (∀ (b : Nat) (e : Bool) (s : State), (∀ p ∈ s.upd.prog, p.1 ≠ b) → exec (.blockProgrammed b e) s = .next s) ∧
  (∀ s : State, s.upd.preparing = false → exec .updatePrepareExpiry s = .next s) ∧
  (∀ (m : Manifest) (s : State), s.upd.preparing = true → s.isHead = true → s.spare.manifest = some m → s.passPorts ≠ [] →
    ∃ t, exec .updatePrepareExpiry s = .next t ∧ t.upd.preparing = false ∧ t.regs = s.regs ∧
      (∀ n, 1 ≤ n → n < m.total → s.upd.held.contains n = true →
        ∃ p ∈ t.lnk.own, p.ports = s.passPorts ∧ p.hdr.typ = 11 ∧ p.body = .upd (s.spare.dataMsg m n)) ∧
      ((∀ n, n < m.total → s.upd.held.contains n = true) → t.out = s.out) ∧
      (∀ n, 1 ≤ n → n < m.total → s.upd.held.contains n = false → n ∈ t.upd.wanted)) ∧
  (∀ (m : Manifest) (s : State), s.spare.manifest = some m → s.getF F.UPD_STAT_SPARE = 2 →
    (∀ a c, s.lackRun m = some (a, c) → s.upd.source = none →
      exec .updateNeedTimer s = .next (s.emit (.svcUpd { kind := 1, pkg := m.pkg, arg := a, count := c }))) ∧
    (∀ a c n, s.lackRun m = some (a, c) → s.upd.source = some n → s.hasWindow = true →
      ∃ t p, exec .updateNeedTimer s = .next t ∧ t = { s with lnk := { s.lnk with own := s.lnk.own ++ [p] } } ∧ p.ports = [n] ∧
        p.body = .upd { kind := 1, pkg := m.pkg, arg := a, count := c }) ∧
    (s.lackRun m = none → exec .updateNeedTimer s = .next s)) ∧
  (∀ s : State, (s.spare.manifest = none ∨ s.getF F.UPD_STAT_SPARE ≠ 2) → exec .updateNeedTimer s = .next s) ∧
  (∀ (n : Fin 8) (m : UpdMsg) (mf : Manifest) (s : State), s.running = true → s.recovering = false → s.isHead = true → m.kind = 1 →
    m.count = 1 → s.portRec n = false → s.spare.manifest = some mf → mf.pkg = m.pkg → m.arg < mf.total →
    ∃ t, exec (.updateNeedReceived n m) s = .next t ∧
      (s.upd.held.contains m.arg = true → t.getF F.UPD_CNT_REPAIRS = min (s.getF F.UPD_CNT_REPAIRS + 1) 65535 ∧ t.out = s.out ∧
        ∃ p, t.lnk.own = s.lnk.own ++ [p] ∧ p.ports = [n.val] ∧ p.body = .upd (s.spare.dataMsg mf m.arg)) ∧
      (s.upd.held.contains m.arg = false → t.regs = s.regs ∧ m.arg ∈ t.upd.wanted ∧
        t.out = .svcUpd { kind := 1, pkg := m.pkg, arg := m.arg, count := 1 } :: s.out)) ∧
  (∀ (n : Fin 8) (m : UpdMsg) (s : State), (s.running = false ∨ s.recovering = true ∨ m.kind ≠ 1) →
    exec (.updateNeedReceived n m) s = .next s)

/-- Verification (R399), activation (R400), fallback (R403) and confirmation (R404). -/
def Obligations.PackagesAreVerifiedActivatedAndConfirmed : Prop :=
  (∀ s : State, ((s.getF F.UPD_STAT_SPARE = 2 ∧ s.allHeld = true) ∨ s.getF F.UPD_STAT_SPARE = 3) →
    ∃ t, exec .spareVerify s = .next t ∧ t.getF F.UPD_STAT_SPARE = 3 ∧ t.upd = { s.upd with verifying := true } ∧
      s.regsKept t [A.UPD_STAT] ∧ t = { s with regs := t.regs, upd := t.upd }) ∧
  (∀ s : State, s.getF F.UPD_STAT_SPARE ≠ 3 → (s.getF F.UPD_STAT_SPARE ≠ 2 ∨ s.allHeld = false) → exec .spareVerify s = .next s) ∧
  (∀ (c : BankCheck) (s : State), (s.upd.verifying = false ∨ s.spare.manifest = none) → exec (.spareVerifyDone c) s = .next s) ∧
  (∀ (c : BankCheck) (m : Manifest) (s : State), s.spare.manifest = some m → s.upd.verifying = true → s.itemsOk m = false →
    ∃ t, exec (.spareVerifyDone c) s = .next t ∧ t.getF F.UPD_STAT_SPARE = 6 ∧ t.getF F.UPD_STAT_VCODE = 0x20 ∧
      t.getF F.UPD_EVT_VERIFY_FAIL = 1 ∧ t.upd = { s.upd with verifying := false } ∧ s.regsKept t [A.UPD_STAT, A.UPD_EVT] ∧
      t = { s with regs := t.regs, upd := t.upd }) ∧
  (∀ (c : BankCheck) (m : Manifest) (b : Bank) (s : State), s.spare.manifest = some m → s.upd.verifying = true → s.itemsOk m = true →
    s.recovering = false → m.regions = false → b = s.completed m c.bank →
    ∃ t, exec (.spareVerifyDone c) s = .next t ∧ t.upd.verifying = false ∧
      (∀ f, f = fwFault s.shadow b.image.wallId b.fw → f ≠ 0 → t.getF F.UPD_STAT_SPARE = 6 ∧ t.getF F.UPD_STAT_VCODE = f ∧ t.nvm = s.nvm) ∧
      (fwFault s.shadow b.image.wallId b.fw = 0 → planFault s.shadow b.fw b.image = 0 →
        b.image.ownedOk (fun _ => true) = true →
        t.getF F.UPD_STAT_SPARE = 4 ∧ t.getF F.UPD_EVT_READY = 1 ∧ t.spare = b ∧
        t.upd.preparing = (s.upd.preparing || (s.isHead && s.released)))) ∧
  (∀ (c : BankCheck) (m : Manifest) (s : State), s.spare.manifest = some m → s.upd.verifying = true → s.itemsOk m = true →
    s.recovering = false → m.regions = true → s.regionsOk m c = true →
    ∃ t, exec (.spareVerifyDone c) s = .next t ∧ t.getF F.UPD_STAT_SPARE = 4 ∧ t.getF F.UPD_EVT_READY = 1 ∧
      t.spare = { s.spare with newFactory := c.factory, newPattern := c.pattern } ∧ t.nvm.factory = s.nvm.factory) ∧
  (∀ (port : Option (Fin 8)) (pkg : BitVec 64) (x : Word) (s : State), s.updFrom port = true → s.recovering = false →
    s.memHold = false → s.isHead = true →
    ∃ t, exec (.updateActivate port pkg x) s = .next t ∧
      (s.updReady pkg = true → s.leadOk x = true → t.getF F.UPD_STAT_SPARE = 5 ∧ t.getW A.UPD_TGT = x ∧ t.upd.activate = some x ∧
        t.upd.writing = true ∧ t.nvm.dir = s.nvm.dir ∧ s.regsKept t [A.UPD_STAT, A.UPD_TGT]) ∧
      ((s.updReady pkg = false ∨ s.leadOk x = false) → t.getF F.UPD_EVT_REFUSED = 1 ∧ s.onlyRegs t [A.UPD_EVT])) ∧
  (∀ (port : Option (Fin 8)) (pkg : BitVec 64) (x : Word) (s : State), s.updFrom port = true → s.recovering = false →
    s.memHold = false → s.isHead = false →
    ∃ t, exec (.updateActivate port pkg x) s = .next t ∧
      (s.updReady pkg = true → t.getF F.UPD_STAT_SPARE = 5 ∧ t.getW A.UPD_TGT = x ∧ t.upd.activate = some x ∧ t.upd.writing = true) ∧
      (s.hasPkg pkg = false → t.getF F.UPD_EVT_REFUSED = 1 ∧ t.upd = s.upd ∧ s.regsKept t [A.UPD_EVT])) ∧
  (∀ (m : Manifest) (x : Word) (s : State), s.spare.manifest = some m → s.upd.activate = some x → s.upd.writing = true →
    m.regions = false → s.memHold = false → s.recovering = false →
    ∃ t, exec .activationWriteDone s = .next t ∧ t.dirNow.active = s.spareBank ∧ t.dirNow.trial = true ∧ t.dirNow.pkg = m.pkg ∧
      t.dirNow.prev = s.dirNow.pkg ∧ t.dirNow.tries = BitVec.ofNat 8 s.plan.upd.trialStarts ∧ t.upd.writing = false ∧
      (s.activateDue x = false → t.regs = s.regs ∧ t.smp.save = s.smp.save) ∧
      (s.activateDue x = true → s.running = true → s.saving = false → t.saveBegun (.reset false))) ∧
  (∀ s : State, (s.upd.activate = none ∨ s.upd.writing = false) → exec .activationWriteDone s = .next s) ∧
  (∀ (port : Option (Fin 8)) (pkg : BitVec 64) (s : State), s.updFrom port = true →
    ∃ t, exec (.updateAbort port pkg) s = .next t ∧
      (s.hasPkg pkg = true → s.getF F.UPD_STAT_SPARE ≠ 5 → s.getF F.UPD_STAT_SPARE ≠ 0 → t.getF F.UPD_STAT_SPARE = 0 ∧ t.spare = {} ∧
        t.getW A.UPD_PKGL = 0 ∧ t.getW A.UPD_PKGH = 0 ∧ t.getF F.UPD_PROG_HAVE = 0 ∧ t.getF F.UPD_PROG_TOTAL = 0 ∧ t.upd.held = [] ∧
        s.regsKept t [A.UPD_STAT, A.UPD_PKGL, A.UPD_PKGH, A.UPD_PROG]) ∧
      ((s.hasPkg pkg = false ∨ s.getF F.UPD_STAT_SPARE = 5) → t.regs = s.regs ∧ t.nvm = s.nvm ∧ t.upd = s.upd)) ∧
  (∀ (who : Initiator) (s : State), s.mayWrite who A.UPD_CTL →
    ∃ t, exec (.updateConfirm who) s = .next t ∧ t.bus = ⟨0, false⟩ ∧
      (s.flag F.UPD_STAT_TRIAL = true → s.released = true → s.upd.confirming = false → s.smp.save = none →
        t.upd.confirming = true ∧ t.smp.upd.confirmed = s.dirNow.pkg ∧ t.getF F.UPD_STAT_TRIAL = 1 ∧ t.nvm = s.nvm ∧
        t.fuses = s.fuses ∧ t.getF F.SMP_STAT_STATE = 2 ∧ s.regsKept t [A.SMP_STAT] ∧
        t.smp.save = some { kind := .record 2, rows := (recordRows 2).map (fun k => (2, k)) }) ∧
      ((s.flag F.UPD_STAT_TRIAL = false ∨ s.released = false) → s.onlyBus t [])) ∧
  (∀ (mv row k : Nat) (x : SaveX) (s : State), s.smp.save = some x → x.rows = [(2, row)] → 3000 ≤ mv → x.kind = .record k →
    s.upd.confirming = true → s.pwr.porAfterRow = false →
    ∃ t, exec (.sumpRowWritten mv) s = .next t ∧ t.upd.confirming = false ∧ t.getF F.UPD_STAT_TRIAL = 0 ∧
      t.getF F.UPD_EVT_CONFIRMED = 1 ∧ t.dirNow.trial = false ∧ t.dirNow.active = s.dirNow.active ∧ t.dirNow.pkg = s.dirNow.pkg ∧
      (s.boot.fw.rollback < 64 → s.boot.fw.rollback ≤ blown t.fuses.fwRollback) ∧ t.smp.save = none ∧
      s.regsKept t [A.UPD_STAT, A.UPD_EVT, A.SMP_STAT, A.SMP_EVT]) ∧
  (∀ (who : Initiator) (s : State), s.mayWrite who A.UPD_CTL →
    ∃ t, exec (.updateFallback who) s = .next t ∧ t.bus = ⟨0, false⟩ ∧
      ((s.flag F.UPD_STAT_TRIAL = true ∨ s.dirNow.prev ≠ 0) → t.dirNow.active = !s.dirNow.active ∧ t.dirNow.pkg = s.dirNow.prev ∧
        t.dirNow.trial = false ∧ t.smp.upd.cause = 5 ∧ t.smp.upd.fell = true ∧ (s.saving = false → t.saveBegun (.reset false))) ∧
      (s.flag F.UPD_STAT_TRIAL = false → s.dirNow.prev = 0 → s.onlyBus t [])) ∧
  (∀ s : State, s.flag F.UPD_STAT_TRIAL = true → s.released = true →
    ∃ t, exec .confirmTimeout s = .next t ∧ t.dirNow.active = !s.dirNow.active ∧ t.dirNow.pkg = s.dirNow.prev ∧
      t.dirNow.trial = false ∧ t.smp.upd.cause = 4 ∧ t.smp.upd.fell = true ∧
      (s.running = true → s.saving = false → t.saveBegun (.reset false))) ∧
  (∀ s : State, (s.flag F.UPD_STAT_TRIAL = false ∨ s.released = false) → exec .confirmTimeout s = .next s)

/-- Temperature (R421 to R427) and the receipt of `STATUS` (R138, R425). The steps of the rate of rise and of the extra values
of the zone are the model's readings (log entry 43). -/
def Obligations.SensorsDemandGraceAndTrips : Prop :=
  (∀ (i : Fin 16) (s : State), s.running = true →
    exec (.sensorConversionStart i) s = .next (s.setSensor i { s.sensor i with converting := true })) ∧
  (∀ (who : Initiator) (mask : BitVec 16) (s : State), s.mayWrite who A.THM_CTL →
    ∃ t, exec (.sensorMeasureRequest who mask) s = .next t ∧ t.bus = ⟨0, false⟩ ∧ t = { s with bus := t.bus, thm := t.thm } ∧
      (∀ i, i < 16 → mask.getLsbD i = true → t.sensor i = { s.sensor i with converting := true }) ∧
      (∀ i, i < 16 → mask.getLsbD i = false → t.sensor i = s.sensor i)) ∧
  (∀ (i : Fin 16) (x : Int) (s : State), (s.sensor i).converting = false →
    exec (.sensorConversionDone i x) s = .next s ∧ exec (.sensorTimeout i) s = .next s) ∧
  (∀ (i : Fin 16) (x : Int) (c : Instr) (s : State), (s.sensor i).converting = true →
    (c = .sensorTimeout i ∨ (c = .sensorConversionDone i x ∧ (x < -320 ∨ 1200 < x))) →
    ∃ t, exec c s = .next t ∧ t.getF (F.THM_T_BROKEN i) = 1 ∧
      t.getF (F.THM_T_TEFF i) = ofSigned 12 (8 * s.getF F.THM_LIM_TRIP - 8) ∧ t.getF (F.THM_T_TEMP i) = s.getF (F.THM_T_TEMP i) ∧
      (s.flag (F.THM_T_BROKEN i) = false → t.getF F.THM_EVT_BROKEN = 1) ∧
      (t.sensor i).converting = false ∧ (t.sensor i).good = 0 ∧
      (∀ j, j < 16 → j ≠ i.val → t.getW (A.THM_T j) = s.getW (A.THM_T j))) ∧
  (∀ (i : Fin 16) (x : Int) (past : List (Nat × Int)) (s : State), (s.sensor i).converting = true → -320 ≤ x → x ≤ 1200 →
    past = s.window ((s.now, x) :: (s.sensor i).past) →
    ∃ t, exec (.sensorConversionDone i x) s = .next t ∧ t.getF (F.THM_T_TEMP i) = ofSigned 12 x ∧ t.getF (F.THM_T_VALID i) = 1 ∧
      (t.sensor i).converting = false ∧ (t.sensor i).past = past ∧
      (s.flag (F.THM_T_BROKEN i) = true → (s.sensor i).good < 15 → t.getF (F.THM_T_BROKEN i) = 1 ∧
        t.getF (F.THM_T_TEFF i) = ofSigned 12 (8 * s.getF F.THM_LIM_TRIP - 8)) ∧
      ((s.flag (F.THM_T_BROKEN i) = false ∨ 15 ≤ (s.sensor i).good) → t.getF (F.THM_T_BROKEN i) = 0 ∧
        (s.rises past x = false → t.getF (F.THM_T_TEFF i) = ofSigned 12 x ∧ t.getF (F.THM_T_ROR i) = 0) ∧
        (s.rises past x = true → t.getF (F.THM_T_ROR i) = 1 ∧
          t.getF (F.THM_T_TEFF i) = ofSigned 12 (max x (8 * s.getF F.THM_LIM_HOT + 8 * s.plan.therm.rorAddC))) ∧
        (8 * (s.getF F.THM_LIM_TRIP : Int) ≤ x → 1 ≤ (s.sensor i).hot → s.thm.tripped = false →
          t.thm.tripped = true ∧ t.getF F.THM_EVT_TRIP = 1 ∧ t.getF F.THM_CNT_TRIPS = min (s.getF F.THM_CNT_TRIPS + 1) 65535 ∧
          t.getF F.THM_STAT_STATE = 4 ∧ t.getF F.LMP_STAT_STATE = 3 ∧ t.lmp.slot = none)) ∧
      (∀ j, j < 16 → j ≠ i.val → t.getW (A.THM_T j) = s.getW (A.THM_T j)) ∧
      (∀ j y, t.hottest = some (j, y) → t.getF F.THM_STAT_HOTTEST = j ∧ t.thm.raw = s.rawAt y ∧
        t.getF F.THM_STAT_DEMAND = min (s.rawAt y) (s.getF F.THM_STAT_DEMAND) ∧
        (s.rawAt y < s.getF F.THM_STAT_DEMAND → t.lnk.extraStatus = true ∧
          (s.thm.enforcing = true → t.getF F.LMP_CUR_TLIMIT = s.rawAt y) ∧
          (s.thm.enforcing = false → s.thm.graceAt = none → s.rawAt y < s.actF F.LMP_CUR_BLIMIT → t.thm.graceAt = some s.now) ∧
          (s.thm.enforcing = false → s.actF F.LMP_CUR_BLIMIT ≤ s.rawAt y → t.thm.graceAt = s.thm.graceAt)))) ∧
  (∀ (d : Nat) (s : State), d = s.getF F.THM_STAT_DEMAND →
    ∃ t, exec .demandRecoverStep s = .next t ∧
      t.thm.demands = s.thm.demands.map (fun p => (p.1, if p.2 < tabGet 255 s.thm.raws p.1 then p.2 + 1 else p.2)) ∧
      (d < s.thm.raw → d < 254 → t.getF F.THM_STAT_DEMAND = d + 1 ∧ (s.thm.enforcing = true → t.getF F.LMP_CUR_TLIMIT = d + 1)) ∧
      (d < s.thm.raw → d = 254 → t.getF F.THM_STAT_DEMAND = 255 ∧ t.getF F.LMP_CUR_TLIMIT = 255 ∧ t.thm.enforcing = false ∧
        t.thm.graceAt = none) ∧
      (s.thm.raw ≤ d → t.getF F.THM_STAT_DEMAND = d ∧ t.getF F.LMP_CUR_TLIMIT = s.getF F.LMP_CUR_TLIMIT ∧
        t.thm.enforcing = s.thm.enforcing)) ∧
  (∀ s : State, s.thm.graceAt = none → exec .graceExpiry s = .next s) ∧
  (∀ s : State, s.thm.graceAt ≠ none → s.actF F.LMP_CUR_BLIMIT ≤ s.getF F.THM_STAT_DEMAND →
    exec .graceExpiry s = .next { s with thm := { s.thm with graceAt := none } }) ∧
  (∀ s : State, s.thm.graceAt ≠ none → s.getF F.THM_STAT_DEMAND < s.actF F.LMP_CUR_BLIMIT →
    ∃ t, exec .graceExpiry s = .next t ∧ t.thm = { s.thm with graceAt := none, enforcing := true } ∧
      t.getF F.LMP_CUR_TLIMIT = s.getF F.THM_STAT_DEMAND ∧ t.getF F.THM_EVT_ENFORCE = 1 ∧
      t.getF F.THM_CNT_ENFORCED = min (s.getF F.THM_CNT_ENFORCED + 1) 65535 ∧
      t.getF F.THM_STAT_STATE = (if s.thm.tripped then 4 else 3) ∧
      (s.getF F.LMP_CUR_TLIMIT ≠ s.getF F.THM_STAT_DEMAND → t.getF F.LMP_EVT_TLIMIT = 1) ∧
      s.regsKept t [A.THM_STAT, A.THM_CNT, A.THM_EVT, A.LMP_CUR, A.LMP_EVT] ∧ t = { s with regs := t.regs, thm := t.thm }) ∧
  (∀ s : State, s.thm.tripped = true → s.tripCool = true →
    ∃ t, exec .tripHoldExpiry s = .next t ∧ t.thm = { s.thm with tripped := false } ∧ t.lmp = { s.lmp with tripHard := false } ∧
      t.getF F.THM_EVT_TRIP_CLEAR = 1 ∧ t.getF F.THM_STAT_STATE ≠ 4 ∧
      (s.flag F.LMP_CTL_HARD = false → s.lmp.lossHard = false → s.flag F.LMP_CTL_STOP = false → t.getF F.LMP_STAT_STATE = 2) ∧
      s.regsKept t [A.THM_STAT, A.THM_EVT, A.LMP_STAT]) ∧
  (∀ s : State, (s.thm.tripped = false ∨ s.tripCool = false) → exec .tripHoldExpiry s = .next s) ∧
  (∀ (m : StatusMsg) (s : State), s.isHead = false → exec (.statusReceived m) s = .next s) ∧
  (∀ (m : StatusMsg) (s : State), s.isHead = true →
    ∃ t, exec (.statusReceived m) s = .next t ∧ tabGet { status := {} } t.lnk.tiles m.src.toNat = { status := m, present := true } ∧
      (s.owns = true → t.tileDemand m.src.toNat = min (s.rawAt m.hottest.toInt) (s.tileDemand m.src.toNat)) ∧
      (∀ v, s.owns = true → s.released = true → s.plan.therm.zone = .head → v = t.lowest s.zoneTiles (s.getF F.THM_STAT_DEMAND) →
        tabGet 255 s.thm.sent 0 ≠ v → tabGet 255 t.thm.sent 0 = v ∧ t.getF F.LMP_CUR_BLIMIT = v % 256 ∧
          ∃ p ∈ t.lnk.own, p.hdr.typ = 3 ∧ p.hdr.dst = 1023 ∧ p.body = .ctrl (s.limitWrites v)))

/-- After reset no command waits (log entry 1), and the memories behind the bus and the staging are canonical and read 0 at
every address (DESIGN CHOICE, log entry 6). -/
def Obligations.ResetHasNoCommandAndEmptyMemory : Prop :=
  State.reset.pending = [] ∧ Memory.wf State.reset.core.mem = true ∧ Memory.wf State.reset.smp.staging = true ∧
  (∀ a, memGet State.reset.core.mem a = 0) ∧ ∀ a, memGet State.reset.smp.staging a = 0

/-- Where the monitors of chapter 2, the timers of chapters 1, 6, 13 and 15 and the reports that they wait for complete: each
under the conditions that its rule names (R20, R24, R25, R31, R32, R34, R54, R132, R138, R140, R292, R293, R322, R323, R325,
R337, R448), with the register or the state that shows its effect. -/
def Obligations.MonitorsTimersAndReportsComplete : Prop :=
  ((∀ (k : Supply) (s : State), s.pwr.phase ≠ .por → s.needsSupply k = false →
    ∃ t, exec (.supplyLeavesRange k) s = .next t ∧ t.getF ⟨A.SUP_STAT, k.bit, 1⟩ = 0 ∧ t.bit F.SUP_EVT_DIP k.bit = true) ∧
  (∀ (k : Supply) (s : State), ∃ t, exec (.supplyReturns k) s = .next t ∧ t.getF ⟨A.SUP_STAT, k.bit, 1⟩ = 1) ∧
  (∀ (ns : Nat) (s : State), 1000 ≤ ns → s.saving = false →
    ∃ t, exec (.porstNLow ns) s = .next t ∧ t.pwr.porstLow = true ∧ t.pwr.phase = .por) ∧
  (∀ s : State, exec .porstNHigh s = .next { s with pwr := { s.pwr with porstLow := false } }) ∧
  (∀ (mv : Nat) (s : State), mv < 4500 →
    ∃ t, exec (.ckeepLow mv) s = .next t ∧ t.getF F.SUP_STAT_CKEEP_OK = 0 ∧ t.getF F.SUP_STAT_CKEEP_MV = mv) ∧
  (∀ (mv : Nat) (s : State), 4500 ≤ mv →
    ∃ t, exec (.ckeepCharged mv) s = .next t ∧ t.getF F.SUP_STAT_CKEEP_OK = 1 ∧ t.getF F.SUP_STAT_CKEEP_MV = min mv 8191) ∧
  (∀ (head : Bool) (s : State), s.pwr.phase = .por → s.porHeld = false →
    ∃ t, exec (.powerOnResetEnd head) s = .next t ∧ t.pwr.phase = .sysPll ∧ t.getF F.SUP_STAT_ROLE = head.toNat)) ∧
  ((∀ (e : SchedEntry) (s : State), s.isHead = true → s.released = true → e.port < 8 → e.variant = s.getF F.GOV_STAT_VARIANT →
    e.typ = 1 → s.mute e.port = false → s.sliceHeld e.port e.facet = false → s.portFree e.port = false →
    ∃ t, exec (.scheduledPacketDue e) s = .next t ∧ (t.port e.port).wait.length = (s.port e.port).wait.length + 1) ∧
  (∀ (n : Fin 8) (p : OutPkt) (rest : List OutPkt) (s : State), (s.port n).wait = p :: rest →
    ∃ t, exec (.txPacketLate n) s = .next t ∧ (t.port n).wait = rest ∧
      t.getF F.LNK_TXSTAT_LATE = min (s.getF F.LNK_TXSTAT_LATE + 1) 65535 ∧ t.getF F.LNK_EVT_LATE = 1) ∧
  (∀ (n : Fin 8) (s : State), s.unitOn n = true → (unitLanes n).any (fun m => decide (2 ≤ s.getF (F.LAN_STATE m))) = true →
    (unitLanes n).any (fun m => s.getF (F.LAN_STATE m) == 5) = false → s.recovering = false → (s.port n).slow = false →
    ∃ t, exec (.recoveryProbeStart n) s = .next t ∧ (t.port n).probing = true ∧ t.portRate n = 0) ∧
  (∀ (n : Fin 8) (s : State), (s.port n).probing = true → s.flag (F.LNK_PSTAT_PRECOV n) = false →
    ∃ t, exec (.recoveryProbeEnd n) s = .next t ∧ (t.port n).probing = false)) ∧
  ((∀ s : State, s.isHead = true → s.released = true →
    exec .startGraceExpiry s = .next { s with gov := { s.gov with graceOver := true } }) ∧
  (∀ (i : HealthItem) (at0 : Nat) (rest : List (Nat × Bool)) (s : State), (healthOf s.gov.items i).hist = (at0, true) :: rest →
    ∃ t, exec (.recoverHoldExpiry i) s = .next t ∧ t.itemHeld i = true) ∧
  (∀ (id : BitVec 10) (s : State), s.isHead = true →
    ∃ t, exec (.statusTimeout id) s = .next t ∧ t.tileReport id.toNat = none) ∧
  (∀ (v : Fin 64) (first image : Word) (s : State), s.selects = false → s.tim.image = some image → diff32 image first < 0 →
    ∃ t, exec (.announceReceived v first) s = .next t ∧ t.getF F.GOV_STAT_PENDING = v.val ∧ t.getF F.GOV_STAT_PEND_VALID = 1)) ∧
  ((∀ (high period : Nat) (s : State), s.getF F.RAIL_STAT_SRC = 2 → s.flag F.RAIL_STAT_AUX_LOST = false → 4000 ≤ period →
    period ≤ 800000 → ∃ t, exec (.auxpwmPeriodEnd high period) s = .next t ∧ t.rail.auxGood = s.rail.auxGood + 1) ∧
  (∀ s : State, s.getF F.RAIL_STAT_SRC = 2 → ∃ t, exec .auxLost s = .next t ∧ t.getF F.RAIL_STAT_AUX_LOST = 1) ∧
  (∀ (c : BitVec 8) (s : State), ∃ t, exec (.headroomValue c) s = .next t ∧ t.rail.lineHr = some c.toNat) ∧
  (∀ s : State, s.running = true → s.getF F.RAIL_STAT_SRC = 0 →
    ∃ t, exec .headroomDarkTimeout s = .next t ∧
      t.getF F.RAIL_SP_TARGET = (clampI s.plan.rail.hrDarkMv s.plan.rail.spMin s.plan.rail.spMax).toNat % 2 ^ 13)) ∧
  ((∀ (q : Nat) (s : State), s.paired = true → s.duty = 2 → s.sec.quiet = false → s.sec.pairWait = false → s.heartPorts = [q] →
    ∃ t, exec .heartPeriod s = .next t ∧ t.red.leaseAt = s.now + s.plan.red.leaseUs * 1000 ∧ t.out.length = s.out.length + 1) ∧
  (∀ (m : HeartMsg) (s : State), s.pairLive = true → m.endB ≠ s.plan.red.endB → m.pair = s.plan.wall.pairId → m.duty ≠ 3 →
    s.flag F.RED_STAT_PEER = false → s.red.lostOnce = false →
    ∃ t, exec (.heartReceived m) s = .next t ∧ t.getF F.RED_STAT_PEER = 1 ∧ t.getF F.RED_STAT_PAIRED = 1) ∧
  (∀ s : State, s.paired = true → s.flag F.RED_STAT_PEER = true →
    ∃ t, exec (.peerMissTimeout (!s.plan.red.endB)) s = .next t ∧ t.getF F.RED_STAT_PEER = 0) ∧
  (∀ (m : HeartMsg) (s : State), s.paired = true → s.red.peerHeart = some m → m.epoch ≠ s.getW A.CFG_EPOCH →
    ∃ t, exec .epochDiffTimeout s = .next t ∧ t.getF F.RED_EVT_EPOCH_DIFF = 1))
end

