-- ==== Sys2Proof/Laws/Assoc.lean ====
section
/-!
SUPPORT. The laws of finite tables and canonical maps: reading what was put, leaving every other key alone, and
keeping the canonical form.
-/

namespace Sys2Proof.Machine

variable {κ α : Type} [DecidableEq κ]

theorem tabGet_tabDrop_self (d : α) (l : List (κ × α)) (k : κ) : tabGet d (tabDrop l k) k = d := by
  induction l with
  | nil => rfl
  | cons h t ih =>
    obtain ⟨j, w⟩ := h
    by_cases hj : j = k <;> simp [tabDrop, tabGet, hj, ih]

theorem tabGet_tabDrop_ne (d : α) (l : List (κ × α)) {j k : κ} (h : j ≠ k) :
    tabGet d (tabDrop l k) j = tabGet d l j := by
  induction l with
  | nil => rfl
  | cons x t ih =>
    obtain ⟨i, w⟩ := x
    by_cases hi : i = k
    · subst hi; simp [tabDrop, tabGet, ih, Ne.symm h]
    · by_cases hj : i = j
      · subst hj; simp [tabDrop, tabGet, h]
      · simp [tabDrop, tabGet, hi, hj, ih]

@[simp] theorem tabGet_tabPut_self (d : α) (l : List (κ × α)) (k : κ) (v : α) :
    tabGet d (tabPut l k v) k = v := by
  simp [tabPut, tabGet]

theorem tabGet_tabPut_ne (d : α) (l : List (κ × α)) {j k : κ} (v : α) (h : j ≠ k) :
    tabGet d (tabPut l k v) j = tabGet d l j := by
  simp [tabPut, tabGet, Ne.symm h, tabGet_tabDrop_ne d l h]

@[simp] theorem tabGet_tabUpd_self (d : α) (l : List (κ × α)) (k : κ) (f : α → α) :
    tabGet d (tabUpd d l k f) k = f (tabGet d l k) := by
  simp [tabUpd]

theorem tabGet_tabUpd_ne (d : α) (l : List (κ × α)) {j k : κ} (f : α → α) (h : j ≠ k) :
    tabGet d (tabUpd d l k f) j = tabGet d l j := tabGet_tabPut_ne d l _ h

variable {β : Type}

theorem tabDrop_keys (l : List (κ × α)) (k : κ) : ∀ p ∈ tabDrop l k, p.1 ≠ k := by
  induction l with
  | nil => simp [tabDrop]
  | cons x t ih =>
    obtain ⟨i, w⟩ := x
    by_cases hi : i = k
    · simpa [tabDrop, hi] using ih
    · intro p hp
      simp only [tabDrop, hi, if_false, List.mem_cons] at hp
      rcases hp with rfl | hp
      · exact hi
      · exact ih p hp

theorem tabGet_absent (d : α) (l : List (κ × α)) (k : κ) (h : ∀ p ∈ l, p.1 ≠ k) : tabGet d l k = d := by
  induction l with
  | nil => rfl
  | cons x t ih =>
    obtain ⟨i, w⟩ := x
    have hi : i ≠ k := h (i, w) (by simp)
    simpa [tabGet, hi] using ih (fun p hp => h p (by simp [hp]))

variable [DecidableEq β]

theorem tabGet_mapInsert_ne (d : Nat → β) (l : List (Nat × β)) {j k : Nat} (v x : β) (h : j ≠ k) :
    tabGet x (mapInsert d k v l) j = tabGet x l j := by
  induction l with
  | nil => by_cases hv : v = d k <;> simp [mapInsert, tabGet, hv, Ne.symm h]
  | cons y t ih =>
    obtain ⟨i, w⟩ := y
    by_cases hi : k < i
    · by_cases hv : v = d k <;> simp [mapInsert, tabGet, hi, hv, Ne.symm h]
    · simp [mapInsert, tabGet, hi, ih]

theorem tabGet_mapInsert_self (d : Nat → β) (l : List (Nat × β)) (k : Nat) (v : β)
    (h : ∀ p ∈ l, p.1 ≠ k) : tabGet (d k) (mapInsert d k v l) k = v := by
  induction l with
  | nil => by_cases hv : v = d k <;> simp [mapInsert, tabGet, hv]
  | cons y t ih =>
    obtain ⟨i, w⟩ := y
    have hi : i ≠ k := h (i, w) (by simp)
    have ht : ∀ p ∈ t, p.1 ≠ k := fun p hp => h p (by simp [hp])
    by_cases hk : k < i
    · by_cases hv : v = d k
      · simp [mapInsert, tabGet, hk, hv, hi, tabGet_absent _ t k ht]
      · simp [mapInsert, tabGet, hk, hv]
    · simp [mapInsert, tabGet, hk, ih ht, hi]

/-- Reading a canonical map at the key just put. -/
theorem tabGet_mapPut_self (d : Nat → β) (l : List (Nat × β)) (k : Nat) (v : β) :
    tabGet (d k) (mapPut d l k v) k = v := tabGet_mapInsert_self d _ k v (tabDrop_keys l k)

/-- Reading a canonical map at any other key. -/
theorem tabGet_mapPut_ne (d : Nat → β) (l : List (Nat × β)) {j k : Nat} (v : β) (x : β) (h : j ≠ k) :
    tabGet x (mapPut d l k v) j = tabGet x l j := by
  rw [mapPut, tabGet_mapInsert_ne d _ v x h, tabGet_tabDrop_ne _ _ h]

theorem mapWfFrom_mono (d : Nat → β) (l : List (Nat × β)) {a b : Nat} (hab : a ≤ b)
    (h : mapWfFrom d b l = true) : mapWfFrom d a l = true := by
  cases l with
  | nil => rfl
  | cons x t =>
    obtain ⟨i, w⟩ := x
    simp only [mapWfFrom, Bool.and_eq_true, decide_eq_true_eq] at h ⊢
    exact ⟨⟨by omega, h.1.2⟩, h.2⟩

theorem mapWfFrom_tabDrop (d : Nat → β) (l : List (Nat × β)) (k lo : Nat)
    (h : mapWfFrom d lo l = true) : mapWfFrom d lo (tabDrop l k) = true := by
  induction l generalizing lo with
  | nil => rfl
  | cons x t ih =>
    obtain ⟨i, w⟩ := x
    simp only [mapWfFrom, Bool.and_eq_true, decide_eq_true_eq] at h
    by_cases hi : i = k
    · simp only [tabDrop, hi, if_true]
      exact mapWfFrom_mono d _ (by omega) (ih (i + 1) h.2)
    · simp only [tabDrop, hi, if_false, mapWfFrom, Bool.and_eq_true, decide_eq_true_eq]
      exact ⟨h.1, ih (i + 1) h.2⟩

theorem mapWfFrom_mapInsert (d : Nat → β) (l : List (Nat × β)) (k lo : Nat) (v : β)
    (hlo : lo ≤ k) (hk : ∀ p ∈ l, p.1 ≠ k) (h : mapWfFrom d lo l = true) :
    mapWfFrom d lo (mapInsert d k v l) = true := by
  induction l generalizing lo with
  | nil => by_cases hv : v = d k <;> simp [mapInsert, mapWfFrom, hv, hlo]
  | cons x t ih =>
    obtain ⟨i, w⟩ := x
    have hi : i ≠ k := hk (i, w) (by simp)
    have ht : ∀ p ∈ t, p.1 ≠ k := fun p hp => hk p (by simp [hp])
    by_cases hki : k < i
    · by_cases hv : v = d k
      · simpa [mapInsert, hki, hv] using h
      · simp only [mapWfFrom, Bool.and_eq_true, decide_eq_true_eq] at h
        simp only [mapInsert, hki, hv, if_true, if_false, mapWfFrom, Bool.and_eq_true, decide_eq_true_eq]
        exact ⟨⟨hlo, hv⟩, ⟨by omega, h.1.2⟩, h.2⟩
    · simp only [mapWfFrom, Bool.and_eq_true, decide_eq_true_eq] at h
      simp only [mapInsert, hki, if_false, mapWfFrom, Bool.and_eq_true, decide_eq_true_eq]
      exact ⟨h.1, ih (i + 1) (by omega) ht h.2⟩

/-- Putting a value keeps the canonical form. -/
theorem mapWf_mapPut (d : Nat → β) (l : List (Nat × β)) (k : Nat) (v : β) (h : mapWf d l = true) :
    mapWf d (mapPut d l k v) = true :=
  mapWfFrom_mapInsert d _ k 0 v (Nat.zero_le _) (tabDrop_keys l k) (mapWfFrom_tabDrop d l k 0 h)

theorem mapWfFrom_tabFilter (d : Nat → β) (p : Nat → Bool) (l : List (Nat × β)) (lo : Nat)
    (h : mapWfFrom d lo l = true) : mapWfFrom d lo (tabFilter p l) = true := by
  induction l generalizing lo with
  | nil => rfl
  | cons x t ih =>
    obtain ⟨i, w⟩ := x
    simp only [mapWfFrom, Bool.and_eq_true, decide_eq_true_eq] at h
    by_cases hi : p i = true
    · simp only [tabFilter, hi, if_true]
      exact mapWfFrom_mono d _ (by omega) (ih (i + 1) h.2)
    · rw [show tabFilter p ((i, w) :: t) = (i, w) :: tabFilter p t by simp [tabFilter, hi]]
      simp only [mapWfFrom, Bool.and_eq_true, decide_eq_true_eq]
      exact ⟨h.1, ih (i + 1) h.2⟩

end Sys2Proof.Machine
end

