-- ==== Sys2Proof/Laws/Crypto.lean ====
section
/-!
SUPPORT. Laws of the cryptography's byte strings: their lengths, and that the counter mode of AES-GCM undoes itself
(R119, R372).
-/

namespace Sys2Proof.Machine

@[simp] theorem bytesBe_length (v n : Nat) : (bytesBe v n).length = n := by
  induction n with
  | zero => rfl
  | succ n ih => simp [bytesBe, ih]

@[simp] theorem piecesOf_length {α : Type} (k : Nat) (l : List α) (n : Nat) : (piecesOf k l n).length = n := by
  induction n generalizing l with
  | zero => rfl
  | succ n ih => simp [piecesOf, ih]

/-- A list of whole pieces splits into pieces of that length. -/
theorem piecesOf_all {α : Type} (k n : Nat) (l : List α) (h : l.length = k * n) : ∀ p ∈ piecesOf k l n, p.length = k := by
  induction n generalizing l with
  | zero => simp [piecesOf]
  | succ n ih =>
    have hk : k * (n + 1) = k * n + k := Nat.mul_succ k n
    intro p hp
    simp only [piecesOf, List.mem_cons] at hp
    rcases hp with rfl | hp
    · simp; omega
    · exact ih (l.drop k) (by simp; omega) p hp

/-- Every element of a piece is one of the list's. -/
theorem mem_piecesOf {α : Type} (k n : Nat) (l : List α) (p : List α) (x : α) (h : p ∈ piecesOf k l n) (hx : x ∈ p) : x ∈ l := by
  induction n generalizing l with
  | zero => simp [piecesOf] at h
  | succ n ih =>
    simp only [piecesOf, List.mem_cons] at h
    rcases h with rfl | h
    · exact List.mem_of_mem_take hx
    · exact List.mem_of_mem_drop (ih (l.drop k) h)

/-- The next word of the key schedule has four bytes. -/
theorem aesWord_length (i rcon : Nat) (ws : List (List Nat)) (h : 8 ≤ ws.length) (hw : ∀ w ∈ ws, w.length = 4) :
    (aesWord i rcon ws).length = 4 := by
  match ws, h, hw with
  | a :: b :: c :: d :: e :: f :: g :: x :: rest, _, hw =>
    have ha : a.length = 4 := hw a (by simp)
    have hx : x.length = 4 := hw x (by simp)
    match a, ha with
    | [p, q, r, s], _ =>
      simp only [aesWord, xorWords, List.length_zipWith]
      split
      · simp [hx]
      · split <;> simp [hx]

/-- The key schedule keeps words of four bytes. -/
theorem aesExpand_words (n i rcon : Nat) (ws : List (List Nat)) (h : 8 ≤ ws.length) (hw : ∀ w ∈ ws, w.length = 4) :
    (aesExpand n i rcon ws).length = ws.length + n ∧ ∀ w ∈ aesExpand n i rcon ws, w.length = 4 := by
  induction n generalizing i rcon ws with
  | zero => exact ⟨rfl, hw⟩
  | succ n ih =>
    have hl := aesWord_length i rcon ws h hw
    have := ih (i + 1) (if i % 8 = 7 then xtime rcon else rcon) (aesWord i rcon ws :: ws) (by simp; omega)
      (by simpa [hl] using hw)
    refine ⟨by simp only [aesExpand, this.1, List.length_cons]; omega, this.2⟩

/-- The fifteen round keys have sixteen bytes each. -/
theorem aesKeys_shape (key : Key) : (aesKeys key).length = 15 ∧ ∀ k ∈ aesKeys key, k.length = 16 := by
  refine ⟨by simp [aesKeys], ?_⟩
  intro k hk
  simp only [aesKeys, List.mem_map] at hk
  obtain ⟨p, hp, rfl⟩ := hk
  have hs : ∀ w ∈ (piecesOf 4 ((bytesBe key.toNat 32).map BitVec.toNat) 8).reverse, w.length = 4 := by
    intro w hw
    exact piecesOf_all 4 8 ((bytesBe key.toNat 32).map BitVec.toNat) (by simp) w (by simpa using hw)
  have he := aesExpand_words 52 8 1 _ (by simp) hs
  have hp4 := piecesOf_all 4 15 _ (by simp [he.1]) p hp
  have hw : ∀ w ∈ p, w.length = 4 := fun w hw => he.2 w (by simpa using mem_piecesOf 4 15 _ p w hp hw)
  match p, hp4, hw with
  | [a, b, c, d], _, hw => simp [hw a (by simp), hw b (by simp), hw c (by simp), hw d (by simp)]

/-- A cipher block has sixteen bytes. -/
theorem aesBlock_length (key : Key) (b : List Nat) : (aesBlock (aesKeys key) b).length = 16 := by
  have h := aesKeys_shape key
  have hk : ((aesKeys key).getD 14 []).length = 16 := by
    rw [List.getD_eq_getElem _ _ (by omega)]
    exact h.2 _ (List.getElem_mem _)
  rw [aesBlock, xorWords, List.length_zipWith, hk]
  simp [shiftRows]

@[simp] theorem gcmStream_length (key : Key) (nonce : List Byte) (i : Nat) : (gcmStream (aesKeys key) nonce i).length = 16 :=
  aesBlock_length key _

/-- Enough key stream for the bytes. -/
theorem gcmStream_enough (key : Key) (nonce l : List Byte) :
    l.length ≤ ((List.range ((l.length + 15) / 16)).flatMap (fun i => gcmStream (aesKeys key) nonce (i + 2))).length := by
  simp [List.length_flatMap]
  omega

@[simp] theorem gcmCrypt_length (key : Key) (nonce l : List Byte) : (gcmCrypt key nonce l).length = l.length := by
  have := gcmStream_enough key nonce l
  simp only [gcmCrypt, List.length_zipWith]
  omega

@[simp] theorem gcmTag_length (key : Key) (nonce aad c : List Byte) : (gcmTag key nonce aad c).length = 16 := by simp [gcmTag]

@[simp] theorem keyBytes_length (k : Key) : (keyBytes k).length = 32 := by simp [keyBytes]

/-- Bytes added twice to the same stream are themselves. -/
theorem xor_stream_twice (l : List Byte) (ks : List Nat) (h : l.length ≤ ks.length) :
    List.zipWith (fun (b : Byte) k => b ^^^ BitVec.ofNat 8 k) (List.zipWith (fun (b : Byte) k => b ^^^ BitVec.ofNat 8 k) l ks) ks = l := by
  induction l generalizing ks with
  | nil => simp
  | cons x l ih =>
    cases ks with
    | nil => simp at h
    | cons k ks => simp [ih ks (by simpa using h)]

/-- The counter mode undoes itself (R119). -/
theorem gcmCrypt_twice (key : Key) (nonce l : List Byte) : gcmCrypt key nonce (gcmCrypt key nonce l) = l := by
  have h := gcmStream_enough key nonce l
  have e : gcmCrypt key nonce (gcmCrypt key nonce l) = List.zipWith (fun (b : Byte) k => b ^^^ BitVec.ofNat 8 k) (gcmCrypt key nonce l)
      ((List.range (((gcmCrypt key nonce l).length + 15) / 16)).flatMap (fun i => gcmStream (aesKeys key) nonce (i + 2))) := rfl
  rw [e, gcmCrypt_length]
  exact xor_stream_twice l _ h

end Sys2Proof.Machine
end

