-- ==== Sys2Proof/Laws/State.lean ====
section
/-!
SUPPORT. What each update of the state leaves: one lemma per operation and field; then what reads of registers and fields
give after writes.
-/

namespace Sys2Proof.Machine

variable (s : State)

/-! `setW` -/

@[simp] theorem State.setW_pending (a : Nat) (w : Word) : (s.setW a w).pending = s.pending := rfl
@[simp] theorem State.setW_now (a : Nat) (w : Word) : (s.setW a w).now = s.now := rfl
@[simp] theorem State.setW_fresh (a : Nat) (w : Word) : (s.setW a w).fresh = s.fresh := rfl
@[simp] theorem State.setW_bus (a : Nat) (w : Word) : (s.setW a w).bus = s.bus := rfl
@[simp] theorem State.setW_active (a : Nat) (w : Word) : (s.setW a w).active = s.active := rfl
@[simp] theorem State.setW_fuses (a : Nat) (w : Word) : (s.setW a w).fuses = s.fuses := rfl
@[simp] theorem State.setW_shadow (a : Nat) (w : Word) : (s.setW a w).shadow = s.shadow := rfl
@[simp] theorem State.setW_kar (a : Nat) (w : Word) : (s.setW a w).kar = s.kar := rfl
@[simp] theorem State.setW_nvm (a : Nat) (w : Word) : (s.setW a w).nvm = s.nvm := rfl
@[simp] theorem State.setW_plan (a : Nat) (w : Word) : (s.setW a w).plan = s.plan := rfl
@[simp] theorem State.setW_pwr (a : Nat) (w : Word) : (s.setW a w).pwr = s.pwr := rfl
@[simp] theorem State.setW_boot (a : Nat) (w : Word) : (s.setW a w).boot = s.boot := rfl
@[simp] theorem State.setW_cfg (a : Nat) (w : Word) : (s.setW a w).cfg = s.cfg := rfl
@[simp] theorem State.setW_gov (a : Nat) (w : Word) : (s.setW a w).gov = s.gov := rfl
@[simp] theorem State.setW_lan (a : Nat) (w : Word) : (s.setW a w).lan = s.lan := rfl
@[simp] theorem State.setW_lnk (a : Nat) (w : Word) : (s.setW a w).lnk = s.lnk := rfl
@[simp] theorem State.setW_ing (a : Nat) (w : Word) : (s.setW a w).ing = s.ing := rfl
@[simp] theorem State.setW_cmp (a : Nat) (w : Word) : (s.setW a w).cmp = s.cmp := rfl
@[simp] theorem State.setW_geo (a : Nat) (w : Word) : (s.setW a w).geo = s.geo := rfl
@[simp] theorem State.setW_dec (a : Nat) (w : Word) : (s.setW a w).dec = s.dec := rfl
@[simp] theorem State.setW_enc (a : Nat) (w : Word) : (s.setW a w).enc = s.enc := rfl
@[simp] theorem State.setW_lmp (a : Nat) (w : Word) : (s.setW a w).lmp = s.lmp := rfl
@[simp] theorem State.setW_corr (a : Nat) (w : Word) : (s.setW a w).corr = s.corr := rfl
@[simp] theorem State.setW_rail (a : Nat) (w : Word) : (s.setW a w).rail = s.rail := rfl
@[simp] theorem State.setW_tim (a : Nat) (w : Word) : (s.setW a w).tim = s.tim := rfl
@[simp] theorem State.setW_red (a : Nat) (w : Word) : (s.setW a w).red = s.red := rfl
@[simp] theorem State.setW_core (a : Nat) (w : Word) : (s.setW a w).core = s.core := rfl
@[simp] theorem State.setW_sec (a : Nat) (w : Word) : (s.setW a w).sec = s.sec := rfl
@[simp] theorem State.setW_upd (a : Nat) (w : Word) : (s.setW a w).upd = s.upd := rfl
@[simp] theorem State.setW_smp (a : Nat) (w : Word) : (s.setW a w).smp = s.smp := rfl
@[simp] theorem State.setW_thm (a : Nat) (w : Word) : (s.setW a w).thm = s.thm := rfl
@[simp] theorem State.setW_out (a : Nat) (w : Word) : (s.setW a w).out = s.out := rfl

/-! `setActW` -/

@[simp] theorem State.setActW_pending (a : Nat) (w : Word) : (s.setActW a w).pending = s.pending := rfl
@[simp] theorem State.setActW_now (a : Nat) (w : Word) : (s.setActW a w).now = s.now := rfl
@[simp] theorem State.setActW_fresh (a : Nat) (w : Word) : (s.setActW a w).fresh = s.fresh := rfl
@[simp] theorem State.setActW_bus (a : Nat) (w : Word) : (s.setActW a w).bus = s.bus := rfl
@[simp] theorem State.setActW_regs (a : Nat) (w : Word) : (s.setActW a w).regs = s.regs := rfl
@[simp] theorem State.setActW_fuses (a : Nat) (w : Word) : (s.setActW a w).fuses = s.fuses := rfl
@[simp] theorem State.setActW_shadow (a : Nat) (w : Word) : (s.setActW a w).shadow = s.shadow := rfl
@[simp] theorem State.setActW_kar (a : Nat) (w : Word) : (s.setActW a w).kar = s.kar := rfl
@[simp] theorem State.setActW_nvm (a : Nat) (w : Word) : (s.setActW a w).nvm = s.nvm := rfl
@[simp] theorem State.setActW_plan (a : Nat) (w : Word) : (s.setActW a w).plan = s.plan := rfl
@[simp] theorem State.setActW_pwr (a : Nat) (w : Word) : (s.setActW a w).pwr = s.pwr := rfl
@[simp] theorem State.setActW_boot (a : Nat) (w : Word) : (s.setActW a w).boot = s.boot := rfl
@[simp] theorem State.setActW_cfg (a : Nat) (w : Word) : (s.setActW a w).cfg = s.cfg := rfl
@[simp] theorem State.setActW_gov (a : Nat) (w : Word) : (s.setActW a w).gov = s.gov := rfl
@[simp] theorem State.setActW_lan (a : Nat) (w : Word) : (s.setActW a w).lan = s.lan := rfl
@[simp] theorem State.setActW_lnk (a : Nat) (w : Word) : (s.setActW a w).lnk = s.lnk := rfl
@[simp] theorem State.setActW_ing (a : Nat) (w : Word) : (s.setActW a w).ing = s.ing := rfl
@[simp] theorem State.setActW_cmp (a : Nat) (w : Word) : (s.setActW a w).cmp = s.cmp := rfl
@[simp] theorem State.setActW_geo (a : Nat) (w : Word) : (s.setActW a w).geo = s.geo := rfl
@[simp] theorem State.setActW_dec (a : Nat) (w : Word) : (s.setActW a w).dec = s.dec := rfl
@[simp] theorem State.setActW_enc (a : Nat) (w : Word) : (s.setActW a w).enc = s.enc := rfl
@[simp] theorem State.setActW_lmp (a : Nat) (w : Word) : (s.setActW a w).lmp = s.lmp := rfl
@[simp] theorem State.setActW_corr (a : Nat) (w : Word) : (s.setActW a w).corr = s.corr := rfl
@[simp] theorem State.setActW_rail (a : Nat) (w : Word) : (s.setActW a w).rail = s.rail := rfl
@[simp] theorem State.setActW_tim (a : Nat) (w : Word) : (s.setActW a w).tim = s.tim := rfl
@[simp] theorem State.setActW_red (a : Nat) (w : Word) : (s.setActW a w).red = s.red := rfl
@[simp] theorem State.setActW_core (a : Nat) (w : Word) : (s.setActW a w).core = s.core := rfl
@[simp] theorem State.setActW_sec (a : Nat) (w : Word) : (s.setActW a w).sec = s.sec := rfl
@[simp] theorem State.setActW_upd (a : Nat) (w : Word) : (s.setActW a w).upd = s.upd := rfl
@[simp] theorem State.setActW_smp (a : Nat) (w : Word) : (s.setActW a w).smp = s.smp := rfl
@[simp] theorem State.setActW_thm (a : Nat) (w : Word) : (s.setActW a w).thm = s.thm := rfl
@[simp] theorem State.setActW_out (a : Nat) (w : Word) : (s.setActW a w).out = s.out := rfl

/-! `setF` -/

@[simp] theorem State.setF_pending (f : Fld) (v : Nat) : (s.setF f v).pending = s.pending := rfl
@[simp] theorem State.setF_now (f : Fld) (v : Nat) : (s.setF f v).now = s.now := rfl
@[simp] theorem State.setF_fresh (f : Fld) (v : Nat) : (s.setF f v).fresh = s.fresh := rfl
@[simp] theorem State.setF_bus (f : Fld) (v : Nat) : (s.setF f v).bus = s.bus := rfl
@[simp] theorem State.setF_active (f : Fld) (v : Nat) : (s.setF f v).active = s.active := rfl
@[simp] theorem State.setF_fuses (f : Fld) (v : Nat) : (s.setF f v).fuses = s.fuses := rfl
@[simp] theorem State.setF_shadow (f : Fld) (v : Nat) : (s.setF f v).shadow = s.shadow := rfl
@[simp] theorem State.setF_kar (f : Fld) (v : Nat) : (s.setF f v).kar = s.kar := rfl
@[simp] theorem State.setF_nvm (f : Fld) (v : Nat) : (s.setF f v).nvm = s.nvm := rfl
@[simp] theorem State.setF_plan (f : Fld) (v : Nat) : (s.setF f v).plan = s.plan := rfl
@[simp] theorem State.setF_pwr (f : Fld) (v : Nat) : (s.setF f v).pwr = s.pwr := rfl
@[simp] theorem State.setF_boot (f : Fld) (v : Nat) : (s.setF f v).boot = s.boot := rfl
@[simp] theorem State.setF_cfg (f : Fld) (v : Nat) : (s.setF f v).cfg = s.cfg := rfl
@[simp] theorem State.setF_gov (f : Fld) (v : Nat) : (s.setF f v).gov = s.gov := rfl
@[simp] theorem State.setF_lan (f : Fld) (v : Nat) : (s.setF f v).lan = s.lan := rfl
@[simp] theorem State.setF_lnk (f : Fld) (v : Nat) : (s.setF f v).lnk = s.lnk := rfl
@[simp] theorem State.setF_ing (f : Fld) (v : Nat) : (s.setF f v).ing = s.ing := rfl
@[simp] theorem State.setF_cmp (f : Fld) (v : Nat) : (s.setF f v).cmp = s.cmp := rfl
@[simp] theorem State.setF_geo (f : Fld) (v : Nat) : (s.setF f v).geo = s.geo := rfl
@[simp] theorem State.setF_dec (f : Fld) (v : Nat) : (s.setF f v).dec = s.dec := rfl
@[simp] theorem State.setF_enc (f : Fld) (v : Nat) : (s.setF f v).enc = s.enc := rfl
@[simp] theorem State.setF_lmp (f : Fld) (v : Nat) : (s.setF f v).lmp = s.lmp := rfl
@[simp] theorem State.setF_corr (f : Fld) (v : Nat) : (s.setF f v).corr = s.corr := rfl
@[simp] theorem State.setF_rail (f : Fld) (v : Nat) : (s.setF f v).rail = s.rail := rfl
@[simp] theorem State.setF_tim (f : Fld) (v : Nat) : (s.setF f v).tim = s.tim := rfl
@[simp] theorem State.setF_red (f : Fld) (v : Nat) : (s.setF f v).red = s.red := rfl
@[simp] theorem State.setF_core (f : Fld) (v : Nat) : (s.setF f v).core = s.core := rfl
@[simp] theorem State.setF_sec (f : Fld) (v : Nat) : (s.setF f v).sec = s.sec := rfl
@[simp] theorem State.setF_upd (f : Fld) (v : Nat) : (s.setF f v).upd = s.upd := rfl
@[simp] theorem State.setF_smp (f : Fld) (v : Nat) : (s.setF f v).smp = s.smp := rfl
@[simp] theorem State.setF_thm (f : Fld) (v : Nat) : (s.setF f v).thm = s.thm := rfl
@[simp] theorem State.setF_out (f : Fld) (v : Nat) : (s.setF f v).out = s.out := rfl

/-! `setBoth` -/

@[simp] theorem State.setBoth_pending (f : Fld) (v : Nat) : (s.setBoth f v).pending = s.pending := rfl
@[simp] theorem State.setBoth_now (f : Fld) (v : Nat) : (s.setBoth f v).now = s.now := rfl
@[simp] theorem State.setBoth_fresh (f : Fld) (v : Nat) : (s.setBoth f v).fresh = s.fresh := rfl
@[simp] theorem State.setBoth_bus (f : Fld) (v : Nat) : (s.setBoth f v).bus = s.bus := rfl
@[simp] theorem State.setBoth_fuses (f : Fld) (v : Nat) : (s.setBoth f v).fuses = s.fuses := rfl
@[simp] theorem State.setBoth_shadow (f : Fld) (v : Nat) : (s.setBoth f v).shadow = s.shadow := rfl
@[simp] theorem State.setBoth_kar (f : Fld) (v : Nat) : (s.setBoth f v).kar = s.kar := rfl
@[simp] theorem State.setBoth_nvm (f : Fld) (v : Nat) : (s.setBoth f v).nvm = s.nvm := rfl
@[simp] theorem State.setBoth_plan (f : Fld) (v : Nat) : (s.setBoth f v).plan = s.plan := rfl
@[simp] theorem State.setBoth_pwr (f : Fld) (v : Nat) : (s.setBoth f v).pwr = s.pwr := rfl
@[simp] theorem State.setBoth_boot (f : Fld) (v : Nat) : (s.setBoth f v).boot = s.boot := rfl
@[simp] theorem State.setBoth_cfg (f : Fld) (v : Nat) : (s.setBoth f v).cfg = s.cfg := rfl
@[simp] theorem State.setBoth_gov (f : Fld) (v : Nat) : (s.setBoth f v).gov = s.gov := rfl
@[simp] theorem State.setBoth_lan (f : Fld) (v : Nat) : (s.setBoth f v).lan = s.lan := rfl
@[simp] theorem State.setBoth_lnk (f : Fld) (v : Nat) : (s.setBoth f v).lnk = s.lnk := rfl
@[simp] theorem State.setBoth_ing (f : Fld) (v : Nat) : (s.setBoth f v).ing = s.ing := rfl
@[simp] theorem State.setBoth_cmp (f : Fld) (v : Nat) : (s.setBoth f v).cmp = s.cmp := rfl
@[simp] theorem State.setBoth_geo (f : Fld) (v : Nat) : (s.setBoth f v).geo = s.geo := rfl
@[simp] theorem State.setBoth_dec (f : Fld) (v : Nat) : (s.setBoth f v).dec = s.dec := rfl
@[simp] theorem State.setBoth_enc (f : Fld) (v : Nat) : (s.setBoth f v).enc = s.enc := rfl
@[simp] theorem State.setBoth_lmp (f : Fld) (v : Nat) : (s.setBoth f v).lmp = s.lmp := rfl
@[simp] theorem State.setBoth_corr (f : Fld) (v : Nat) : (s.setBoth f v).corr = s.corr := rfl
@[simp] theorem State.setBoth_rail (f : Fld) (v : Nat) : (s.setBoth f v).rail = s.rail := rfl
@[simp] theorem State.setBoth_tim (f : Fld) (v : Nat) : (s.setBoth f v).tim = s.tim := rfl
@[simp] theorem State.setBoth_red (f : Fld) (v : Nat) : (s.setBoth f v).red = s.red := rfl
@[simp] theorem State.setBoth_core (f : Fld) (v : Nat) : (s.setBoth f v).core = s.core := rfl
@[simp] theorem State.setBoth_sec (f : Fld) (v : Nat) : (s.setBoth f v).sec = s.sec := rfl
@[simp] theorem State.setBoth_upd (f : Fld) (v : Nat) : (s.setBoth f v).upd = s.upd := rfl
@[simp] theorem State.setBoth_smp (f : Fld) (v : Nat) : (s.setBoth f v).smp = s.smp := rfl
@[simp] theorem State.setBoth_thm (f : Fld) (v : Nat) : (s.setBoth f v).thm = s.thm := rfl
@[simp] theorem State.setBoth_out (f : Fld) (v : Nat) : (s.setBoth f v).out = s.out := rfl

/-! `setB` -/

@[simp] theorem State.setB_pending (f : Fld) (b : Bool) : (s.setB f b).pending = s.pending := rfl
@[simp] theorem State.setB_now (f : Fld) (b : Bool) : (s.setB f b).now = s.now := rfl
@[simp] theorem State.setB_fresh (f : Fld) (b : Bool) : (s.setB f b).fresh = s.fresh := rfl
@[simp] theorem State.setB_bus (f : Fld) (b : Bool) : (s.setB f b).bus = s.bus := rfl
@[simp] theorem State.setB_active (f : Fld) (b : Bool) : (s.setB f b).active = s.active := rfl
@[simp] theorem State.setB_fuses (f : Fld) (b : Bool) : (s.setB f b).fuses = s.fuses := rfl
@[simp] theorem State.setB_shadow (f : Fld) (b : Bool) : (s.setB f b).shadow = s.shadow := rfl
@[simp] theorem State.setB_kar (f : Fld) (b : Bool) : (s.setB f b).kar = s.kar := rfl
@[simp] theorem State.setB_nvm (f : Fld) (b : Bool) : (s.setB f b).nvm = s.nvm := rfl
@[simp] theorem State.setB_plan (f : Fld) (b : Bool) : (s.setB f b).plan = s.plan := rfl
@[simp] theorem State.setB_pwr (f : Fld) (b : Bool) : (s.setB f b).pwr = s.pwr := rfl
@[simp] theorem State.setB_boot (f : Fld) (b : Bool) : (s.setB f b).boot = s.boot := rfl
@[simp] theorem State.setB_cfg (f : Fld) (b : Bool) : (s.setB f b).cfg = s.cfg := rfl
@[simp] theorem State.setB_gov (f : Fld) (b : Bool) : (s.setB f b).gov = s.gov := rfl
@[simp] theorem State.setB_lan (f : Fld) (b : Bool) : (s.setB f b).lan = s.lan := rfl
@[simp] theorem State.setB_lnk (f : Fld) (b : Bool) : (s.setB f b).lnk = s.lnk := rfl
@[simp] theorem State.setB_ing (f : Fld) (b : Bool) : (s.setB f b).ing = s.ing := rfl
@[simp] theorem State.setB_cmp (f : Fld) (b : Bool) : (s.setB f b).cmp = s.cmp := rfl
@[simp] theorem State.setB_geo (f : Fld) (b : Bool) : (s.setB f b).geo = s.geo := rfl
@[simp] theorem State.setB_dec (f : Fld) (b : Bool) : (s.setB f b).dec = s.dec := rfl
@[simp] theorem State.setB_enc (f : Fld) (b : Bool) : (s.setB f b).enc = s.enc := rfl
@[simp] theorem State.setB_lmp (f : Fld) (b : Bool) : (s.setB f b).lmp = s.lmp := rfl
@[simp] theorem State.setB_corr (f : Fld) (b : Bool) : (s.setB f b).corr = s.corr := rfl
@[simp] theorem State.setB_rail (f : Fld) (b : Bool) : (s.setB f b).rail = s.rail := rfl
@[simp] theorem State.setB_tim (f : Fld) (b : Bool) : (s.setB f b).tim = s.tim := rfl
@[simp] theorem State.setB_red (f : Fld) (b : Bool) : (s.setB f b).red = s.red := rfl
@[simp] theorem State.setB_core (f : Fld) (b : Bool) : (s.setB f b).core = s.core := rfl
@[simp] theorem State.setB_sec (f : Fld) (b : Bool) : (s.setB f b).sec = s.sec := rfl
@[simp] theorem State.setB_upd (f : Fld) (b : Bool) : (s.setB f b).upd = s.upd := rfl
@[simp] theorem State.setB_smp (f : Fld) (b : Bool) : (s.setB f b).smp = s.smp := rfl
@[simp] theorem State.setB_thm (f : Fld) (b : Bool) : (s.setB f b).thm = s.thm := rfl
@[simp] theorem State.setB_out (f : Fld) (b : Bool) : (s.setB f b).out = s.out := rfl

/-! `raise` -/

@[simp] theorem State.raise_pending (f : Fld) : (s.raise f).pending = s.pending := rfl
@[simp] theorem State.raise_now (f : Fld) : (s.raise f).now = s.now := rfl
@[simp] theorem State.raise_fresh (f : Fld) : (s.raise f).fresh = s.fresh := rfl
@[simp] theorem State.raise_bus (f : Fld) : (s.raise f).bus = s.bus := rfl
@[simp] theorem State.raise_active (f : Fld) : (s.raise f).active = s.active := rfl
@[simp] theorem State.raise_fuses (f : Fld) : (s.raise f).fuses = s.fuses := rfl
@[simp] theorem State.raise_shadow (f : Fld) : (s.raise f).shadow = s.shadow := rfl
@[simp] theorem State.raise_kar (f : Fld) : (s.raise f).kar = s.kar := rfl
@[simp] theorem State.raise_nvm (f : Fld) : (s.raise f).nvm = s.nvm := rfl
@[simp] theorem State.raise_plan (f : Fld) : (s.raise f).plan = s.plan := rfl
@[simp] theorem State.raise_pwr (f : Fld) : (s.raise f).pwr = s.pwr := rfl
@[simp] theorem State.raise_boot (f : Fld) : (s.raise f).boot = s.boot := rfl
@[simp] theorem State.raise_cfg (f : Fld) : (s.raise f).cfg = s.cfg := rfl
@[simp] theorem State.raise_gov (f : Fld) : (s.raise f).gov = s.gov := rfl
@[simp] theorem State.raise_lan (f : Fld) : (s.raise f).lan = s.lan := rfl
@[simp] theorem State.raise_lnk (f : Fld) : (s.raise f).lnk = s.lnk := rfl
@[simp] theorem State.raise_ing (f : Fld) : (s.raise f).ing = s.ing := rfl
@[simp] theorem State.raise_cmp (f : Fld) : (s.raise f).cmp = s.cmp := rfl
@[simp] theorem State.raise_geo (f : Fld) : (s.raise f).geo = s.geo := rfl
@[simp] theorem State.raise_dec (f : Fld) : (s.raise f).dec = s.dec := rfl
@[simp] theorem State.raise_enc (f : Fld) : (s.raise f).enc = s.enc := rfl
@[simp] theorem State.raise_lmp (f : Fld) : (s.raise f).lmp = s.lmp := rfl
@[simp] theorem State.raise_corr (f : Fld) : (s.raise f).corr = s.corr := rfl
@[simp] theorem State.raise_rail (f : Fld) : (s.raise f).rail = s.rail := rfl
@[simp] theorem State.raise_tim (f : Fld) : (s.raise f).tim = s.tim := rfl
@[simp] theorem State.raise_red (f : Fld) : (s.raise f).red = s.red := rfl
@[simp] theorem State.raise_core (f : Fld) : (s.raise f).core = s.core := rfl
@[simp] theorem State.raise_sec (f : Fld) : (s.raise f).sec = s.sec := rfl
@[simp] theorem State.raise_upd (f : Fld) : (s.raise f).upd = s.upd := rfl
@[simp] theorem State.raise_smp (f : Fld) : (s.raise f).smp = s.smp := rfl
@[simp] theorem State.raise_thm (f : Fld) : (s.raise f).thm = s.thm := rfl
@[simp] theorem State.raise_out (f : Fld) : (s.raise f).out = s.out := rfl

/-! `raiseBit` -/

@[simp] theorem State.raiseBit_pending (f : Fld) (i : Nat) : (s.raiseBit f i).pending = s.pending := rfl
@[simp] theorem State.raiseBit_now (f : Fld) (i : Nat) : (s.raiseBit f i).now = s.now := rfl
@[simp] theorem State.raiseBit_fresh (f : Fld) (i : Nat) : (s.raiseBit f i).fresh = s.fresh := rfl
@[simp] theorem State.raiseBit_bus (f : Fld) (i : Nat) : (s.raiseBit f i).bus = s.bus := rfl
@[simp] theorem State.raiseBit_active (f : Fld) (i : Nat) : (s.raiseBit f i).active = s.active := rfl
@[simp] theorem State.raiseBit_fuses (f : Fld) (i : Nat) : (s.raiseBit f i).fuses = s.fuses := rfl
@[simp] theorem State.raiseBit_shadow (f : Fld) (i : Nat) : (s.raiseBit f i).shadow = s.shadow := rfl
@[simp] theorem State.raiseBit_kar (f : Fld) (i : Nat) : (s.raiseBit f i).kar = s.kar := rfl
@[simp] theorem State.raiseBit_nvm (f : Fld) (i : Nat) : (s.raiseBit f i).nvm = s.nvm := rfl
@[simp] theorem State.raiseBit_plan (f : Fld) (i : Nat) : (s.raiseBit f i).plan = s.plan := rfl
@[simp] theorem State.raiseBit_pwr (f : Fld) (i : Nat) : (s.raiseBit f i).pwr = s.pwr := rfl
@[simp] theorem State.raiseBit_boot (f : Fld) (i : Nat) : (s.raiseBit f i).boot = s.boot := rfl
@[simp] theorem State.raiseBit_cfg (f : Fld) (i : Nat) : (s.raiseBit f i).cfg = s.cfg := rfl
@[simp] theorem State.raiseBit_gov (f : Fld) (i : Nat) : (s.raiseBit f i).gov = s.gov := rfl
@[simp] theorem State.raiseBit_lan (f : Fld) (i : Nat) : (s.raiseBit f i).lan = s.lan := rfl
@[simp] theorem State.raiseBit_lnk (f : Fld) (i : Nat) : (s.raiseBit f i).lnk = s.lnk := rfl
@[simp] theorem State.raiseBit_ing (f : Fld) (i : Nat) : (s.raiseBit f i).ing = s.ing := rfl
@[simp] theorem State.raiseBit_cmp (f : Fld) (i : Nat) : (s.raiseBit f i).cmp = s.cmp := rfl
@[simp] theorem State.raiseBit_geo (f : Fld) (i : Nat) : (s.raiseBit f i).geo = s.geo := rfl
@[simp] theorem State.raiseBit_dec (f : Fld) (i : Nat) : (s.raiseBit f i).dec = s.dec := rfl
@[simp] theorem State.raiseBit_enc (f : Fld) (i : Nat) : (s.raiseBit f i).enc = s.enc := rfl
@[simp] theorem State.raiseBit_lmp (f : Fld) (i : Nat) : (s.raiseBit f i).lmp = s.lmp := rfl
@[simp] theorem State.raiseBit_corr (f : Fld) (i : Nat) : (s.raiseBit f i).corr = s.corr := rfl
@[simp] theorem State.raiseBit_rail (f : Fld) (i : Nat) : (s.raiseBit f i).rail = s.rail := rfl
@[simp] theorem State.raiseBit_tim (f : Fld) (i : Nat) : (s.raiseBit f i).tim = s.tim := rfl
@[simp] theorem State.raiseBit_red (f : Fld) (i : Nat) : (s.raiseBit f i).red = s.red := rfl
@[simp] theorem State.raiseBit_core (f : Fld) (i : Nat) : (s.raiseBit f i).core = s.core := rfl
@[simp] theorem State.raiseBit_sec (f : Fld) (i : Nat) : (s.raiseBit f i).sec = s.sec := rfl
@[simp] theorem State.raiseBit_upd (f : Fld) (i : Nat) : (s.raiseBit f i).upd = s.upd := rfl
@[simp] theorem State.raiseBit_smp (f : Fld) (i : Nat) : (s.raiseBit f i).smp = s.smp := rfl
@[simp] theorem State.raiseBit_thm (f : Fld) (i : Nat) : (s.raiseBit f i).thm = s.thm := rfl
@[simp] theorem State.raiseBit_out (f : Fld) (i : Nat) : (s.raiseBit f i).out = s.out := rfl

/-! `putBit` -/

@[simp] theorem State.putBit_pending (f : Fld) (i : Nat) (b : Bool) : (s.putBit f i b).pending = s.pending := rfl
@[simp] theorem State.putBit_now (f : Fld) (i : Nat) (b : Bool) : (s.putBit f i b).now = s.now := rfl
@[simp] theorem State.putBit_fresh (f : Fld) (i : Nat) (b : Bool) : (s.putBit f i b).fresh = s.fresh := rfl
@[simp] theorem State.putBit_bus (f : Fld) (i : Nat) (b : Bool) : (s.putBit f i b).bus = s.bus := rfl
@[simp] theorem State.putBit_active (f : Fld) (i : Nat) (b : Bool) : (s.putBit f i b).active = s.active := rfl
@[simp] theorem State.putBit_fuses (f : Fld) (i : Nat) (b : Bool) : (s.putBit f i b).fuses = s.fuses := rfl
@[simp] theorem State.putBit_shadow (f : Fld) (i : Nat) (b : Bool) : (s.putBit f i b).shadow = s.shadow := rfl
@[simp] theorem State.putBit_kar (f : Fld) (i : Nat) (b : Bool) : (s.putBit f i b).kar = s.kar := rfl
@[simp] theorem State.putBit_nvm (f : Fld) (i : Nat) (b : Bool) : (s.putBit f i b).nvm = s.nvm := rfl
@[simp] theorem State.putBit_plan (f : Fld) (i : Nat) (b : Bool) : (s.putBit f i b).plan = s.plan := rfl
@[simp] theorem State.putBit_pwr (f : Fld) (i : Nat) (b : Bool) : (s.putBit f i b).pwr = s.pwr := rfl
@[simp] theorem State.putBit_boot (f : Fld) (i : Nat) (b : Bool) : (s.putBit f i b).boot = s.boot := rfl
@[simp] theorem State.putBit_cfg (f : Fld) (i : Nat) (b : Bool) : (s.putBit f i b).cfg = s.cfg := rfl
@[simp] theorem State.putBit_gov (f : Fld) (i : Nat) (b : Bool) : (s.putBit f i b).gov = s.gov := rfl
@[simp] theorem State.putBit_lan (f : Fld) (i : Nat) (b : Bool) : (s.putBit f i b).lan = s.lan := rfl
@[simp] theorem State.putBit_lnk (f : Fld) (i : Nat) (b : Bool) : (s.putBit f i b).lnk = s.lnk := rfl
@[simp] theorem State.putBit_ing (f : Fld) (i : Nat) (b : Bool) : (s.putBit f i b).ing = s.ing := rfl
@[simp] theorem State.putBit_cmp (f : Fld) (i : Nat) (b : Bool) : (s.putBit f i b).cmp = s.cmp := rfl
@[simp] theorem State.putBit_geo (f : Fld) (i : Nat) (b : Bool) : (s.putBit f i b).geo = s.geo := rfl
@[simp] theorem State.putBit_dec (f : Fld) (i : Nat) (b : Bool) : (s.putBit f i b).dec = s.dec := rfl
@[simp] theorem State.putBit_enc (f : Fld) (i : Nat) (b : Bool) : (s.putBit f i b).enc = s.enc := rfl
@[simp] theorem State.putBit_lmp (f : Fld) (i : Nat) (b : Bool) : (s.putBit f i b).lmp = s.lmp := rfl
@[simp] theorem State.putBit_corr (f : Fld) (i : Nat) (b : Bool) : (s.putBit f i b).corr = s.corr := rfl
@[simp] theorem State.putBit_rail (f : Fld) (i : Nat) (b : Bool) : (s.putBit f i b).rail = s.rail := rfl
@[simp] theorem State.putBit_tim (f : Fld) (i : Nat) (b : Bool) : (s.putBit f i b).tim = s.tim := rfl
@[simp] theorem State.putBit_red (f : Fld) (i : Nat) (b : Bool) : (s.putBit f i b).red = s.red := rfl
@[simp] theorem State.putBit_core (f : Fld) (i : Nat) (b : Bool) : (s.putBit f i b).core = s.core := rfl
@[simp] theorem State.putBit_sec (f : Fld) (i : Nat) (b : Bool) : (s.putBit f i b).sec = s.sec := rfl
@[simp] theorem State.putBit_upd (f : Fld) (i : Nat) (b : Bool) : (s.putBit f i b).upd = s.upd := rfl
@[simp] theorem State.putBit_smp (f : Fld) (i : Nat) (b : Bool) : (s.putBit f i b).smp = s.smp := rfl
@[simp] theorem State.putBit_thm (f : Fld) (i : Nat) (b : Bool) : (s.putBit f i b).thm = s.thm := rfl
@[simp] theorem State.putBit_out (f : Fld) (i : Nat) (b : Bool) : (s.putBit f i b).out = s.out := rfl

/-! `bumpBy` -/

@[simp] theorem State.bumpBy_pending (f : Fld) (n : Nat) : (s.bumpBy f n).pending = s.pending := rfl
@[simp] theorem State.bumpBy_now (f : Fld) (n : Nat) : (s.bumpBy f n).now = s.now := rfl
@[simp] theorem State.bumpBy_fresh (f : Fld) (n : Nat) : (s.bumpBy f n).fresh = s.fresh := rfl
@[simp] theorem State.bumpBy_bus (f : Fld) (n : Nat) : (s.bumpBy f n).bus = s.bus := rfl
@[simp] theorem State.bumpBy_active (f : Fld) (n : Nat) : (s.bumpBy f n).active = s.active := rfl
@[simp] theorem State.bumpBy_fuses (f : Fld) (n : Nat) : (s.bumpBy f n).fuses = s.fuses := rfl
@[simp] theorem State.bumpBy_shadow (f : Fld) (n : Nat) : (s.bumpBy f n).shadow = s.shadow := rfl
@[simp] theorem State.bumpBy_kar (f : Fld) (n : Nat) : (s.bumpBy f n).kar = s.kar := rfl
@[simp] theorem State.bumpBy_nvm (f : Fld) (n : Nat) : (s.bumpBy f n).nvm = s.nvm := rfl
@[simp] theorem State.bumpBy_plan (f : Fld) (n : Nat) : (s.bumpBy f n).plan = s.plan := rfl
@[simp] theorem State.bumpBy_pwr (f : Fld) (n : Nat) : (s.bumpBy f n).pwr = s.pwr := rfl
@[simp] theorem State.bumpBy_boot (f : Fld) (n : Nat) : (s.bumpBy f n).boot = s.boot := rfl
@[simp] theorem State.bumpBy_cfg (f : Fld) (n : Nat) : (s.bumpBy f n).cfg = s.cfg := rfl
@[simp] theorem State.bumpBy_gov (f : Fld) (n : Nat) : (s.bumpBy f n).gov = s.gov := rfl
@[simp] theorem State.bumpBy_lan (f : Fld) (n : Nat) : (s.bumpBy f n).lan = s.lan := rfl
@[simp] theorem State.bumpBy_lnk (f : Fld) (n : Nat) : (s.bumpBy f n).lnk = s.lnk := rfl
@[simp] theorem State.bumpBy_ing (f : Fld) (n : Nat) : (s.bumpBy f n).ing = s.ing := rfl
@[simp] theorem State.bumpBy_cmp (f : Fld) (n : Nat) : (s.bumpBy f n).cmp = s.cmp := rfl
@[simp] theorem State.bumpBy_geo (f : Fld) (n : Nat) : (s.bumpBy f n).geo = s.geo := rfl
@[simp] theorem State.bumpBy_dec (f : Fld) (n : Nat) : (s.bumpBy f n).dec = s.dec := rfl
@[simp] theorem State.bumpBy_enc (f : Fld) (n : Nat) : (s.bumpBy f n).enc = s.enc := rfl
@[simp] theorem State.bumpBy_lmp (f : Fld) (n : Nat) : (s.bumpBy f n).lmp = s.lmp := rfl
@[simp] theorem State.bumpBy_corr (f : Fld) (n : Nat) : (s.bumpBy f n).corr = s.corr := rfl
@[simp] theorem State.bumpBy_rail (f : Fld) (n : Nat) : (s.bumpBy f n).rail = s.rail := rfl
@[simp] theorem State.bumpBy_tim (f : Fld) (n : Nat) : (s.bumpBy f n).tim = s.tim := rfl
@[simp] theorem State.bumpBy_red (f : Fld) (n : Nat) : (s.bumpBy f n).red = s.red := rfl
@[simp] theorem State.bumpBy_core (f : Fld) (n : Nat) : (s.bumpBy f n).core = s.core := rfl
@[simp] theorem State.bumpBy_sec (f : Fld) (n : Nat) : (s.bumpBy f n).sec = s.sec := rfl
@[simp] theorem State.bumpBy_upd (f : Fld) (n : Nat) : (s.bumpBy f n).upd = s.upd := rfl
@[simp] theorem State.bumpBy_smp (f : Fld) (n : Nat) : (s.bumpBy f n).smp = s.smp := rfl
@[simp] theorem State.bumpBy_thm (f : Fld) (n : Nat) : (s.bumpBy f n).thm = s.thm := rfl
@[simp] theorem State.bumpBy_out (f : Fld) (n : Nat) : (s.bumpBy f n).out = s.out := rfl

/-! `bump` -/

@[simp] theorem State.bump_pending (f : Fld) : (s.bump f).pending = s.pending := rfl
@[simp] theorem State.bump_now (f : Fld) : (s.bump f).now = s.now := rfl
@[simp] theorem State.bump_fresh (f : Fld) : (s.bump f).fresh = s.fresh := rfl
@[simp] theorem State.bump_bus (f : Fld) : (s.bump f).bus = s.bus := rfl
@[simp] theorem State.bump_active (f : Fld) : (s.bump f).active = s.active := rfl
@[simp] theorem State.bump_fuses (f : Fld) : (s.bump f).fuses = s.fuses := rfl
@[simp] theorem State.bump_shadow (f : Fld) : (s.bump f).shadow = s.shadow := rfl
@[simp] theorem State.bump_kar (f : Fld) : (s.bump f).kar = s.kar := rfl
@[simp] theorem State.bump_nvm (f : Fld) : (s.bump f).nvm = s.nvm := rfl
@[simp] theorem State.bump_plan (f : Fld) : (s.bump f).plan = s.plan := rfl
@[simp] theorem State.bump_pwr (f : Fld) : (s.bump f).pwr = s.pwr := rfl
@[simp] theorem State.bump_boot (f : Fld) : (s.bump f).boot = s.boot := rfl
@[simp] theorem State.bump_cfg (f : Fld) : (s.bump f).cfg = s.cfg := rfl
@[simp] theorem State.bump_gov (f : Fld) : (s.bump f).gov = s.gov := rfl
@[simp] theorem State.bump_lan (f : Fld) : (s.bump f).lan = s.lan := rfl
@[simp] theorem State.bump_lnk (f : Fld) : (s.bump f).lnk = s.lnk := rfl
@[simp] theorem State.bump_ing (f : Fld) : (s.bump f).ing = s.ing := rfl
@[simp] theorem State.bump_cmp (f : Fld) : (s.bump f).cmp = s.cmp := rfl
@[simp] theorem State.bump_geo (f : Fld) : (s.bump f).geo = s.geo := rfl
@[simp] theorem State.bump_dec (f : Fld) : (s.bump f).dec = s.dec := rfl
@[simp] theorem State.bump_enc (f : Fld) : (s.bump f).enc = s.enc := rfl
@[simp] theorem State.bump_lmp (f : Fld) : (s.bump f).lmp = s.lmp := rfl
@[simp] theorem State.bump_corr (f : Fld) : (s.bump f).corr = s.corr := rfl
@[simp] theorem State.bump_rail (f : Fld) : (s.bump f).rail = s.rail := rfl
@[simp] theorem State.bump_tim (f : Fld) : (s.bump f).tim = s.tim := rfl
@[simp] theorem State.bump_red (f : Fld) : (s.bump f).red = s.red := rfl
@[simp] theorem State.bump_core (f : Fld) : (s.bump f).core = s.core := rfl
@[simp] theorem State.bump_sec (f : Fld) : (s.bump f).sec = s.sec := rfl
@[simp] theorem State.bump_upd (f : Fld) : (s.bump f).upd = s.upd := rfl
@[simp] theorem State.bump_smp (f : Fld) : (s.bump f).smp = s.smp := rfl
@[simp] theorem State.bump_thm (f : Fld) : (s.bump f).thm = s.thm := rfl
@[simp] theorem State.bump_out (f : Fld) : (s.bump f).out = s.out := rfl

/-! `emit` -/

@[simp] theorem State.emit_pending (e : Emission) : (s.emit e).pending = s.pending := rfl
@[simp] theorem State.emit_now (e : Emission) : (s.emit e).now = s.now := rfl
@[simp] theorem State.emit_fresh (e : Emission) : (s.emit e).fresh = s.fresh := rfl
@[simp] theorem State.emit_bus (e : Emission) : (s.emit e).bus = s.bus := rfl
@[simp] theorem State.emit_regs (e : Emission) : (s.emit e).regs = s.regs := rfl
@[simp] theorem State.emit_active (e : Emission) : (s.emit e).active = s.active := rfl
@[simp] theorem State.emit_fuses (e : Emission) : (s.emit e).fuses = s.fuses := rfl
@[simp] theorem State.emit_shadow (e : Emission) : (s.emit e).shadow = s.shadow := rfl
@[simp] theorem State.emit_kar (e : Emission) : (s.emit e).kar = s.kar := rfl
@[simp] theorem State.emit_nvm (e : Emission) : (s.emit e).nvm = s.nvm := rfl
@[simp] theorem State.emit_plan (e : Emission) : (s.emit e).plan = s.plan := rfl
@[simp] theorem State.emit_pwr (e : Emission) : (s.emit e).pwr = s.pwr := rfl
@[simp] theorem State.emit_boot (e : Emission) : (s.emit e).boot = s.boot := rfl
@[simp] theorem State.emit_cfg (e : Emission) : (s.emit e).cfg = s.cfg := rfl
@[simp] theorem State.emit_gov (e : Emission) : (s.emit e).gov = s.gov := rfl
@[simp] theorem State.emit_lan (e : Emission) : (s.emit e).lan = s.lan := rfl
@[simp] theorem State.emit_lnk (e : Emission) : (s.emit e).lnk = s.lnk := rfl
@[simp] theorem State.emit_ing (e : Emission) : (s.emit e).ing = s.ing := rfl
@[simp] theorem State.emit_cmp (e : Emission) : (s.emit e).cmp = s.cmp := rfl
@[simp] theorem State.emit_geo (e : Emission) : (s.emit e).geo = s.geo := rfl
@[simp] theorem State.emit_dec (e : Emission) : (s.emit e).dec = s.dec := rfl
@[simp] theorem State.emit_enc (e : Emission) : (s.emit e).enc = s.enc := rfl
@[simp] theorem State.emit_lmp (e : Emission) : (s.emit e).lmp = s.lmp := rfl
@[simp] theorem State.emit_corr (e : Emission) : (s.emit e).corr = s.corr := rfl
@[simp] theorem State.emit_rail (e : Emission) : (s.emit e).rail = s.rail := rfl
@[simp] theorem State.emit_tim (e : Emission) : (s.emit e).tim = s.tim := rfl
@[simp] theorem State.emit_red (e : Emission) : (s.emit e).red = s.red := rfl
@[simp] theorem State.emit_core (e : Emission) : (s.emit e).core = s.core := rfl
@[simp] theorem State.emit_sec (e : Emission) : (s.emit e).sec = s.sec := rfl
@[simp] theorem State.emit_upd (e : Emission) : (s.emit e).upd = s.upd := rfl
@[simp] theorem State.emit_smp (e : Emission) : (s.emit e).smp = s.smp := rfl
@[simp] theorem State.emit_thm (e : Emission) : (s.emit e).thm = s.thm := rfl

/-! `setPort` -/

@[simp] theorem State.setPort_pending (n : Nat) (p : PortX) : (s.setPort n p).pending = s.pending := rfl
@[simp] theorem State.setPort_now (n : Nat) (p : PortX) : (s.setPort n p).now = s.now := rfl
@[simp] theorem State.setPort_fresh (n : Nat) (p : PortX) : (s.setPort n p).fresh = s.fresh := rfl
@[simp] theorem State.setPort_bus (n : Nat) (p : PortX) : (s.setPort n p).bus = s.bus := rfl
@[simp] theorem State.setPort_regs (n : Nat) (p : PortX) : (s.setPort n p).regs = s.regs := rfl
@[simp] theorem State.setPort_active (n : Nat) (p : PortX) : (s.setPort n p).active = s.active := rfl
@[simp] theorem State.setPort_fuses (n : Nat) (p : PortX) : (s.setPort n p).fuses = s.fuses := rfl
@[simp] theorem State.setPort_shadow (n : Nat) (p : PortX) : (s.setPort n p).shadow = s.shadow := rfl
@[simp] theorem State.setPort_kar (n : Nat) (p : PortX) : (s.setPort n p).kar = s.kar := rfl
@[simp] theorem State.setPort_nvm (n : Nat) (p : PortX) : (s.setPort n p).nvm = s.nvm := rfl
@[simp] theorem State.setPort_plan (n : Nat) (p : PortX) : (s.setPort n p).plan = s.plan := rfl
@[simp] theorem State.setPort_pwr (n : Nat) (p : PortX) : (s.setPort n p).pwr = s.pwr := rfl
@[simp] theorem State.setPort_boot (n : Nat) (p : PortX) : (s.setPort n p).boot = s.boot := rfl
@[simp] theorem State.setPort_cfg (n : Nat) (p : PortX) : (s.setPort n p).cfg = s.cfg := rfl
@[simp] theorem State.setPort_gov (n : Nat) (p : PortX) : (s.setPort n p).gov = s.gov := rfl
@[simp] theorem State.setPort_lan (n : Nat) (p : PortX) : (s.setPort n p).lan = s.lan := rfl
@[simp] theorem State.setPort_ing (n : Nat) (p : PortX) : (s.setPort n p).ing = s.ing := rfl
@[simp] theorem State.setPort_cmp (n : Nat) (p : PortX) : (s.setPort n p).cmp = s.cmp := rfl
@[simp] theorem State.setPort_geo (n : Nat) (p : PortX) : (s.setPort n p).geo = s.geo := rfl
@[simp] theorem State.setPort_dec (n : Nat) (p : PortX) : (s.setPort n p).dec = s.dec := rfl
@[simp] theorem State.setPort_enc (n : Nat) (p : PortX) : (s.setPort n p).enc = s.enc := rfl
@[simp] theorem State.setPort_lmp (n : Nat) (p : PortX) : (s.setPort n p).lmp = s.lmp := rfl
@[simp] theorem State.setPort_corr (n : Nat) (p : PortX) : (s.setPort n p).corr = s.corr := rfl
@[simp] theorem State.setPort_rail (n : Nat) (p : PortX) : (s.setPort n p).rail = s.rail := rfl
@[simp] theorem State.setPort_tim (n : Nat) (p : PortX) : (s.setPort n p).tim = s.tim := rfl
@[simp] theorem State.setPort_red (n : Nat) (p : PortX) : (s.setPort n p).red = s.red := rfl
@[simp] theorem State.setPort_core (n : Nat) (p : PortX) : (s.setPort n p).core = s.core := rfl
@[simp] theorem State.setPort_sec (n : Nat) (p : PortX) : (s.setPort n p).sec = s.sec := rfl
@[simp] theorem State.setPort_upd (n : Nat) (p : PortX) : (s.setPort n p).upd = s.upd := rfl
@[simp] theorem State.setPort_smp (n : Nat) (p : PortX) : (s.setPort n p).smp = s.smp := rfl
@[simp] theorem State.setPort_thm (n : Nat) (p : PortX) : (s.setPort n p).thm = s.thm := rfl
@[simp] theorem State.setPort_out (n : Nat) (p : PortX) : (s.setPort n p).out = s.out := rfl

/-! `queueOwn` -/

@[simp] theorem State.queueOwn_pending (p : OutPkt) : (s.queueOwn p).pending = s.pending := rfl
@[simp] theorem State.queueOwn_now (p : OutPkt) : (s.queueOwn p).now = s.now := rfl
@[simp] theorem State.queueOwn_fresh (p : OutPkt) : (s.queueOwn p).fresh = s.fresh := rfl
@[simp] theorem State.queueOwn_bus (p : OutPkt) : (s.queueOwn p).bus = s.bus := rfl
@[simp] theorem State.queueOwn_regs (p : OutPkt) : (s.queueOwn p).regs = s.regs := rfl
@[simp] theorem State.queueOwn_active (p : OutPkt) : (s.queueOwn p).active = s.active := rfl
@[simp] theorem State.queueOwn_fuses (p : OutPkt) : (s.queueOwn p).fuses = s.fuses := rfl
@[simp] theorem State.queueOwn_shadow (p : OutPkt) : (s.queueOwn p).shadow = s.shadow := rfl
@[simp] theorem State.queueOwn_kar (p : OutPkt) : (s.queueOwn p).kar = s.kar := rfl
@[simp] theorem State.queueOwn_nvm (p : OutPkt) : (s.queueOwn p).nvm = s.nvm := rfl
@[simp] theorem State.queueOwn_plan (p : OutPkt) : (s.queueOwn p).plan = s.plan := rfl
@[simp] theorem State.queueOwn_pwr (p : OutPkt) : (s.queueOwn p).pwr = s.pwr := rfl
@[simp] theorem State.queueOwn_boot (p : OutPkt) : (s.queueOwn p).boot = s.boot := rfl
@[simp] theorem State.queueOwn_cfg (p : OutPkt) : (s.queueOwn p).cfg = s.cfg := rfl
@[simp] theorem State.queueOwn_gov (p : OutPkt) : (s.queueOwn p).gov = s.gov := rfl
@[simp] theorem State.queueOwn_lan (p : OutPkt) : (s.queueOwn p).lan = s.lan := rfl
@[simp] theorem State.queueOwn_ing (p : OutPkt) : (s.queueOwn p).ing = s.ing := rfl
@[simp] theorem State.queueOwn_cmp (p : OutPkt) : (s.queueOwn p).cmp = s.cmp := rfl
@[simp] theorem State.queueOwn_geo (p : OutPkt) : (s.queueOwn p).geo = s.geo := rfl
@[simp] theorem State.queueOwn_dec (p : OutPkt) : (s.queueOwn p).dec = s.dec := rfl
@[simp] theorem State.queueOwn_enc (p : OutPkt) : (s.queueOwn p).enc = s.enc := rfl
@[simp] theorem State.queueOwn_lmp (p : OutPkt) : (s.queueOwn p).lmp = s.lmp := rfl
@[simp] theorem State.queueOwn_corr (p : OutPkt) : (s.queueOwn p).corr = s.corr := rfl
@[simp] theorem State.queueOwn_rail (p : OutPkt) : (s.queueOwn p).rail = s.rail := rfl
@[simp] theorem State.queueOwn_tim (p : OutPkt) : (s.queueOwn p).tim = s.tim := rfl
@[simp] theorem State.queueOwn_red (p : OutPkt) : (s.queueOwn p).red = s.red := rfl
@[simp] theorem State.queueOwn_core (p : OutPkt) : (s.queueOwn p).core = s.core := rfl
@[simp] theorem State.queueOwn_sec (p : OutPkt) : (s.queueOwn p).sec = s.sec := rfl
@[simp] theorem State.queueOwn_upd (p : OutPkt) : (s.queueOwn p).upd = s.upd := rfl
@[simp] theorem State.queueOwn_smp (p : OutPkt) : (s.queueOwn p).smp = s.smp := rfl
@[simp] theorem State.queueOwn_thm (p : OutPkt) : (s.queueOwn p).thm = s.thm := rfl
@[simp] theorem State.queueOwn_out (p : OutPkt) : (s.queueOwn p).out = s.out := rfl

/-! `busOk` -/

@[simp] theorem State.busOk_pending (d : Word) : (s.busOk d).pending = s.pending := rfl
@[simp] theorem State.busOk_now (d : Word) : (s.busOk d).now = s.now := rfl
@[simp] theorem State.busOk_fresh (d : Word) : (s.busOk d).fresh = s.fresh := rfl
@[simp] theorem State.busOk_regs (d : Word) : (s.busOk d).regs = s.regs := rfl
@[simp] theorem State.busOk_active (d : Word) : (s.busOk d).active = s.active := rfl
@[simp] theorem State.busOk_fuses (d : Word) : (s.busOk d).fuses = s.fuses := rfl
@[simp] theorem State.busOk_shadow (d : Word) : (s.busOk d).shadow = s.shadow := rfl
@[simp] theorem State.busOk_kar (d : Word) : (s.busOk d).kar = s.kar := rfl
@[simp] theorem State.busOk_nvm (d : Word) : (s.busOk d).nvm = s.nvm := rfl
@[simp] theorem State.busOk_plan (d : Word) : (s.busOk d).plan = s.plan := rfl
@[simp] theorem State.busOk_pwr (d : Word) : (s.busOk d).pwr = s.pwr := rfl
@[simp] theorem State.busOk_boot (d : Word) : (s.busOk d).boot = s.boot := rfl
@[simp] theorem State.busOk_cfg (d : Word) : (s.busOk d).cfg = s.cfg := rfl
@[simp] theorem State.busOk_gov (d : Word) : (s.busOk d).gov = s.gov := rfl
@[simp] theorem State.busOk_lan (d : Word) : (s.busOk d).lan = s.lan := rfl
@[simp] theorem State.busOk_lnk (d : Word) : (s.busOk d).lnk = s.lnk := rfl
@[simp] theorem State.busOk_ing (d : Word) : (s.busOk d).ing = s.ing := rfl
@[simp] theorem State.busOk_cmp (d : Word) : (s.busOk d).cmp = s.cmp := rfl
@[simp] theorem State.busOk_geo (d : Word) : (s.busOk d).geo = s.geo := rfl
@[simp] theorem State.busOk_dec (d : Word) : (s.busOk d).dec = s.dec := rfl
@[simp] theorem State.busOk_enc (d : Word) : (s.busOk d).enc = s.enc := rfl
@[simp] theorem State.busOk_lmp (d : Word) : (s.busOk d).lmp = s.lmp := rfl
@[simp] theorem State.busOk_corr (d : Word) : (s.busOk d).corr = s.corr := rfl
@[simp] theorem State.busOk_rail (d : Word) : (s.busOk d).rail = s.rail := rfl
@[simp] theorem State.busOk_tim (d : Word) : (s.busOk d).tim = s.tim := rfl
@[simp] theorem State.busOk_red (d : Word) : (s.busOk d).red = s.red := rfl
@[simp] theorem State.busOk_core (d : Word) : (s.busOk d).core = s.core := rfl
@[simp] theorem State.busOk_sec (d : Word) : (s.busOk d).sec = s.sec := rfl
@[simp] theorem State.busOk_upd (d : Word) : (s.busOk d).upd = s.upd := rfl
@[simp] theorem State.busOk_smp (d : Word) : (s.busOk d).smp = s.smp := rfl
@[simp] theorem State.busOk_thm (d : Word) : (s.busOk d).thm = s.thm := rfl
@[simp] theorem State.busOk_out (d : Word) : (s.busOk d).out = s.out := rfl

/-! `lpddrPut` -/

@[simp] theorem State.lpddrPut_pending (a : Nat) (l : List Byte) : (s.lpddrPut a l).pending = s.pending := rfl
@[simp] theorem State.lpddrPut_now (a : Nat) (l : List Byte) : (s.lpddrPut a l).now = s.now := rfl
@[simp] theorem State.lpddrPut_fresh (a : Nat) (l : List Byte) : (s.lpddrPut a l).fresh = s.fresh := rfl
@[simp] theorem State.lpddrPut_bus (a : Nat) (l : List Byte) : (s.lpddrPut a l).bus = s.bus := rfl
@[simp] theorem State.lpddrPut_regs (a : Nat) (l : List Byte) : (s.lpddrPut a l).regs = s.regs := rfl
@[simp] theorem State.lpddrPut_active (a : Nat) (l : List Byte) : (s.lpddrPut a l).active = s.active := rfl
@[simp] theorem State.lpddrPut_fuses (a : Nat) (l : List Byte) : (s.lpddrPut a l).fuses = s.fuses := rfl
@[simp] theorem State.lpddrPut_shadow (a : Nat) (l : List Byte) : (s.lpddrPut a l).shadow = s.shadow := rfl
@[simp] theorem State.lpddrPut_kar (a : Nat) (l : List Byte) : (s.lpddrPut a l).kar = s.kar := rfl
@[simp] theorem State.lpddrPut_nvm (a : Nat) (l : List Byte) : (s.lpddrPut a l).nvm = s.nvm := rfl
@[simp] theorem State.lpddrPut_plan (a : Nat) (l : List Byte) : (s.lpddrPut a l).plan = s.plan := rfl
@[simp] theorem State.lpddrPut_pwr (a : Nat) (l : List Byte) : (s.lpddrPut a l).pwr = s.pwr := rfl
@[simp] theorem State.lpddrPut_boot (a : Nat) (l : List Byte) : (s.lpddrPut a l).boot = s.boot := rfl
@[simp] theorem State.lpddrPut_cfg (a : Nat) (l : List Byte) : (s.lpddrPut a l).cfg = s.cfg := rfl
@[simp] theorem State.lpddrPut_gov (a : Nat) (l : List Byte) : (s.lpddrPut a l).gov = s.gov := rfl
@[simp] theorem State.lpddrPut_lan (a : Nat) (l : List Byte) : (s.lpddrPut a l).lan = s.lan := rfl
@[simp] theorem State.lpddrPut_lnk (a : Nat) (l : List Byte) : (s.lpddrPut a l).lnk = s.lnk := rfl
@[simp] theorem State.lpddrPut_ing (a : Nat) (l : List Byte) : (s.lpddrPut a l).ing = s.ing := rfl
@[simp] theorem State.lpddrPut_cmp (a : Nat) (l : List Byte) : (s.lpddrPut a l).cmp = s.cmp := rfl
@[simp] theorem State.lpddrPut_geo (a : Nat) (l : List Byte) : (s.lpddrPut a l).geo = s.geo := rfl
@[simp] theorem State.lpddrPut_dec (a : Nat) (l : List Byte) : (s.lpddrPut a l).dec = s.dec := rfl
@[simp] theorem State.lpddrPut_enc (a : Nat) (l : List Byte) : (s.lpddrPut a l).enc = s.enc := rfl
@[simp] theorem State.lpddrPut_lmp (a : Nat) (l : List Byte) : (s.lpddrPut a l).lmp = s.lmp := rfl
@[simp] theorem State.lpddrPut_corr (a : Nat) (l : List Byte) : (s.lpddrPut a l).corr = s.corr := rfl
@[simp] theorem State.lpddrPut_rail (a : Nat) (l : List Byte) : (s.lpddrPut a l).rail = s.rail := rfl
@[simp] theorem State.lpddrPut_tim (a : Nat) (l : List Byte) : (s.lpddrPut a l).tim = s.tim := rfl
@[simp] theorem State.lpddrPut_red (a : Nat) (l : List Byte) : (s.lpddrPut a l).red = s.red := rfl
@[simp] theorem State.lpddrPut_sec (a : Nat) (l : List Byte) : (s.lpddrPut a l).sec = s.sec := rfl
@[simp] theorem State.lpddrPut_upd (a : Nat) (l : List Byte) : (s.lpddrPut a l).upd = s.upd := rfl
@[simp] theorem State.lpddrPut_smp (a : Nat) (l : List Byte) : (s.lpddrPut a l).smp = s.smp := rfl
@[simp] theorem State.lpddrPut_thm (a : Nat) (l : List Byte) : (s.lpddrPut a l).thm = s.thm := rfl
@[simp] theorem State.lpddrPut_out (a : Nat) (l : List Byte) : (s.lpddrPut a l).out = s.out := rfl
@[simp] theorem State.lpddrPut_mem (a : Nat) (l : List Byte) : (s.lpddrPut a l).core.mem = memPuts s.core.mem (lpddr a) l := rfl

/-! ### Fields of a word -/

theorem Fld.toNat_put (f : Fld) (w : Word) (v : Nat) :
    (f.put w v) = (w &&& ~~~ BitVec.ofNat 32 ((2 ^ f.width - 1) <<< f.lo)) |||
      BitVec.ofNat 32 ((v % 2 ^ f.width) <<< f.lo) := rfl

/-- Bit `k` of a word with a field replaced: the value's bit inside the field, the old bit outside. -/
theorem Fld.getLsbD_put (f : Fld) (w : Word) (v k : Nat) (hk : k < 32) :
    (f.put w v).getLsbD k =
      if f.lo ≤ k ∧ k < f.lo + f.width then v.testBit (k - f.lo) else w.getLsbD k := by
  simp only [Fld.put, Fld.mask, BitVec.getLsbD_or, BitVec.getLsbD_and, BitVec.getLsbD_not, BitVec.getLsbD_ofNat,
    Nat.testBit_shiftLeft, Nat.testBit_two_pow_sub_one, Nat.testBit_mod_two_pow, hk, decide_true, Bool.true_and]
  by_cases h1 : f.lo ≤ k
  · by_cases h2 : k < f.lo + f.width
    · have : k - f.lo < f.width := by omega
      simp [h1, h2, this]
    · have : ¬ k - f.lo < f.width := by omega
      simp [h1, h2, this]
  · simp [h1]

/-- Bit `k` of what a field reads. -/
theorem Fld.testBit_of (f : Fld) (w : Word) (k : Nat) :
    (f.of w).testBit k = (decide (k < f.width) && w.getLsbD (f.lo + k)) := by
  simp [Fld.of, Nat.testBit_mod_two_pow, Nat.testBit_shiftRight, BitVec.getLsbD]

/-- A field reads what was put into it, cut to its width. -/
theorem Fld.of_put_self (f : Fld) (h : f.lo + f.width ≤ 32) (w : Word) (v : Nat) :
    f.of (f.put w v) = v % 2 ^ f.width := by
  apply Nat.eq_of_testBit_eq
  intro k
  rw [Fld.testBit_of, Nat.testBit_mod_two_pow]
  by_cases hk : k < f.width
  · rw [Fld.getLsbD_put _ _ _ _ (by omega)]
    simp [hk]
  · simp [hk]

/-- Two fields share no bit. -/
def Fld.apart (f g : Fld) : Bool :=
  f.addr != g.addr || decide (f.lo + f.width ≤ g.lo) || decide (g.lo + g.width ≤ f.lo)

/-- A field keeps its value where bits outside it are replaced. -/
theorem Fld.of_put_other (f g : Fld) (h : f.lo + f.width ≤ g.lo ∨ g.lo + g.width ≤ f.lo) (hg : g.lo + g.width ≤ 32)
    (w : Word) (v : Nat) : g.of (f.put w v) = g.of w := by
  apply Nat.eq_of_testBit_eq
  intro k
  rw [Fld.testBit_of, Fld.testBit_of]
  by_cases hk : k < g.width
  · rw [Fld.getLsbD_put _ _ _ _ (by omega)]
    have : ¬ (f.lo ≤ g.lo + k ∧ g.lo + k < f.lo + f.width) := by omega
    simp [this]
  · simp [hk]

/-- Putting back what a field holds changes nothing. -/
theorem Fld.put_of_self (f : Fld) (w : Word) : f.put w (f.of w) = w := by
  apply BitVec.eq_of_getLsbD_eq
  intro i hi
  rw [Fld.getLsbD_put _ _ _ _ hi]
  split
  · next h =>
    rw [Fld.testBit_of]
    have h1 : i - f.lo < f.width := by omega
    have h2 : f.lo + (i - f.lo) = i := by omega
    simp [h1, h2]
  · rfl

theorem Fld.of_lt (f : Fld) (w : Word) : f.of w < 2 ^ f.width := Nat.mod_lt _ (Nat.two_pow_pos _)

/-! ### Registers -/

theorem State.getW_setW_self (a : Nat) (w : Word) : (s.setW a w).getW a = w := tabGet_mapPut_self resetOf s.regs a w

theorem State.getW_setW_ne {a b : Nat} (w : Word) (h : b ≠ a) : (s.setW a w).getW b = s.getW b :=
  tabGet_mapPut_ne resetOf s.regs w _ h

theorem State.getW_setW (a b : Nat) (w : Word) : (s.setW a w).getW b = if b = a then w else s.getW b := by
  split
  · next h => rw [h, State.getW_setW_self]
  · next h => rw [State.getW_setW_ne s w h]

theorem State.actW_setActW_self (a : Nat) (w : Word) : (s.setActW a w).actW a = w :=
  tabGet_mapPut_self resetOf s.active a w

theorem State.actW_setActW_ne {a b : Nat} (w : Word) (h : b ≠ a) : (s.setActW a w).actW b = s.actW b :=
  tabGet_mapPut_ne resetOf s.active w _ h

@[simp] theorem State.actW_setW (a b : Nat) (w : Word) : (s.setW a w).actW b = s.actW b := rfl

@[simp] theorem State.getW_setActW (a b : Nat) (w : Word) : (s.setActW a w).getW b = s.getW b := rfl

/-- What a register holds depends on the register map alone. -/
theorem State.getW_congr {s t : State} (h : t.regs = s.regs) (a : Nat) : t.getW a = s.getW a := by
  unfold State.getW
  rw [h]

/-! ### Fields -/

theorem State.getW_setF_self (f : Fld) (v : Nat) : (s.setF f v).getW f.addr = f.put (s.getW f.addr) v :=
  s.getW_setW_self _ _

theorem State.getW_setF_ne (f : Fld) (v : Nat) {b : Nat} (h : b ≠ f.addr) : (s.setF f v).getW b = s.getW b :=
  s.getW_setW_ne _ h

theorem State.getF_setF_self (f : Fld) (v : Nat) (h : f.lo + f.width ≤ 32) :
    (s.setF f v).getF f = v % 2 ^ f.width := by
  rw [State.getF, State.getW_setF_self, Fld.of_put_self f h]

theorem State.getF_setF_apart (f g : Fld) (v : Nat) (h : f.apart g = true) (hg : g.lo + g.width ≤ 32) :
    (s.setF f v).getF g = s.getF g := by
  unfold State.getF
  by_cases ha : g.addr = f.addr
  · rw [ha, State.getW_setF_self]
    apply Fld.of_put_other f g _ hg
    simp [Fld.apart, ha] at h
    omega
  · rw [State.getW_setF_ne s f v ha]

theorem State.getF_raise_self (f : Fld) (h : f.lo + f.width ≤ 32) (h1 : 0 < f.width) : (s.raise f).getF f = 1 := by
  rw [State.raise, State.getF_setF_self s f 1 h]
  exact Nat.mod_eq_of_lt (Nat.one_lt_two_pow (by omega))

theorem State.getF_bump_self (f : Fld) (h : f.lo + f.width ≤ 32) :
    (s.bump f).getF f = min (s.getF f + 1) (2 ^ f.width - 1) := by
  rw [State.bump, State.bumpBy, State.getF_setF_self s f _ h]
  apply Nat.mod_eq_of_lt
  have := Nat.two_pow_pos f.width
  omega

theorem State.getF_lt (f : Fld) : s.getF f < 2 ^ f.width := Fld.of_lt f _

/-- Setting a field that differs from a register leaves the register. -/
theorem State.getW_raise_ne (f : Fld) {b : Nat} (h : b ≠ f.addr) : (s.raise f).getW b = s.getW b :=
  s.getW_setF_ne f 1 h

theorem State.getW_bump_ne (f : Fld) {b : Nat} (h : b ≠ f.addr) : (s.bump f).getW b = s.getW b :=
  s.getW_setF_ne f _ h

/-- A bit of a field that has just been written is that bit of the value. -/
theorem State.bit_setF_self (f : Fld) (v i : Nat) (h : f.lo + f.width ≤ 32) (hi : i < f.width) :
    (s.setF f v).bit f i = v.testBit i := by
  unfold State.bit
  rw [State.getF_setF_self s f v h, Nat.testBit_mod_two_pow]
  simp [hi]

/-- A bit of a field that has just been set. -/
theorem State.bit_raiseBit_self (f : Fld) (i : Nat) (h : f.lo + f.width ≤ 32) (hi : i < f.width) :
    (s.raiseBit f i).bit f i = true := by
  unfold State.raiseBit
  rw [State.bit_setF_self s f _ i h hi, Nat.testBit_or, Nat.testBit_two_pow_self, Bool.or_true]

/-- A bit of a field that has just been written. -/
theorem State.bit_putBit_self (f : Fld) (i : Nat) (b : Bool) (h : f.lo + f.width ≤ 32) (hi : i < f.width) :
    (s.putBit f i b).bit f i = b := by
  unfold State.putBit
  rw [State.bit_setF_self s f _ i h hi]
  cases b
  · rw [if_neg (by simp), Nat.testBit_and, Nat.sub_sub, Nat.add_comm 1]
    rw [Nat.testBit_two_pow_sub_succ (Nat.pow_lt_pow_right (by omega) hi), Nat.testBit_two_pow_self]
    simp
  · rw [if_pos rfl, Nat.testBit_or, Nat.testBit_two_pow_self, Bool.or_true]

end Sys2Proof.Machine
end

