-- ==== Sys2Proof/Laws/Frames.lean ====
section
/-!
SUPPORT. How the frames of Safety.lean are shown: one step per operation on registers.
-/

namespace Sys2Proof.Machine

variable {s t u : State} {l : List Nat}

/-! ### What registers read after a record update -/

@[simp] theorem State.getW_mk (s : State) (x : Nat)
    (p n fr b ac fu sh ka nv pl pw bo cf go la ln i c ge d e lm co ra ti re cr se up sm th o) :
    (State.mk p n fr b s.regs ac fu sh ka nv pl pw bo cf go la ln i c ge d e lm co ra ti re cr se up sm th o).getW x
      = s.getW x := rfl

@[simp] theorem State.getF_mk (s : State) (f : Fld)
    (p n fr b ac fu sh ka nv pl pw bo cf go la ln i c ge d e lm co ra ti re cr se up sm th o) :
    (State.mk p n fr b s.regs ac fu sh ka nv pl pw bo cf go la ln i c ge d e lm co ra ti re cr se up sm th o).getF f
      = s.getF f := rfl

@[simp] theorem State.flag_mk (s : State) (f : Fld)
    (p n fr b ac fu sh ka nv pl pw bo cf go la ln i c ge d e lm co ra ti re cr se up sm th o) :
    (State.mk p n fr b s.regs ac fu sh ka nv pl pw bo cf go la ln i c ge d e lm co ra ti re cr se up sm th o).flag f
      = s.flag f := rfl

@[simp] theorem State.bit_mk (s : State) (f : Fld) (k : Nat)
    (p n fr b ac fu sh ka nv pl pw bo cf go la ln i c ge d e lm co ra ti re cr se up sm th o) :
    (State.mk p n fr b s.regs ac fu sh ka nv pl pw bo cf go la ln i c ge d e lm co ra ti re cr se up sm th o).bit f k
      = s.bit f k := rfl

@[simp] theorem State.actW_mk (s : State) (x : Nat)
    (p n fr b rg fu sh ka nv pl pw bo cf go la ln i c ge d e lm co ra ti re cr se up sm th o) :
    (State.mk p n fr b rg s.active fu sh ka nv pl pw bo cf go la ln i c ge d e lm co ra ti re cr se up sm th o).actW x
      = s.actW x := rfl

/-! ### Registers after a write of a field -/

theorem State.getW_setF (s : State) (f : Fld) (v b : Nat) :
    (s.setF f v).getW b = if b = f.addr then f.put (s.getW f.addr) v else s.getW b := State.getW_setW s f.addr b _

theorem State.wrote_setF (s : State) (f : Fld) (v : Nat) : s.wrote (s.setF f v) f v := State.getW_setF_self s f v

/-! ### Every register but the listed ones -/

theorem State.regsKept.refl (s : State) (l : List Nat) : s.regsKept s l := fun _ _ => rfl

theorem State.regsKept.trans (h : s.regsKept t l) (k : t.regsKept u l) : s.regsKept u l :=
  fun a ha => (k a ha).trans (h a ha)

theorem State.regsKept.mono {m : List Nat} (h : s.regsKept t l) (k : ∀ a ∈ l, a ∈ m) : s.regsKept t m :=
  fun a ha => h a (fun x => ha (k a x))

/-- A state with the same register map. -/
theorem State.regsKept.congr (h : s.regsKept t l) (k : u.regs = t.regs) : s.regsKept u l :=
  fun a ha => (State.getW_congr k a).trans (h a ha)

theorem State.regsKept.ite {c : Prop} [Decidable c] (h : s.regsKept t l) (k : s.regsKept u l) :
    s.regsKept (if c then t else u) l := by
  split
  · exact h
  · exact k

theorem State.regsKept.setW (h : s.regsKept t l) (x : Nat) (w : Word) (m : x ∈ l) : s.regsKept (t.setW x w) l :=
  fun a ha => (State.getW_setW_ne t w (fun e => ha (by rw [e]; exact m))).trans (h a ha)

theorem State.regsKept.setF (h : s.regsKept t l) (f : Fld) (v : Nat) (m : f.addr ∈ l) : s.regsKept (t.setF f v) l :=
  h.setW _ _ m

theorem State.regsKept.setB (h : s.regsKept t l) (f : Fld) (b : Bool) (m : f.addr ∈ l) : s.regsKept (t.setB f b) l :=
  h.setW _ _ m

theorem State.regsKept.raise (h : s.regsKept t l) (f : Fld) (m : f.addr ∈ l) : s.regsKept (t.raise f) l :=
  h.setW _ _ m

theorem State.regsKept.raiseBit (h : s.regsKept t l) (f : Fld) (i : Nat) (m : f.addr ∈ l) : s.regsKept (t.raiseBit f i) l :=
  h.setW _ _ m

theorem State.regsKept.putBit (h : s.regsKept t l) (f : Fld) (i : Nat) (b : Bool) (m : f.addr ∈ l) : s.regsKept (t.putBit f i b) l :=
  h.setW _ _ m

theorem State.regsKept.bumpBy (h : s.regsKept t l) (f : Fld) (n : Nat) (m : f.addr ∈ l) : s.regsKept (t.bumpBy f n) l :=
  h.setW _ _ m

theorem State.regsKept.bump (h : s.regsKept t l) (f : Fld) (m : f.addr ∈ l) : s.regsKept (t.bump f) l :=
  h.setW _ _ m

/-! ### Registers alone -/

theorem State.onlyRegs.refl (s : State) (l : List Nat) : s.onlyRegs s l := ⟨rfl, State.regsKept.refl s l⟩

theorem State.onlyRegs.ite {c : Prop} [Decidable c] (h : s.onlyRegs t l) (k : s.onlyRegs u l) :
    s.onlyRegs (if c then t else u) l := by
  split
  · exact h
  · exact k

theorem State.onlyRegs.mono {m : List Nat} (h : s.onlyRegs t l) (k : ∀ a ∈ l, a ∈ m) : s.onlyRegs t m :=
  ⟨h.1, h.2.mono k⟩

theorem State.onlyRegs.setW (h : s.onlyRegs t l) (x : Nat) (w : Word) (m : x ∈ l) : s.onlyRegs (t.setW x w) l := by
  refine ⟨?_, h.2.setW x w m⟩
  have h1 := h.1
  unfold State.setW
  rw [h1]

theorem State.onlyRegs.setF (h : s.onlyRegs t l) (f : Fld) (v : Nat) (m : f.addr ∈ l) : s.onlyRegs (t.setF f v) l :=
  h.setW _ _ m

theorem State.onlyRegs.setB (h : s.onlyRegs t l) (f : Fld) (b : Bool) (m : f.addr ∈ l) : s.onlyRegs (t.setB f b) l :=
  h.setW _ _ m

theorem State.onlyRegs.raise (h : s.onlyRegs t l) (f : Fld) (m : f.addr ∈ l) : s.onlyRegs (t.raise f) l :=
  h.setW _ _ m

theorem State.onlyRegs.raiseBit (h : s.onlyRegs t l) (f : Fld) (i : Nat) (m : f.addr ∈ l) : s.onlyRegs (t.raiseBit f i) l :=
  h.setW _ _ m

theorem State.onlyRegs.putBit (h : s.onlyRegs t l) (f : Fld) (i : Nat) (b : Bool) (m : f.addr ∈ l) : s.onlyRegs (t.putBit f i b) l :=
  h.setW _ _ m

theorem State.onlyRegs.bumpBy (h : s.onlyRegs t l) (f : Fld) (n : Nat) (m : f.addr ∈ l) : s.onlyRegs (t.bumpBy f n) l :=
  h.setW _ _ m

theorem State.onlyRegs.bump (h : s.onlyRegs t l) (f : Fld) (m : f.addr ∈ l) : s.onlyRegs (t.bump f) l :=
  h.setW _ _ m

/-! ### Registers and the answer of the access -/

theorem State.onlyBus.refl (s : State) (l : List Nat) : s.onlyBus s l := ⟨rfl, State.regsKept.refl s l⟩

theorem State.onlyBus.bus (s : State) (l : List Nat) (b : BusReply) : s.onlyBus { s with bus := b } l :=
  ⟨rfl, State.regsKept.refl s l⟩

theorem State.onlyBus.ok (s : State) (l : List Nat) (d : Word) : s.onlyBus (s.busOk d) l :=
  ⟨rfl, State.regsKept.refl s l⟩

theorem State.onlyBus.ite {c : Prop} [Decidable c] (h : s.onlyBus t l) (k : s.onlyBus u l) :
    s.onlyBus (if c then t else u) l := by
  split
  · exact h
  · exact k

theorem State.onlyBus.setW (h : s.onlyBus t l) (x : Nat) (w : Word) (m : x ∈ l) : s.onlyBus (t.setW x w) l := by
  refine ⟨?_, h.2.setW x w m⟩
  have h1 := h.1
  unfold State.setW
  rw [h1]

theorem State.onlyBus.setF (h : s.onlyBus t l) (f : Fld) (v : Nat) (m : f.addr ∈ l) : s.onlyBus (t.setF f v) l :=
  h.setW _ _ m

theorem State.onlyBus.setB (h : s.onlyBus t l) (f : Fld) (b : Bool) (m : f.addr ∈ l) : s.onlyBus (t.setB f b) l :=
  h.setW _ _ m

theorem State.onlyBus.raise (h : s.onlyBus t l) (f : Fld) (m : f.addr ∈ l) : s.onlyBus (t.raise f) l :=
  h.setW _ _ m

theorem State.onlyBus.raiseBit (h : s.onlyBus t l) (f : Fld) (i : Nat) (m : f.addr ∈ l) : s.onlyBus (t.raiseBit f i) l :=
  h.setW _ _ m

theorem State.onlyBus.putBit (h : s.onlyBus t l) (f : Fld) (i : Nat) (b : Bool) (m : f.addr ∈ l) : s.onlyBus (t.putBit f i b) l :=
  h.setW _ _ m

theorem State.onlyBus.bumpBy (h : s.onlyBus t l) (f : Fld) (n : Nat) (m : f.addr ∈ l) : s.onlyBus (t.bumpBy f n) l :=
  h.setW _ _ m

theorem State.onlyBus.bump (h : s.onlyBus t l) (f : Fld) (m : f.addr ∈ l) : s.onlyBus (t.bump f) l :=
  h.setW _ _ m

/-! ### Accesses -/

/-- A bus error is what `State.busError` says of it. -/
theorem State.busFault_busError (s : State) (who : Initiator) (write : Bool) (a : Word) (kind : Nat) (hk : kind < 4) :
    s.busError (s.busFault who write a kind) who write a kind := by
  have h0 := State.onlyBus.bus s [A.CORE_FAULT, A.CORE_FADDR] ⟨0, true⟩
  unfold State.busFault State.busError
  simp only []
  by_cases h : s.flag F.CORE_FAULT_VALID = true
  · simp only [h, if_true]
    exact ⟨trivial, h0, rfl, rfl⟩
  · simp only [h, Bool.false_eq_true, if_false]
    refine ⟨rfl, ?_, ?_, ?_, ?_, ?_, ?_⟩
    · exact ((((h0.setF _ _ (by decide)).setB _ _ (by decide)).raise _ (by decide)).setF _ _ (by decide)).setF _ _ (by decide)
    · rw [State.getF_setF_apart _ _ _ _ (by decide) (by decide), State.getF_setF_apart _ _ _ _ (by decide) (by decide),
        State.raise, State.getF_setF_apart _ _ _ _ (by decide) (by decide), State.setB,
        State.getF_setF_apart _ _ _ _ (by decide) (by decide), State.getF_setF_self _ _ _ (by decide)]
      cases who <;> rfl
    · rw [State.getF_setF_apart _ _ _ _ (by decide) (by decide), State.getF_setF_apart _ _ _ _ (by decide) (by decide),
        State.raise, State.getF_setF_apart _ _ _ _ (by decide) (by decide), State.setB,
        State.getF_setF_self _ _ _ (by decide)]
      cases write <;> rfl
    · rw [State.getF_setF_apart _ _ _ _ (by decide) (by decide), State.getF_setF_apart _ _ _ _ (by decide) (by decide),
        State.getF_raise_self _ _ (by decide) (by decide)]
    · rw [State.getF_setF_apart _ _ _ _ (by decide) (by decide), State.getF_setF_self _ _ _ (by decide)]
      exact Nat.mod_eq_of_lt hk
    · refine (State.getW_setF_self _ F.CORE_FADDR_ADDR _).trans (BitVec.eq_of_getLsbD_eq fun i hi => ?_)
      rw [Fld.getLsbD_put _ _ _ _ hi]
      simp [F.CORE_FADDR_ADDR, hi, BitVec.getLsbD]

/-- A guarded access that passes its checks is the operation after the access has been answered. -/
theorem State.guarded_of_mayWrite {who : Initiator} {a : Nat} (f : State → State) (h : s.mayWrite who a) :
    s.guarded who a f = f (s.busOk 0) := by
  obtain ⟨h1, h2, h3⟩ := h
  have h4 : (headOnlyReg a && !s.isHead) = false := by
    cases hh : headOnlyReg a
    · rfl
    · simp [h3 hh]
  unfold State.guarded
  rw [if_pos h1, h2, h4]
  rfl

end Sys2Proof.Machine
end

