-- ==== Sys2Proof/Laws/Kept.lean ====
section
/-!
SUPPORT. What nearly every operation leaves: the queue, the time, the fuse array and the key array, one lemma per operation. The operations
that may blow a fuse have laws of their own in Laws/Grows.lean.
-/

namespace Sys2Proof.Machine

/-- The queue, the time, the fuse array and the key array. -/
def State.kept (s : State) : List Instr × Nat × Fuses × KeyArray := (s.pending, s.now, s.fuses, s.kar)
@[simp] theorem State.kept_fold (s : State) : (s.pending, s.now, s.fuses, s.kar) = s.kept := by rw [State.kept]
@[simp] theorem State.kept_mk (p n fr b r a f sh ka nv pl pw bo cf go la ln i c ge d e lm co ra ti re cr se u sm th o) :
    (State.mk p n fr b r a f sh ka nv pl pw bo cf go la ln i c ge d e lm co ra ti re cr se u sm th o).kept = (p, n, f, ka) := by rw [State.kept]
@[simp] theorem kept_ite (c : Prop) [Decidable c] (a b : State) : (if c then a else b).kept = if c then a.kept else b.kept := by
  split <;> rfl
@[simp] theorem State.when_kept (s : State) (c : Bool) (f : State → State) (h : ∀ t : State, (f t).kept = t.kept) : (s.when c f).kept = s.kept := by
  cases c <;> simp [State.when, h]
@[simp] theorem foldl_kept {α : Type} (f : State → α → State) (h : ∀ t x, (f t x).kept = t.kept) (s : State) (l : List α) : (l.foldl f s).kept = s.kept := by
  induction l generalizing s with
  | nil => rfl
  | cons x l ih => rw [List.foldl_cons, ih, h]
@[simp] theorem State.forEach_kept {α : Type} (s : State) (l : List α) (f : α → State → State) (h : ∀ x t, (f x t).kept = t.kept) : (s.forEach l f).kept = s.kept :=
  foldl_kept _ (fun t x => h x t) s l
theorem State.forEach_keeps {α : Type} {s r : State} {l : List α} {f : α → State → State} (hs : s.kept = r.kept)
    (h : ∀ x t, (f x t).kept = t.kept) : (s.forEach l f).kept = r.kept := (State.forEach_kept s l f h).trans hs
theorem foldl_keeps {α : Type} {s r : State} {l : List α} {f : State → α → State} (hs : s.kept = r.kept)
    (h : ∀ t x, (f t x).kept = t.kept) : (l.foldl f s).kept = r.kept := (foldl_kept f h s l).trans hs
theorem State.when_keeps {s r : State} {c : Bool} {f : State → State} (hs : s.kept = r.kept)
    (h : ∀ t : State, (f t).kept = t.kept) : (s.when c f).kept = r.kept := (State.when_kept s c f h).trans hs


/-! ### State -/


/-! ### Ops -/

@[simp] theorem State.setW_kept (s : State) (a : Nat) (w : Word) : (s.setW a w).kept = s.kept := by
  unfold State.setW
  simp only [State.kept_mk, State.kept_fold]

@[simp] theorem State.setActW_kept (s : State) (a : Nat) (w : Word) : (s.setActW a w).kept = s.kept := by
  unfold State.setActW
  simp only [State.kept_mk, State.kept_fold]

@[simp] theorem State.setF_kept (s : State) (f : Fld) (v : Nat) : (s.setF f v).kept = s.kept := by
  unfold State.setF
  simp only [State.setW_kept]

@[simp] theorem State.setBoth_kept (s : State) (f : Fld) (v : Nat) : (s.setBoth f v).kept = s.kept := by
  unfold State.setBoth
  simp only [State.setF_kept, State.setActW_kept]

@[simp] theorem State.setB_kept (s : State) (f : Fld) (b : Bool) : (s.setB f b).kept = s.kept := by
  unfold State.setB
  simp only [State.setF_kept]

@[simp] theorem State.raise_kept (s : State) (f : Fld) : (s.raise f).kept = s.kept := by
  unfold State.raise
  simp only [State.setF_kept]

@[simp] theorem State.raiseBit_kept (s : State) (f : Fld) (i : Nat) : (s.raiseBit f i).kept = s.kept := by
  unfold State.raiseBit
  simp only [State.setF_kept]

@[simp] theorem State.putBit_kept (s : State) (f : Fld) (i : Nat) (b : Bool) : (s.putBit f i b).kept = s.kept := by
  unfold State.putBit
  simp only [State.setF_kept]

@[simp] theorem State.bumpBy_kept (s : State) (f : Fld) (n : Nat) : (s.bumpBy f n).kept = s.kept := by
  unfold State.bumpBy
  simp only [State.setF_kept]

@[simp] theorem State.bump_kept (s : State) (f : Fld) : (s.bump f).kept = s.kept := by
  unfold State.bump
  simp only [State.bumpBy_kept]

@[simp] theorem State.draw_kept (s : State) : s.draw.2.kept = s.kept := by
  unfold State.draw
  simp only [State.kept_mk, State.kept_fold]

@[simp] theorem State.drawScalar_kept (s : State) : s.drawScalar.2.kept = s.kept := by
  unfold State.drawScalar
  simp only [State.draw_kept]

@[simp] theorem State.choose_kept (s : State) (n : Nat) : (s.choose n).2.kept = s.kept := by
  unfold State.choose
  simp only [State.kept_mk, State.kept_fold]

@[simp] theorem State.emit_kept (s : State) (e : Emission) : (s.emit e).kept = s.kept := by
  unfold State.emit
  simp only [State.kept_mk, State.kept_fold]

@[simp] theorem State.setPort_kept (s : State) (n : Nat) (p : PortX) : (s.setPort n p).kept = s.kept := by
  unfold State.setPort
  simp only [State.kept_mk, State.kept_fold]

@[simp] theorem State.queueOwn_kept (s : State) (p : OutPkt) : (s.queueOwn p).kept = s.kept := by
  unfold State.queueOwn
  simp only [State.kept_mk, State.kept_fold]

@[simp] theorem State.latchHealth_kept (s : State) (i : HealthItem) (ok : Bool) : (s.latchHealth i ok).kept = s.kept
      := by
  unfold State.latchHealth
  simp only [State.kept_mk, State.kept_fold]

@[simp] theorem State.latchLink_kept (s : State) (l : Nat) : (s.latchLink l).kept = s.kept := by
  unfold State.latchLink
  simp only [kept_ite, ite_self, implies_true, foldl_kept, State.latchHealth_kept]

@[simp] theorem State.latchPort_kept (s : State) (n : Nat) : (s.latchPort n).kept = s.kept := by
  unfold State.latchPort
  repeat' first | (simp only [State.latchLink_kept]; done) | split

@[simp] theorem State.lampState_kept (s : State) : s.lampState.kept = s.kept := by
  unfold State.lampState
  simp only [State.kept_mk, State.kept_fold, kept_ite, ite_self, State.setF_kept]

@[simp] theorem State.dropSlot_kept (s : State) : s.dropSlot.kept = s.kept := by
  unfold State.dropSlot
  repeat' first | (simp only [State.kept_mk, State.kept_fold, kept_ite, ite_self, State.setB_kept,
      State.bump_kept]; done) | split

@[simp] theorem State.softBlank_kept (s : State) : s.softBlank.kept = s.kept := by
  unfold State.softBlank
  simp only [State.kept_mk, State.kept_fold]

@[simp] theorem State.softBlankNow_kept (s : State) : s.softBlankNow.kept = s.kept := by
  unfold State.softBlankNow
  simp only [implies_true, State.when_kept, State.dropSlot_kept, State.raise_kept, State.lampState_kept]

@[simp] theorem State.hardBlank_kept (s : State) : s.hardBlank.kept = s.kept := by
  unfold State.hardBlank
  simp only [State.dropSlot_kept, State.raise_kept, State.lampState_kept]

@[simp] theorem State.lpddrPut_kept (s : State) (a : Nat) (bytes : List Byte) : (s.lpddrPut a bytes).kept = s.kept
      := by
  unfold State.lpddrPut
  simp only [State.kept_mk, State.kept_fold]


/-! ### Access -/

@[simp] theorem State.busFault_kept (s : State) (who : Initiator) (write : Bool) (a : Word) (kind : Nat) :
      (s.busFault who write a kind).kept = s.kept := by
  unfold State.busFault
  simp only [State.kept_mk, State.kept_fold, kept_ite, ite_self, State.setF_kept, State.setB_kept, State.raise_kept]

@[simp] theorem State.busOk_kept (s : State) (data : Word) : (s.busOk data).kept = s.kept := by
  unfold State.busOk
  simp only [State.kept_mk, State.kept_fold]

@[simp] theorem State.guarded_kept (s : State) (who : Initiator) (a : Nat) (f : State → State) (h : ∀ t : State, (f
      t).kept = t.kept) : (s.guarded who a f).kept = s.kept := by
  unfold State.guarded; (repeat' split) <;> simp [h]

@[simp] theorem State.busyWrite_kept (s : State) (block : Nat) : (s.busyWrite block).kept = s.kept := by
  unfold State.busyWrite
  simp only [State.raise_kept, State.setF_kept]


/-! ### Clock -/

@[simp] theorem State.setTb_kept (s : State) (i : Nat) (x : TbX) : (s.setTb i x).kept = s.kept := by
  unfold State.setTb
  simp only [State.kept_mk, State.kept_fold]

@[simp] theorem State.setRate_kept (s : State) (i : Nat) (r : Int) : (s.setRate i r).kept = s.kept := by
  unfold State.setRate
  simp only [State.setTb_kept, State.setF_kept]

@[simp] theorem State.shiftTb_kept (s : State) (i : Nat) (d : Int) : (s.shiftTb i d).kept = s.kept := by
  unfold State.shiftTb
  simp only [State.setTb_kept]

@[simp] theorem State.stepTb_kept (s : State) (i : Nat) (o : Int) : (s.stepTb i o).kept = s.kept := by
  unfold State.stepTb
  simp only [implies_true, State.when_kept, State.shiftTb_kept, State.bump_kept, State.raise_kept,
      State.softBlank_kept]

@[simp] theorem State.slewTb_kept (s : State) (i : Nat) (bw : Nat) (o : Int) : (s.slewTb i bw o).kept = s.kept := by
  unfold State.slewTb
  simp only [State.setTb_kept, State.setRate_kept]

@[simp] theorem State.settleEval_kept (s : State) : s.settleEval.kept = s.kept := by
  unfold State.settleEval
  simp only [State.setB_kept]

@[simp] theorem State.tbTo_kept (s : State) (i v : Nat) : (s.tbTo i v).kept = s.kept := by
  unfold State.tbTo
  simp only [State.kept_mk, State.kept_fold, kept_ite, ite_self, implies_true, State.when_kept, State.setF_kept,
      State.setTb_kept, State.raiseBit_kept, State.setRate_kept, State.raise_kept, State.settleEval_kept]

@[simp] theorem State.tbLose_kept (s : State) (i : Nat) : (s.tbLose i).kept = s.kept := by
  unfold State.tbLose
  simp only [kept_ite, ite_self, State.tbTo_kept]

@[simp] theorem State.shutterStart_kept (s : State) (i : Nat) : (s.shutterStart i).kept = s.kept := by
  unfold State.shutterStart
  simp only [State.kept_mk, State.kept_fold, kept_ite, ite_self, State.slewTb_kept, State.tbTo_kept]

@[simp] theorem State.timeCapture_kept (s : State) : s.timeCapture.kept = s.kept := by
  unfold State.timeCapture
  simp only [implies_true, State.forEach_kept, State.setF_kept]

@[simp] theorem State.tbSelect_kept (s : State) (i : Nat) : (s.tbSelect i).kept = s.kept := by
  unfold State.tbSelect
  simp only [State.kept_mk, State.kept_fold, kept_ite, ite_self, State.tbTo_kept, State.settleEval_kept]

@[simp] theorem State.timCtlWrite_kept (s : State) (w : Word) : (s.timCtlWrite w).kept = s.kept := by
  unfold State.timCtlWrite
  simp only [kept_ite, ite_self, implies_true, State.forEach_kept, State.when_kept, State.timeCapture_kept,
      State.setF_kept, State.tbTo_kept, State.settleEval_kept, State.tbSelect_kept]

@[simp] theorem State.writeWraps_kept (s : State) : s.writeWraps.kept = s.kept := by
  unfold State.writeWraps
  repeat' first | (simp only [State.kept_mk, State.kept_fold, implies_true,
      State.when_kept]; done) | split | (refine State.when_keeps ?_ (fun _ => ?_))


/-! ### Sump -/

@[simp] theorem State.enterPor_kept (s : State) : s.enterPor.kept = s.kept := by
  unfold State.enterPor
  simp only [State.kept_mk, State.kept_fold, State.setW_kept]

@[simp] theorem State.deviceReset_kept (s : State) : s.deviceReset.kept = s.kept := by
  unfold State.deviceReset
  simp only [State.kept_mk, State.kept_fold, kept_ite, ite_self, State.raise_kept]

@[simp] theorem State.clampOutputs_kept (s : State) : s.clampOutputs.kept = s.kept := by
  unfold State.clampOutputs
  simp only [State.kept_mk, State.kept_fold, implies_true, State.forEach_kept, State.setB_kept, State.setF_kept]

@[simp] theorem State.fillLoss_kept (s : State) (cause : Nat) : (s.fillLoss cause).kept = s.kept := by
  unfold State.fillLoss
  simp only [State.kept_mk, State.kept_fold]

@[simp] theorem State.startSave_kept (s : State) (kind : SaveKind) : (s.startSave kind).kept = s.kept := by
  unfold State.startSave
  simp only [State.kept_mk, State.kept_fold, State.setF_kept]

@[simp] theorem State.fillSys_kept (s : State) : s.fillSys.kept = s.kept := by
  unfold State.fillSys
  simp only [State.kept_mk, State.kept_fold]

@[simp] theorem State.fillUpd_kept (s : State) : s.fillUpd.kept = s.kept := by
  unfold State.fillUpd
  simp only [State.kept_mk, State.kept_fold, kept_ite, ite_self]

@[simp] theorem State.lossEvents_kept (s : State) : s.lossEvents.kept = s.kept := by
  unfold State.lossEvents
  simp only [State.kept_mk, State.kept_fold, kept_ite, ite_self, State.hardBlank_kept, State.clampOutputs_kept,
      State.setF_kept, State.raise_kept]

@[simp] theorem State.startLoss_kept (s : State) : s.startLoss.kept = s.kept := by
  unfold State.startLoss
  simp only [State.fillLoss_kept, State.fillSys_kept, State.fillUpd_kept, State.lossEvents_kept,
      State.startSave_kept]

@[simp] theorem State.resetCause_kept (s : State) (cause : Nat) : (s.resetCause cause).kept = s.kept := by
  unfold State.resetCause
  repeat' first | (simp only [State.raise_kept, State.bump_kept]; done) | split

@[simp] theorem State.requestReset_kept (s : State) (cause : Nat) : (s.requestReset cause).kept = s.kept := by
  unfold State.requestReset
  simp only [kept_ite, ite_self, State.resetCause_kept, State.fillLoss_kept, State.fillSys_kept, State.fillUpd_kept,
      State.startSave_kept]

@[simp] theorem State.endSave_kept (s : State) (x : SaveX) (cut : Bool) : (s.endSave x cut).kept = s.kept := by
  unfold State.endSave
  repeat' first | (simp only [State.kept_mk, State.kept_fold, kept_ite, ite_self, implies_true, State.when_kept,
      State.enterPor_kept, State.setF_kept, State.deviceReset_kept,
      State.raise_kept]; done) | split | (refine State.when_keeps ?_ (fun _ => ?_))

@[simp] theorem State.rowWritten_kept (s : State) (ckeepMv : Nat) : (s.rowWritten ckeepMv).kept = s.kept := by
  unfold State.rowWritten
  repeat' first | (simp only [State.kept_mk, State.kept_fold, kept_ite, ite_self, State.endSave_kept,
      State.enterPor_kept]; done) | split

@[simp] theorem State.recordWrite_kept (s : State) (r : Nat) : (s.recordWrite r).kept = s.kept := by
  unfold State.recordWrite
  repeat' first | (simp only [State.kept_mk, State.kept_fold, kept_ite, State.setF_kept]; done) | split

@[simp] theorem State.postFault_kept (s : State) (k : Nat) : (s.postFault k).kept = s.kept := by
  unfold State.postFault
  simp only [State.kept_mk, State.kept_fold, kept_ite, ite_self, State.raise_kept]

@[simp] theorem State.faultPost_kept (s : State) (slots : Word) : (s.faultPost slots).kept = s.kept := by
  unfold State.faultPost
  simp only [implies_true, State.forEach_kept, State.postFault_kept]

@[simp] theorem State.sumpFill_kept (s : State) : s.sumpFill.kept = s.kept := by
  unfold State.sumpFill
  simp only [State.kept_mk, State.kept_fold, implies_true, State.when_kept, State.setF_kept, State.raise_kept,
      State.setB_kept]


/-! ### Mail -/

@[simp] theorem State.mbxGuard_kept (s : State) (who : Initiator) (write : Bool) (a : Nat) (w : Word) (f : State →
      State) (h : ∀ t : State, (f t).kept = t.kept) : (s.mbxGuard who write a w f).kept = s.kept := by
  unfold State.mbxGuard; (repeat' split) <;> simp [h]

@[simp] theorem State.mbxPost_kept (s : State) (who : Initiator) (n : Nat) (w : Word) : (s.mbxPost who n w).kept =
      s.kept := by
  unfold State.mbxPost
  simp only [kept_ite, ite_self, State.setW_kept, State.raise_kept, State.setF_kept]

@[simp] theorem State.mbxEmpty_kept (s : State) (n : Nat) : (s.mbxEmpty n).kept = s.kept := by
  unfold State.mbxEmpty
  simp only [kept_ite, ite_self, State.setF_kept, State.raise_kept]

@[simp] theorem State.mbxTake_kept (s : State) (who : Initiator) (n : Nat) : (s.mbxTake who n).kept = s.kept := by
  unfold State.mbxTake
  simp only [kept_ite, ite_self, State.mbxEmpty_kept]

@[simp] theorem State.cstClear_kept (s : State) (w : Word) (f : Fld) : (s.cstClear w f).kept = s.kept := by
  unfold State.cstClear
  simp only [implies_true, State.when_kept, State.setF_kept]

@[simp] theorem State.mbxCstWrite_kept (s : State) (who : Initiator) (n : Nat) (w : Word) : (s.mbxCstWrite who n
      w).kept = s.kept := by
  unfold State.mbxCstWrite
  simp only [implies_true, State.when_kept, State.setF_kept, State.cstClear_kept, State.mbxTake_kept]

@[simp] theorem State.lockFree_kept (s : State) (n : Nat) : (s.lockFree n).kept = s.kept := by
  unfold State.lockFree
  simp only [State.setF_kept]

@[simp] theorem State.lockRead_kept (s : State) (who : Initiator) (n : Nat) : (s.lockRead who n).kept = s.kept := by
  unfold State.lockRead
  simp only [kept_ite, ite_self, State.raise_kept, State.setF_kept, State.busOk_kept]

@[simp] theorem State.lockWrite_kept (s : State) (who : Initiator) (n : Nat) (w : Word) : (s.lockWrite who n w).kept
      = s.kept := by
  unfold State.lockWrite
  simp only [kept_ite, ite_self, State.lockFree_kept]

@[simp] theorem State.bellRing_kept (s : State) (who : Initiator) (w : Word) : (s.bellRing who w).kept = s.kept :=
      by
  unfold State.bellRing
  simp only [implies_true, State.when_kept, State.setW_kept, State.raise_kept]

@[simp] theorem State.bellClear_kept (s : State) (who : Initiator) (w : Word) : (s.bellClear who w).kept = s.kept :=
      by
  unfold State.bellClear
  simp only [State.setW_kept]

@[simp] theorem State.bellMask_kept (s : State) (who : Initiator) (w : Word) : (s.bellMask who w).kept = s.kept :=
      by
  unfold State.bellMask
  simp only [State.setW_kept]

@[simp] theorem State.chanReset_kept (s : State) (who : Initiator) (n : Nat) : (s.chanReset who n).kept = s.kept :=
      by
  unfold State.chanReset
  simp only [kept_ite, ite_self, State.mbxEmpty_kept, State.raise_kept, State.lockFree_kept]

@[simp] theorem State.mbxReset_kept (s : State) (who : Initiator) : (s.mbxReset who).kept = s.kept := by
  unfold State.mbxReset
  simp only [implies_true, State.forEach_kept, State.chanReset_kept, State.bellMask_kept]

@[simp] theorem State.mbxLoad_kept (s : State) : s.mbxLoad.kept = s.kept := by
  unfold State.mbxLoad
  simp only [implies_true, State.forEach_kept, State.setF_kept, State.setB_kept]


/-! ### Ports -/

@[simp] theorem State.restripe_kept (s : State) (n oldTx : Nat) : (s.restripe n oldTx).kept = s.kept := by
  unfold State.restripe
  simp only [State.setPort_kept]

@[simp] theorem State.setMasks_kept (s : State) (n rx tx : Nat) : (s.setMasks n rx tx).kept = s.kept := by
  unfold State.setMasks
  simp only [State.kept_mk, State.kept_fold, implies_true, State.when_kept, State.setPort_kept, State.setF_kept,
      State.raiseBit_kept, State.mbxReset_kept, State.restripe_kept, State.latchPort_kept]

@[simp] theorem State.dropLane_kept (s : State) (n k : Nat) : (s.dropLane n k).kept = s.kept := by
  unfold State.dropLane
  simp only [kept_ite, ite_self, State.setPort_kept, State.setB_kept, State.setMasks_kept, State.latchPort_kept]

@[simp] theorem State.setSrc_kept (s : State) (n : Nat) (x : SrcX) : (s.setSrc n x).kept = s.kept := by
  unfold State.setSrc
  simp only [State.kept_mk, State.kept_fold]

@[simp] theorem State.srcState_kept (s : State) (n v : Nat) : (s.srcState n v).kept = s.kept := by
  unfold State.srcState
  simp only [kept_ite, ite_self, State.setF_kept, State.raiseBit_kept, State.setSrc_kept]

@[simp] theorem State.srcLost_kept (s : State) (n : Nat) : (s.srcLost n).kept = s.kept := by
  unfold State.srcLost
  simp only [kept_ite, ite_self, State.setSrc_kept, State.srcState_kept]


/-! ### Lanes -/

@[simp] theorem State.setLane_kept (s : State) (m : Nat) (x : LaneX) : (s.setLane m x).kept = s.kept := by
  unfold State.setLane
  simp only [State.kept_mk, State.kept_fold]

@[simp] theorem State.setDp_kept (s : State) (n : Nat) (x : DpX) : (s.setDp n x).kept = s.kept := by
  unfold State.setDp
  simp only [State.kept_mk, State.kept_fold]

@[simp] theorem State.acquire_kept (s : State) (m : Nat) : (s.acquire m).kept = s.kept := by
  unfold State.acquire
  simp only [State.setF_kept, State.setB_kept]

@[simp] theorem State.hpdEval_kept (s : State) (n : Nat) : (s.hpdEval n).kept = s.kept := by
  unfold State.hpdEval
  simp only [State.setB_kept]

@[simp] theorem State.unitStop_kept (s : State) (u : Nat) : (s.unitStop u).kept = s.kept := by
  unfold State.unitStop
  simp only [State.kept_mk, State.kept_fold, kept_ite, ite_self, implies_true, State.forEach_kept, State.setF_kept,
      State.setLane_kept, State.setPort_kept, State.setMasks_kept, State.hpdEval_kept, State.srcLost_kept]

@[simp] theorem State.unitStart_kept (s : State) (u : Nat) : (s.unitStart u).kept = s.kept := by
  unfold State.unitStart
  simp only [kept_ite, ite_self, implies_true, State.forEach_kept, State.when_kept, State.setF_kept,
      State.raiseBit_kept, State.hpdEval_kept, State.raise_kept]

@[simp] theorem State.laneControl_kept (s : State) (new : Nat) : (s.laneControl new).kept = s.kept := by
  unfold State.laneControl
  simp only [kept_ite, ite_self, implies_true, State.forEach_kept, State.setF_kept, State.unitStop_kept,
      State.unitStart_kept]

@[simp] theorem State.laneCtlWrite_kept (s : State) (who : Initiator) (new : Nat) : (s.laneCtlWrite who new).kept =
      s.kept := by
  unfold State.laneCtlWrite
  simp only [implies_true, State.when_kept, State.laneControl_kept, State.raise_kept]

@[simp] theorem State.dpLost_kept (s : State) (n : Nat) : (s.dpLost n).kept = s.kept := by
  unfold State.dpLost
  simp only [kept_ite, ite_self, State.raiseBit_kept, State.setF_kept, State.emit_kept, State.srcLost_kept]

@[simp] theorem State.svcLost_kept (s : State) : s.svcLost.kept = s.kept := by
  unfold State.svcLost
  simp only [State.kept_mk, State.kept_fold, State.raise_kept, State.mbxReset_kept]

@[simp] theorem State.laneLoss_kept (s : State) (m : Nat) (signal : Bool) : (s.laneLoss m signal).kept = s.kept :=
      by
  unfold State.laneLoss
  simp only [kept_ite, ite_self, implies_true, State.when_kept, State.setLane_kept, State.acquire_kept,
      State.setF_kept, State.bump_kept, State.raiseBit_kept, State.dropLane_kept, State.dpLost_kept,
      State.svcLost_kept]

@[simp] theorem State.framingError_kept (s : State) (m : Nat) : (s.framingError m).kept = s.kept := by
  unfold State.framingError
  simp only [kept_ite, ite_self, State.setPort_kept, State.bump_kept]

@[simp] theorem State.violation_kept (s : State) (m gap : Nat) : (s.violation m gap).kept = s.kept := by
  unfold State.violation
  simp only [kept_ite, ite_self, State.bump_kept, State.setF_kept, State.setLane_kept, State.framingError_kept,
      State.laneLoss_kept]

@[simp] theorem State.laneGroup_kept (s : State) (m : Nat) (g : BitVec 10) : (s.laneGroup m g).kept = s.kept := by
  unfold State.laneGroup
  repeat' first | (simp only [kept_ite, ite_self, implies_true, State.when_kept, State.setLane_kept,
      State.emit_kept, State.framingError_kept,
      State.violation_kept]; done) | split | (refine State.when_keeps ?_ (fun _ => ?_)) | dsimp only

@[simp] theorem State.dpFreeze_kept (s : State) (n : Nat) : (s.dpFreeze n).kept = s.kept := by
  unfold State.dpFreeze
  simp only [implies_true, State.forEach_kept, State.setLane_kept]

@[simp] theorem State.dpAux_kept (s : State) (n : Nat) (r : DpAux) : (s.dpAux n r).kept = s.kept := by
  unfold State.dpAux
  repeat' first | (simp only [kept_ite, ite_self, implies_true, State.when_kept, State.srcLost_kept,
      State.setDp_kept, State.setF_kept, State.bump_kept, State.emit_kept, State.raise_kept,
      State.dpFreeze_kept]; done) | split | (refine State.when_keeps ?_ (fun _ => ?_))


/-! ### Link -/

@[simp] theorem State.takeMarker_kept (s : State) (n : Nat) (m : LaneMarker) : (s.takeMarker n m).kept = s.kept :=
      by
  unfold State.takeMarker
  simp only [State.setF_kept, State.setB_kept, State.setPort_kept]

@[simp] theorem State.reacquire_kept (s : State) (n : Nat) : (s.reacquire n).kept = s.kept := by
  unfold State.reacquire
  simp only [kept_ite, ite_self, implies_true, State.forEach_kept, State.acquire_kept, State.setMasks_kept]

@[simp] theorem State.recovOver_kept (s : State) (n : Nat) : (s.recovOver n).kept = s.kept := by
  unfold State.recovOver
  simp only [kept_ite, ite_self, State.setPort_kept, State.reacquire_kept]

@[simp] theorem State.nextSeq_kept (s : State) (kind : Nat) : (s.nextSeq kind).2.kept = s.kept := by
  unfold State.nextSeq
  simp only [State.kept_mk, State.kept_fold]

@[simp] theorem State.putLine_kept (s : State) (n : Nat) (l : List (Nat × List LineChar)) : (s.putLine n l).kept =
      s.kept := by
  unfold State.putLine
  simp only [implies_true, State.forEach_kept, State.setLane_kept]

@[simp] theorem State.sendLine_kept (s : State) (n : Nat) (e : Emission) : (s.sendLine n e).kept = s.kept := by
  unfold State.sendLine
  simp only [State.emit_kept, State.putLine_kept]

@[simp] theorem State.putOnPort_kept (s : State) (n : Nat) (h : Hdr) (b : Body) : (s.putOnPort n h b).kept = s.kept
      := by
  unfold State.putOnPort
  simp only [kept_ite, ite_self, State.setPort_kept, State.sendLine_kept]

@[simp] theorem State.sendHop_kept (s : State) (n : Nat) (h : Hdr) (b : Body) : (s.sendHop n h b).kept = s.kept :=
      by
  unfold State.sendHop
  simp only [State.setPort_kept, State.putOnPort_kept]

@[simp] theorem State.fillBody_kept (s : State) (b : Body) : (s.fillBody b).2.kept = s.kept := by
  unfold State.fillBody
  repeat' first | (simp only [State.kept_mk, State.kept_fold]; done) | split

@[simp] theorem State.sendOwn_kept (s : State) (p : OutPkt) : (s.sendOwn p).kept = s.kept := by
  unfold State.sendOwn
  simp only [kept_ite, ite_self, implies_true, State.forEach_kept, State.sendHop_kept, State.nextSeq_kept,
      State.fillBody_kept, State.putOnPort_kept]

@[simp] theorem flushList_kept (s : State) (n : Nat) : (flushList s n).kept = s.kept := by
  induction n generalizing s with
  | zero => rfl
  | succ k ih => unfold flushList; (repeat' split) <;> simp [ih]

@[simp] theorem State.flushEarly_kept (s : State) : s.flushEarly.kept = s.kept := by
  unfold State.flushEarly
  simp only [kept_ite, ite_self, flushList_kept]

@[simp] theorem State.postOwn_kept (s : State) (p : OutPkt) : (s.postOwn p).kept = s.kept := by
  unfold State.postOwn
  simp only [State.queueOwn_kept, State.flushEarly_kept]

@[simp] theorem State.endCopy_kept (s : State) (o : Nat) (e : FwdPkt) (bad : Bool) : (s.endCopy o e bad).kept =
      s.kept := by
  unfold State.endCopy
  simp only [kept_ite, ite_self, implies_true, State.forEach_kept, State.emit_kept, State.setPort_kept,
      State.putLine_kept, State.choose_kept, State.setLane_kept]

@[simp] theorem State.queueStep_kept (s : State) (o : Nat) : (s.queueStep o).kept = s.kept := by
  unfold State.queueStep
  repeat' first | (simp only [kept_ite, ite_self, implies_true, State.when_kept, State.setPort_kept,
      State.endCopy_kept, State.bump_kept,
      State.emit_kept]; done) | split | (refine State.when_keeps ?_ (fun _ => ?_)) | dsimp only

@[simp] theorem State.endForward_kept (s : State) (n : Nat) (good : Bool) (wire : List Byte) : (s.endForward n good
      wire).kept = s.kept := by
  unfold State.endForward
  simp only [kept_ite, ite_self, State.queueStep_kept, State.setPort_kept]

@[simp] theorem State.conflict_kept (s : State) : s.conflict.kept = s.kept := by
  unfold State.conflict
  simp only [State.kept_mk, State.kept_fold, kept_ite, ite_self, State.raise_kept]

@[simp] theorem State.placeAt_kept (s : State) (pos : Nat) : (s.placeAt pos).kept = s.kept := by
  unfold State.placeAt
  simp only [State.kept_mk, State.kept_fold, kept_ite, ite_self, State.setF_kept]

@[simp] theorem State.locate_kept (s : State) : s.locate.kept = s.kept := by
  unfold State.locate
  simp only [kept_ite, ite_self, State.conflict_kept, State.placeAt_kept]

@[simp] theorem State.sendEnum_kept (s : State) (n : Nat) : (s.sendEnum n).kept = s.kept := by
  unfold State.sendEnum
  simp only [kept_ite, ite_self, State.sendHop_kept]

@[simp] theorem State.enumRx_kept (s : State) (n : Nat) (m : EnumMsg) : (s.enumRx n m).kept = s.kept := by
  unfold State.enumRx
  simp only [State.kept_mk, State.kept_fold, kept_ite, ite_self, State.conflict_kept, State.setF_kept,
      State.setB_kept, State.locate_kept, State.sendHop_kept]

@[simp] theorem State.freshShare_kept (s : State) : s.freshShare.2.kept = s.kept := by
  unfold State.freshShare
  simp only [State.kept_mk, State.kept_fold, State.drawScalar_kept]

@[simp] theorem State.joinShare_kept (s : State) : s.joinShare.2.kept = s.kept := by
  unfold State.joinShare
  repeat' first | (simp only [State.freshShare_kept]; done) | split

@[simp] theorem State.signed_kept (s : State) (body : List Byte) : (s.signed body).2.kept = s.kept := by
  unfold State.signed
  simp only [State.drawScalar_kept]

@[simp] theorem State.queueJoin_kept (s : State) : s.queueJoin.kept = s.kept := by
  unfold State.queueJoin
  simp only [kept_ite, ite_self, State.joinShare_kept, State.signed_kept, State.postOwn_kept]

@[simp] theorem State.queueStatus_kept (s : State) : s.queueStatus.kept = s.kept := by
  unfold State.queueStatus
  simp only [State.postOwn_kept]

@[simp] theorem sendWindow_kept (s : State) (gone : List Nat) (n : Nat) : (sendWindow s gone n).kept = s.kept := by
  induction n generalizing s gone with
  | zero => rfl
  | succ k ih => unfold sendWindow; (repeat' split) <;> simp [ih]

@[simp] theorem State.authFail_kept (s : State) (n : Nat) (h : Hdr) : (s.authFail n h).kept = s.kept := by
  unfold State.authFail
  simp only [State.kept_mk, State.kept_fold, kept_ite, ite_self, State.bump_kept, State.raise_kept,
      State.setPort_kept]

@[simp] theorem State.suspectFrame_kept (s : State) (n : Nat) : (s.suspectFrame n).kept = s.kept := by
  unfold State.suspectFrame
  simp only [kept_ite, ite_self, State.setF_kept, State.setPort_kept]

@[simp] theorem State.probeEnd_kept (s : State) (n : Nat) : (s.probeEnd n).kept = s.kept := by
  unfold State.probeEnd
  simp only [kept_ite, ite_self, State.setPort_kept, State.reacquire_kept]


/-! ### Governor -/

@[simp] theorem State.setUncovered_kept (s : State) (u : Bool) : (s.setUncovered u).kept = s.kept := by
  unfold State.setUncovered
  simp only [implies_true, State.when_kept, State.setB_kept, State.raise_kept]

@[simp] theorem State.applyVariant_kept (s : State) (v : Nat) (image : Word) : (s.applyVariant v image).kept =
      s.kept := by
  unfold State.applyVariant
  simp only [State.kept_mk, State.kept_fold, kept_ite, ite_self, implies_true, State.when_kept, State.setF_kept,
      State.bump_kept, State.raise_kept]

@[simp] theorem State.applyPending_kept (s : State) (image : Word) : (s.applyPending image).kept = s.kept := by
  unfold State.applyPending
  simp only [kept_ite, ite_self, implies_true, State.when_kept, State.applyVariant_kept, State.setF_kept,
      State.setUncovered_kept]

@[simp] theorem State.announce_kept (s : State) (v : Nat) (first : Word) (uncov : Bool) : (s.announce v first
      uncov).kept = s.kept := by
  unfold State.announce
  simp only [State.kept_mk, State.kept_fold, State.setF_kept, State.raise_kept]

@[simp] theorem State.govBoundary_kept (s : State) (image : Word) : (s.govBoundary image).kept = s.kept := by
  unfold State.govBoundary
  simp only [kept_ite, ite_self, implies_true, State.when_kept, State.applyPending_kept, State.setF_kept,
      State.setUncovered_kept, State.announce_kept, State.setB_kept, State.raise_kept]

@[simp] theorem State.announceRx_kept (s : State) (variant : Nat) (first : Word) : (s.announceRx variant first).kept
      = s.kept := by
  unfold State.announceRx
  repeat' first | (simp only [kept_ite, State.announce_kept, State.applyPending_kept]; done) | split | dsimp only

@[simp] theorem State.govRelease_kept (s : State) : s.govRelease.kept = s.kept := by
  unfold State.govRelease
  simp only [State.kept_mk, State.kept_fold]

@[simp] theorem State.statusRx_kept (s : State) (m : StatusMsg) : (s.statusRx m).kept = s.kept := by
  unfold State.statusRx
  simp only [State.kept_mk, State.kept_fold, kept_ite, ite_self, implies_true, State.forEach_kept,
      State.latchHealth_kept, State.latchLink_kept]


/-! ### Ingest -/

@[simp] theorem State.storeWrite_kept (s : State) (n i : Nat) (st : Store) : (s.storeWrite n i st).kept = s.kept :=
      by
  unfold State.storeWrite
  simp only [implies_true, State.forEach_kept, State.lpddrPut_kept]

@[simp] theorem State.takeStore_kept (s : State) (n i : Nat) : (s.takeStore n i).kept = s.kept := by
  unfold State.takeStore
  simp only [State.setF_kept, State.setSrc_kept]

@[simp] theorem State.dropFrame_kept (s : State) (n : Nat) : (s.dropFrame n).kept = s.kept := by
  unfold State.dropFrame
  simp only [State.bump_kept, State.raiseBit_kept]

@[simp] theorem State.captureEnd_kept (s : State) (n : Nat) : (s.captureEnd n).kept = s.kept := by
  unfold State.captureEnd
  simp only [kept_ite, ite_self, State.setSrc_kept, State.srcState_kept]

@[simp] theorem State.captureOff_kept (s : State) (n : Nat) : (s.captureOff n).kept = s.kept := by
  unfold State.captureOff
  simp only [kept_ite, ite_self, State.srcState_kept, State.setSrc_kept]

@[simp] theorem State.captureOn_kept (s : State) (n : Nat) : (s.captureOn n).kept = s.kept := by
  unfold State.captureOn
  simp only [kept_ite, ite_self, implies_true, State.when_kept, State.setSrc_kept, State.srcState_kept,
      State.emit_kept]

@[simp] theorem State.ingCtlWrite_kept (s : State) (new : Nat) : (s.ingCtlWrite new).kept = s.kept := by
  unfold State.ingCtlWrite
  simp only [kept_ite, ite_self, implies_true, State.forEach_kept, State.setF_kept, State.captureOff_kept,
      State.captureOn_kept]

@[simp] theorem State.latchStore_kept (s : State) (n : Nat) : (s.latchStore n).kept = s.kept := by
  unfold State.latchStore
  simp only [State.setSrc_kept]

@[simp] theorem State.setShut_kept (s : State) (j : Nat) (x : ShutX) : (s.setShut j x).kept = s.kept := by
  unfold State.setShut
  simp only [State.kept_mk, State.kept_fold]

@[simp] theorem State.flipLayer_kept (s : State) (l old : Nat) : (s.flipLayer l old).kept = s.kept := by
  unfold State.flipLayer
  simp only [State.kept_mk, State.kept_fold, State.setF_kept]

@[simp] theorem State.srFrame_kept (s : State) : s.srFrame.kept = s.kept := by
  unfold State.srFrame
  simp only [State.kept_mk, State.kept_fold, State.setF_kept]

@[simp] theorem State.ingestLoad_kept (s : State) : s.ingestLoad.kept = s.kept := by
  unfold State.ingestLoad
  simp only [implies_true, State.forEach_kept, State.setF_kept, State.setBoth_kept, State.ingCtlWrite_kept]


/-! ### Pixel -/

@[simp] theorem State.flowWrite_kept (s : State) (f half : Nat) : (s.flowWrite f half).kept = s.kept := by
  unfold State.flowWrite
  simp only [implies_true, State.forEach_kept, State.lpddrPut_kept]


/-! ### Decoder -/

@[simp] theorem State.setDecBuf_kept (s : State) (i : Nat) (b : DecBuf) : (s.setDecBuf i b).kept = s.kept := by
  unfold State.setDecBuf
  simp only [State.kept_mk, State.kept_fold, State.setF_kept]

@[simp] theorem State.setLit_kept (s : State) (f i : Nat) : (s.setLit f i).kept = s.kept := by
  unfold State.setLit
  simp only [implies_true, State.forEach_kept, State.setF_kept, State.setB_kept]

@[simp] theorem State.setFacetImg_kept (s : State) (image : Word) (f : Nat) (x : FacetImg) : (s.setFacetImg image f
      x).kept = s.kept := by
  unfold State.setFacetImg
  simp only [State.kept_mk, State.kept_fold]

@[simp] theorem State.sliceLate_kept (s : State) : s.sliceLate.kept = s.kept := by
  unfold State.sliceLate
  simp only [State.bump_kept, State.raise_kept]

@[simp] theorem State.stagingCount_kept (s : State) : s.stagingCount.kept = s.kept := by
  unfold State.stagingCount
  simp only [State.setF_kept]

@[simp] theorem State.sliceRx_kept (s : State) (h : Hdr) (payload : List Byte) : (s.sliceRx h payload).kept = s.kept
      := by
  unfold State.sliceRx
  simp only [State.kept_mk, State.kept_fold, kept_ite, ite_self, State.sliceLate_kept, State.setFacetImg_kept,
      State.stagingCount_kept]

@[simp] theorem State.syntaxError_kept (s : State) (h : Hdr) (code block : Nat) : (s.syntaxError h code block).kept
      = s.kept := by
  unfold State.syntaxError
  simp only [kept_ite, ite_self, State.bump_kept, State.raise_kept, State.setF_kept]

@[simp] theorem State.geodeFail_kept (s : State) (h : Hdr) : (s.geodeFail h).kept = s.kept := by
  unfold State.geodeFail
  simp only [State.bump_kept, State.raise_kept, State.setFacetImg_kept]

@[simp] theorem State.commitSlice_kept (s : State) (h : Hdr) (dest d : Nat) (os : List BlockOut) : (s.commitSlice h
      dest d os).kept = s.kept := by
  unfold State.commitSlice
  simp only [kept_ite, ite_self, State.setF_kept, State.raise_kept, State.setFacetImg_kept, State.setDecBuf_kept,
      State.bump_kept]

@[simp] theorem State.finishSlice_kept (s : State) (h : Hdr) (dest d : Nat) (carries : Bool) (set : Nat) (os : List
      BlockOut) : (s.finishSlice h dest d carries set os).kept = s.kept := by
  unfold State.finishSlice
  simp only [kept_ite, ite_self, State.geodeFail_kept, State.commitSlice_kept]

@[simp] theorem State.decodeClear_kept (s : State) (h : Hdr) (p : List Byte) : (s.decodeClear h p).kept = s.kept :=
      by
  unfold State.decodeClear
  repeat' first | (simp only [kept_ite, ite_self, State.syntaxError_kept, State.finishSlice_kept]; done) | split

@[simp] theorem State.decodePacked_kept (s : State) (h : Hdr) (p : List Byte) : (s.decodePacked h p).kept = s.kept
      := by
  unfold State.decodePacked
  repeat' first | (simp only [kept_ite, implies_true, State.when_kept, State.syntaxError_kept, State.bump_kept,
      State.raise_kept,
      State.finishSlice_kept]; done) | split | (refine State.when_keeps ?_ (fun _ => ?_)) | dsimp only

@[simp] theorem State.decodeSlice_kept (s : State) (x : SliceIn) : (s.decodeSlice x).kept = s.kept := by
  unfold State.decodeSlice
  simp only [kept_ite, ite_self, State.sliceLate_kept, State.syntaxError_kept, State.decodePacked_kept,
      State.decodeClear_kept]

@[simp] theorem State.setShow_kept (s : State) (f v : Nat) : (s.setShow f v).kept = s.kept := by
  unfold State.setShow
  simp only [State.setF_kept]

@[simp] theorem State.showPattern_kept (s : State) (f : Nat) : (s.showPattern f).kept = s.kept := by
  unfold State.showPattern
  simp only [implies_true, State.when_kept, State.setShow_kept, State.raise_kept]

@[simp] theorem State.countMissing_kept (s : State) (f n : Nat) (conceal : Bool) : (s.countMissing f n conceal).kept
      = s.kept := by
  unfold State.countMissing
  simp only [kept_ite, ite_self, State.bumpBy_kept, State.raise_kept]

@[simp] theorem State.firstLit_kept (s : State) (f : Nat) (clean : Bool) : (s.firstLit f clean).kept = s.kept := by
  unfold State.firstLit
  simp only [kept_ite, ite_self, State.raiseBit_kept]

@[simp] theorem State.lightBuf_kept (s : State) (f i : Nat) (image : Word) : (s.lightBuf f i image).kept = s.kept :=
      by
  unfold State.lightBuf
  simp only [State.kept_mk, State.kept_fold, State.setLit_kept]

@[simp] theorem State.markHanded_kept (s : State) (f : Nat) (image : Word) : (s.markHanded f image).kept = s.kept :=
      by
  unfold State.markHanded
  simp only [State.kept_mk, State.kept_fold]

@[simp] theorem State.setWasGeode_kept (s : State) (f : Nat) (b : Bool) : (s.setWasGeode f b).kept = s.kept := by
  unfold State.setWasGeode
  simp only [State.kept_mk, State.kept_fold]

@[simp] theorem State.handNone_kept (s : State) (f : Nat) (x : FacetImg) : (s.handNone f x).kept = s.kept := by
  unfold State.handNone
  simp only [kept_ite, ite_self, State.countMissing_kept, State.showPattern_kept, State.setShow_kept,
      State.setWasGeode_kept]

@[simp] theorem State.handSome_kept (s : State) (f d : Nat) (image : Word) (x : FacetImg) : (s.handSome f d image
      x).kept = s.kept := by
  unfold State.handSome
  simp only [kept_ite, ite_self, State.setDecBuf_kept, State.countMissing_kept, State.lightBuf_kept,
      State.firstLit_kept, State.setWasGeode_kept, State.showPattern_kept, State.setShow_kept]

@[simp] theorem State.tileHandOver_kept (s : State) (f : Nat) (image : Word) : (s.tileHandOver f image).1.kept =
      s.kept := by
  unfold State.tileHandOver
  repeat' first | (simp only [State.markHanded_kept, State.handNone_kept,
      State.handSome_kept]; done) | split | dsimp only

@[simp] theorem State.headHandOver_kept (s : State) (f : Nat) (image : Word) : (s.headHandOver f image).1.kept =
      s.kept := by
  unfold State.headHandOver
  repeat' first | (simp only [State.kept_mk, State.kept_fold, State.setF_kept,
      State.firstLit_kept]; done) | split | dsimp only

@[simp] theorem State.handOver_kept (s : State) (f : Nat) (image : Word) : (s.handOver f image).1.kept = s.kept :=
      by
  unfold State.handOver
  repeat' first | (simp only [State.headHandOver_kept, State.tileHandOver_kept]; done) | split


/-! ### Encoder -/

@[simp] theorem State.reconWrite_kept (s : State) (j : BlockJob) (d : Nat) (os : List BlockOut) : (s.reconWrite j d
      os).kept = s.kept := by
  unfold State.reconWrite
  simp only [implies_true, State.forEach_kept, State.lpddrPut_kept]

@[simp] theorem State.putPayload_kept (s : State) (j : BlockJob) (bytes : List Byte) (st : PayState) : (s.putPayload
      j bytes st).kept = s.kept := by
  unfold State.putPayload
  simp only [State.kept_mk, State.kept_fold]

@[simp] theorem State.putDropped_kept (s : State) (j : BlockJob) : (s.putDropped j).kept = s.kept := by
  unfold State.putDropped
  simp only [State.putPayload_kept]

@[simp] theorem State.setInflight_kept (s : State) (l : List (BlockJob × Nat)) : (s.setInflight l).kept = s.kept :=
      by
  unfold State.setInflight
  simp only [State.kept_mk, State.kept_fold, State.setF_kept]

@[simp] theorem State.jobGone_kept (s : State) (f tile k : Nat) (image : Word) : (s.jobGone f tile k image).kept =
      s.kept := by
  unfold State.jobGone
  simp only [State.setInflight_kept]

@[simp] theorem State.sliceGone_kept (s : State) (f tile k : Nat) (image : Word) : (s.sliceGone f tile k image).kept
      = s.kept := by
  unfold State.sliceGone
  simp only [State.setInflight_kept]

@[simp] theorem State.engineStart_kept (s : State) (e : Nat) : (s.engineStart e).kept = s.kept := by
  unfold State.engineStart
  repeat' first | (simp only [State.kept_mk, State.kept_fold, State.putBit_kept]; done) | split

@[simp] theorem State.engineQueue_kept (s : State) (e : Nat) (j : EncJob) : (s.engineQueue e j).kept = s.kept := by
  unfold State.engineQueue
  repeat' first | (simp only [State.kept_mk, State.kept_fold, kept_ite, ite_self,
      State.engineStart_kept]; done) | split

@[simp] theorem State.encImage_kept (s : State) (f : Nat) (image : Word) : (s.encImage f image).kept = s.kept := by
  unfold State.encImage
  simp only [State.kept_mk, State.kept_fold, kept_ite, ite_self]

@[simp] theorem State.encCount_kept (s : State) (f : Nat) (image : Word) (g : EncImage → EncImage) :
      (s.encCount f image g).kept = s.kept := by
  unfold State.encCount
  repeat' first | (simp only [State.kept_mk, State.kept_fold, kept_ite, ite_self]; done) | split

@[simp] theorem State.sliceCode_kept (s : State) (j : BlockJob) (p : PanelMap) : (s.sliceCode j p).1.kept = s.kept
      := by
  unfold State.sliceCode
  repeat' first | (simp only [State.kept_mk, State.kept_fold, State.putPayload_kept,
      State.reconWrite_kept]; done) | split | dsimp only

@[simp] theorem State.jobReady_kept (s : State) (j : BlockJob) (p : PanelMap) : (s.jobReady j p).kept = s.kept := by
  unfold State.jobReady
  simp only [kept_ite, ite_self, State.encImage_kept, State.sliceCode_kept, State.bump_kept, State.raise_kept,
      State.putDropped_kept, State.setInflight_kept, State.encCount_kept, State.setF_kept, State.engineQueue_kept]

@[simp] theorem State.jobsExpire_kept (s : State) (f : Nat) (image : Word) : (s.jobsExpire f image).kept = s.kept :=
      by
  unfold State.jobsExpire
  simp only [kept_ite, ite_self, State.setInflight_kept]

@[simp] theorem State.encBoundary_kept (s : State) (f : Nat) (image : Word) : (s.encBoundary f image).kept = s.kept
      := by
  unfold State.encBoundary
  repeat' first | (simp only [State.kept_mk, State.kept_fold, kept_ite, ite_self, State.jobsExpire_kept,
      State.setF_kept, State.raiseBit_kept]; done) | split | dsimp only

@[simp] theorem State.dripChanged_kept (s : State) (f : Nat) (image : Word) : (s.dripChanged f image).kept = s.kept
      := by
  unfold State.dripChanged
  simp only [State.kept_mk, State.kept_fold]

@[simp] theorem State.encTiles_kept (s : State) : s.encTiles.kept = s.kept := by
  unfold State.encTiles
  simp only [implies_true, State.forEach_kept, State.setF_kept]

@[simp] theorem State.encFrame_kept (s : State) : s.encFrame.kept = s.kept := by
  unfold State.encFrame
  simp only [State.kept_mk, State.kept_fold, implies_true, State.forEach_kept, State.setF_kept, State.encTiles_kept]

@[simp] theorem State.encLoad_kept (s : State) : s.encLoad.kept = s.kept := by
  unfold State.encLoad
  simp only [implies_true, State.forEach_kept, State.setBoth_kept]

@[simp] theorem State.encRelease_kept (s : State) : s.encRelease.kept = s.kept := by
  unfold State.encRelease
  simp only [State.kept_mk, State.kept_fold, State.setF_kept, State.encTiles_kept]


/-! ### Compose -/

@[simp] theorem State.holdLayer_kept (s : State) (v stamp : Nat) : (s.holdLayer v stamp).kept = s.kept := by
  unfold State.holdLayer
  repeat' first | (simp only [State.kept_mk, State.kept_fold, kept_ite, ite_self, implies_true, State.when_kept,
      State.raise_kept]; done) | split | (refine State.when_keeps ?_ (fun _ => ?_))

@[simp] theorem State.coefPut_kept (s : State) (value : BitVec 12) : (s.coefPut value).kept = s.kept := by
  unfold State.coefPut
  simp only [State.kept_mk, State.kept_fold, kept_ite, ite_self, State.raise_kept, State.setF_kept]

@[simp] theorem State.coefCfgWrite_kept (s : State) (w : Word) : (s.coefCfgWrite w).kept = s.kept := by
  unfold State.coefCfgWrite
  simp only [kept_ite, ite_self, implies_true, State.forEach_kept, State.raise_kept, State.setF_kept]

@[simp] theorem State.recordRefusal_kept (s : State) (r : CmpRefusal) : (s.recordRefusal r).kept = s.kept := by
  unfold State.recordRefusal
  simp only [State.setF_kept]

@[simp] theorem State.cmpStop_kept (s : State) (v : Bool) : (s.cmpStop v).kept = s.kept := by
  unfold State.cmpStop
  simp only [kept_ite, ite_self, State.raise_kept, State.setF_kept]

@[simp] theorem State.flowStart_kept (s : State) : s.flowStart.kept = s.kept := by
  unfold State.flowStart
  simp only [State.kept_mk, State.kept_fold, State.setF_kept]

@[simp] theorem State.flowAbandon_kept (s : State) : s.flowAbandon.kept = s.kept := by
  unfold State.flowAbandon
  simp only [kept_ite, ite_self, State.bump_kept, State.raise_kept]

@[simp] theorem State.flowRequest_kept (s : State) : s.flowRequest.kept = s.kept := by
  unfold State.flowRequest
  simp only [kept_ite, ite_self, State.flowAbandon_kept, State.flowStart_kept]

@[simp] theorem State.cmpCtlWrite_kept (s : State) (w : Word) : (s.cmpCtlWrite w).kept = s.kept := by
  unfold State.cmpCtlWrite
  simp only [kept_ite, ite_self, implies_true, State.when_kept, State.cmpStop_kept, State.flowRequest_kept]

@[simp] theorem State.flowLive_kept (s : State) : s.flowLive.kept = s.kept := by
  unfold State.flowLive
  simp only [State.kept_mk, State.kept_fold, kept_ite, ite_self, implies_true, State.when_kept,
      State.flowAbandon_kept, State.raise_kept, State.setF_kept]

@[simp] theorem State.flowBoundary_kept (s : State) : s.flowBoundary.kept = s.kept := by
  unfold State.flowBoundary
  repeat' first | (simp only [State.kept_mk, State.kept_fold, kept_ite, ite_self, State.setF_kept,
      State.raise_kept]; done) | split

@[simp] theorem State.cmpBoundary_kept (s : State) : s.cmpBoundary.kept = s.kept := by
  unfold State.cmpBoundary
  simp only [kept_ite, ite_self, implies_true, State.forEach_kept, State.setF_kept, State.holdLayer_kept,
      State.flowBoundary_kept]

@[simp] theorem State.ownWrite_kept (s : State) (f half : Nat) (image : Word) : (s.ownWrite f half image).kept =
      s.kept := by
  unfold State.ownWrite
  simp only [implies_true, State.forEach_kept, State.lpddrPut_kept]

@[simp] theorem State.layerLoad_kept (s : State) (l : Nat) : (s.layerLoad l).kept = s.kept := by
  unfold State.layerLoad
  simp only [kept_ite, ite_self, implies_true, State.forEach_kept, State.setBoth_kept]

@[simp] theorem State.compLoad_kept (s : State) : s.compLoad.kept = s.kept := by
  unfold State.compLoad
  simp only [implies_true, State.forEach_kept, State.setF_kept, State.setBoth_kept, State.layerLoad_kept]


/-! ### Transmit -/

@[simp] theorem State.post_kept (s : State) (p : OutPkt) : (s.post p).kept = s.kept := by
  unfold State.post
  simp only [kept_ite, ite_self, State.queueOwn_kept, State.postOwn_kept]

@[simp] theorem State.number_kept (s : State) (p : OutPkt) : (s.number p).2.kept = s.kept := by
  unfold State.number
  repeat' first | (simp only [State.nextSeq_kept]; done) | split

@[simp] theorem State.slotOwn_kept (s : State) (e : SchedEntry) : (s.slotOwn e).kept = s.kept := by
  unfold State.slotOwn
  repeat' first | (simp only [State.kept_mk, State.kept_fold, kept_ite, State.number_kept,
      State.setPort_kept]; done) | split | dsimp only

@[simp] theorem State.copyLeft_kept (s : State) (b : Body) : (s.copyLeft b).kept = s.kept := by
  unfold State.copyLeft
  repeat' first | (simp only [kept_ite, ite_self, State.setF_kept, State.raise_kept]; done) | split

@[simp] theorem State.pumpPort_kept (s : State) (n : Nat) : (s.pumpPort n).kept = s.kept := by
  unfold State.pumpPort
  repeat' first | (simp only [kept_ite, ite_self, State.setPort_kept, State.sliceGone_kept, State.putOnPort_kept,
      State.sendHop_kept, State.copyLeft_kept]; done) | split

@[simp] theorem State.slotDue_kept (s : State) (e : SchedEntry) : (s.slotDue e).kept = s.kept := by
  unfold State.slotDue
  simp only [kept_ite, ite_self, State.sliceGone_kept, State.setPort_kept, State.number_kept, State.slotOwn_kept]


/-! ### Time -/

@[simp] theorem State.glkSteer_kept (s : State) : s.glkSteer.kept = s.kept := by
  unfold State.glkSteer
  simp only [State.kept_mk, State.kept_fold, kept_ite, ite_self, State.shiftTb_kept, State.raise_kept,
      State.softBlank_kept, State.setF_kept, State.slewTb_kept, State.tbTo_kept]

@[simp] theorem State.glkLose_kept (s : State) (evt : Fld) : (s.glkLose evt).kept = s.kept := by
  unfold State.glkLose
  simp only [implies_true, State.when_kept, State.setF_kept, State.raise_kept, State.tbLose_kept]

@[simp] theorem State.glkTake_kept (s : State) : s.glkTake.kept = s.kept := by
  unfold State.glkTake
  simp only [State.kept_mk, State.kept_fold]

@[simp] theorem State.sendSync_kept (s : State) (n : Nat) (m : SyncMsg) : (s.sendSync n m).kept = s.kept := by
  unfold State.sendSync
  simp only [kept_ite, ite_self, State.setPort_kept, State.sendHop_kept]

@[simp] theorem State.headSync_kept (s : State) : s.headSync.kept = s.kept := by
  unfold State.headSync
  simp only [kept_ite, ite_self, implies_true, State.forEach_kept, State.sendSync_kept]

@[simp] theorem State.dreqRx_kept (s : State) (n seqId sub : Nat) : (s.dreqRx n seqId sub).kept = s.kept := by
  unfold State.dreqRx
  simp only [kept_ite, ite_self, State.sendSync_kept]

@[simp] theorem State.addDelay_kept (s : State) (n : Nat) (d : Int) : (s.addDelay n d).kept = s.kept := by
  unfold State.addDelay
  simp only [State.setPort_kept, State.setF_kept]

@[simp] theorem State.drespRx_kept (s : State) (n seqId tRx tTx sub : Nat) : (s.drespRx n seqId tRx tTx sub).kept =
      s.kept := by
  unfold State.drespRx
  repeat' first | (simp only [kept_ite, ite_self, State.addDelay_kept]; done) | split

@[simp] theorem State.followTo_kept (s : State) (n : Option Nat) : (s.followTo n).kept = s.kept := by
  unfold State.followTo
  repeat' first | (simp only [State.kept_mk, State.kept_fold, kept_ite, ite_self, implies_true, State.forEach_kept,
      State.when_kept, State.raise_kept, State.setF_kept,
      State.tbLose_kept]; done) | split | (refine State.forEach_keeps ?_ (fun _ _ => ?_)) | (refine State.when_keeps ?_ (fun _ => ?_))

@[simp] theorem State.chooseSource_kept (s : State) (counts : Bool) : (s.chooseSource counts).kept = s.kept := by
  unfold State.chooseSource
  repeat' first | (simp only [State.kept_mk, State.kept_fold, kept_ite, ite_self,
      State.followTo_kept]; done) | split | dsimp only

@[simp] theorem State.followTb_kept (s : State) (i : Nat) (o : Int) : (s.followTb i o).kept = s.kept := by
  unfold State.followTb
  simp only [kept_ite, ite_self, State.tbTo_kept, State.stepTb_kept, State.slewTb_kept, State.setTb_kept]

@[simp] theorem State.takeAnn_kept (s : State) (m : SyncMsg) : (s.takeAnn m).kept = s.kept := by
  unfold State.takeAnn
  simp only [State.kept_mk, State.kept_fold, implies_true, State.when_kept, State.raise_kept, State.settleEval_kept]

@[simp] theorem State.relaySync_kept (s : State) (n : Nat) (m : SyncMsg) : (s.relaySync n m).kept = s.kept := by
  unfold State.relaySync
  simp only [implies_true, State.forEach_kept, State.sendSync_kept]

@[simp] theorem State.followSync_kept (s : State) (n : Nat) (m : SyncMsg) (sub : Nat) : (s.followSync n m sub).kept
      = s.kept := by
  unfold State.followSync
  simp only [kept_ite, ite_self, implies_true, State.forEach_kept, State.setF_kept, State.setB_kept,
      State.takeAnn_kept, State.followTb_kept, State.relaySync_kept]

@[simp] theorem State.setPtp_kept (s : State) (p : PtpState) : (s.setPtp p).kept = s.kept := by
  unfold State.setPtp
  simp only [State.kept_mk, State.kept_fold]

@[simp] theorem State.ptpAnnounce_kept (s : State) (m : PtpMaster) : (s.ptpAnnounce m).kept = s.kept := by
  unfold State.ptpAnnounce
  simp only [kept_ite, ite_self, State.setPtp_kept, State.setF_kept, State.raise_kept, State.tbTo_kept]

@[simp] theorem State.ptpSync_kept (s : State) (t1 t2 : Nat) : (s.ptpSync t1 t2).kept = s.kept := by
  unfold State.ptpSync
  simp only [State.setPtp_kept, State.slewTb_kept, State.tbTo_kept, State.emit_kept]

@[simp] theorem State.ptpDelay_kept (s : State) (seq : BitVec 16) (t4 : Nat) : (s.ptpDelay seq t4).kept = s.kept :=
      by
  unfold State.ptpDelay
  repeat' first | (simp only [kept_ite, ite_self, State.setPtp_kept]; done) | split | dsimp only

@[simp] theorem State.ptpTake_kept (s : State) (m : PtpMsg) : (s.ptpTake m).kept = s.kept := by
  unfold State.ptpTake
  repeat' first | (simp only [kept_ite, ite_self, State.ptpAnnounce_kept, State.ptpSync_kept, State.setPtp_kept,
      State.ptpDelay_kept]; done) | split

@[simp] theorem State.vpllSteer_kept (s : State) (need : Int) : (s.vpllSteer need).kept = s.kept := by
  unfold State.vpllSteer
  simp only [State.kept_mk, State.kept_fold, kept_ite, ite_self, implies_true, State.when_kept, State.setF_kept,
      State.raise_kept, State.setB_kept]

@[simp] theorem State.headFrames_kept (s : State) : s.headFrames.kept = s.kept := by
  unfold State.headFrames
  simp only [State.kept_mk, State.kept_fold, State.setF_kept]

@[simp] theorem State.timeSources_kept (s : State) : s.timeSources.kept = s.kept := by
  unfold State.timeSources
  simp only [kept_ite, ite_self, implies_true, State.forEach_kept, State.setF_kept, State.headFrames_kept,
      State.timCtlWrite_kept]

@[simp] theorem State.timeLoad_kept (s : State) : s.timeLoad.kept = s.kept := by
  unfold State.timeLoad
  simp only [implies_true, State.forEach_kept, State.setBoth_kept, State.setF_kept]


/-! ### Keys -/

@[simp] theorem State.setKeys_kept (s : State) (l : List ((Nat × Nat) × Key)) : (s.setKeys l).kept = s.kept := by
  unfold State.setKeys
  simp only [State.kept_mk, State.kept_fold, State.setB_kept]

@[simp] theorem State.addKey_kept (s : State) (c ep : Nat) (k : Key) : (s.addKey c ep k).kept = s.kept := by
  unfold State.addKey
  simp only [State.setKeys_kept]

@[simp] theorem State.dropEpoch_kept (s : State) (ep : Nat) : (s.dropEpoch ep).kept = s.kept := by
  unfold State.dropEpoch
  simp only [State.setKeys_kept]

@[simp] theorem State.drawChains_kept (s : State) (ep : Nat) (l : List Nat) : (s.drawChains ep l).kept = s.kept :=
      by
  unfold State.drawChains
  simp only [implies_true, State.forEach_kept, State.draw_kept, State.addKey_kept]

@[simp] theorem State.firstKeys_kept (s : State) : s.firstKeys.kept = s.kept := by
  unfold State.firstKeys
  simp only [State.kept_mk, State.kept_fold, kept_ite, ite_self, State.choose_kept, State.drawChains_kept,
      State.setF_kept]

@[simp] theorem State.rekeyStart_kept (s : State) : s.rekeyStart.kept = s.kept := by
  unfold State.rekeyStart
  simp only [State.kept_mk, State.kept_fold, kept_ite, ite_self, State.drawChains_kept, State.setF_kept,
      State.raise_kept]

@[simp] theorem State.postKeyx_kept (s : State) (ports : List Nat) (dst : BitVec 10) (m : KeyxMsg) : (s.postKeyx
      ports dst m).kept = s.kept := by
  unfold State.postKeyx
  simp only [kept_ite, ite_self, State.post_kept]

@[simp] theorem State.setRoster_kept (s : State) (l : List RosterEntry) : (s.setRoster l).kept = s.kept := by
  unfold State.setRoster
  simp only [State.kept_mk, State.kept_fold]

@[simp] theorem State.sendKey_kept (s : State) (r : RosterEntry) (ep : Nat) : (s.sendKey r ep).kept = s.kept := by
  unfold State.sendKey
  repeat' first | (simp only [State.setRoster_kept, State.postKeyx_kept]; done) | split

@[simp] theorem State.rekeyDone_kept (s : State) : s.rekeyDone.kept = s.kept := by
  unfold State.rekeyDone
  simp only [State.kept_mk, State.kept_fold, kept_ite, ite_self, State.raise_kept]

@[simp] theorem State.rekeyDeliver_kept (s : State) : s.rekeyDeliver.kept = s.kept := by
  unfold State.rekeyDeliver
  simp only [kept_ite, ite_self, implies_true, State.forEach_kept, State.sendKey_kept]

@[simp] theorem State.keySwitch_kept (s : State) (image : Word) : (s.keySwitch image).kept = s.kept := by
  unfold State.keySwitch
  simp only [State.kept_mk, State.kept_fold, kept_ite, ite_self, State.setF_kept, State.bump_kept]

@[simp] theorem State.keyErase_kept (s : State) (image : Word) : (s.keyErase image).kept = s.kept := by
  unfold State.keyErase
  simp only [State.kept_mk, State.kept_fold, implies_true, State.forEach_kept, State.dropEpoch_kept]

@[simp] theorem State.keyBoundary_kept (s : State) (image : Word) : (s.keyBoundary image).kept = s.kept := by
  unfold State.keyBoundary
  simp only [implies_true, State.when_kept, State.keySwitch_kept, State.keyErase_kept, State.rekeyStart_kept,
      State.rekeyDone_kept, State.rekeyDeliver_kept]


/-! ### Redund -/

@[simp] theorem State.sendHeart_kept (s : State) (duty : Nat) : (s.sendHeart duty).kept = s.kept := by
  unfold State.sendHeart
  simp only [State.kept_mk, State.kept_fold, kept_ite, ite_self, State.sendOwn_kept]

@[simp] theorem State.copyAbort_kept (s : State) : s.copyAbort.kept = s.kept := by
  unfold State.copyAbort
  repeat' first | (simp only [State.kept_mk, State.kept_fold, State.bump_kept, State.raise_kept]; done) | split

@[simp] theorem State.readyEval_kept (s : State) : s.readyEval.kept = s.kept := by
  unfold State.readyEval
  simp only [State.setB_kept]

@[simp] theorem State.setDuty_kept (s : State) (d : Nat) : (s.setDuty d).kept = s.kept := by
  unfold State.setDuty
  simp only [State.kept_mk, State.kept_fold, kept_ite, ite_self, State.setF_kept, State.readyEval_kept]

@[simp] theorem State.toStandby_kept (s : State) : s.toStandby.kept = s.kept := by
  unfold State.toStandby
  simp only [kept_ite, ite_self, State.setDuty_kept, State.raise_kept]

@[simp] theorem State.claimFail_kept (s : State) : s.claimFail.kept = s.kept := by
  unfold State.claimFail
  simp only [State.kept_mk, State.kept_fold, State.setF_kept, State.raise_kept]

@[simp] theorem State.claimWon_kept (s : State) : s.claimWon.kept = s.kept := by
  unfold State.claimWon
  simp only [State.kept_mk, State.kept_fold, implies_true, State.when_kept, State.copyAbort_kept,
      State.setDuty_kept, State.bump_kept, State.raise_kept, State.rekeyStart_kept, State.sendHeart_kept]

@[simp] theorem State.claimBegin_kept (s : State) : s.claimBegin.kept = s.kept := by
  unfold State.claimBegin
  simp only [State.kept_mk, State.kept_fold, kept_ite, ite_self, State.claimFail_kept, State.raise_kept]

@[simp] theorem State.dropCopies_kept (s : State) : s.dropCopies.kept = s.kept := by
  unfold State.dropCopies
  simp only [State.kept_mk, State.kept_fold, implies_true, State.forEach_kept, State.setPort_kept]

@[simp] theorem State.failHead_kept (s : State) (cause : Nat) : (s.failHead cause).kept = s.kept := by
  unfold State.failHead
  simp only [State.kept_mk, State.kept_fold, kept_ite, ite_self, State.setF_kept, State.sendHeart_kept,
      State.setDuty_kept, State.raise_kept, State.dropCopies_kept, State.softBlank_kept]

@[simp] theorem State.yieldRequest_kept (s : State) : s.yieldRequest.kept = s.kept := by
  unfold State.yieldRequest
  simp only [State.kept_mk, State.kept_fold, kept_ite, ite_self, State.raise_kept]

@[simp] theorem State.redCtlWrite_kept (s : State) (who : Initiator) (w : Word) : (s.redCtlWrite who w).kept =
      s.kept := by
  unfold State.redCtlWrite
  simp only [State.kept_mk, State.kept_fold, kept_ite, ite_self, implies_true, State.when_kept,
      State.yieldRequest_kept, State.failHead_kept]

@[simp] theorem State.pairRefuse_kept (s : State) : s.pairRefuse.kept = s.kept := by
  unfold State.pairRefuse
  simp only [State.kept_mk, State.kept_fold, State.setDuty_kept, State.raise_kept]

@[simp] theorem State.peerLose_kept (s : State) : s.peerLose.kept = s.kept := by
  unfold State.peerLose
  simp only [State.kept_mk, State.kept_fold, kept_ite, ite_self, State.setF_kept, State.raise_kept, State.bump_kept,
      State.latchHealth_kept, State.copyAbort_kept, State.readyEval_kept]

@[simp] theorem State.peerHear_kept (s : State) : s.peerHear.kept = s.kept := by
  unfold State.peerHear
  simp only [State.kept_mk, State.kept_fold, kept_ite, ite_self, implies_true, State.when_kept, State.raise_kept,
      State.latchHealth_kept]

@[simp] theorem State.sigFacet_kept (s : State) (m : HeartMsg) (f : Nat) : (s.sigFacet m f).kept = s.kept := by
  unfold State.sigFacet
  simp only [State.kept_mk, State.kept_fold, kept_ite, ite_self, State.raise_kept, State.bump_kept]

@[simp] theorem State.sigCompare_kept (s : State) (m : HeartMsg) : (s.sigCompare m).kept = s.kept := by
  unfold State.sigCompare
  simp only [State.kept_mk, State.kept_fold, kept_ite, ite_self, implies_true, State.forEach_kept,
      State.sigFacet_kept]

@[simp] theorem State.heartAtHead_kept (s : State) (m : HeartMsg) : (s.heartAtHead m).kept = s.kept := by
  unfold State.heartAtHead
  simp only [State.kept_mk, State.kept_fold, kept_ite, ite_self, State.pairRefuse_kept, State.peerLose_kept,
      State.peerHear_kept, State.sigCompare_kept, State.readyEval_kept, State.toStandby_kept]

@[simp] theorem State.heartAtWarden_kept (s : State) (m : HeartMsg) : (s.heartAtWarden m).kept = s.kept := by
  unfold State.heartAtWarden
  simp only [State.kept_mk, State.kept_fold]

@[simp] theorem State.verdictNow_kept (s : State) : s.verdictNow.2.kept = s.kept := by
  unfold State.verdictNow
  simp only [State.kept_mk, State.kept_fold]

@[simp] theorem State.verdictRx_kept (s : State) (v : VerdictMsg) : (s.verdictRx v).kept = s.kept := by
  unfold State.verdictRx
  simp only [kept_ite, ite_self, implies_true, State.when_kept, State.setF_kept, State.raise_kept,
      State.toStandby_kept, State.claimBegin_kept, State.setDuty_kept]

@[simp] theorem State.copySend_kept (s : State) : s.copySend.kept = s.kept := by
  unfold State.copySend
  simp only [State.kept_mk, State.kept_fold, kept_ite, ite_self, implies_true, State.forEach_kept,
      State.queueOwn_kept]

@[simp] theorem State.copyChanged_kept (s : State) : s.copyChanged.kept = s.kept := by
  unfold State.copyChanged
  repeat' first | (simp only [kept_ite, ite_self, State.copySend_kept]; done) | split

@[simp] theorem State.copyStore_kept (s : State) (c : CopyIn) (p : CopyPart) : (s.copyStore c p).kept = s.kept := by
  unfold State.copyStore
  simp only [State.kept_mk, State.kept_fold, kept_ite, ite_self]

@[simp] theorem State.copyTake_kept (s : State) (p : CopyRecords) : (s.copyTake p).kept = s.kept := by
  unfold State.copyTake
  repeat' first | (simp only [State.kept_mk, State.kept_fold, kept_ite, ite_self, State.setKeys_kept,
      State.setF_kept, State.raise_kept]; done) | split | (refine foldl_keeps ?_ (fun _ _ => ?_))

@[simp] theorem State.copyBoundary_kept (s : State) : s.copyBoundary.kept = s.kept := by
  unfold State.copyBoundary
  repeat' first | (simp only [State.kept_mk, State.kept_fold, kept_ite, ite_self, State.setF_kept, State.raise_kept,
      State.copyTake_kept, State.readyEval_kept, State.toStandby_kept]; done) | split

@[simp] theorem State.holdExpire_kept (s : State) (f : Nat) : (s.holdExpire f).kept = s.kept := by
  unfold State.holdExpire
  simp only [kept_ite, ite_self, State.raiseBit_kept, State.raise_kept, State.showPattern_kept]

@[simp] theorem State.holdAfter_kept (s : State) (f : Nat) (got clean : Bool) : (s.holdAfter f got clean).kept =
      s.kept := by
  unfold State.holdAfter
  simp only [kept_ite, ite_self, State.putBit_kept, State.holdExpire_kept]

@[simp] theorem State.redFrame_kept (s : State) : s.redFrame.kept = s.kept := by
  unfold State.redFrame
  simp only [State.kept_mk, State.kept_fold]

@[simp] theorem State.redLoad_kept (s : State) : s.redLoad.kept = s.kept := by
  unfold State.redLoad
  simp only [kept_ite, ite_self, State.setBoth_kept, State.setB_kept, State.setF_kept]


/-! ### Security -/

@[simp] theorem State.offer_kept (s : State) (head pub peer : List Byte) (holds : Bool) : (s.offer head pub peer
      holds).2.kept = s.kept := by
  unfold State.offer
  simp only [State.signed_kept]

@[simp] theorem State.enrol_kept (s : State) (m : JoinMsg) (id : Nat) : (s.enrol m id).kept = s.kept := by
  unfold State.enrol
  repeat' first | (simp only [implies_true, State.when_kept, State.drawScalar_kept, State.setRoster_kept,
      State.offer_kept, State.postKeyx_kept,
      State.sendKey_kept]; done) | split | (refine State.when_keeps ?_ (fun _ => ?_))

@[simp] theorem State.joinRx_kept (s : State) (m : JoinMsg) : (s.joinRx m).kept = s.kept := by
  unfold State.joinRx
  repeat' first | (simp only [kept_ite, State.bump_kept, State.raise_kept, State.enrol_kept]; done) | split

@[simp] theorem State.sendAssign_kept (s : State) (r : RosterEntry) : (s.sendAssign r).kept = s.kept := by
  unfold State.sendAssign
  simp only [State.post_kept]

@[simp] theorem State.keyxFail_kept (s : State) : s.keyxFail.kept = s.kept := by
  unfold State.keyxFail
  simp only [State.bump_kept]

@[simp] theorem State.tileAck_kept (s : State) (m : KeyxMsg) : (s.tileAck m).kept = s.kept := by
  unfold State.tileAck
  repeat' first | (simp only [kept_ite, ite_self, implies_true, State.when_kept, State.keyxFail_kept,
      State.setRoster_kept, State.sendAssign_kept,
      State.rekeyDone_kept]; done) | split | (refine State.when_keeps ?_ (fun _ => ?_))

@[simp] theorem State.takeKey_kept (s : State) (ep : Nat) (switch : Word) (k : Key) : (s.takeKey ep switch k).kept =
      s.kept := by
  unfold State.takeKey
  simp only [kept_ite, ite_self, State.addKey_kept, State.setF_kept, State.raise_kept]

@[simp] theorem State.keyxTile_kept (s : State) (m : KeyxMsg) : (s.keyxTile m).kept = s.kept := by
  unfold State.keyxTile
  repeat' first | (simp only [State.kept_mk, State.kept_fold, kept_ite, State.keyxFail_kept, State.takeKey_kept,
      State.postKeyx_kept]; done) | split

@[simp] theorem State.pairSend_kept (s : State) (step : Nat) (dest : Serial) (peer : List Byte) : (s.pairSend step
      dest peer).kept = s.kept := by
  unfold State.pairSend
  simp only [State.kept_mk, State.kept_fold, implies_true, State.forEach_kept, State.freshShare_kept,
      State.offer_kept, State.postKeyx_kept]

@[simp] theorem State.pairOffer_kept (s : State) : s.pairOffer.kept = s.kept := by
  unfold State.pairOffer
  simp only [State.kept_mk, State.kept_fold, kept_ite, ite_self, State.pairSend_kept]

@[simp] theorem State.setPairKey_kept (s : State) (k : Option Key) : (s.setPairKey k).kept = s.kept := by
  unfold State.setPairKey
  simp only [State.kept_mk, State.kept_fold, State.setB_kept]

@[simp] theorem State.sendPairKeys_kept (s : State) (dest : Serial) : (s.sendPairKeys dest).kept = s.kept := by
  unfold State.sendPairKeys
  repeat' first | (simp only [State.kept_mk, State.kept_fold,
      State.postKeyx_kept]; done) | split | (refine State.forEach_keeps ?_ (fun _ _ => ?_))

@[simp] theorem State.pairDone_kept (s : State) (m : KeyxMsg) : (s.pairDone m).kept = s.kept := by
  unfold State.pairDone
  simp only [State.kept_mk, State.kept_fold, kept_ite, ite_self, State.rekeyStart_kept, State.copySend_kept,
      State.firstKeys_kept, State.sendPairKeys_kept]

@[simp] theorem State.pairAuthFail_kept (s : State) : s.pairAuthFail.kept = s.kept := by
  unfold State.pairAuthFail
  simp only [State.raise_kept, State.keyxFail_kept, State.pairRefuse_kept]

@[simp] theorem State.pairTake_kept (s : State) (p : Nat) (m : KeyxMsg) : (s.pairTake p m).kept = s.kept := by
  unfold State.pairTake
  repeat' first | (simp only [State.kept_mk, State.kept_fold, State.pairAuthFail_kept, State.setPairKey_kept,
      State.pairDone_kept]; done) | split

@[simp] theorem State.keyxPair_kept (s : State) (m : KeyxMsg) : (s.keyxPair m).kept = s.kept := by
  unfold State.keyxPair
  repeat' first | (simp only [State.kept_mk, State.kept_fold, kept_ite, ite_self, State.pairAuthFail_kept,
      State.pairSend_kept, State.pairTake_kept, State.addKey_kept, State.setF_kept, State.postKeyx_kept,
      State.keyxFail_kept]; done) | split | dsimp only

@[simp] theorem State.keyxRx_kept (s : State) (m : KeyxMsg) : (s.keyxRx m).kept = s.kept := by
  unfold State.keyxRx
  simp only [kept_ite, ite_self, State.keyxTile_kept, State.keyxPair_kept, State.tileAck_kept]

@[simp] theorem State.keyxTimeout_kept (s : State) (x : Serial) : (s.keyxTimeout x).kept = s.kept := by
  unfold State.keyxTimeout
  repeat' first | (simp only [kept_ite, ite_self, State.setRoster_kept, State.pairOffer_kept,
      State.sendPairKeys_kept]; done) | split

@[simp] theorem State.eraseKeys_kept (s : State) : s.eraseKeys.kept = s.kept := by
  unfold State.eraseKeys
  simp only [State.kept_mk, State.kept_fold, State.setKeys_kept, State.setF_kept]

@[simp] theorem State.keyLost_kept (s : State) : s.keyLost.kept = s.kept := by
  unfold State.keyLost
  simp only [State.kept_mk, State.kept_fold, State.eraseKeys_kept, State.raise_kept, State.queueJoin_kept]

@[simp] theorem State.zeroise_kept (s : State) : s.zeroise.kept = s.kept := by
  unfold State.zeroise
  simp only [State.kept_mk, State.kept_fold, kept_ite, ite_self, State.eraseKeys_kept, State.setPairKey_kept,
      State.raise_kept, State.setF_kept, State.choose_kept, State.failHead_kept, State.firstKeys_kept]

@[simp] theorem State.secCtlWrite_kept (s : State) (w : Word) : (s.secCtlWrite w).kept = s.kept := by
  unfold State.secCtlWrite
  simp only [implies_true, State.when_kept, State.rekeyStart_kept, State.zeroise_kept]

@[simp] theorem State.setSessions_kept (s : State) (l : List Session) : (s.setSessions l).kept = s.kept := by
  unfold State.setSessions
  simp only [State.kept_mk, State.kept_fold, State.setF_kept]

@[simp] theorem State.sessFail_kept (s : State) : s.sessFail.kept = s.kept := by
  unfold State.sessFail
  simp only [State.bump_kept, State.raise_kept]

@[simp] theorem State.openSession_kept (s : State) (m : SessionMsg) : (s.openSession m).kept = s.kept := by
  unfold State.openSession
  simp only [State.kept_mk, State.kept_fold, State.drawScalar_kept, State.setSessions_kept, State.signed_kept,
      State.emit_kept]

@[simp] theorem State.secLoad_kept (s : State) : s.secLoad.kept = s.kept := by
  unfold State.secLoad
  simp only [State.setB_kept]

@[simp] theorem State.secSense_kept (s : State) : s.secSense.kept = s.kept := by
  unfold State.secSense
  simp only [State.kept_mk, State.kept_fold, implies_true, State.forEach_kept, State.setF_kept, State.setB_kept,
      State.draw_kept]

@[simp] theorem State.secRelease_kept (s : State) : s.secRelease.kept = s.kept := by
  unfold State.secRelease
  simp only [kept_ite, ite_self, State.pairOffer_kept, State.firstKeys_kept]


/-! ### Cores -/

@[simp] theorem State.setBad_kept (s : State) (l : List Nat) : (s.setBad l).kept = s.kept := by
  unfold State.setBad
  simp only [State.kept_mk, State.kept_fold]

@[simp] theorem State.memAnswer_kept (s : State) (v : Nat) : (s.memAnswer v).kept = s.kept := by
  unfold State.memAnswer
  simp only [State.kept_mk, State.kept_fold]

@[simp] theorem State.memStore_kept (s : State) (key v n : Nat) : (s.memStore key v n).kept = s.kept := by
  unfold State.memStore
  simp only [State.kept_mk, State.kept_fold]

@[simp] theorem State.codedRead_kept (s : State) (m : MemAccess) : (s.codedRead m).kept = s.kept := by
  unfold State.codedRead
  simp only [kept_ite, ite_self, implies_true, State.when_kept, State.setBad_kept, State.busFault_kept,
      State.raise_kept, State.bump_kept, State.memAnswer_kept]

@[simp] theorem State.codedWrite_kept (s : State) (m : MemAccess) : (s.codedWrite m).kept = s.kept := by
  unfold State.codedWrite
  simp only [kept_ite, ite_self, implies_true, State.when_kept, State.setBad_kept, State.bump_kept,
      State.memStore_kept, State.memAnswer_kept]

@[simp] theorem State.lpddrAccess_kept (s : State) (m : MemAccess) : (s.lpddrAccess m).kept = s.kept := by
  unfold State.lpddrAccess
  simp only [kept_ite, ite_self, State.memStore_kept, State.memAnswer_kept, State.choose_kept]

@[simp] theorem State.memAccess_kept (s : State) (m : MemAccess) : (s.memAccess m).kept = s.kept := by
  unfold State.memAccess
  repeat' first | (simp only [kept_ite, ite_self, State.busFault_kept, State.memAnswer_kept, State.lpddrAccess_kept,
      State.codedWrite_kept, State.codedRead_kept]; done) | split

@[simp] theorem State.fwLoad_kept (s : State) (x : FwImage) : (s.fwLoad x).kept = s.kept := by
  unfold State.fwLoad
  simp only [State.kept_mk, State.kept_fold]

@[simp] theorem State.coresStart_kept (s : State) : s.coresStart.kept = s.kept := by
  unfold State.coresStart
  simp only [State.setF_kept]

@[simp] theorem State.coreReset_kept (s : State) (a1 : Bool) : (s.coreReset a1).kept = s.kept := by
  unfold State.coreReset
  simp only [kept_ite, ite_self, State.mbxReset_kept]

@[simp] theorem State.rstCtlWrite_kept (s : State) (w : Word) : (s.rstCtlWrite w).kept = s.kept := by
  unfold State.rstCtlWrite
  simp only [kept_ite, ite_self, implies_true, State.when_kept, State.requestReset_kept, State.coreReset_kept]

@[simp] theorem State.rstWdtWrite_kept (s : State) (w : Word) : (s.rstWdtWrite w).kept = s.kept := by
  unfold State.rstWdtWrite
  simp only [State.kept_mk, State.kept_fold, kept_ite, ite_self]


/-! ### Geode -/

@[simp] theorem State.geodeAccept_kept (s : State) (m : GeodeMsg) (target : Word) : (s.geodeAccept m target).kept =
      s.kept := by
  unfold State.geodeAccept
  simp only [State.kept_mk, State.kept_fold, implies_true, State.when_kept, State.setF_kept, State.raise_kept,
      State.recordWrite_kept]

@[simp] theorem State.geodeRelay_kept (s : State) (m : GeodeMsg) (target : Word) : (s.geodeRelay m target).kept =
      s.kept := by
  unfold State.geodeRelay
  simp only [kept_ite, ite_self, State.post_kept]

@[simp] theorem State.geodeReject_kept (s : State) : s.geodeReject.kept = s.kept := by
  unfold State.geodeReject
  simp only [State.raise_kept]

@[simp] theorem State.geodeRelayed_kept (s : State) (m : GeodeMsg) (target : Word) : (s.geodeRelayed m target).kept
      = s.kept := by
  unfold State.geodeRelayed
  simp only [kept_ite, ite_self, State.geodeAccept_kept, State.geodeReject_kept]

@[simp] theorem State.geodeBoundary_kept (s : State) (image : Word) : (s.geodeBoundary image).kept = s.kept := by
  unfold State.geodeBoundary
  simp only [State.kept_mk, State.kept_fold, implies_true, State.forEach_kept, State.setF_kept, State.raise_kept]

@[simp] theorem State.geodeRestore_kept (s : State) : s.geodeRestore.kept = s.kept := by
  unfold State.geodeRestore
  simp only [State.kept_mk, State.kept_fold, kept_ite, ite_self, State.setF_kept, State.raise_kept]


/-! ### Rail -/

@[simp] theorem State.traceTrigger_kept (s : State) (cause : Nat) : (s.traceTrigger cause).kept = s.kept := by
  unfold State.traceTrigger
  simp only [State.kept_mk, State.kept_fold, kept_ite, ite_self, State.setF_kept]

@[simp] theorem State.traceArm_kept (s : State) : s.traceArm.kept = s.kept := by
  unfold State.traceArm
  simp only [State.kept_mk, State.kept_fold, State.setF_kept]

@[simp] theorem State.railTctlWrite_kept (s : State) (w : Word) : (s.railTctlWrite w).kept = s.kept := by
  unfold State.railTctlWrite
  simp only [implies_true, State.when_kept, State.setF_kept, State.traceArm_kept, State.traceTrigger_kept]

@[simp] theorem State.fit16_kept (s : State) (i : Int) : (s.fit16 i).2.kept = s.kept := by
  unfold State.fit16
  repeat' first | (simp only [State.choose_kept]; done) | split

@[simp] theorem State.traceSample_kept (s : State) (code : Nat) : (s.traceSample code).2.kept = s.kept := by
  unfold State.traceSample
  repeat' first | (simp only [State.fit16_kept]; done) | split

@[simp] theorem State.traceRow_kept (s : State) : s.traceRow.2.kept = s.kept := by
  unfold State.traceRow
  simp only [State.traceSample_kept]

@[simp] theorem State.traceRecord_kept (s : State) : s.traceRecord.kept = s.kept := by
  unfold State.traceRecord
  simp only [State.kept_mk, State.kept_fold, kept_ite, ite_self, State.traceRow_kept, State.setF_kept,
      State.raise_kept]

@[simp] theorem State.traceStep_kept (s : State) : s.traceStep.kept = s.kept := by
  unfold State.traceStep
  simp only [State.kept_mk, State.kept_fold, kept_ite, ite_self, State.traceRecord_kept]

@[simp] theorem State.traceRead_kept (s : State) : s.traceRead.2.kept = s.kept := by
  unfold State.traceRead
  simp only [State.setF_kept]

@[simp] theorem State.railSoft_kept (s : State) : s.railSoft.kept = s.kept := by
  unfold State.railSoft
  simp only [State.kept_mk, State.kept_fold, State.setF_kept]

@[simp] theorem State.railLeave_kept (s : State) (v : Nat) : (s.railLeave v).kept = s.kept := by
  unfold State.railLeave
  simp only [State.kept_mk, State.kept_fold, implies_true, State.when_kept, State.setF_kept, State.softBlank_kept]

@[simp] theorem State.railFault_kept (s : State) (ovp : Bool) : (s.railFault ovp).kept = s.kept := by
  unfold State.railFault
  simp only [kept_ite, ite_self, implies_true, State.when_kept, State.bump_kept, State.raise_kept,
      State.railLeave_kept, State.traceTrigger_kept]

@[simp] theorem State.railCtlWrite_kept (s : State) (w : Word) : (s.railCtlWrite w).kept = s.kept := by
  unfold State.railCtlWrite
  simp only [State.kept_mk, State.kept_fold, implies_true, State.when_kept, State.setF_kept, State.railSoft_kept]

@[simp] theorem State.setTarget_kept (s : State) (mv : Int) : (s.setTarget mv).kept = s.kept := by
  unfold State.setTarget
  simp only [implies_true, State.when_kept, State.setF_kept, State.raise_kept]

@[simp] theorem State.auxLose_kept (s : State) : s.auxLose.kept = s.kept := by
  unfold State.auxLose
  simp only [kept_ite, ite_self, State.raise_kept]

@[simp] theorem State.auxStep_kept (s : State) : s.auxStep.kept = s.kept := by
  unfold State.auxStep
  simp only [kept_ite, ite_self, State.auxLose_kept, State.setF_kept, State.setTarget_kept]

@[simp] theorem State.auxTake_kept (s : State) (code : Nat) : (s.auxTake code).kept = s.kept := by
  unfold State.auxTake
  simp only [State.kept_mk, State.kept_fold]

@[simp] theorem State.sourceStep_kept (s : State) : s.sourceStep.kept = s.kept := by
  unfold State.sourceStep
  repeat' first | (simp only [State.kept_mk, State.kept_fold, kept_ite, ite_self, State.setF_kept,
      State.auxStep_kept, State.setTarget_kept]; done) | split | dsimp only

@[simp] theorem State.rcLearn_kept (s : State) (f c : Nat) (e : Int) : (s.rcLearn f c e).kept = s.kept := by
  unfold State.rcLearn
  simp only [State.kept_mk, State.kept_fold, kept_ite, ite_self]

@[simp] theorem State.lawChange_kept (s : State) (rc : Int) : (s.lawChange rc).kept = s.kept := by
  unfold State.lawChange
  simp only [State.kept_mk, State.kept_fold, kept_ite, ite_self]

@[simp] theorem State.lawStep_kept (s : State) (e rc : Int) : (s.lawStep e rc).kept = s.kept := by
  unfold State.lawStep
  simp only [State.kept_mk, State.kept_fold, kept_ite, ite_self]

@[simp] theorem State.balStep_kept (s : State) (isns : List Nat) : (s.balStep isns).kept = s.kept := by
  unfold State.balStep
  simp only [State.kept_mk, State.kept_fold]

@[simp] theorem State.dutyStep_kept (s : State) (k : Nat) : (s.dutyStep k).kept = s.kept := by
  unfold State.dutyStep
  simp only [State.kept_mk, State.kept_fold]

@[simp] theorem State.pulseStep_kept (s : State) (n : Nat) : (s.pulseStep n).kept = s.kept := by
  unfold State.pulseStep
  simp only [State.kept_mk, State.kept_fold]

@[simp] theorem State.railMeasure_kept (s : State) (vsns : Nat) (isns : List Nat) (aux : Nat) : (s.railMeasure vsns
      isns aux).kept = s.kept := by
  unfold State.railMeasure
  repeat' first | (simp only [implies_true, State.forEach_kept, State.choose_kept, State.setF_kept,
      State.auxTake_kept]; done) | split | (refine State.forEach_keeps ?_ (fun _ _ => ?_))

@[simp] theorem State.feStep_kept (s : State) (e : Int) : (s.feStep e).kept = s.kept := by
  unfold State.feStep
  simp only [State.kept_mk, State.kept_fold, implies_true, State.when_kept, State.setF_kept,
      State.traceTrigger_kept]

@[simp] theorem State.railJudge_kept (s : State) (vsns : Nat) : (s.railJudge vsns).kept = s.kept := by
  unfold State.railJudge
  extract_lets ov r s1
  have h : s1.kept = s.kept := by rw [State.kept_mk, State.kept_fold]
  simp only [kept_ite, State.railFault_kept, State.raise_kept, State.setF_kept, h, ite_self]

@[simp] theorem State.railUpdate_kept (s : State) (n vsns : Nat) (isns : List Nat) (tick : Nat) : (s.railUpdate n
      vsns isns tick).kept = s.kept := by
  unfold State.railUpdate
  repeat' first | (simp only [State.kept_mk, State.kept_fold, implies_true, State.when_kept, State.setF_kept,
      State.lawChange_kept, State.lawStep_kept, State.rcLearn_kept, State.balStep_kept, State.dutyStep_kept,
      State.feStep_kept,
      State.railJudge_kept]; done) | split | (refine State.when_keeps ?_ (fun _ => ?_)) | dsimp only

@[simp] theorem State.railSegEnd_kept (s : State) : s.railSegEnd.kept = s.kept := by
  unfold State.railSegEnd
  repeat' first | (simp only [State.kept_mk, State.kept_fold, kept_ite, ite_self, State.setF_kept,
      State.setTarget_kept]; done) | split

@[simp] theorem State.railFrame_kept (s : State) : s.railFrame.kept = s.kept := by
  unfold State.railFrame
  repeat' first | (simp only [State.kept_mk, State.kept_fold, kept_ite, ite_self, State.setF_kept,
      State.setTarget_kept]; done) | split

@[simp] theorem State.railCommitted_kept (s : State) (changed : List Nat) : (s.railCommitted changed).kept = s.kept
      := by
  unfold State.railCommitted
  simp only [implies_true, State.when_kept, State.traceTrigger_kept]

@[simp] theorem State.railLoad_kept (s : State) : s.railLoad.kept = s.kept := by
  unfold State.railLoad
  simp only [implies_true, State.forEach_kept, State.setF_kept, State.setBoth_kept]


/-! ### Lamp -/

@[simp] theorem State.recordDsig_kept (s : State) (f : Nat) : (s.recordDsig f).kept = s.kept := by
  unfold State.recordDsig
  simp only [State.setF_kept]

@[simp] theorem State.freezeCheck_kept (s : State) (x : SlotX) : (s.freezeCheck x).kept = s.kept := by
  unfold State.freezeCheck
  repeat' first | (simp only [State.kept_mk, State.kept_fold, kept_ite, ite_self, State.setF_kept, State.bump_kept,
      State.raise_kept]; done) | split | dsimp only

@[simp] theorem State.countDown_kept (s : State) (f : Option Fld) : (s.countDown f).kept = s.kept := by
  unfold State.countDown
  repeat' first | (simp only [State.setF_kept]; done) | split

@[simp] theorem State.countUp_kept (s : State) (f : Option Fld) : (s.countUp f).kept = s.kept := by
  unfold State.countUp
  repeat' first | (simp only [State.setF_kept]; done) | split

@[simp] theorem State.setLamp_kept (s : State) (i v : Nat) : (s.setLamp i v).kept = s.kept := by
  unfold State.setLamp
  repeat' first | (simp only [State.kept_mk, State.kept_fold, kept_ite, ite_self, State.setF_kept,
      State.countDown_kept, State.countUp_kept, State.raise_kept]; done) | split

@[simp] theorem State.lampSample_kept (s : State) (i reads : Nat) : (s.lampSample i reads).kept = s.kept := by
  unfold State.lampSample
  simp only [State.kept_mk, State.kept_fold, kept_ite, ite_self, State.setLamp_kept]

@[simp] theorem State.bandSamples_kept (s : State) (b row : Nat) (l : List (Nat × Nat × List (Nat × Nat))) :
      (s.bandSamples b row l).kept = s.kept := by
  unfold State.bandSamples
  simp only [State.kept_mk, State.kept_fold, kept_ite, ite_self, implies_true, State.forEach_kept, State.when_kept,
      State.bump_kept, State.raise_kept, State.lampSample_kept]

@[simp] theorem State.lineSamples_kept (s : State) (row : Nat) (pieces : List (Nat × Nat)) (samples : List
      LampSample) : (s.lineSamples row pieces samples).kept = s.kept := by
  unfold State.lineSamples
  simp only [implies_true, State.forEach_kept, State.bandSamples_kept]

@[simp] theorem State.startSlot_kept (s : State) (f : Nat) : (s.startSlot f).kept = s.kept := by
  unfold State.startSlot
  simp only [State.kept_mk, State.kept_fold, kept_ite, ite_self, implies_true, State.when_kept, State.setF_kept,
      State.raise_kept, State.setB_kept]

@[simp] theorem State.startWaiting_kept (s : State) : s.startWaiting.kept = s.kept := by
  unfold State.startWaiting
  repeat' first | (simp only [State.kept_mk, State.kept_fold, State.startSlot_kept]; done) | split

@[simp] theorem State.lineOf_kept (s : State) (x : SlotX) (seg line : Nat) (samples : List LampSample) : (s.lineOf x
      seg line samples).kept = s.kept := by
  unfold State.lineOf
  simp only [State.kept_mk, State.kept_fold, kept_ite, ite_self, State.setF_kept, State.lineSamples_kept]

@[simp] theorem State.lmpCtlWrite_kept (s : State) (w : Word) : (s.lmpCtlWrite w).kept = s.kept := by
  unfold State.lmpCtlWrite
  simp only [kept_ite, ite_self, implies_true, State.when_kept, State.setF_kept, State.softBlank_kept,
      State.hardBlank_kept, State.lampState_kept]

@[simp] theorem State.lampLoad_kept (s : State) : s.lampLoad.kept = s.kept := by
  unfold State.lampLoad
  simp only [State.kept_mk, State.kept_fold, implies_true, State.forEach_kept, State.setF_kept, State.setBoth_kept,
      State.setW_kept, State.setActW_kept]


/-! ### Corr -/

@[simp] theorem State.matrixPut_kept (s : State) (b : Bool) (i : Nat) (w : Word) : (s.matrixPut b i w).kept = s.kept
      := by
  unfold State.matrixPut
  simp only [State.kept_mk, State.kept_fold]

@[simp] theorem State.setMatrix_kept (s : State) (b : Bool) (m : MatrixSet) : (s.setMatrix b m).kept = s.kept := by
  unfold State.setMatrix
  simp only [State.kept_mk, State.kept_fold]

@[simp] theorem State.maddrWrite_kept (s : State) (w : Word) : (s.maddrWrite w).kept = s.kept := by
  unfold State.maddrWrite
  simp only [kept_ite, ite_self, State.raise_kept, State.setF_kept, State.setB_kept]

@[simp] theorem State.mdataWrite_kept (s : State) (w : Word) : (s.mdataWrite w).kept = s.kept := by
  unfold State.mdataWrite
  simp only [kept_ite, ite_self, State.raise_kept, State.matrixPut_kept, State.setF_kept]

@[simp] theorem State.setSealing_kept (s : State) (l : List SealJob) : (s.setSealing l).kept = s.kept := by
  unfold State.setSealing
  simp only [State.kept_mk, State.kept_fold, State.setB_kept]

@[simp] theorem State.sealBank_kept (s : State) (b : Bool) : (s.sealBank b).kept = s.kept := by
  unfold State.sealBank
  simp only [kept_ite, ite_self, State.raise_kept, State.setSealing_kept]

@[simp] theorem State.loadSet_kept (s : State) (b set1 : Bool) : (s.loadSet b set1).kept = s.kept := by
  unfold State.loadSet
  simp only [kept_ite, ite_self, State.raise_kept, State.setMatrix_kept, State.setF_kept, State.setSealing_kept]

@[simp] theorem State.sealDone_kept (s : State) (load : Bool) : (s.sealDone load).kept = s.kept := by
  unfold State.sealDone
  repeat' first | (simp only [kept_ite, ite_self, State.setSealing_kept, State.raise_kept,
      State.setF_kept]; done) | split

@[simp] theorem State.fmapClear_kept (s : State) : s.fmapClear.kept = s.kept := by
  unfold State.fmapClear
  simp only [State.kept_mk, State.kept_fold, State.setF_kept]

@[simp] theorem State.probeRequest_kept (s : State) (all : Bool) : (s.probeRequest all).kept = s.kept := by
  unfold State.probeRequest
  simp only [State.kept_mk, State.kept_fold, kept_ite, ite_self, State.raise_kept]

@[simp] theorem State.probeBand_kept (s : State) (b row : Nat) (l : List (Nat × Nat)) : (s.probeBand b row l).kept =
      s.kept := by
  unfold State.probeBand
  simp only [kept_ite, ite_self, implies_true, State.forEach_kept, State.when_kept, State.bump_kept,
      State.raise_kept, State.setLamp_kept]

@[simp] theorem State.sweepDone_kept (s : State) : s.sweepDone.kept = s.kept := by
  unfold State.sweepDone
  simp only [State.kept_mk, State.kept_fold, State.setF_kept, State.bump_kept, State.raise_kept]

@[simp] theorem State.corrCtlWrite_kept (s : State) (w : Word) : (s.corrCtlWrite w).kept = s.kept := by
  unfold State.corrCtlWrite
  simp only [implies_true, State.when_kept, State.fmapClear_kept, State.probeRequest_kept, State.sealBank_kept,
      State.loadSet_kept]

@[simp] theorem State.corrFrame_kept (s : State) : s.corrFrame.kept = s.kept := by
  unfold State.corrFrame
  simp only [State.kept_mk, State.kept_fold, implies_true, State.forEach_kept, State.setF_kept]

@[simp] theorem State.layerSig_kept (s : State) (f l : Nat) (bytes : List Byte) : (s.layerSig f l bytes).kept =
      s.kept := by
  unfold State.layerSig
  simp only [State.kept_mk, State.kept_fold, kept_ite, ite_self, implies_true, State.when_kept, State.setF_kept,
      State.raiseBit_kept, State.raise_kept]

@[simp] theorem State.scanSigs_kept (s : State) (f : Nat) (fetched : List Burst) : (s.scanSigs f fetched).kept =
      s.kept := by
  unfold State.scanSigs
  simp only [State.kept_mk, State.kept_fold, implies_true, State.forEach_kept, State.layerSig_kept]

@[simp] theorem State.trimLoad_kept (s : State) : s.trimLoad.kept = s.kept := by
  unfold State.trimLoad
  simp only [implies_true, State.forEach_kept, State.setF_kept]

@[simp] theorem State.corrLoad_kept (s : State) : s.corrLoad.kept = s.kept := by
  unfold State.corrLoad
  simp only [State.setBoth_kept]


/-! ### Check -/

@[simp] theorem State.writeDir_kept (s : State) (f : DirCopy → DirCopy) : (s.writeDir f).kept = s.kept := by
  unfold State.writeDir
  simp only [State.kept_mk, State.kept_fold]


/-! ### Update -/

@[simp] theorem State.setSpare_kept (s : State) (b : Bank) : (s.setSpare b).kept = s.kept := by
  unfold State.setSpare
  simp only [State.kept_mk, State.kept_fold]

@[simp] theorem State.progress_kept (s : State) : s.progress.kept = s.kept := by
  unfold State.progress
  simp only [State.setF_kept]

@[simp] theorem State.setPkg_kept (s : State) (p : BitVec 64) : (s.setPkg p).kept = s.kept := by
  unfold State.setPkg
  simp only [State.setF_kept]

@[simp] theorem State.postUpd_kept (s : State) (ports : List Nat) (prot : BitVec 2) (m : UpdMsg) : (s.postUpd ports
      prot m).kept = s.kept := by
  unfold State.postUpd
  simp only [kept_ite, ite_self, State.post_kept]

@[simp] theorem State.passOn_kept (s : State) (port : Option (Fin 8)) (m : UpdMsg) : (s.passOn port m).kept = s.kept
      := by
  unfold State.passOn
  simp only [State.postUpd_kept]

@[simp] theorem State.markSeen_kept (s : State) (pkg : BitVec 64) (n : Nat) : (s.markSeen pkg n).kept = s.kept := by
  unfold State.markSeen
  simp only [State.kept_mk, State.kept_fold]

@[simp] theorem State.relayData_kept (s : State) (port : Option (Fin 8)) (ports : List Nat) (m : UpdMsg) :
      (s.relayData port ports m).kept = s.kept := by
  unfold State.relayData
  simp only [kept_ite, ite_self, State.markSeen_kept, State.postUpd_kept, State.bump_kept]

@[simp] theorem State.updRefuse_kept (s : State) : s.updRefuse.kept = s.kept := by
  unfold State.updRefuse
  simp only [State.raise_kept]

@[simp] theorem State.takeManifest_kept (s : State) (port : Option (Fin 8)) (m : Manifest) : (s.takeManifest port
      m).kept = s.kept := by
  unfold State.takeManifest
  simp only [State.kept_mk, State.kept_fold, State.setSpare_kept, State.setF_kept, State.setPkg_kept,
      State.progress_kept]

@[simp] theorem State.manifestRx_kept (s : State) (port : Option (Fin 8)) (m : Manifest) : (s.manifestRx port
      m).kept = s.kept := by
  unfold State.manifestRx
  simp only [kept_ite, ite_self, State.updRefuse_kept, State.takeManifest_kept]

@[simp] theorem State.storeData_kept (s : State) (port : Option (Fin 8)) (m : UpdMsg) : (s.storeData port m).kept =
      s.kept := by
  unfold State.storeData
  repeat' first | (simp only [State.kept_mk, State.kept_fold, kept_ite, ite_self]; done) | split

@[simp] theorem State.dataRx_kept (s : State) (port : Option (Fin 8)) (m : UpdMsg) : (s.dataRx port m).kept = s.kept
      := by
  unfold State.dataRx
  simp only [State.relayData_kept, State.storeData_kept]

@[simp] theorem State.blockDone_kept (s : State) (block : Nat) (data : List Byte) (equal : Bool) : (s.blockDone
      block data equal).kept = s.kept := by
  unfold State.blockDone
  simp only [State.kept_mk, State.kept_fold, kept_ite, ite_self, State.setSpare_kept, State.progress_kept]

@[simp] theorem State.passBegin_kept (s : State) : s.passBegin.kept = s.kept := by
  unfold State.passBegin
  repeat' first | (simp only [State.kept_mk, State.kept_fold, kept_ite, ite_self, State.postUpd_kept]; done) | split

@[simp] theorem State.passRest_kept (s : State) : s.passRest.kept = s.kept := by
  unfold State.passRest
  repeat' first | (simp only [State.kept_mk, State.kept_fold, implies_true, State.forEach_kept, State.postUpd_kept,
      State.emit_kept]; done) | split | (refine State.forEach_keeps ?_ (fun _ _ => ?_)) | dsimp only

@[simp] theorem State.sendNeed_kept (s : State) (source : Option Nat) (m : UpdMsg) : (s.sendNeed source m).kept =
      s.kept := by
  unfold State.sendNeed
  repeat' first | (simp only [State.postUpd_kept, State.emit_kept]; done) | split

@[simp] theorem State.needOn_kept (s : State) (n : Nat) (pkg : BitVec 64) (l : List Nat) : (s.needOn n pkg l).kept =
      s.kept := by
  unfold State.needOn
  repeat' first | (simp only [State.kept_mk, State.kept_fold, State.sendNeed_kept]; done) | split

@[simp] theorem State.needRx_kept (s : State) (n : Nat) (m : UpdMsg) : (s.needRx n m).kept = s.kept := by
  unfold State.needRx
  repeat' first | (simp only [kept_ite, ite_self, implies_true, State.forEach_kept, State.postUpd_kept,
      State.bump_kept,
      State.needOn_kept]; done) | split | (refine State.forEach_keeps ?_ (fun _ _ => ?_)) | dsimp only

@[simp] theorem State.recoveryPass_kept (s : State) (n : Nat) : (s.recoveryPass n).kept = s.kept := by
  unfold State.recoveryPass
  repeat' first | (simp only [implies_true, State.forEach_kept,
      State.postUpd_kept]; done) | split | (refine State.forEach_keeps ?_ (fun _ _ => ?_)) | dsimp only

@[simp] theorem State.verifyCode_kept (s : State) (m : Manifest) (c : BankCheck) : (s.verifyCode m c).2.kept =
      s.kept := by
  unfold State.verifyCode
  repeat' first | (simp only [State.choose_kept]; done) | split

@[simp] theorem State.verified_kept (s : State) (m : Manifest) (c : BankCheck) : (s.verified m c).kept = s.kept :=
      by
  unfold State.verified
  simp only [kept_ite, ite_self, State.setSpare_kept, State.setF_kept, State.raise_kept, State.writeDir_kept,
      State.requestReset_kept, State.passBegin_kept]

@[simp] theorem State.activateTake_kept (s : State) (target : Word) : (s.activateTake target).kept = s.kept := by
  unfold State.activateTake
  simp only [State.kept_mk, State.kept_fold, State.setF_kept]

@[simp] theorem State.activateRx_kept (s : State) (port : Option (Fin 8)) (pkg : BitVec 64) (target : Word) :
      (s.activateRx port pkg target).kept = s.kept := by
  unfold State.activateRx
  simp only [kept_ite, ite_self, State.activateTake_kept, State.updRefuse_kept, State.postUpd_kept,
      State.passOn_kept]

@[simp] theorem State.activateWrite_kept (s : State) (m : Manifest) : (s.activateWrite m).kept = s.kept := by
  unfold State.activateWrite
  simp only [State.kept_mk, State.kept_fold, kept_ite, ite_self, State.writeDir_kept]

@[simp] theorem State.updBoundary_kept (s : State) : s.updBoundary.kept = s.kept := by
  unfold State.updBoundary
  repeat' first | (simp only [kept_ite, ite_self, State.requestReset_kept]; done) | split

@[simp] theorem State.abortPkg_kept (s : State) : s.abortPkg.kept = s.kept := by
  unfold State.abortPkg
  simp only [State.kept_mk, State.kept_fold, kept_ite, ite_self, State.setSpare_kept, State.setF_kept,
      State.setPkg_kept, State.progress_kept]

@[simp] theorem State.writeUpdRecord_kept (s : State) : s.writeUpdRecord.kept = s.kept := by
  unfold State.writeUpdRecord
  simp only [State.kept_mk, State.kept_fold]

@[simp] theorem State.fallBack_kept (s : State) (cause : Nat) : (s.fallBack cause).kept = s.kept := by
  unfold State.fallBack
  simp only [State.kept_mk, State.kept_fold, State.writeDir_kept, State.writeUpdRecord_kept,
      State.requestReset_kept]

@[simp] theorem State.confirm_kept (s : State) : s.confirm.kept = s.kept := by
  unfold State.confirm
  simp only [State.kept_mk, State.kept_fold, kept_ite, ite_self, State.recordWrite_kept]

@[simp] theorem State.fallBackAsked_kept (s : State) : s.fallBackAsked.kept = s.kept := by
  unfold State.fallBackAsked
  simp only [kept_ite, ite_self, State.fallBack_kept]

@[simp] theorem State.updCtlWrite_kept (s : State) (w : Word) : (s.updCtlWrite w).kept = s.kept := by
  unfold State.updCtlWrite
  simp only [kept_ite, ite_self, implies_true, State.when_kept, State.confirm_kept, State.abortPkg_kept,
      State.fallBackAsked_kept]

@[simp] theorem State.updFrame_kept (s : State) (m : UpdMsg) : (s.updFrame m).kept = s.kept := by
  unfold State.updFrame
  simp only [kept_ite, ite_self, State.dataRx_kept, State.activateRx_kept, State.postUpd_kept, State.abortPkg_kept]


/-! ### Commit -/

@[simp] theorem State.commitRefuse_kept (s : State) (result : Nat) : (s.commitRefuse result).kept = s.kept := by
  unfold State.commitRefuse
  simp only [State.setF_kept, State.raise_kept]

@[simp] theorem State.commitBad_kept (s : State) (vals : List (Nat × Word)) (block : Nat) : (s.commitBad vals
      block).kept = s.kept := by
  unfold State.commitBad
  repeat' first | (simp only [kept_ite, State.setF_kept, State.commitRefuse_kept,
      State.recordRefusal_kept]; done) | split

@[simp] theorem State.commitGo_kept (s : State) (mode1 : Bool) : (s.commitGo mode1).kept = s.kept := by
  unfold State.commitGo
  repeat' first | (simp only [State.kept_mk, State.kept_fold, kept_ite, State.commitRefuse_kept,
      State.commitBad_kept, State.raise_kept, State.setF_kept]; done) | split | dsimp only

@[simp] theorem State.commitCancel_kept (s : State) : s.commitCancel.kept = s.kept := by
  unfold State.commitCancel
  repeat' first | (simp only [State.kept_mk, State.kept_fold]; done) | split

@[simp] theorem State.cancelSettle_kept (s : State) : s.cancelSettle.kept = s.kept := by
  unfold State.cancelSettle
  repeat' first | (simp only [State.kept_mk, State.kept_fold, kept_ite, ite_self, State.setF_kept,
      State.commitRefuse_kept]; done) | split

@[simp] theorem State.commitRevert_kept (s : State) : s.commitRevert.kept = s.kept := by
  unfold State.commitRevert
  simp only [kept_ite, ite_self, implies_true, State.forEach_kept, State.setW_kept]

@[simp] theorem State.cfgCommitWrite_kept (s : State) (who : Initiator) (w : Word) : (s.cfgCommitWrite who w).kept =
      s.kept := by
  unfold State.cfgCommitWrite
  simp only [kept_ite, ite_self, State.setB_kept, State.commitRefuse_kept, State.commitGo_kept,
      State.commitCancel_kept, State.commitRevert_kept]

@[simp] theorem State.commitApply_kept (s : State) (p : PendingCommit) : (s.commitApply p).kept = s.kept := by
  unfold State.commitApply
  simp only [implies_true, State.forEach_kept, State.setActW_kept, State.setW_kept, State.raise_kept]

@[simp] theorem State.commitBoundary_kept (s : State) (image : Word) : (s.commitBoundary image).1.kept = s.kept :=
      by
  unfold State.commitBoundary
  repeat' first | (simp only [State.kept_mk, State.kept_fold, State.cancelSettle_kept, State.setF_kept,
      State.commitRefuse_kept, State.commitApply_kept]; done) | split | dsimp only


/-! ### Thermal -/

@[simp] theorem State.setSensor_kept (s : State) (i : Nat) (x : SensorX) : (s.setSensor i x).kept = s.kept := by
  unfold State.setSensor
  simp only [State.kept_mk, State.kept_fold]

@[simp] theorem State.setTeff_kept (s : State) (i : Nat) (t8 : Int) : (s.setTeff i t8).kept = s.kept := by
  unfold State.setTeff
  simp only [implies_true, State.when_kept, State.setF_kept, State.raise_kept]

@[simp] theorem State.sensorBad_kept (s : State) (i : Nat) : (s.sensorBad i).kept = s.kept := by
  unfold State.sensorBad
  simp only [implies_true, State.when_kept, State.setSensor_kept, State.raise_kept, State.setTeff_kept,
      State.setF_kept]

@[simp] theorem State.sensorGood_kept (s : State) (i : Nat) (t8 : Int) : (s.sensorGood i t8).kept = s.kept := by
  unfold State.sensorGood
  simp only [implies_true, State.when_kept, State.setSensor_kept, State.raise_kept, State.setTeff_kept,
      State.setF_kept, State.setB_kept]

@[simp] theorem State.thermState_kept (s : State) : s.thermState.kept = s.kept := by
  unfold State.thermState
  simp only [State.setF_kept]

@[simp] theorem State.setTlimit_kept (s : State) (v : Nat) : (s.setTlimit v).kept = s.kept := by
  unfold State.setTlimit
  simp only [kept_ite, ite_self, State.setF_kept, State.raise_kept]

@[simp] theorem State.setDemand_kept (s : State) (d : Nat) : (s.setDemand d).kept = s.kept := by
  unfold State.setDemand
  simp only [State.kept_mk, State.kept_fold, kept_ite, ite_self, implies_true, State.when_kept, State.setF_kept,
      State.raise_kept, State.setTlimit_kept]

@[simp] theorem State.trip_kept (s : State) : s.trip.kept = s.kept := by
  unfold State.trip
  simp only [State.kept_mk, State.kept_fold, kept_ite, ite_self, State.raise_kept, State.bump_kept,
      State.hardBlank_kept]

@[simp] theorem State.sendLimit_kept (s : State) (ports : List Nat) (dst : BitVec 10) (v : Nat) : (s.sendLimit ports
      dst v).kept = s.kept := by
  unfold State.sendLimit
  simp only [State.post_kept]

@[simp] theorem State.groupLimit_kept (s : State) (key v : Nat) (send : State → State) (h : ∀ t : State, (send t).kept
      = t.kept) :
    (s.groupLimit key v send).kept = s.kept := by
  unfold State.groupLimit
  split
  · rfl
  · rw [State.kept_mk, State.kept_fold, h]

@[simp] theorem State.ownLimit_kept (s : State) (v : Nat) : (s.ownLimit v).kept = s.kept := by
  unfold State.ownLimit
  simp only [State.setF_kept, State.setW_kept, State.commitGo_kept]

@[simp] theorem State.zoneUpdate_kept (s : State) : s.zoneUpdate.kept = s.kept := by
  unfold State.zoneUpdate
  repeat' first | (simp only [kept_ite, implies_true, State.forEach_kept, State.groupLimit_kept,
      State.sendLimit_kept, State.ownLimit_kept]; done) | split | (refine State.forEach_keeps ?_ (fun _ _ => ?_))

@[simp] theorem State.zoneStatus_kept (s : State) (m : StatusMsg) : (s.zoneStatus m).kept = s.kept := by
  unfold State.zoneStatus
  simp only [State.kept_mk, State.kept_fold, kept_ite, ite_self, State.zoneUpdate_kept]

@[simp] theorem State.thermEval_kept (s : State) : s.thermEval.kept = s.kept := by
  unfold State.thermEval
  repeat' first | (simp only [State.kept_mk, State.kept_fold, kept_ite, ite_self, State.setF_kept,
      State.setDemand_kept, State.trip_kept, State.thermState_kept,
      State.zoneUpdate_kept]; done) | split | dsimp only

@[simp] theorem State.thmCtlWrite_kept (s : State) (w : Word) : (s.thmCtlWrite w).kept = s.kept := by
  unfold State.thmCtlWrite
  simp only [implies_true, State.forEach_kept, State.setSensor_kept]

@[simp] theorem State.thermLoad_kept (s : State) : s.thermLoad.kept = s.kept := by
  unfold State.thermLoad
  simp only [State.setF_kept]


/-! ### Power -/

@[simp] theorem State.setSupply_kept (s : State) (k : Supply) (ok : Bool) : (s.setSupply k ok).kept = s.kept := by
  unfold State.setSupply
  simp only [State.setB_kept]

@[simp] theorem State.savePor_kept (s : State) : s.savePor.kept = s.kept := by
  unfold State.savePor
  repeat' first | (simp only [State.kept_mk, State.kept_fold]; done) | split

@[simp] theorem State.lossDip_kept (s : State) : s.lossDip.kept = s.kept := by
  unfold State.lossDip
  repeat' first | (simp only [State.kept_mk, State.kept_fold]; done) | split

@[simp] theorem State.lossFlag_kept (s : State) (i : Nat) : (s.lossFlag i).kept = s.kept := by
  unfold State.lossFlag
  simp only [State.kept_mk, State.kept_fold, kept_ite, ite_self]

@[simp] theorem State.supplyLost_kept (s : State) (k : Supply) : (s.supplyLost k).kept = s.kept := by
  unfold State.supplyLost
  simp only [State.kept_mk, State.kept_fold, kept_ite, ite_self, State.lossDip_kept, State.savePor_kept,
      State.lossEvents_kept, State.startLoss_kept, State.enterPor_kept]


/-! ### Start -/

@[simp] theorem State.banksLoad_kept (s : State) : s.banksLoad.kept = s.kept := by
  unfold State.banksLoad
  simp only [kept_ite, ite_self, State.setMatrix_kept, State.raise_kept]

@[simp] theorem State.factoryLoad_kept (s : State) : s.factoryLoad.kept = s.kept := by
  unfold State.factoryLoad
  simp only [State.kept_mk, State.kept_fold, kept_ite, ite_self, State.raise_kept, State.setF_kept,
      State.banksLoad_kept]

@[simp] theorem State.patternLoad_kept (s : State) : s.patternLoad.kept = s.kept := by
  unfold State.patternLoad
  simp only [State.kept_mk, State.kept_fold, kept_ite, ite_self, State.raise_kept, State.setF_kept]

@[simp] theorem State.enterRecovery_kept (s : State) : s.enterRecovery.kept = s.kept := by
  unfold State.enterRecovery
  simp only [implies_true, State.forEach_kept, State.when_kept, State.laneControl_kept, State.setF_kept,
      State.raise_kept, State.factoryLoad_kept, State.patternLoad_kept]

@[simp] theorem State.bootStop_kept (s : State) (code : Nat) : (s.bootStop code).kept = s.kept := by
  unfold State.bootStop
  simp only [State.setF_kept, State.enterRecovery_kept]

@[simp] theorem State.sensed_kept (s : State) (f : FuseSense) : (s.sensed f).kept = s.kept := by
  unfold State.sensed
  simp only [State.kept_mk, State.kept_fold, kept_ite, ite_self, State.setF_kept, State.bootStop_kept,
      State.trimLoad_kept, State.secSense_kept]

@[simp] theorem State.laneLoad_kept (s : State) : s.laneLoad.kept = s.kept := by
  unfold State.laneLoad
  simp only [implies_true, State.forEach_kept, State.setF_kept]

@[simp] theorem State.updLoad_kept (s : State) : s.updLoad.kept = s.kept := by
  unfold State.updLoad
  simp only [State.kept_mk, State.kept_fold, implies_true, State.when_kept, State.setB_kept, State.setF_kept,
      State.setPkg_kept, State.progress_kept, State.raise_kept]

@[simp] theorem State.headLoad_kept (s : State) : s.headLoad.kept = s.kept := by
  unfold State.headLoad
  simp only [State.ingestLoad_kept, State.compLoad_kept, State.encLoad_kept, State.geodeRestore_kept]

@[simp] theorem State.planLoad_kept (s : State) : s.planLoad.kept = s.kept := by
  unfold State.planLoad
  simp only [implies_true, State.forEach_kept, State.when_kept, State.laneLoad_kept, State.factoryLoad_kept,
      State.patternLoad_kept, State.lampLoad_kept, State.corrLoad_kept, State.railLoad_kept, State.timeLoad_kept,
      State.redLoad_kept, State.mbxLoad_kept, State.thermLoad_kept, State.setBoth_kept, State.setF_kept,
      State.headLoad_kept, State.timeSources_kept]

@[simp] theorem State.tilePorts_kept (s : State) : s.tilePorts.kept = s.kept := by
  unfold State.tilePorts
  simp only [State.setF_kept, State.laneControl_kept]

@[simp] theorem State.bankRead_kept (s : State) (b : Bool) : (s.bankRead b).kept = s.kept := by
  unfold State.bankRead
  simp only [State.kept_mk, State.kept_fold, implies_true, State.when_kept, State.fwLoad_kept]

@[simp] theorem State.noteRefused_kept (s : State) (b : Bool) (code : Nat) : (s.noteRefused b code).kept = s.kept :=
      by
  unfold State.noteRefused
  simp only [implies_true, State.when_kept, State.raise_kept]

@[simp] theorem State.portsStop_kept (s : State) : s.portsStop.kept = s.kept := by
  unfold State.portsStop
  simp only [State.laneControl_kept]

theorem State.bankFailed_kept (s : State) (b : Bool) (code : Nat) (next : State → State)
    (h : ∀ t : State, (next t).kept = t.kept) : (s.bankFailed b code next).kept = s.kept := by
  unfold State.bankFailed
  repeat' first | (simp only [State.kept_mk, State.kept_fold, kept_ite, ite_self, implies_true, State.setF_kept, State.setB_kept, State.raise_kept, State.when_kept, State.enterRecovery_kept, State.portsStop_kept, State.fallBack_kept, h]; done) | split | dsimp only

@[simp] theorem State.countStart_kept (s : State) : s.countStart.kept = s.kept := by
  unfold State.countStart
  simp only [State.kept_mk, State.kept_fold, State.writeUpdRecord_kept]

@[simp] theorem State.octal_kept (s : State) (mhz : Nat) : (s.octal mhz).kept = s.kept := by
  unfold State.octal
  simp only [State.kept_mk, State.kept_fold]

@[simp] theorem State.enginesStart_kept (s : State) : s.enginesStart.kept = s.kept := by
  unfold State.enginesStart
  simp only [implies_true, State.forEach_kept, State.when_kept, State.raise_kept, State.railCtlWrite_kept,
      State.cmpStop_kept, State.encRelease_kept, State.laneControl_kept, State.hpdEval_kept, State.lmpCtlWrite_kept]

@[simp] theorem State.release_kept (s : State) : s.release.kept = s.kept := by
  unfold State.release
  simp only [State.kept_mk, State.kept_fold, State.raise_kept, State.setF_kept, State.enginesStart_kept,
      State.govRelease_kept, State.secRelease_kept]

@[simp] theorem State.memoryFault_kept (s : State) (code : Nat) : (s.memoryFault code).kept = s.kept := by
  unfold State.memoryFault
  simp only [State.kept_mk, State.kept_fold, kept_ite, ite_self, State.setF_kept]

@[simp] theorem State.memoryUp_kept (s : State) (trained : Bool) : (s.memoryUp trained).kept = s.kept := by
  unfold State.memoryUp
  simp only [State.kept_mk, State.kept_fold, kept_ite, ite_self, implies_true, State.when_kept, State.raise_kept,
      State.memoryFault_kept, State.banksLoad_kept, State.release_kept]


/-! ### Boundary -/

@[simp] theorem State.takeNewest_kept (s : State) (n : Nat) : (s.takeNewest n).kept = s.kept := by
  unfold State.takeNewest
  simp only [State.kept_mk, State.kept_fold, kept_ite, ite_self, State.latchStore_kept]

@[simp] theorem State.afterCommit_kept (s : State) (old : State) (changed : List Nat) (image : Word) :
      (s.afterCommit old changed image).kept = s.kept := by
  unfold State.afterCommit
  simp only [implies_true, State.forEach_kept, State.when_kept, State.flipLayer_kept, State.dripChanged_kept,
      State.flowLive_kept, State.railCommitted_kept]

@[simp] theorem State.boundaryCommit_kept (s : State) (image : Word) : (s.boundaryCommit image).kept = s.kept := by
  unfold State.boundaryCommit
  simp only [State.commitBoundary_kept, State.afterCommit_kept]

@[simp] theorem State.boundaryHand_kept (s : State) (f : Nat) (image : Word) : (s.boundaryHand f image).kept =
      s.kept := by
  unfold State.boundaryHand
  simp only [kept_ite, ite_self, State.handOver_kept, State.recordDsig_kept, State.holdAfter_kept]

@[simp] theorem State.scanBegin_kept (s : State) (f : Nat) : (s.scanBegin f).kept = s.kept := by
  unfold State.scanBegin
  simp only [State.kept_mk, State.kept_fold, State.setF_kept]

@[simp] theorem State.headBoundary_kept (s : State) (f : Nat) (image : Word) (fetched : List Burst) :
      (s.headBoundary f image fetched).kept = s.kept := by
  unfold State.headBoundary
  simp only [implies_true, State.forEach_kept, State.when_kept, State.scanSigs_kept, State.scanBegin_kept,
      State.boundaryCommit_kept, State.takeNewest_kept, State.cmpBoundary_kept]

@[simp] theorem State.imageBegins_kept (s : State) (f : Nat) (image : Word) (fetched : List Burst) : (s.imageBegins
      f image fetched).kept = s.kept := by
  unfold State.imageBegins
  simp only [State.kept_mk, State.kept_fold, kept_ite, ite_self, State.headBoundary_kept, State.boundaryCommit_kept,
      State.govBoundary_kept, State.keyBoundary_kept, State.copyBoundary_kept, State.geodeBoundary_kept,
      State.boundaryHand_kept, State.encBoundary_kept, State.readyEval_kept, State.copyChanged_kept,
      State.headSync_kept, State.updBoundary_kept]

@[simp] theorem State.setFrame_kept (s : State) (frame : Word) (fb period : Nat) (ofs : List Nat) : (s.setFrame
      frame fb period ofs).kept = s.kept := by
  unfold State.setFrame
  simp only [State.kept_mk, State.kept_fold, State.setF_kept]

@[simp] theorem State.frameCorrect_kept (s : State) (n : Word) : (s.frameCorrect n).kept = s.kept := by
  unfold State.frameCorrect
  simp only [State.kept_mk, State.kept_fold, kept_ite, ite_self, implies_true, State.when_kept, State.shiftTb_kept,
      State.raise_kept]

@[simp] theorem State.shutFrame_kept (s : State) : s.shutFrame.kept = s.kept := by
  unfold State.shutFrame
  simp only [implies_true, State.forEach_kept, State.setShut_kept]

@[simp] theorem State.paceFrame_kept (s : State) : s.paceFrame.kept = s.kept := by
  unfold State.paceFrame
  simp only [State.kept_mk, State.kept_fold, implies_true, State.when_kept, State.raise_kept]

@[simp] theorem State.headFrame_kept (s : State) : s.headFrame.kept = s.kept := by
  unfold State.headFrame
  simp only [implies_true, State.forEach_kept, State.frameCorrect_kept, State.setFrame_kept, State.setF_kept,
      State.shutFrame_kept, State.paceFrame_kept]

@[simp] theorem State.tileFrame_kept (s : State) : s.tileFrame.kept = s.kept := by
  unfold State.tileFrame
  repeat' first | (simp only [State.kept_mk, State.kept_fold, kept_ite, ite_self, State.setFrame_kept,
      State.bump_kept, State.raise_kept]; done) | split

@[simp] theorem State.frameEnds_kept (s : State) : s.frameEnds.kept = s.kept := by
  unfold State.frameEnds
  simp only [implies_true, State.forEach_kept, State.when_kept, State.suspectFrame_kept, State.srFrame_kept,
      State.encFrame_kept, State.redFrame_kept, State.corrFrame_kept, State.railFrame_kept]

@[simp] theorem State.frameSync_kept (s : State) : s.frameSync.kept = s.kept := by
  unfold State.frameSync
  simp only [kept_ite, ite_self, State.headSync_kept]


/-! ### Bus -/

@[simp] theorem State.setPortRate_kept (s : State) (n r : Nat) : (s.setPortRate n r).kept = s.kept := by
  unfold State.setPortRate
  simp only [implies_true, State.forEach_kept, State.setF_kept]

@[simp] theorem State.afterWrite_kept (s : State) (old : State) (a : Nat) : (s.afterWrite old a).kept = s.kept := by
  unfold State.afterWrite
  repeat' first | (simp only [kept_ite, ite_self, State.setPortRate_kept, State.setSrc_kept,
      State.setW_kept]; done) | split

@[simp] theorem State.codeWrite_kept (s : State) (a : Nat) (w : Word) : (s.codeWrite a w).kept = s.kept := by
  unfold State.codeWrite
  repeat' first | (simp only [implies_true, State.when_kept, State.setW_kept, State.afterWrite_kept,
      State.busyWrite_kept]; done) | split | (refine State.when_keeps ?_ (fun _ => ?_))

@[simp] theorem State.stagingWrite_kept (s : State) (a : Nat) (w : Word) : (s.stagingWrite a w).kept = s.kept := by
  unfold State.stagingWrite
  simp only [State.kept_mk, State.kept_fold]

theorem State.mbxWrite_kept (s : State) (who : Initiator) (a : Nat) (w : Word) (t : State)
    (h : s.mbxWrite who a w = some t) : t.kept = s.kept := by
  unfold State.mbxWrite at h
  repeat' first
    | contradiction
    | (cases h; simp only [State.mbxPost_kept, State.mbxCstWrite_kept, State.lockWrite_kept, State.bellRing_kept,
        State.bellClear_kept, State.bellMask_kept])
    | split at h

theorem of_some_kept {s t u : State} {c : Prop} [Decidable c] {o : Option State}
    (h : (if c then some u else o) = some t) (hu : u.kept = s.kept) (ho : o = some t → t.kept = s.kept) : t.kept = s.kept := by
  split at h
  · cases h; exact hu
  · exact ho h

theorem State.ctlWrite_kept (s : State) (who : Initiator) (a : Nat) (w : Word) (t : State)
    (h : s.ctlWrite who a w = some t) : t.kept = s.kept := by
  unfold State.ctlWrite at h
  repeat' first
    | (simp only [State.rstCtlWrite_kept, State.rstWdtWrite_kept, State.cfgCommitWrite_kept, State.laneCtlWrite_kept,
        State.ingCtlWrite_kept, State.cmpCtlWrite_kept, State.coefPut_kept, State.coefCfgWrite_kept,
        State.lmpCtlWrite_kept, State.corrCtlWrite_kept, State.maddrWrite_kept, State.mdataWrite_kept,
        State.railCtlWrite_kept, State.railTctlWrite_kept, State.timCtlWrite_kept, State.redCtlWrite_kept,
        State.secCtlWrite_kept, State.updCtlWrite_kept, State.thmCtlWrite_kept, State.recordWrite_kept, State.faultPost_kept,
        kept_ite, ite_self]; done)
    | (refine of_some_kept h ?_ (fun h => ?_))
  split at h
  · exact State.mbxWrite_kept s who a w t h
  · contradiction

@[simp] theorem State.regWrite_kept (s : State) (who : Initiator) (a : Nat) (w : Word) : (s.regWrite who a w).kept = s.kept := by
  unfold State.regWrite
  split
  · exact State.stagingWrite_kept s a w
  · cases h : s.ctlWrite who a w with
    | none => exact State.codeWrite_kept s a w
    | some t => exact State.ctlWrite_kept s who a w t h

@[simp] theorem State.busWrite_kept (s : State) (who : Initiator) (a : Nat) (w : Word) : (s.busWrite who a w).kept =
      s.kept := by
  unfold State.busWrite
  simp only [kept_ite, ite_self, State.busFault_kept, State.busOk_kept, State.regWrite_kept]

@[simp] theorem State.regRead_kept (s : State) (who : Initiator) (a : Nat) : (s.regRead who a).kept = s.kept := by
  unfold State.regRead
  repeat' first | (simp only [kept_ite, State.traceRead_kept, State.busOk_kept, State.lockRead_kept]; done) | split

@[simp] theorem State.busRead_kept (s : State) (who : Initiator) (a : Nat) : (s.busRead who a).kept = s.kept := by
  unfold State.busRead
  simp only [kept_ite, ite_self, State.busFault_kept, State.busOk_kept, State.regRead_kept]

@[simp] theorem State.access_kept (s : State) (m : MemAccess) : (s.access m).kept = s.kept := by
  unfold State.access
  simp only [kept_ite, ite_self, State.busFault_kept, State.busWrite_kept, State.busRead_kept, State.memAccess_kept]

@[simp] theorem State.keeperWrites_kept (s : State) (l : List RegWrite) : (s.keeperWrites l).kept = s.kept := by
  unfold State.keeperWrites
  simp only [implies_true, State.forEach_kept, State.access_kept]


/-! ### Receive -/

@[simp] theorem State.noteTag_kept (s : State) (h : Hdr) (ok : Bool) : (s.noteTag h ok).kept = s.kept := by
  unfold State.noteTag
  simp only [State.kept_mk, State.kept_fold, kept_ite, ite_self]

@[simp] theorem State.keepPacket_kept (s : State) (n : Nat) (h : Hdr) (p : RxPacket) : (s.keepPacket n h p).kept =
      s.kept := by
  unfold State.keepPacket
  simp only [kept_ite, ite_self, State.bump_kept, State.emit_kept, State.sliceRx_kept]

@[simp] theorem State.keepA_kept (s : State) (n : Nat) (h : Hdr) : (s.keepA n h).kept = s.kept := by
  unfold State.keepA
  simp only [kept_ite, ite_self, State.setF_kept, State.bump_kept]

@[simp] theorem State.dedupPacket_kept (s : State) (n : Nat) (h : Hdr) (p : RxPacket) : (s.dedupPacket n h p).kept =
      s.kept := by
  unfold State.dedupPacket
  repeat' first | (simp only [State.kept_mk, State.kept_fold, kept_ite, State.keepPacket_kept, State.keepA_kept,
      State.bump_kept]; done) | split

@[simp] theorem State.checkPacket_kept (s : State) (n : Nat) (h : Hdr) (p : RxPacket) : (s.checkPacket n h p).kept =
      s.kept := by
  unfold State.checkPacket
  simp only [kept_ite, ite_self, State.bump_kept, State.noteTag_kept, State.authFail_kept, State.dedupPacket_kept]

@[simp] theorem State.packetRx_kept (s : State) (n : Nat) (p : RxPacket) : (s.packetRx n p).kept = s.kept := by
  unfold State.packetRx
  simp only [kept_ite, ite_self, State.setPort_kept, State.endForward_kept, State.bump_kept, State.checkPacket_kept]


/-! ### Mgmt -/

@[simp] theorem State.svcAnswer_kept (s : State) (session : Nat) : (s.svcAnswer session).kept = s.kept := by
  unfold State.svcAnswer
  simp only [State.emit_kept]

@[simp] theorem State.svcRead_kept (s : State) (session : Nat) (a : Word) : (s.svcRead session a).kept = s.kept :=
      by
  unfold State.svcRead
  simp only [State.access_kept, State.svcAnswer_kept]

@[simp] theorem State.sessionOp_kept (s : State) (x : Session) (op : MgmtOp) : (s.sessionOp x op).kept = s.kept :=
      by
  unfold State.sessionOp
  repeat' first | (simp only [kept_ite, ite_self, State.svcRead_kept, State.access_kept, State.svcAnswer_kept,
      State.updFrame_kept, State.verdictRx_kept]; done) | split

@[simp] theorem State.openOp_kept (s : State) (op : MgmtOp) : (s.openOp op).kept = s.kept := by
  unfold State.openOp
  repeat' first | (simp only [kept_ite, ite_self, State.svcRead_kept, State.updFrame_kept]; done) | split

@[simp] theorem State.sessionFrame_kept (s : State) (x : Session) (f : SessionFrame) (op : MgmtOp) : (s.sessionFrame
      x f op).kept = s.kept := by
  unfold State.sessionFrame
  simp only [kept_ite, ite_self, State.setSessions_kept, State.sessionOp_kept, State.sessFail_kept]

@[simp] theorem State.relayAnswer_kept (s : State) (head : BitVec 10) : (s.relayAnswer head).kept = s.kept := by
  unfold State.relayAnswer
  simp only [State.post_kept]

@[simp] theorem State.relayedAccess_kept (s : State) (head : BitVec 10) (op : MgmtOp) : (s.relayedAccess head
      op).kept = s.kept := by
  unfold State.relayedAccess
  repeat' first | (simp only [State.access_kept, State.relayAnswer_kept]; done) | split

@[simp] theorem State.relayOut_kept (s : State) (tile : BitVec 10) (op : MgmtOp) : (s.relayOut tile op).kept =
      s.kept := by
  unfold State.relayOut
  repeat' first | (simp only [kept_ite, ite_self, State.post_kept]; done) | split

@[simp] theorem State.relayed_kept (s : State) (src dst : BitVec 10) (op : MgmtOp) : (s.relayed src dst op).kept =
      s.kept := by
  unfold State.relayed
  repeat' first | (simp only [kept_ite, ite_self, State.emit_kept, State.relayOut_kept,
      State.relayedAccess_kept]; done) | split


end Sys2Proof.Machine
end

