-- ==== Sys2Proof/Laws/Grows.lean ====
section
/-!
SUPPORT. The operations that may blow a fuse: they leave the queue, the time and the key array, and every fuse that was blown stays blown
(R58).
-/

namespace Sys2Proof.Machine

/-- The queue, the time and the key array are as before, and the fuse array has only grown. -/
def State.Grows (s t : State) : Prop := t.pending = s.pending ∧ t.now = s.now ∧ t.kar = s.kar ∧ s.fuses.within t.fuses

theorem Fuses.within_refl (f : Fuses) : f.within f := by
  refine ⟨rfl, rfl, rfl, rfl, rfl, ?_, ?_, ?_, ?_⟩ <;> simp

theorem and_chain {n : Nat} {a b c : BitVec n} (h1 : a &&& b = a) (h2 : b &&& c = b) : a &&& c = a := by
  rw [← h1, BitVec.and_assoc, h2]

theorem Fuses.within_trans {f g h : Fuses} (h1 : f.within g) (h2 : g.within h) : f.within h := by
  obtain ⟨a1, a2, a3, a4, a5, a6, a7, a8, a9⟩ := h1
  obtain ⟨b1, b2, b3, b4, b5, b6, b7, b8, b9⟩ := h2
  exact ⟨b1.trans a1, b2.trans a2, b3.trans a3, b4.trans a4, b5.trans a5, and_chain a6 b6, and_chain a7 b7, and_chain a8 b8,
    and_chain a9 b9⟩

theorem State.Grows.refl (s : State) : s.Grows s := ⟨rfl, rfl, rfl, Fuses.within_refl _⟩

theorem State.Grows.trans {s t u : State} (h1 : s.Grows t) (h2 : t.Grows u) : s.Grows u :=
  ⟨h2.1.trans h1.1, h2.2.1.trans h1.2.1, h2.2.2.1.trans h1.2.2.1, Fuses.within_trans h1.2.2.2 h2.2.2.2⟩

/-- What is kept has not shrunk. -/
theorem State.Grows.of_kept {s t : State} (h : t.kept = s.kept) : s.Grows t := by
  simp only [State.kept, Prod.mk.injEq] at h
  exact ⟨h.1, h.2.1, h.2.2.2, h.2.2.1 ▸ Fuses.within_refl _⟩

theorem State.Grows.ite {s t u : State} {c : Prop} [Decidable c] (h1 : c → s.Grows t) (h2 : ¬c → s.Grows u) :
    s.Grows (if c then t else u) := by
  split
  · next h => exact h1 h
  · next h => exact h2 h

theorem State.Grows.when {s t : State} {c : Bool} {f : State → State} (h : s.Grows t) (hf : ∀ u : State, u.Grows (f u)) :
    s.Grows (t.when c f) := by
  cases c
  · exact h
  · exact h.trans (hf t)

/-- A counter's bits blown up to a version keep the bits that are blown. -/
theorem blown_and (w x : BitVec 64) (c : Prop) [Decidable c] : w &&& (if c then w ||| x else w) = w := by
  split
  · ext i; simp; tauto
  · simp

theorem State.blowRollback_grows (s : State) : s.Grows s.blowRollback := by
  refine ⟨rfl, rfl, rfl, rfl, rfl, rfl, rfl, rfl, blown_and _ _ _, blown_and _ _ _, ?_, ?_⟩
  · show s.fuses.life &&& s.fuses.life = _
    simp
  · show s.fuses.options &&& s.fuses.options = _
    simp

theorem State.blowLife_grows (s : State) (w : BitVec 8) (off : Bool) : s.Grows (s.blowLife w off) := by
  unfold State.blowLife
  extract_lets blow s1
  have h : s.Grows s1 := by
    refine ⟨rfl, rfl, rfl, rfl, rfl, rfl, rfl, ?_, ?_, ?_, ?_, ?_⟩
    · show (if off then s.fuses.options ||| 2 else s.fuses.options).getLsbD 0 = s.fuses.options.getLsbD 0
      cases off <;> simp
    · show s.fuses.fwRollback &&& s.fuses.fwRollback = _
      simp
    · show s.fuses.planRollback &&& s.fuses.planRollback = _
      simp
    · show s.fuses.life &&& (s.fuses.life ||| w) = _
      ext i; simp; tauto
    · show s.fuses.options &&& (if off then s.fuses.options ||| 2 else s.fuses.options) = _
      cases off
      · simp
      · ext i; simp; tauto
  exact h.trans (State.Grows.of_kept ((State.when_kept _ _ _ State.secLoad_kept).trans (State.setF_kept s1 _ _)))

theorem State.confirmed_grows (s : State) : s.Grows s.confirmed := by
  unfold State.confirmed
  extract_lets u s1
  have h1 : s1.kept = s.kept := by rw [State.writeDir_kept, State.kept_mk, State.kept_fold]
  exact ((State.Grows.of_kept h1).trans (State.blowRollback_grows s1)).trans
    (State.Grows.of_kept (by rw [State.raise_kept, State.setF_kept]))

/-! ### The start -/

theorem State.rollbackCheck_grows (s : State) : s.Grows s.rollbackCheck := by
  unfold State.rollbackCheck
  refine State.Grows.ite (fun _ => State.Grows.refl s) (fun _ => ?_)
  extract_lets s1 o below
  exact State.Grows.ite (fun _ => (State.blowRollback_grows s).trans (State.Grows.of_kept (State.writeDir_kept _ _)))
    (fun _ => State.blowRollback_grows s)

theorem State.useBank_grows (s : State) (b : Bool) : s.Grows (s.useBank b) := by
  unfold State.useBank
  extract_lets k bo s1 strap s2 s3 s4 s5 s6
  have h1 : s1.kept = s.kept := by rw [State.kept_mk, State.kept_fold]
  have h4 : s4.kept = s.kept := by
    simp only [s4, s3, s2, State.secLoad_kept, State.planLoad_kept, State.coresStart_kept, State.setF_kept,
      State.setB_kept, h1]
  have h5 : s.Grows s5 := ((State.Grows.of_kept h4).trans (State.Grows.of_kept (State.updLoad_kept s4))).trans
    (State.rollbackCheck_grows _)
  have h6 : s.Grows s6 := h5.trans (State.Grows.of_kept (State.laneControl_kept _ _))
  exact State.Grows.ite (fun _ => h6) (fun _ => h6.trans (State.Grows.of_kept
    (by rw [State.raise_kept, State.tilePorts_kept])))

theorem State.takeBank_grows (s : State) (b : Bool) : s.Grows (s.takeBank b) := by
  unfold State.takeBank
  have h := State.useBank_grows s b
  refine State.Grows.ite (fun _ => State.Grows.ite (fun _ => ?_) (fun _ => ?_)) (fun _ => h)
  · exact h.trans (State.Grows.of_kept (State.raise_kept _ _))
  · exact h.trans (State.Grows.of_kept (State.fallBack_kept _ _))

theorem State.bankFailed_grows (s : State) (b : Bool) (code : Nat) (next : State → State)
    (hn : ∀ u : State, u.Grows (next u)) : s.Grows (s.bankFailed b code next) := by
  unfold State.bankFailed
  refine State.Grows.ite (fun _ => State.Grows.of_kept (State.fallBack_kept _ _)) (fun _ => ?_)
  refine State.Grows.ite (fun _ => State.Grows.of_kept (by rw [State.enterRecovery_kept, State.setF_kept])) (fun _ => ?_)
  exact (State.Grows.of_kept (by rw [State.portsStop_kept, State.raise_kept, State.setB_kept, State.setF_kept])).trans (hn _)

theorem State.tryLast_grows (s : State) (b : Bool) : s.Grows (s.tryLast b) := by
  unfold State.tryLast
  have h := State.Grows.of_kept (State.bankRead_kept s b)
  refine State.Grows.ite (fun _ => h.trans (State.takeBank_grows _ b)) (fun _ => ?_)
  exact (h.trans (State.Grows.of_kept (State.noteRefused_kept _ b _))).trans
    (State.bankFailed_grows _ b _ _ (fun u => State.Grows.refl u))

theorem State.tryBank_grows (s : State) (b : Bool) : s.Grows (s.tryBank b) := by
  unfold State.tryBank
  extract_lets f s1
  have h : s.Grows s1 := State.Grows.of_kept (by simp only [s1, State.bankRead_kept, State.setB_kept])
  refine State.Grows.ite (fun _ => h.trans (State.takeBank_grows s1 b)) (fun _ => ?_)
  exact (h.trans (State.Grows.of_kept (State.noteRefused_kept s1 b _))).trans
    (State.bankFailed_grows _ b _ _ (fun u => State.tryLast_grows u _))

theorem State.startBanks_grows (s : State) : s.Grows s.startBanks := by
  unfold State.startBanks
  split
  · exact State.Grows.of_kept (State.bootStop_kept _ _)
  · extract_lets s1 r starts wdt
    have h : s.Grows s1 := State.Grows.of_kept (State.octal_kept s _)
    refine h.trans ?_
    refine State.Grows.ite (fun _ => ?_) (fun _ => State.Grows.ite (fun _ => ?_) (fun _ => ?_))
    · exact (State.Grows.of_kept (State.writeDir_kept s1 _)).trans (State.tryBank_grows _ _)
    · refine State.Grows.ite (fun _ => State.Grows.of_kept (State.fallBack_kept s1 3)) (fun _ => ?_)
      refine State.Grows.ite (fun _ => State.Grows.of_kept (State.fallBack_kept s1 2)) (fun _ => ?_)
      exact (State.Grows.of_kept (State.countStart_kept s1)).trans (State.tryBank_grows _ _)
    · exact State.Grows.ite (fun _ => State.Grows.of_kept (State.fallBack_kept s1 2))
        (fun _ => State.tryBank_grows s1 _)

theorem State.positionTake_grows (s : State) : s.Grows s.positionTake := by
  unfold State.positionTake
  extract_lets f b
  refine State.Grows.ite (fun _ => ?_) (fun _ => ?_)
  · exact State.Grows.of_kept (by rw [State.release_kept, State.setF_kept, State.kept_mk, State.kept_fold])
  · exact (State.Grows.of_kept (State.setF_kept s _ _)).trans
      (State.bankFailed_grows _ _ _ _ (fun u => State.tryLast_grows u _))

end Sys2Proof.Machine
end

