-- ==== Sys2Proof/Laws/Layout.lean ====
section
/-!
SUPPORT. Laws of the byte layouts: little-endian numbers, and the update directory, whose copies read back as they were
written (R61, R388, R389).
-/

namespace Sys2Proof.Machine

@[simp] theorem bytesLe_length (v n : Nat) : (bytesLe v n).length = n := by
  induction n generalizing v with
  | zero => rfl
  | succ n ih => simp [bytesLe, ih]

@[simp] theorem zeros_length (n : Nat) : (zeros n).length = n := by simp [zeros]

/-- A number read from its own bytes, cut to their width. -/
theorem numLe_bytesLe (v n : Nat) : numLe (bytesLe v n) = v % 256 ^ n := by
  induction n generalizing v with
  | zero => simp [bytesLe, numLe, Nat.mod_one]
  | succ n ih =>
    have h : v % 256 ^ (n + 1) = v % 256 + 256 * (v / 256 % 256 ^ n) := by rw [Nat.pow_succ', Nat.mod_mul]
    simp [bytesLe, numLe, ih, h]

/-- A field that begins where the bytes before it end. -/
theorem fieldAt_append (a b : List Byte) (off n : Nat) (h : a.length ≤ off) : fieldAt (a ++ b) off n = fieldAt b (off - a.length) n := by
  simp [fieldAt, List.drop_append, List.drop_eq_nil_of_le h]

/-- A little-endian field at the front of bytes. -/
theorem fieldAt_bytesLe (v n : Nat) (b : List Byte) : fieldAt (bytesLe v n ++ b) 0 n = v % 256 ^ n := by
  have h := bytesLe_length v n
  simp [fieldAt, numLe_bytesLe]

/-- One byte at the front. -/
theorem fieldAt_byte (x : Byte) (b : List Byte) : fieldAt (x :: b) 0 1 = x.toNat := by simp [fieldAt, numLe]

/-- A field past the first byte. -/
theorem fieldAt_cons (x : Byte) (b : List Byte) (off n : Nat) : fieldAt (x :: b) (off + 1) n = fieldAt b off n := by
  simp [fieldAt]

@[simp] theorem dirBody_length (d : DirCopy) : d.body.length = 60 := by simp [DirCopy.body]

/-- A directory copy reads back as it was written. -/
theorem dirRead_bytes (d : DirCopy) : dirRead d.bytes = some d := by
  have hl : d.bytes.length = 64 := by simp [DirCopy.bytes]
  have hb : d.bytes.take 60 = d.body := by simp [DirCopy.bytes]
  have hc : fieldAt d.bytes 60 4 = (crc32 d.body).toNat := by
    have h := fieldAt_bytesLe (crc32 d.body).toNat 4 []
    have := (crc32 d.body).isLt
    rw [DirCopy.bytes, fieldAt_append _ _ _ _ (by simp)]
    simp at h
    simp [h]
    omega
  have hf : fieldAt d.bytes 0 4 = 0x53524B44 ∧ fieldAt d.bytes 4 4 = d.serial.toNat ∧ fieldAt d.bytes 8 1 = d.active.toNat ∧
      fieldAt d.bytes 9 1 = d.trial.toNat ∧ fieldAt d.bytes 10 1 = d.xclk.toNat ∧ fieldAt d.bytes 11 1 = d.tries.toNat ∧
      fieldAt d.bytes 12 1 = d.wdlim.toNat ∧ fieldAt d.bytes 16 8 = d.pkg.toNat ∧ fieldAt d.bytes 24 8 = d.prev.toNat := by
    have := d.serial.isLt
    have := d.pkg.isLt
    have := d.prev.isLt
    have hx : ∀ b : Bool, b.toNat % 256 = b.toNat := by decide
    simp only [DirCopy.bytes, DirCopy.body, List.append_assoc, List.cons_append, List.nil_append]
    refine ⟨?_, ?_, ?_, ?_, ?_, ?_, ?_, ?_, ?_⟩ <;>
      simp [fieldAt_append, fieldAt_bytesLe, fieldAt_cons, fieldAt_byte, hx] <;> omega
  obtain ⟨h0, h1, h2, h3, h4, h5, h6, h7, h8⟩ := hf
  simp only [dirRead, h0, hl, hb, hc, h1, h2, h3, h4, h5, h6, h7, h8]
  cases d with
  | mk serial active trial xclk tries wdlim pkg prev => cases active <;> cases trial <;> simp

/-- The next serial stands after its own, and not before it. -/
theorem diff32_succ (a : Word) : diff32 (a + 1) a = 1 ∧ diff32 a (a + 1) = -1 := by
  have h : a + 1 - a = 1#32 := by bv_omega
  have k : a - (a + 1) = 0xFFFFFFFF#32 := by bv_omega
  simp [diff32, h, k, toSigned]

/-- The directory in use after a write is what was written, with the next serial (R389). -/
theorem Nvm.dir_writeDir (n : Nvm) (f : DirCopy → DirCopy) : ((n.writeDir f).dir).map (fun p => p.2) =
    some (match n.dir with
      | some (_, d) => { f d with serial := d.serial + 1 }
      | none => { f {} with serial := 1 }) := by
  unfold Nvm.writeDir
  cases h : n.dir with
  | none =>
    unfold Nvm.dir at h
    split at h <;> first | (split at h <;> simp at h) | skip
    all_goals simp_all [Nvm.dir, dirRead_bytes]
  | some p =>
    obtain ⟨b, d⟩ := p
    unfold Nvm.dir at h
    have hs := diff32_succ d.serial
    split at h
    · split at h <;> (simp at h; obtain ⟨rfl, rfl⟩ := h; simp_all [Nvm.dir, dirRead_bytes])
    all_goals simp at h
    all_goals (obtain ⟨rfl, rfl⟩ := h; simp_all [Nvm.dir, dirRead_bytes])

/-- The same of a device's directory. -/
theorem State.dirNow_writeDir (s : State) (f : DirCopy → DirCopy) (h : s.nvm.dir.isSome = true) :
    (s.writeDir f).dirNow = { f s.dirNow with serial := s.dirNow.serial + 1 } := by
  have k := Nvm.dir_writeDir s.nvm f
  obtain ⟨p, hp⟩ := Option.isSome_iff_exists.1 h
  simp only [State.dirNow, State.writeDir, hp] at *
  cases hd : (s.nvm.writeDir f).dir with
  | none => simp [hd] at k
  | some q => simpa [hd] using k

end Sys2Proof.Machine
end

