-- ==== Sys2Proof/Laws/Memory.lean ====
section
/-!
SUPPORT. The memories behind the bus: reading what was written, leaving every other byte, and the canonical form that every
memory operation keeps.
-/

namespace Sys2Proof.Machine

theorem memGet_memPut_self (m : List (Nat × Byte)) (a : Nat) (b : Byte) : memGet (memPut m a b) a = b :=
  tabGet_mapPut_self (fun _ => (0 : Byte)) m a b

theorem memGet_memPut_ne (m : List (Nat × Byte)) {a x : Nat} (b : Byte) (h : x ≠ a) :
    memGet (memPut m a b) x = memGet m x := tabGet_mapPut_ne (fun _ => (0 : Byte)) m b 0 h

theorem memPut_wf (m : List (Nat × Byte)) (a : Nat) (b : Byte) (h : Memory.wf m = true) :
    Memory.wf (memPut m a b) = true := mapWf_mapPut _ m a b h

/-- Outside the bytes written a memory reads as before. -/
theorem memGet_memWrite_outside (n : Nat) (m : List (Nat × Byte)) (a v x : Nat) (h : x < a ∨ a + n ≤ x) :
    memGet (memWrite m a v n) x = memGet m x := by
  induction n generalizing m a v with
  | zero => rfl
  | succ n ih => rw [memWrite, ih _ _ _ (by omega), memGet_memPut_ne _ _ (by omega)]

/-- Byte `i` of a value written is byte `i` of the value. -/
theorem memGet_memWrite_inside (n : Nat) (m : List (Nat × Byte)) (a v i : Nat) (h : i < n) :
    memGet (memWrite m a v n) (a + i) = BitVec.ofNat 8 (v / 256 ^ i) := by
  induction n generalizing m a v i with
  | zero => omega
  | succ n ih =>
    rw [memWrite]
    cases i with
    | zero => rw [memGet_memWrite_outside _ _ _ _ _ (by omega), Nat.add_zero, memGet_memPut_self]; simp
    | succ i =>
      rw [show a + (i + 1) = a + 1 + i by omega, ih _ _ _ _ (by omega), Nat.pow_succ, Nat.mul_comm, Nat.div_div_eq_div_mul]

/-- Reading back what was written gives the value, cut to the width. -/
theorem memRead_memWrite (n : Nat) (m : List (Nat × Byte)) (a v : Nat) :
    memRead (memWrite m a v n) a n = v % 256 ^ n := by
  suffices h : ∀ k l b w, (∀ i, i < k → memGet l (b + i) = BitVec.ofNat 8 (w / 256 ^ i)) → memRead l b k = w % 256 ^ k from
    h n _ a v (fun i hi => memGet_memWrite_inside n m a v i hi)
  intro k
  induction k with
  | zero => intro l b w _; simp [memRead, Nat.mod_one]
  | succ k ih =>
    intro l b w h
    have h0 := h 0 (by omega)
    have hr : memRead l (b + 1) k = (w / 256) % 256 ^ k := by
      apply ih
      intro i hi
      have := h (i + 1) (by omega)
      rw [show b + (i + 1) = b + 1 + i by omega] at this
      rw [this, Nat.pow_succ, Nat.mul_comm, Nat.div_div_eq_div_mul]
    rw [memRead, hr, show memGet l b = BitVec.ofNat 8 w by simpa using h0]
    have hb : (BitVec.ofNat 8 w).toNat = w % 256 := by simp
    rw [hb, Nat.pow_succ, Nat.mul_comm (256 ^ k) 256, Nat.mod_mul]

/-- A wide write keeps the canonical form. -/
theorem memWrite_wf (n : Nat) (m : List (Nat × Byte)) (a v : Nat) (h : Memory.wf m = true) :
    Memory.wf (memWrite m a v n) = true := by
  induction n generalizing m a v with
  | zero => exact h
  | succ n ih => exact ih _ _ _ (memPut_wf m a _ h)

/-! ### Cuts and runs of bytes -/

theorem memGet_append (l r : List (Nat × Byte)) (x : Nat) (h : ∀ c ∈ l, c.1 ≠ x) : memGet (l ++ r) x = memGet r x := by
  induction l with
  | nil => rfl
  | cons c t ih =>
    have hc : c.1 ≠ x := h c (by simp)
    have := ih (fun d hd => h d (by simp [hd]))
    simpa [memGet, tabGet, hc] using this

theorem memGet_append_left (l r : List (Nat × Byte)) (x : Nat) (h : ∀ c ∈ r, c.1 ≠ x) : memGet (l ++ r) x = memGet l x := by
  induction l with
  | nil => exact tabGet_absent 0 r x h
  | cons c t ih =>
    by_cases hc : c.1 = x
    · simp [memGet, tabGet, hc]
    · simpa [memGet, tabGet, hc] using ih

theorem memGet_filter (p : Nat → Bool) (m : List (Nat × Byte)) (x : Nat) (h : p x = true) :
    memGet (m.filter (fun c => p c.1)) x = memGet m x := by
  induction m with
  | nil => rfl
  | cons c t ih =>
    by_cases hc : c.1 = x
    · simp [memGet, tabGet, hc, h]
    · cases hp : p c.1
      · simpa [List.filter_cons, memGet, tabGet, hc, hp] using ih
      · simpa [List.filter_cons, memGet, tabGet, hc, hp] using ih

theorem memCells_zero (a : Nat) (t : List Byte) : memCells a (0 :: t) = memCells (a + 1) t := by rw [memCells, if_pos rfl]

theorem memCells_ne (a : Nat) {b : Byte} (t : List Byte) (h : b ≠ 0) : memCells a (b :: t) = (a, b) :: memCells (a + 1) t := by
  rw [memCells, if_neg h]

theorem memCells_keys (a : Nat) (bytes : List Byte) : ∀ c ∈ memCells a bytes, a ≤ c.1 ∧ c.1 < a + bytes.length := by
  induction bytes generalizing a with
  | nil => simp [memCells]
  | cons b t ih =>
    intro c hc
    have key : c = (a, b) ∨ c ∈ memCells (a + 1) t := by
      by_cases hb : b = 0
      · subst hb; exact Or.inr (memCells_zero a t ▸ hc)
      · rw [memCells_ne a t hb] at hc; exact List.mem_cons.1 hc
    rcases key with rfl | h
    · simp
    · have := ih (a + 1) c h
      simp only [List.length_cons]
      omega

theorem memGet_memCells (bytes : List Byte) (a i : Nat) (h : i < bytes.length) :
    memGet (memCells a bytes) (a + i) = bytes[i] := by
  induction bytes generalizing a i with
  | nil => simp at h
  | cons b t ih =>
    have later : ∀ c ∈ memCells (a + 1) t, c.1 ≠ a := fun c hc => by have := memCells_keys _ _ c hc; omega
    cases i with
    | zero =>
      by_cases hb : b = 0
      · subst hb; rw [memCells_zero]; exact tabGet_absent 0 _ a later
      · rw [memCells_ne a t hb]; simp [memGet, tabGet]
    | succ i =>
      have := ih (a + 1) i (by simpa using h)
      rw [show a + 1 + i = a + (i + 1) by omega] at this
      by_cases hb : b = 0
      · subst hb; rw [memCells_zero]; exact this
      · rw [memCells_ne a t hb]; simpa [memGet, tabGet] using this

/-- Outside the bytes of a run a memory reads as before. -/
theorem memGet_memPuts_outside (m : List (Nat × Byte)) (a : Nat) (bytes : List Byte) (x : Nat)
    (h : x < a ∨ a + bytes.length ≤ x) : memGet (memPuts m a bytes) x = memGet m x := by
  have cells : ∀ c ∈ memCells a bytes, c.1 ≠ x := fun c hc => by have := memCells_keys _ _ c hc; omega
  rw [memPuts]
  rcases h with h | h
  · rw [memGet_append_left, memGet_filter (fun k => decide (k < a)) m x (by simpa using h)]
    intro c hc
    rcases List.mem_append.1 hc with hc | hc
    · exact cells c hc
    · have := (List.mem_filter.1 hc).2
      simp only [decide_eq_true_eq] at this
      omega
  · rw [memGet_append, memGet_append _ _ _ cells,
      memGet_filter (fun k => decide (a + bytes.length ≤ k)) m x (by simpa using h)]
    intro c hc
    have := (List.mem_filter.1 hc).2
    simp only [decide_eq_true_eq] at this
    omega

/-- Byte `i` of a run reads as it was written. -/
theorem memGet_memPuts_inside (m : List (Nat × Byte)) (a : Nat) (bytes : List Byte) (i : Nat) (h : i < bytes.length) :
    memGet (memPuts m a bytes) (a + i) = bytes[i] := by
  rw [memPuts, memGet_append, memGet_append_left, memGet_memCells bytes a i h]
  · intro c hc
    have := (List.mem_filter.1 hc).2
    simp only [decide_eq_true_eq] at this
    omega
  · intro c hc
    have := (List.mem_filter.1 hc).2
    simp only [decide_eq_true_eq] at this
    omega

theorem wfFrom_filter (p : Nat × Byte → Bool) (m : List (Nat × Byte)) (lo : Nat)
    (h : mapWfFrom (fun _ => (0 : Byte)) lo m = true) : mapWfFrom (fun _ => (0 : Byte)) lo (m.filter p) = true := by
  induction m generalizing lo with
  | nil => rfl
  | cons c t ih =>
    obtain ⟨k, v⟩ := c
    simp only [mapWfFrom, Bool.and_eq_true, decide_eq_true_eq] at h
    cases hp : p (k, v)
    · simp only [List.filter_cons, hp]
      exact mapWfFrom_mono _ _ (by omega) (ih (k + 1) h.2)
    · simp only [List.filter_cons, hp, if_true, mapWfFrom, Bool.and_eq_true, decide_eq_true_eq]
      exact ⟨h.1, ih (k + 1) h.2⟩

theorem wfFrom_append (l r : List (Nat × Byte)) (lo mid : Nat) (hl : mapWfFrom (fun _ => (0 : Byte)) lo l = true)
    (hm : ∀ c ∈ l, c.1 < mid) (hlo : lo ≤ mid) (hr : mapWfFrom (fun _ => (0 : Byte)) mid r = true) :
    mapWfFrom (fun _ => (0 : Byte)) lo (l ++ r) = true := by
  induction l generalizing lo with
  | nil => exact mapWfFrom_mono _ _ hlo hr
  | cons c t ih =>
    obtain ⟨k, v⟩ := c
    simp only [mapWfFrom, Bool.and_eq_true, decide_eq_true_eq] at hl
    simp only [List.cons_append, mapWfFrom, Bool.and_eq_true, decide_eq_true_eq]
    have hk : k < mid := hm (k, v) (by simp)
    exact ⟨hl.1, ih (k + 1) hl.2 (fun d hd => hm d (by simp [hd])) (by omega)⟩

theorem wfFrom_raise (m : List (Nat × Byte)) (lo hi : Nat) (h : mapWfFrom (fun _ => (0 : Byte)) lo m = true)
    (hk : ∀ c ∈ m, hi ≤ c.1) : mapWfFrom (fun _ => (0 : Byte)) hi m = true := by
  cases m with
  | nil => rfl
  | cons c t =>
    obtain ⟨k, v⟩ := c
    simp only [mapWfFrom, Bool.and_eq_true, decide_eq_true_eq] at h ⊢
    exact ⟨⟨hk (k, v) (by simp), h.1.2⟩, h.2⟩

theorem wfFrom_memCells (bytes : List Byte) (a : Nat) : mapWfFrom (fun _ => (0 : Byte)) a (memCells a bytes) = true := by
  induction bytes generalizing a with
  | nil => rfl
  | cons b t ih =>
    by_cases hb : b = 0
    · subst hb; rw [memCells_zero]; exact mapWfFrom_mono _ _ (Nat.le_succ a) (ih (a + 1))
    · rw [memCells_ne a t hb]
      simp only [mapWfFrom, Bool.and_eq_true, decide_eq_true_eq]
      exact ⟨⟨le_refl a, hb⟩, ih (a + 1)⟩

/-- A cut keeps the canonical form. -/
theorem filter_wf (p : Nat × Byte → Bool) (m : List (Nat × Byte)) (h : Memory.wf m = true) :
    Memory.wf (m.filter p) = true := wfFrom_filter p m 0 h

/-- Writing a run of bytes keeps the canonical form. -/
theorem memPuts_wf (m : List (Nat × Byte)) (a : Nat) (bytes : List Byte) (h : Memory.wf m = true) :
    Memory.wf (memPuts m a bytes) = true := by
  refine wfFrom_append _ _ 0 a (wfFrom_filter _ m 0 h) ?_ (Nat.zero_le _) ?_
  · intro c hc
    have := (List.mem_filter.1 hc).2
    simpa using this
  · refine wfFrom_append _ _ a (a + bytes.length) (wfFrom_memCells bytes a) (fun c hc => (memCells_keys _ _ c hc).2) (by omega) ?_
    refine wfFrom_raise _ 0 _ (wfFrom_filter _ m 0 h) ?_
    intro c hc
    have := (List.mem_filter.1 hc).2
    simpa using this

/-- The memories of the device after reset are canonical. -/
theorem reset_memory_wf : Memory.wf State.reset.core.mem = true ∧ Memory.wf State.reset.smp.staging = true := ⟨rfl, rfl⟩

end Sys2Proof.Machine
end

