-- ==== Sys2Proof/Tests/Slice0.lean ====
section
/-!
SUPPORT. Tests of the model on small states: what the commands do on values that the spec works out or fixes, and for each
statement of the certificates a state and operands that meet its hypotheses (`wit_…`); operands that `WellFormed` refuses
(`ill_…`).
-/

namespace Sys2Proof.Tests

open Sys2Proof.Machine

set_option maxRecDepth 100000
-- The theorems are checked one after the other: many of them that run at once need more threads than the memory allows.
set_option Elab.async false

/-- The state after reset with some fields of live registers set. -/
def setAll (l : List (Fld × Nat)) (s : State) : State := l.foldl (fun t p => t.setF p.1 p.2) s

/-- A device whose keeper runs, with some fields set. -/
def runS (l : List (Fld × Nat)) : State :=
  setAll ((F.CLK_STAT_SYS_LOCK, 1) :: l) { State.reset with pwr := { phase := .run, wdtArmed := true, txIdle := false } }

/-- A released Tile. -/
def tileS (l : List (Fld × Nat)) : State := { runS ((F.BOOT_STAT_RELEASED, 1) :: l) with boot := { loaded := true } }

/-- A released Head. -/
def headS (l : List (Fld × Nat)) : State :=
  { runS ((F.BOOT_STAT_RELEASED, 1) :: (F.SUP_STAT_ROLE, 1) :: (F.BOOT_STAT_ROLE_PLAN, 1) :: l) with boot := { loaded := true } }

/-- A device in recovery mode. -/
def recoS (l : List (Fld × Nat)) : State := runS ((F.BOOT_STAT_RECOVERY, 1) :: l)

/-- The state that a command leads to. -/
def after (c : Instr) (s : State) : State :=
  match exec c s with
  | .next t => t
  | _ => State.reset

/-- A save that runs. -/
def savingS (kind : SaveKind) (rows : List (Nat × Nat)) : State :=
  let s := tileS [(F.SMP_STAT_STATE, 3)]
  { s with smp := { s.smp with save := some { kind := kind, rows := rows } } }


/-! ### Keys and certificates of the tests: the root key's private half is 5, that of certificate 1 is 7 -/

/-- The root public key. -/
def rootKey : List Byte := bytesBe 0x411de24a2c251c777573cac5ea025e467f208e51dbff98fc54f6661cbe56583b037882f4a1ca297e60abcdbc3836d84bc8fa696c77440f92d0f5837e90a00e7c5284b447754d5dee88c986533b6901aeb3177686d0ae8fb33184414abe6c1713a 97

/-- Certificate 1: every role, limited to wall 1, signed by the root key. -/
def cert1 : List Byte := bytesBe 0x524543470100ff0301000000000000000000000000000000000000000000000004283c1d7365ce4788f29f8ebf234edffead6fe997fbea5ffa2d58cc9dfa7b1c508b05526f55b9ebb2040f05b48fb6d0e19475c99061e41b88ba52efdb8c1690471a61d867ed799729d9c92cd01dbd225630d84ede32a78f9e64664cdac512ef8c0000000000000000000000000000000000000000000000000000000000000031c80005c7e5d7020d582650aebb08b4a66d56d340f2a4be06cd2d2010399dcb987ddc5f7e3c796414fa6f60d4417a075c80b19856d99820c7f078be941eb275cd052d9f72e95fd4ad1353b256d5a68aebb656b2a0a0d95e10ae0c1a00d3f740 256

/-- Certificate 2, of the key 8: management and debug, limited to serial 9. -/
def cert2 : List Byte := bytesBe 0x5245434702002002000000000000000009000000000000000000000000000000041692778ea596e0be75114297a6fa383445bf227fbe58190a900c3c73256f11fb5a3258d6f403d5ece6e9b269d822c87ddcd2365700d4106a835388ba3db8fd0e22554adc6d521cd4bd1c30c2ec0eec196bade1e9cdd1708d6f6abfa4022b0ad20000000000000000000000000000000000000000000000000000000000000031c80005c7e5d7020d582650aebb08b4a66d56d340f2a4be06cd2d2010399dcb987ddc5f7e3c796414fa6f60d4417a0746b94fb41778fb895a8e12b7cd8679709137ea12f1f663ec33b023846a696e95e7c8179a710b5ae0921bdb19ddd9f206 256

/-- The device certificate of serial 9, of the key 11, signed under certificate 1. -/
def cert9 : List Byte := bytesBe 0x52454347ff01000000000000000000000900000000000000000000000000000004099056e27da7b998da1eeec2904816c57fe935ed5837c37456c9fd14892d3f8c4749b66e3afb81d626356f3b55b4ddd82e4c0c234e30ab96688505544ac5e0396fc4eed8dfc363fd43ff93f41b52a3255466d51263aaff357d5dba8138c5e0bb0000000000000000000000000000000000000000000000000000000000000031c80005c7e5d7020d582650aebb08b4a66d56d340f2a4be06cd2d2010399dcb987ddc5f7e3c796414fa6f60d4417a07733ac869b40f75ca3ca9bd9bbea8792188dc8a37c7d41bb9d9f42fb3129ace63e590264aad0289b0a89730b3b11c8e6b 256

/-- The certificate table. -/
def certs1 : CertTable := { root := rootKey, certs := [cert1, cert2] }

/-- The fuses of the device with serial 9. -/
def fuses1 : Fuses := { serial := 9, rootDigest := 0xb6ad1a858cfb19ac6545fdbc7e9b490699f38a899118e50026d23d22de46a9810e1b99a888199159e05113f3d9488c1c#384 }

/-- The firmware that carries that table. -/
def fw1 : FwImage :=
  { headerOk := true, length := 3, body := [1, 2, 3], digest := 0x86229dc6d2ffbeac7380744154aa700291c064352a0dbdc77b9ed3f2c8e1dac4dc325867d39ddff1d2629b7a393d47f6#384, certs := certs1, iface := 1,
    sign := { signer := 1, sig := bytesBe 0x31c80005c7e5d7020d582650aebb08b4a66d56d340f2a4be06cd2d2010399dcb987ddc5f7e3c796414fa6f60d4417a07115c44a79507b6eac087aedcda31e1d2b0bc392894afa21552c8c403e2fbae0b10f5e5fb915ef01069dcaf7cdc78d3e8 96 } }

/-- A state of the device with that firmware and plan wall 1. -/
def keyedS (s : State) : State :=
  { s with fuses := fuses1, shadow := fuses1, boot := { s.boot with fw := fw1 }, plan := { s.plan with wall := { s.plan.wall with id := 1 } } }

/-! ### Supplies, power-on reset, clocks, resets (Obligations.SuppliesPinAndHoldUpCapacitor, ClocksStartAndAreLost) -/

theorem wit_supply_before_release :
    let s := runS []
    s.pwr.phase ≠ .por ∧ s.pwr.phase ≠ .lossSave ∧ s.needsSupply .vcore = true ∧ s.saving = false ∧ s.released = false ∧
      (after (.supplyLeavesRange .vcore) s).pwr.phase = .por ∧
      (after (.supplyLeavesRange .vcore) s).getF F.SUP_STAT_VCORE_OK = 0 := by decide
theorem wit_supply_after_release :
    let s := tileS []
    s.pwr.phase ≠ .por ∧ s.pwr.phase ≠ .lossSave ∧ s.needsSupply .vio33 = true ∧ s.saving = false ∧ s.released = true ∧
      (after (.supplyLeavesRange .vio33) s).pwr.phase = .lossSave ∧
      (after (.supplyLeavesRange .vio33) s).getF F.LMP_STAT_STATE = 3 ∧
      (after (.supplyLeavesRange .vio33) s).getF F.SUP_EVT_DIP = 32 := by decide
theorem wit_supply_not_needed :
    let s := tileS []
    let l : State := { savingS .loss [(0, 0)] with pwr := { phase := .lossSave } }
    l.pwr.phase = .lossSave ∧ l.needsSupply .vcore = true ∧ l.lossSaving = true ∧ (after (.supplyReturns .vcore) l).smp.loss.flags = 4 ∧
    (after (.supplyLeavesRange .vcore) l).smp.loss.dip = 1 ∧ s.pwr.phase ≠ .por ∧ s.needsSupply .vddq = false ∧
      (after (.supplyLeavesRange .vddq) s).getF F.SUP_EVT_DIP = 64 ∧ (after (.supplyReturns .vddq) s).getF F.SUP_STAT_VDDQ_OK = 1 := by
  decide

theorem wit_porst :
    1000 ≤ 1000 ∧ (tileS []).saving = false ∧ (after (.porstNLow 1000) (tileS [])).pwr.phase = .por ∧
      (savingS .loss [(0, 0)]).saving = true ∧ (after (.porstNLow 1000) (savingS .loss [(0, 0)])).pwr.porAfterRow = true ∧
      (after (.porstNLow 99) (tileS [])).pwr.phase = .run := by decide
theorem wit_ckeep :
    (after (.ckeepLow 4499) (tileS [])).getF F.SUP_STAT_CKEEP_MV = 4499 ∧
      (after (.ckeepLow 4499) (tileS [])).getF F.SUP_EVT_CKEEP_LOW = 1 ∧
      (after (.ckeepCharged 4500) (tileS [])).getF F.SUP_STAT_CKEEP_OK = 1 := by decide
theorem wit_powerOnResetEnd :
    let s := State.reset.setF F.SUP_STAT_CKEEP_OK 1
    s.pwr.phase = .por ∧ s.getW A.SUP_STAT &&& 0x1BF = 0x1BF ∧ s.pwr.porstLow = false ∧
      (after (.powerOnResetEnd true) s).getF F.SUP_STAT_ROLE = 1 ∧ (after (.powerOnResetEnd true) s).pwr.phase = .sysPll := by
  decide

theorem wit_syspll :
    let s : State := { State.reset with pwr := { phase := .sysPll } }
    s.pwr.phase = .sysPll ∧ (after .syspllLock s).running = true ∧ (after .syspllLock s).pwr.wdtMs = 2000 ∧
      (after .syspllLockTimeout s).pwr.phase = .noRef ∧ (after .refclkRetry (after .syspllLockTimeout s)).pwr.phase = .sysPll := by
  decide
theorem wit_plls :
    (tileS [(F.CLK_STAT_PORT_LOCK, 128)]).bit F.CLK_STAT_PORT_LOCK 7 = true ∧
      (after (.portPllUnlock 7) (tileS [(F.CLK_STAT_PORT_LOCK, 129)])).getF F.CLK_STAT_PORT_LOCK = 1 ∧
      (tileS [(F.CLK_STAT_VID_LOCK, 1)]).flag F.CLK_STAT_VID_LOCK = true ∧
      (after .vpllUnlock (tileS [(F.CLK_STAT_VID_LOCK, 1)])).getF F.CLK_EVT_VID_UNLOCK = 1 ∧
      (tileS []).running = true ∧ (after .vpllRelock (tileS [])).getF F.CLK_STAT_VID_LOCK = 1 ∧
      (tileS [(F.CLK_STAT_MEM_LOCK, 1)]).isHead = false ∧ (tileS [(F.CLK_STAT_MEM_LOCK, 1)]).flag F.CLK_STAT_MEM_LOCK = true ∧
      (after .mpllUnlock (tileS [(F.CLK_STAT_MEM_LOCK, 1)])).getF F.CLK_EVT_MEM_UNLOCK = 1 := by
  decide

/-! ### Obligations.ResetRegistersNeedKeeperAndKey, ResetsAreRequested, CoreResetAndPendingMessages -/

theorem wit_reset_keys :
    (tileS []).running = true ∧ Initiator.service ≠ .keeper ∧ (0xD5E8 : BitVec 16) ≠ 0xD5E7 ∧
      (after (.deviceResetRequest .service 0xD5E7) (tileS [])).bus = ⟨0, true⟩ ∧
      (after (.coreResetRequest .a0 0xD5E7 true true) (tileS [])).getW A.CORE_FADDR = 0x40030004 ∧
      (after (.watchdogKick .a1 0xC0DE) (tileS [])).bus = ⟨0, true⟩ ∧
      (after (.registerWrite .service 0x40030008 .b32 0xC0DE) (tileS [])).bus = ⟨0, true⟩ ∧
      (after (.deviceResetRequest .keeper 0xD5E8) (tileS [])).smp.save = none ∧
      F.RST_CTL_KEY.of 0xD5E80001 ≠ 0xD5E7 ∧
      (after (.registerWrite .keeper 0x40030004 .b32 0xD5E80001) (tileS [])).bus = ⟨0, false⟩ := by decide
theorem wit_resets :
    (tileS []).pwr.wdtArmed = true ∧ (tileS []).saving = false ∧ (tileS []).pwr.phase ≠ .por ∧ (tileS []).running = true ∧
      (after .watchdogExpiry (tileS [])).getF F.RST_CAUSE_WDT_COUNT = 1 ∧
      (after .watchdogExpiry (tileS [])).getF F.SMP_STAT_STATE = 3 ∧ (tileS []).keeperKicks = false ∧
      (recoS []).keeperKicks = true ∧ (after .watchdogExpiry (recoS [])).smp.save = none ∧
      (after .watchdogExpiry (savingS .loss [(0, 0)])).getF F.RST_CAUSE_WDT = 1 ∧
      (after (.deviceResetRequest .keeper 0xD5E7) (savingS .loss [(0, 0)])).getF F.RST_CAUSE_SOFT = 1 ∧
      (after (.deviceResetRequest .keeper 0xD5E7) (tileS [])).smp.loss.cause = 3 ∧
      (after .syspllUnlock (tileS [])).getF F.RST_CAUSE_SYSCLK = 1 ∧
      (savingS .loss [(0, 0)]).pwr.wdtArmed = true ∧ (savingS .loss [(0, 0)]).saving = true ∧
      (after (.watchdogKick .keeper 0xC0DE) { tileS [] with now := 7 }).pwr.wdtAt = 7 := by decide

theorem wit_core_reset :
    let s := tileS [(F.CORE_STAT_A0, 1), (F.CORE_STAT_A1, 1), (F.MBX_CCFG_RECEIVER 15, 1), (F.MBX_CST_FULL 15, 1),
      (F.MBX_CCFG_RECEIVER 0, 0), (F.MBX_CST_FULL 0, 1), (F.MBX_CST_LASTSND 0, 1), (F.MBX_LOCK_HELD 0, 1), (F.MBX_LOCK_HOLDER 0, 2)]
    let t := after (.coreResetRequest .keeper 0xD5E7 true false) s
    s.running = true ∧ s.getF F.CORE_STAT_A0 ≠ 0 ∧ s.getF F.CORE_STAT_A1 ≠ 0 ∧ s.flag (F.MBX_CST_FULL 15) = true ∧
      s.flag (F.MBX_CST_FULL 0) = true ∧ s.flag (F.MBX_LOCK_HELD 0) = true ∧ t.getF (F.MBX_CST_FULL 15) = 0 ∧
      t.getF (F.MBX_CST_LOST 15) = 1 ∧ t.getF (F.MBX_CST_FULL 0) = 1 ∧ t.getF (F.MBX_CST_SNDRST 0) = 1 ∧
      t.getF (F.MBX_LOCK_HELD 0) = 1 ∧
      (after (.coreResetRequest .keeper 0xD5E7 false true) s).getF (F.MBX_LOCK_HELD 0) = 0 := by decide

/-! ### Obligations.SaveEngineFaultRecordAndRecordWrites -/

theorem wit_rows :
    (savingS .loss [(0, 0), (1, 1)]).smp.save = some { kind := .loss, rows := [(0, 0), (1, 1)] } ∧
      (savingS .loss [(0, 0), (1, 1)]).pwr.porAfterRow = false ∧
      (after (.sumpRowWritten 3000) (savingS .loss [(0, 0), (1, 1)])).smp.save = some { kind := .loss, rows := [(1, 1)], done := 1 } ∧
      newestIsA (savingS .loss [(0, 0), (1, 1)]).smp 0 = false ∧
      (savingS .loss [(0, 0), (1, 1)]).upd.confirming = false ∧
      (after (.sumpRowWritten 3000) (savingS .loss [(0, 0)])).pwr.phase = .por ∧
      (after (.sumpRowWritten 3000) (savingS (.reset false) [(0, 0)])).getF F.SMP_STAT_STATE = 0 ∧
      (after (.sumpRowWritten 3000) (savingS (.reset false) [(0, 0)])).pwr.phase = .run ∧
      (after (.sumpRowWritten 3000) (savingS (.record 1) [(1, 1)])).getF F.SMP_EVT_WRITTEN = 1 ∧
      (after (.sumpRowWritten 2999) (savingS .loss [(0, 0)])).smp.lastCut = true := by decide +kernel
theorem wit_row_after_porst :
    let s : State := { savingS .loss [(0, 0), (1, 1)] with pwr := { (tileS []).pwr with porAfterRow := true } }
    s.pwr.porAfterRow = true ∧ (after (.sumpRowWritten 3000) s).pwr.phase = .por := by decide +kernel
theorem wit_faults :
    let s := tileS []
    let p : State := { s with smp := { s.smp with posts := [31] } }
    s.running = true ∧ s.smp.save = none ∧ s.smp.posts.contains 31 = false ∧ p.smp.posts.contains 31 = true ∧
      (after (.recordWrite .keeper 4) s).getF F.SMP_STAT_STATE = 2 ∧
      (after (.faultPost .keeper (BitVec.ofNat 32 (2 ^ 31))) s).smp.posts = [31] ∧
      (after (.faultPost .keeper (BitVec.ofNat 32 (2 ^ 31))) p).getF F.SMP_EVT_FPOST_IGN = 1 ∧
      (after .faultDrain p).smp.ringNext = 1 ∧ s.pwr.phase ≠ .por ∧ s.boot.sumpDone = false ∧
      (after .sumpFillDone s).getF F.SMP_STAT_RECBAD = 31 := by decide +kernel
theorem wit_sump_writers : (tileS []).mayWrite .keeper A.SMP_CTL ∧ (tileS []).mayWrite .keeper A.SMP_FPOST := by
  unfold State.mayWrite; decide

/-! ### Obligations.StartLoadsABankBringsUpMemoryAndReleases -/

/-- A plan that passes every check of R66. -/
def plan0 : Plan :=
  { lamp := { frameTicks := 4166666, delayNs := [2000] }, ingest := { htotal := 2200, vtotal := 1125 }, corr := { probeOffset := 1000000 } }

/-- The survey image of that plan for wall 1, with one section. -/
def image0 : PlanImage :=
  { header := bytesLe 0x53555256 4 ++ bytesLe 3 2 ++ bytesLe 1 2 ++ bytesLe 1 8 ++ bytesLe 5 4 ++ zeros 8 ++ bytesLe 4416 4 ++
      bytesLe 0 2 ++ bytesLe 9 2 ++ zeros 4060
    table := [{ offset := 4160, length := 1, digest := 0xbec021b4f368e3069134e012c2b4307083d3a9bdd206e24e5f0d86e13d6636655933ec2b413465966817a9c208a11717#384 }]
    bodies := [[0]], plan := plan0, sign := { signer := 1, sig := bytesBe 0x31c80005c7e5d7020d582650aebb08b4a66d56d340f2a4be06cd2d2010399dcb987ddc5f7e3c796414fa6f60d4417a07daef1b3d3f92905d318d79728e502673f04982d6c9eca9290fe81ba83972f85f430a8fd5b47e10316e91ab68c20a3d59 96 } }

/-- An NVM whose bank 0 holds that plan and a firmware. -/
def nvm0 : Nvm :=
  { answers := true, mbit := 512, dirA := ({ serial := 1 } : DirCopy).bytes, bank0 := { fw := fw1, image := image0 } }

/-- A device ready to load. -/
def startS (l : List (Fld × Nat)) : State := { runS l with boot := { fusesDone := true, sumpDone := true } }

theorem wit_load :
    let s := startS []
    s.running = true ∧ s.boot.fusesDone = true ∧ s.boot.sumpDone = true ∧ s.boot.fuseBad = false ∧ s.boot.loaded = false ∧
      s.recovering = false ∧ s.saving = false ∧ nvm0.present = true ∧
      nvm0.dir.map (fun p => p.2) = some { serial := 1 } ∧ ((none : Option Nvm).getD nvm0).bank false = nvm0.bank0 ∧
      s.nvm.present = false ∧ (after (.firmwareAndPlanLoad none) s).getF F.BOOT_FAULT_FIRST = 0x10 := by decide +kernel
theorem wit_load_firmware : fwFault fuses1 image0.wallId fw1 = 0 := by decide +kernel
theorem wit_load_plan_signed : image0.sigOk fuses1 fw1 = true := by decide +kernel
theorem wit_load_plan :
    image0.headerOk = true ∧ image0.rollback = 0 ∧ fw1.iface = 1 ∧ image0.ifaceLo = 0 ∧ image0.ifaceHi = 9 ∧
      image0.sectionsOk = true := by decide +kernel
/-- The device with that NVM. -/
def loadS : State := { startS [] with shadow := fuses1, nvm := nvm0 }
theorem wit_load_fault : loadS.paramFault false fw1 image0 = 0 := by
  decide +kernel
theorem wit_fuses :
    let s := runS []
    s.pwr.phase ≠ .por ∧ s.boot.fusesDone = false ∧
      (after (.fuseSensingDone { corrected := 16, uncorrectable := false }) s).getF F.BOOT_STAT_FUSE_CORR = 15 ∧
      (after (.fuseSensingDone { corrected := 0, uncorrectable := true }) s).getF F.BOOT_FAULT_FIRST = 1 := by decide
theorem wit_memory :
    let s := { headS [(F.BOOT_STAT_RELEASED, 0)] with boot := { loaded := true } }
    let m := { headS [(F.BOOT_STAT_RELEASED, 0), (F.SUP_STAT_VDDQ_OK, 1)] with boot := { loaded := true, memFault := true } }
    s.memoryDue = true ∧ s.boot.memFault = false ∧ s.flag F.SUP_STAT_VDDQ_OK = false ∧
      s.flag F.BOOT_STAT_ALT_BANK = false ∧ s.getF F.BOOT_FAULT_FIRST = 0 ∧
      (after (.memoryBringUp true) s).getF F.BOOT_FAULT_FIRST = 0x0E ∧
      (after (.memoryBringUp false) (s.setF F.SUP_STAT_VDDQ_OK 1)).getF F.BOOT_FAULT_FIRST = 0x0F ∧
      m.memoryDue = true ∧ m.boot.memFault = true ∧ m.flag F.SUP_STAT_VDDQ_OK = true ∧
      (after (.memoryHoldRetry true) m).released = true ∧ (after (.memoryHoldRetry true) m).getF F.BOOT_STAT_STEP = 4 := by decide
theorem wit_position :
    let p : PositionSection := { chain := 7, pos := 24 }
    let e : SectionEntry := { owner := .tile 0 7 24, length := 1, digest := 0xbec021b4f368e3069134e012c2b4307083d3a9bdd206e24e5f0d86e13d6636655933ec2b413465966817a9c208a11717#384 }
    let s : State := { tileS [(F.BOOT_STAT_RELEASED, 0), (F.BOOT_STAT_WAIT_HEAD, 1), (F.LNK_ID_ASSIGNED, 1), (F.LNK_ID_CHAIN, 7),
      (F.LNK_ID_POS, 24)] with boot := { loaded := true, image := { table := [e], bodies := [[0]], positions := [p] } } }
    let u : State := (s.setF F.BOOT_STAT_ALT_BANK 1)
    s.running = true ∧ s.boot.loaded = true ∧ s.isHead = false ∧ s.flag F.BOOT_STAT_WAIT_HEAD = true ∧
      s.flag F.LNK_ID_ASSIGNED = true ∧ s.flag F.BOOT_STAT_PLAN_DIFF = false ∧ s.saving = false ∧
      s.boot.image.positions.find? (fun x => x.head == s.lnk.headNumber && x.chain == s.getF F.LNK_ID_CHAIN &&
        x.pos == s.getF F.LNK_ID_POS) = some p ∧
      s.boot.image.hasPlace s.lnk.headNumber (s.getF F.LNK_ID_CHAIN) (s.getF F.LNK_ID_POS) = true ∧
      s.boot.image.placeOk s.lnk.headNumber (s.getF F.LNK_ID_CHAIN) (s.getF F.LNK_ID_POS) = true ∧
      positionOk s.plan.wall p = true ∧ ({} : PlanImage).hasPlace 0 7 24 = false ∧
      (after .positionSectionLoaded s).released = true ∧ u.dirNow.trial = false ∧ u.flag F.BOOT_STAT_ALT_BANK = true ∧
      (after .positionSectionLoaded { u with boot := { u.boot with image := {} } }).getF F.BOOT_FAULT_SECOND = 0x11 := by
  decide +kernel

/-! ### Obligations.CommitRequestsAreJudgedAndWithdrawn -/

theorem wit_commit :
    let s := tileS [(F.LMP_CUR_BLIMIT, 7)]
    let p : State := { s with cfg := { pending := some { vals := [], target := none, latched := 0, deferred := false } } }
    s.released = true ∧ s.cfg.pending = none ∧ s.lateNow (some (s.getW A.CFG_TARGET)) = false ∧ s.lateNow none = false ∧
      s.refusals s.dirtyRegs = [] ∧ (after (.commitRequest .keeper true) s).getF F.CFG_STAT_RESULT = 8 ∧
      s.dirtyRegs = [(A.LMP_CUR, s.getW A.LMP_CUR)] ∧
      (after (.commitRequest .keeper false) (tileS [(F.BOOT_STAT_RELEASED, 0)])).getF F.CFG_STAT_RESULT = 6 ∧
      p.cfg.pending ≠ none ∧ (after (.commitRequest .service false) p).getF F.CFG_STAT_RESULT = 4 ∧
      (after (.commitCancel .keeper) p).cfg.pending =
        some { vals := [], target := none, latched := 0, deferred := false, cancelAt := some 0 } ∧
      ({ vals := [], target := none, latched := 0, deferred := false, cancelAt := some 0 } : PendingCommit).withdrawn 2000 = true ∧
      (after (.commitRevert .keeper) s).getW A.LMP_CUR = s.actW A.LMP_CUR := by decide
theorem wit_commit_late :
    let s : State := { tileS [] with tim := { image := some 0 } }
    s.released = true ∧ s.cfg.pending = none ∧ s.lateNow (some (s.getW A.CFG_TARGET)) = true ∧
      (after (.commitRequest .keeper true) s).getF F.CFG_STAT_RESULT = 3 ∧ s.mayWrite .keeper A.CFG_COMMIT := by
  unfold State.mayWrite; decide
theorem wit_commit_unpaired :
    let s : State := { headS [(F.CMP_LPOS_X 0, 5)] with plan := { wall := { pairId := 1 } } }
    s.released = true ∧ s.cfg.pending = none ∧
      (s.isHead && s.plan.wall.pairId != 0 && !false && touches s.dirtyRegs [10, 11, 12, 14]) = true ∧
      (after (.commitRequest .keeper false) s).getF F.CFG_STAT_RESULT = 5 := by decide
theorem wit_commit_inconsistent :
    let s := tileS [(F.GOV_HOLD_MS, 9)]
    s.refusals s.dirtyRegs = [7] ∧ (after (.commitRequest .keeper false) s).getF F.CFG_STAT_BLOCK = 7 ∧
      (after (.commitRequest .keeper false) s).getF F.CFG_STAT_RESULT = 2 ∧
      (after (.registerWrite .keeper (BitVec.ofNat 32 A.CFG_COMMIT) .b32 5) s).getF F.CFG_STAT_RESULT = 9 ∧
      1 < F.CFG_COMMIT_GO.of 5 + F.CFG_COMMIT_CANCEL.of 5 + F.CFG_COMMIT_REVERT.of 5 := by decide

/-! ### Obligations.LanesAcquireLockAndLoseIt -/

/-- A lane's part put into a state. -/
def laneS (m : Nat) (x : LaneX) (s : State) : State := s.setLane m x

theorem wit_lanes :
    (tileS [(F.LAN_STATE 48, 1)]).getF (F.LAN_STATE 48) = 1 ∧
      (after (.laneSignalDetect 48) (tileS [(F.LAN_STATE 48, 1)])).getF (F.LAN_STATE 48) = 2 ∧
      (runS [(F.LAN_STATE 0, 2)]).adaptive 0 = true ∧
      (after (.laneCdrLock 0 [true, false, true]) (runS [(F.LAN_STATE 0, 2), (F.LAN_CFG_PEAK 0, 14)])).getF F.LAN_EVT_EQ_LIMIT = 1 ∧
      ({ tileS [(F.LAN_STATE 0, 2)] with plan := { lane := { boards := [{ lanes := [{ adaptive := false }] }] } } } : State).adaptive 0 = false ∧
      (after (.laneCommaAlign 7 true) (tileS [(F.LAN_STATE 7, 3)])).getF (F.LAN_POL_SUSPECT 7) = 1 ∧
      (after (.laneCommaAlign 7 false) (tileS [(F.LAN_STATE 7, 3)])).getF (F.LAN_STATE 7) = 4 ∧
      (after (.laneQualified 31) (laneS 31 { lost := true } (tileS [(F.LAN_STATE 31, 4)]))).getF F.LAN_EVT_REGAINED = 128 ∧
      (decode10 ((tileS []).lane 47).rd 0).1 = none ∧ (tileS [(F.LAN_STATE 47, 4)]).getF (F.LAN_STATE 47) = 4 ∧
      (after (.codeViolation 47 [0]) (tileS [(F.LAN_STATE 47, 4)])).getF (F.LAN_STATE 47) = 3 ∧
      (after (.codeViolation 47 [0]) (tileS [(F.LAN_STATE 47, 1)])).getF (F.LAN_STATE 47) = 1 := by decide +kernel
theorem wit_lanes_lost :
    let s := tileS [(F.LAN_STATE 0, 5), (F.LNK_PSTAT_RXMASK 0, 1), (F.LAN_STATE 48, 5)]
    s.getF (F.LAN_STATE 0) = 5 ∧ (after (.laneSignalLost 0) s).getF (F.LAN_STATE 0) = 1 ∧
      (after (.laneSignalLost 0) s).getF F.LAN_EVT_LOST = 1 ∧ (after (.laneSignalLost 0) s).getF (F.LNK_PSTAT_RXMASK 0) = 0 ∧
      (after (.misalignedComma 48) s).getF F.LAN_EVT_SVC_LOST = 1 ∧ (after (.cdrFrequencyLockLost 0 true) s).getF (F.LAN_STATE 0) = 2 ∧
      (decode10 (s.lane 0).rd 0).1 = none ∧ 60 + 1 + 1 + 1 ≤ 63 ∧ 63 < 61 + 1 + 1 + 1 ∧
      (after (.codeViolation 0 [0]) (laneS 0 { gaps := [1, 1, 0], since := 60 } s)).getF (F.LAN_STATE 0) = 2 ∧
      (after (.codeViolation 0 [0]) (laneS 0 { gaps := [1, 1, 0], since := 61 } s)).getF (F.LAN_STATE 0) = 5 ∧
      ((after (.codeViolation 0 [0]) s).lane 0).gaps = [0] := by decide +kernel
/-- Clause 36 of R91, table 36-1a: D21.5 is `1010101010` at either disparity, `a` first. -/
theorem wit_lane_char :
    let s := tileS [(F.LAN_STATE 0, 5)]
    (s.lane 0).rd = none ∧ (decode10 none 0x2AA).1 = some { ctl := false, byte := 0xB5 } ∧
      (after (.codeViolation 0 [0x2AA]) s).out = [.char 0 (some (false, 0xB5))] := by decide +kernel

/-! ### Obligations.UnitsTrainingAndServiceLane -/

theorem wit_units :
    let s := tileS [(F.LNK_PCFG_ROLE 1, 3), (F.LAN_STATE 4, 5), (⟨A.LAN_CTL, 0, 13⟩, 0xFFC)]
    let z := tileS [(F.LNK_PCFG_ROLE 1, 3), (⟨A.LAN_CTL, 0, 13⟩, 0xFFE)]
    s.isHead = false ∧ s.bit laneCtl 1 = false ∧ (after (.laneStop .keeper 2) s).getF (F.LAN_STATE 4) = 0 ∧
      (after (.laneStop .keeper 2) s).getF laneCtl = 0xFFE ∧
      z.bit laneCtl 1 = true ∧ z.unitFitted 1 = true ∧ z.portRuns 1 = true ∧ (after (.laneStart .keeper 2) z).getF (F.LAN_STATE 4) = 1 ∧
      (after (.laneStart .keeper 2) z).getF laneCtl = 0xFFC := by decide
theorem wit_dp :
    let s := headS [(F.LAN_CTL_DSTOP, 7), (F.ING_SCFG_MAXRATE 3, 3), (F.ING_SCFG_LANES 3, 4)]
    let x := (s.setDp 3 { rate := 3, lanes := 4 })
    s.unitOn 11 = true ∧ (after (.dpAuxTransaction 3 (.begin 3 4)) s).getF (F.LAN_DPLINK_TRAIN 3) = 1 ∧
      (x.dp 3).rate ≤ x.getF (F.ING_SCFG_MAXRATE 3) ∧ (x.dp 3).lanes ≤ x.dpMaxLanes 3 ∧ (x.dp 3).lanes ∈ [1, 2, 4] ∧
      (after (.dpAuxTransaction 3 (.clockRecovery 1 true)) (x.setF (F.LAN_DPLINK_TRAIN 3) 1)).getF (F.LAN_DPLINK_TRAIN 3) = 2 ∧
      eqPattern 3 4 = true ∧
      (after (.dpAuxTransaction 3 (.equalisation 4 true 3 3)) (x.setF (F.LAN_DPLINK_TRAIN 3) 2)).getF (F.LAN_DPLINK_LANES 3) = 4 ∧
      ((after (.dpAuxTransaction 3 (.equalisation 4 false 3 3)) (x.setF (F.LAN_DPLINK_TRAIN 3) 2)).dp 3).swing = 1 ∧
      (after (.dpAuxTransaction 3 .readHdcp) s).out = [.auxReply 3 .hdcpNotCapable] ∧
      (after (.dpAlignmentLost 3) (x.setF (F.LAN_DPLINK_TRAIN 3) 3)).getF F.LAN_EVT_DP_LOST = 8 := by decide
theorem wit_svc :
    let s := tileS [(F.LAN_STATE 48, 5), (F.CLK_STAT_SVC_LOCK, 1)]
    let u : State := { s with lan := { s.lan with svcUp := true } }
    s.getF (F.LAN_STATE 48) = 5 ∧ s.flag F.CLK_STAT_SVC_LOCK = true ∧ (0x20 : BitVec 16).getLsbD 5 = true ∧
      (after (.svcLinkUp 0x20) s).lan.svcUp = true ∧
      (after (.svcFrameReceived { fcsOk := true, length := 1522, toDevice := true }) u).out = [.svcToKeeper 1522] ∧
      (after (.svcFrameReceived { fcsOk := false, length := 64, toDevice := true }) u).getF (F.LAN_ERR_CV 48) = 1 ∧
      (after (.svcFrameReceived { fcsOk := true, length := 64, toDevice := true }) s).out = [] ∧
      (after .svcPllUnlock u).getF F.LAN_EVT_SVC_LOST = 1 := by decide

/-! ### Obligations.LaneMarkersCarryMasks -/

/-- A Tile with both ports UP, forwarding. -/
def chainS (l : List (Fld × Nat)) : State :=
  tileS ([(F.LNK_PCFG_ROLE 0, 3), (F.LNK_PCFG_ROLE 1, 4), (F.LNK_PCFG_FWD_EN 0, 1), (F.LNK_PCFG_FWD_EN 1, 1),
    (F.LNK_PSTAT_STATE 0, 2), (F.LNK_PSTAT_STATE 1, 2), (F.LNK_PSTAT_RXMASK 0, 15), (F.LNK_PSTAT_RXMASK 1, 15),
    (F.LNK_PSTAT_TXMASK 0, 15), (F.LNK_PSTAT_TXMASK 1, 15),
    (F.CLK_STAT_PORT_LOCK, 3)] ++ (List.range 8).map (fun m => (F.LAN_STATE m, 5)) ++ (⟨A.LAN_CTL, 0, 13⟩, 0) :: l)

theorem wit_marker_up :
    let s := headS [(F.LNK_PCFG_ROLE 0, 1), (F.LNK_PSTAT_RXMASK 0, 15), (F.CLK_STAT_PORT_LOCK, 1), (⟨A.LAN_CTL, 0, 13⟩, 0x1FFE)]
    let u := s.setPort 0 { prxSeen := true }
    let v := u.setF (F.LNK_PSTAT_PRXMASK 0) 15
    v.unitOn 0 = true ∧ v.bit F.CLK_STAT_PORT_LOCK 0 = true ∧ v.pwr.txIdle = false ∧ v.isHead = true ∧ v.portUp 0 = false ∧
      v.wantTx 0 = 15 ∧ v.portRec 0 = false ∧ v.getF (F.LNK_PCFG_ROLE 0) = 1 ∧
      (after (.laneMarkerDue 0) v).getF F.LNK_EVT_UP = 1 := by decide +kernel
theorem wit_marker_counts :
    let s := (chainS []).setF (F.LNK_PSTAT_RXMASK 0) 8
    let m : LaneMarker := { lane := 3, m0 := 0x43, m1 := 0x7E, skew := 64 }
    let p : LaneMarker := { lane := 0, m0 := 0x80, m1 := 0x3F, skew := 64 }
    s.markerFits 0 m = true ∧ s.markerFits 0 p = true ∧ m.lane ≠ p.lane ∧ markerCount m ≠ markerCount p ∧
      (s.getF (F.LNK_PSTAT_RXMASK 0)).testBit 3 = true ∧ (s.getF (F.LNK_PSTAT_RXMASK 0)).testBit 0 = false ∧
      (after (.markerReceived 0 [m, p]) s).getF (F.LNK_PSTAT_RXMASK 0) = 8 := by decide +kernel
theorem wit_markers :
    let s := chainS []
    let m : LaneMarker := { lane := 3, m0 := 0x43, m1 := 0x7F, skew := 64 }
    let p : LaneMarker := { lane := 0, m0 := 0x40, m1 := 0x7F, skew := 129 }
    s.unitOn 1 = true ∧ s.bit F.CLK_STAT_PORT_LOCK 1 = true ∧ s.pwr.txIdle = false ∧
      ((after (.laneMarkerDue 1) s).port 1).markCount = 1 ∧ s.markerFits 0 m = false ∧
      s.markerFits 0 { m with m1 := 0x7E } = true ∧ s.markerFits 0 { p with m1 := 0x3F } = true ∧
      (after (.markerReceived 0 [{ m with m1 := 0x7E }]) s).getF (F.LNK_PSTAT_PRXMASK 0) = 14 ∧
      (after (.markerReceived 0 [{ m with m1 := 0x7E }]) s).getF (F.LNK_PSTAT_PROLE 0) = 1 ∧
      (after (.markerReceived 0 [{ m with m1 := 0x7E }, { p with m1 := 0x3F }]) s).getF (F.LNK_PSTAT_RXMASK 0) = 14 ∧
      (after (.markerReceived 0 [{ m with m1 := 0x7E }, { p with m1 := 0x3F }]) s).getF (F.LNK_PSTAT_SKEW 0) = 1 ∧
      (m.lane ≠ p.lane ∧ m.skew + 64 < p.skew) ∧ markerCount { m with m1 := 0x7E } = markerCount { p with m1 := 0x3F } ∧ (s.port 0).slow = false ∧
      (([m] : List LaneMarker).filter (fun m => s.markerFits 0 m)) = [] := by decide +kernel

/-! ### Obligations.PlacesJoinAssignAndStatus -/

theorem wit_enum :
    let h := headS [(F.LNK_PCFG_ROLE 0, 1), (F.LNK_PSTAT_STATE 0, 2), (F.LNK_PSTAT_TXMASK 0, 15), (F.CLK_STAT_PORT_LOCK, 1), (F.LAN_CTL_PSTOP, 0)]
    let s := chainS [(F.BOOT_STAT_RELEASED, 0)]
    let m : EnumMsg := { wallId := 0, planSerial := 9, head := 0, chain := 7, tiles := 24, endB := false, hops := 24 }
    h.isHead = true ∧ h.portUp 0 = true ∧ h.canSend 0 = true ∧ (after (.enumPeriod 0) h).out.length = 1 ∧
      s.isHead = false ∧ s.flag (F.LNK_PCFG_FWD_EN 1) = true ∧ s.released = false ∧ s.flag F.LNK_ID_ASSIGNED = false ∧
      s.flag F.LNK_ID_CONFLICT = false ∧ s.getF F.LNK_ID_HOPS_B = 0 ∧ (after (.enumReceived 0 m) s).getF F.LNK_ID_POS = 24 ∧
      (after (.enumReceived 0 m) s).getF F.BOOT_STAT_PLAN_DIFF = 1 ∧ (after (.enumReceived 0 m) s).out.length = 1 ∧
      (after (.enumReceived 1 { m with endB := true, hops := 1 }) s).getF F.LNK_ID_POS = 24 ∧
      (after (.enumReceived 0 { m with endB := true }) s).getF F.LNK_ID_CONFLICT = 1 ∧
      (s.setF F.LNK_ID_CONFLICT 1).hopsBad = false ∧
      (after .conflictQuietExpiry ((s.setF F.LNK_ID_CONFLICT 1).setF F.LNK_ID_HOPS_A 5)).getF F.LNK_ID_POS = 5 := by decide
theorem wit_join :
    let s := (chainS [(F.BOOT_STAT_RELEASED, 0), (F.LNK_ID_POS, 24)]).setPort 0 { busyUntil := 1 }
    let a : AssignMsg := { serial := 0, id := 1019, pos := 24, chain := 7 }
    s.isHead = false ∧ s.flag F.LNK_ID_ASSIGNED = false ∧ s.getF F.LNK_ID_POS ≠ 0 ∧ s.flag F.SEC_STAT_DEBUG = false ∧
      s.sec.entropyBad = false ∧ s.getF F.LNK_ID_HOPS_B = 0 ∧ s.lnk.own = [] ∧ s.portFree 0 = false ∧
      (after .joinPeriod s).lnk.own.length = 1 ∧ a.serial = s.shadow.serial ∧ s.getF F.LNK_ID_POS = a.pos ∧
      (after (.assignReceived a) s).getF F.LNK_ID_TILE_ID = 1019 ∧
      (after (.assignReceived { a with pos := 23 }) s).getF F.LNK_ID_CONFLICT = 1 := by decide
theorem wit_status :
    let s0 := chainS [(F.LNK_ID_ASSIGNED, 1)]
    let s : State := { s0 with boot := { s0.boot with posLoaded := true }, lmp := { s0.lmp with tb0Once := true } }
    let p : OutPkt := { ports := [0], hdr := { typ := 8, dst := 1022 }, body := .none }
    let u : State := { s with lnk := { s.lnk with own := [p] } }
    s.isHead = false ∧ s.flag F.LNK_ID_ASSIGNED = true ∧ s.hasWindow = true ∧ (after .statusPeriod s).lnk.own.length = 1 ∧
      u.hasWindow = true ∧ u.lnk.extraStatus = false ∧ u.canSend 0 = true ∧ (after (.upstreamWindow 1) u).lnk.own = [] ∧
      (after (.upstreamWindow 1) u).out.length = 1 := by decide

/-! ### Obligations.PacketChecksInOrder, DeliveredPacketIsNotDeliveredTwice, PacketsAreForwardedWhileTheyArrive -/

/-- A whole packet without payload, as its receiver sees it: header, tag if it has a key, CRC (R117). -/
def pktOf (h : Hdr) (k : Option Key) (payload : List Byte) : RxPacket := { framed := true, wire := packetBytes h k payload }
/-- The header of an empty JOIN. -/
def joinHdr : Hdr := { typ := 8, dst := 1022, src := 5, seq := 1 }

theorem wit_packets :
    let s := headS [(F.LNK_PSTAT_STATE 7, 2)]
    let p := pktOf joinHdr none []
    let q : RxPacket := { p with framed := false }
    let w : RxPacket := { p with wire := p.wire.take 19 ++ [0] }
    hdrParse p.wire = joinHdr ∧ 2 ≤ s.getF (F.LNK_PSTAT_STATE 7) ∧ s.striped 7 = false ∧ (s.port 7).rxStriped = false ∧
      (s.port 7).rxBad = false ∧ s.consumes joinHdr = true ∧
      q.whole = false ∧ (after (.packetReceived 7 q) s).getF (F.LNK_RXERR_FRAME 7) = 1 ∧
      p.whole = true ∧ p.crcOk = true ∧ w.whole = true ∧ w.crcOk = false ∧ s.consumes (hdrParse w.wire) = true ∧
      (after (.packetReceived 7 w) s).getF (F.LNK_RXERR_CRC 7) = 1 := by decide +kernel
theorem wit_packet_steps :
    let s := headS [(F.LNK_PSTAT_STATE 7, 2)]
    let p := pktOf joinHdr none []
    let old : State := { s with lnk := { s.lnk with ctx := [((5, 0), { keyEp := 0, high := 65, seen := 1 })] } }
    hdrOk s.plan.link.prot false joinHdr = true ∧ hdrOk s.plan.link.prot false { joinHdr with ver := 2 } = false ∧
      (after (.packetReceived 7 (pktOf { joinHdr with ver := 2 } none [])) s).getF (F.LNK_RXERR_FRAME 7) = 1 ∧
      s.tagOk 7 joinHdr p = true ∧ dedupStep (s.dedupCtx (dedupKey joinHdr)) 0 1 = .deliver { keyEp := 0, high := 1, seen := 1 } ∧
      (after (.packetReceived 7 p) s).out.length = 1 ∧ dedupStep (old.dedupCtx (dedupKey joinHdr)) 0 1 = .old ∧
      (after (.packetReceived 7 p) old).getF F.LNK_DEDUPSTAT_OLD = 1 ∧
      (after (.packetReceived 7 p) (after (.packetReceived 7 p) s)).getF F.LNK_DEDUPSTAT_DUP = 1 := by decide +kernel
/-- A Tile's STATUS under the chain key of its epoch passes; under another key, or none, its tag fails (R119, R122). -/
theorem wit_packet_tag :
    let s0 := headS [(F.LNK_PSTAT_STATE 7, 2)]
    let s : State := { s0 with sec := { s0.sec with keys := [((s0.chainOf 7, 0), 3#256)] } }
    let h : Hdr := { typ := 4, prot := 2, dst := 1022, src := 5, len := 2 }
    let p := pktOf h (some 3) [7, 9]
    let q := pktOf h (some 4) [7, 9]
    p.whole = true ∧ p.crcOk = true ∧ hdrOk s.plan.link.prot false (hdrParse p.wire) = true ∧ s.tagOk 7 (hdrParse p.wire) p = true ∧
      s.payload 7 p = [7, 9] ∧ s.tagOk 7 (hdrParse q.wire) q = false ∧
      (after (.packetReceived 7 q) s).getF F.LNK_EVT_AUTH = 1 ∧ s.consumes (hdrParse p.wire) = true := by decide +kernel
theorem wit_packet_hop :
    let s := chainS []
    let r := s.setF (F.LNK_PSTAT_STATE 0) 3
    let h : Hdr := { typ := 7, hop := true, dst := 1023, src := 5 }
    let u : Hdr := { typ := 11, hop := true, dst := 1023, src := 5 }
    hdrOk s.plan.link.prot false h = true ∧ s.tagOk 0 h (pktOf h none []) = true ∧ s.consumes h = true ∧
      (s.port 1).fq.any (fun e => e.ended.isNone) = false ∧ recovCarries u = true ∧ hdrOk s.plan.link.prot true u = true ∧
      (after (.packetReceived 0 (pktOf u none [])) r).out.length = 1 ∧
      (after (.packetReceived 0 (pktOf h none [])) s).out.length = 1 := by decide +kernel
theorem wit_forward :
    let s := chainS []
    let b := s.setPort 1 { busyUntil := 9 }
    let f := after (.packetStartReceived 0 joinHdr) s
    let e : FwdPkt := { hdr := joinHdr, total := 320, begun := true, got := 16, sent := 16 }
    let g := s.setPort 1 { fq := [e] }
    let o := s.setPort 1 { fq := [{ e with total := 9000000, got := 8000000 }] }
    let z := (s.setPort 0 { partnerTx := 15 }).setF (F.LNK_PSTAT_RXMASK 0) 7
    let p := pktOf joinHdr none []
    s.forwards 0 joinHdr = true ∧ s.striped 0 = false ∧ (s.port 1).fq = [] ∧ (s.port 1).busyUntil ≤ s.now ∧
      f.out = [.fwdStart 1 joinHdr] ∧ b.now < (b.port 1).busyUntil ∧ (after (.packetStartReceived 0 joinHdr) b).out = [] ∧
      s.forwards 0 { joinHdr with hop := true } = false ∧ s.consumes (hdrParse p.wire) = false ∧ (g.port 1).fqAt = g.now ∧
      (after (.packetReceived 0 p) g).out = [.fwdEnd 1 false] ∧
      (after (.packetReceived 0 p) o).getF F.LNK_TXSTAT_FWD_DROP = 1 ∧ z.striped 0 = true ∧
      (after (.packetReceived 0 p) z).getF (F.LNK_RXAUTH_LANE_DROP 0) = 1 := by decide +kernel

/-! ### Obligations.AccessesComeByPacketAndFrame -/

theorem wit_frames :
    let s := tileS [(F.LNK_ID_ASSIGNED, 1), (F.LNK_ID_TILE_ID, 9)]
    let h := headS []
    s.running = true ∧ s.boot.loaded = true ∧ (after (.ctrlReceived [⟨BitVec.ofNat 32 A.LMP_CUR, 5⟩]) s).getW A.LMP_CUR ≠ s.getW A.LMP_CUR ∧
      s.plan.sec.openRead = false ∧ (after (.managementFrame none (.read 0x40000000)) s).out.length = 1 ∧
      (after (.managementFrame none (.read 0x40010000)) s).out = [] ∧
      s.isOwnDst 9 = true ∧ s.isHead = false ∧
      h.isHead = true ∧ (after (.mgmtRelayed 9 h.srcId (.answer 7 false)) h).out.length = 1 := by decide
theorem wit_session_frame :
    let s := tileS []
    let x : Session := { id := 1, key := 0, arbiter := false, manage := true }
    let m : State := { s with sec := { s.sec with sessions := [x] } }
    let f : SessionFrame := { session := 1, counter := 1, cipher := [5], tag := gcmTag 0 (frameNonce 1) [] [5] }
    m.boot.fuseBad = false ∧ x.counterOk 1 = true ∧ x.tagOk f = true ∧ x.tagOk { f with counter := 2 } = false ∧
      (after (.managementFrame (some f) (.write 0x40000008 1)) m).out.length = 1 ∧
      (after (.managementFrame (some { f with counter := 2 }) (.write 0x40000008 1)) m).getF F.SEC_EVT_SESS_FAIL = 1 := by decide +kernel

/-! ### Obligations.ScheduleSlotsAndTheRecoveryProbe -/

theorem wit_schedule :
    let h := headS []
    let s := h.setPort 7 { busyUntil := 1 }
    let e : SchedEntry := { port := 7, variant := 0, facet := 0, typ := 1, dst := 3, slice := 63, atNs := 0 }
    let p : OutPkt := { ports := [7], hdr := { typ := 15 }, body := .none, numbered := true }
    let q : State := { s with lnk := { s.lnk with own := [{ p with numbered := false }] } }
    let o : State := { s with lnk := { s.lnk with own := [p] } }
    let w := s.setPort 7 { wait := [p] }
    s.isHead = true ∧ s.released = true ∧ e.variant = s.getF F.GOV_STAT_VARIANT ∧ s.mute 7 = false ∧ s.sliceHeld 7 0 = false ∧
      s.portFree 7 = false ∧ ((after (.scheduledPacketDue e) s).port 7).wait.length = 1 ∧ o.ownStreamsOk = true ∧
      (after (.scheduledPacketDue { e with typ := 15 }) o).lnk.own = [] ∧
      ((after (.scheduledPacketDue { e with typ := 15 }) o).port 7).wait.length = 1 ∧
      ((after (.scheduledPacketDue { e with typ := 15, pair := true }) q).port 7).wait.map (fun x => x.hdr.src) = [1022] ∧
      ((after (.txPacketLate 7) w).port 7).wait = [] ∧ (after (.txPacketLate 7) w).getF F.LNK_TXSTAT_LATE = 1 := by decide
theorem wit_probe :
    let s := (chainS [(F.LAN_STATE 0, 2), (F.LAN_STATE 1, 2), (F.LAN_STATE 2, 2), (F.LAN_STATE 3, 2)])
    let p := s.setPort 0 { probing := true }
    s.unitOn 0 = true ∧ (unitLanes 0).any (fun m => decide (2 ≤ s.getF (F.LAN_STATE m))) = true ∧
      (unitLanes 0).any (fun m => s.getF (F.LAN_STATE m) == 5) = false ∧ s.recovering = false ∧ (s.port 0).slow = false ∧
      (after (.recoveryProbeStart 0) s).getF (F.LNK_PSTAT_STATE 0) = 3 ∧ (p.port 0).probing = true ∧
      (after (.recoveryProbeEnd 0) p).getF (F.LNK_PSTAT_STATE 0) = 0 ∧
      ((after (.recoveryProbeEnd 0) (((p.setPort 0 { probing := true, prxSeen := true }).setF (F.LAN_STATE 3) 5).setF (F.LNK_PSTAT_PRECOV 0) 1)).port 0).slow = true := by decide

/-! ### Obligations.BoundariesApplyCommitsAndNumberFrames, VariantsAreSelectedAnnouncedAndFollowed -/

/-- A released Tile that knows its boundaries. -/
def timeS (l : List (Fld × Nat)) : State :=
  let s := tileS l
  { s with now := 10000, tim := { s.tim with running := true, ofs := [0], period := 16666667 }, lmp := { s.lmp with tb0Once := true } }
theorem wit_boundary :
    let s := timeS [(F.TIM_FRAME_FRAME, 9)]
    let p : PendingCommit := { vals := [(A.RED_HOLD, 100)], latched := 8000 }
    let u : State := { s with cfg := { pending := some p } }
    s.boundaryKnown = true ∧ s.facets = 1 ∧ s.upd.activate = none ∧ s.imageOf 0 = 9 ∧ p.due s.now 9 = true ∧
      (after (.imageBoundary 0 []) u).actW A.RED_HOLD = 100 ∧ (after (.imageBoundary 0 []) u).getW A.CFG_EPOCH = 1 ∧
      (after (.imageBoundary 0 []) u).tim.image = some 9 ∧ (after (.imageBoundary 0 []) s).cfg = {} := by decide
theorem wit_boundary_later :
    let s := timeS [(F.TIM_FRAME_FRAME, 9)]
    let p : PendingCommit := { vals := [(A.RED_HOLD, 100)], latched := 8001 }
    let d : PendingCommit := { vals := [(A.RED_HOLD, 100)], target := some 9, deferred := true }
    p.due s.now 9 = false ∧ (after (.imageBoundary 0 []) { s with cfg := { pending := some p } }).cfg.pending = some p ∧
      (after (.imageBoundary 0 []) { s with cfg := { pending := some d } }).getF F.CFG_STAT_RESULT = 3 ∧
      (after (.imageBoundary 0 []) { s with cfg := { pending := some { p with cancelAt := some 8000 } } }).getF F.CFG_STAT_RESULT = 7 ∧
      ({ p with cancelAt := some 8000 } : PendingCommit).withdrawn s.now = true ∧ p.withdrawn s.now = false ∧ d.withdrawn s.now = false ∧
      diff32 9 (s.imageOf 0) ≤ 0 := by decide
theorem wit_boundary_head :
    let h := headS [(F.TIM_FRAME_FRAME, 9), (F.CLK_STAT_MEM_LOCK, 1)]
    let s : State := { h with
      now := 10000, boot := { h.boot with memReady := true }, tim := { h.tim with running := true, ofs := [0, 5], period := 16666667 }
      plan := { h.plan with wall := { h.plan.wall with facets := 2 } } }
    s.boundaryKnown = true ∧ s.facets = 2 ∧ s.memRuns = true ∧ (after (.imageBoundary 1 []) s).getF F.SCN_STAT_FACET = 1 ∧
      (after (.imageBoundary 1 []) s).tim.image = some 19 := by decide
theorem wit_frame_head :
    let h := headS [(F.TIM_FRAME_FRAME, 0xFFFFFFFF)]
    let s : State := { h with tim := { h.tim with running := true, period := 16666667, nextLines := [367] } }
    s.running = true ∧ s.tim.running = true ∧ s.isHead = true ∧ s.frameFromPeer = false ∧
      (after (.frameBoundary 0) s).getW A.TIM_FRAME = 0 ∧ (after (.frameBoundary 0) s).getF (F.SCN_FOFS_LINES 0) = 367 := by decide
theorem wit_frame_tile :
    let s := timeS [(F.TIM_FRAME_FRAME, 9)]
    let u : State := { s with tim := { s.tim with ann := some { frame := 77, fb := 5, period := 16, ofs := [3] }, annFresh := true } }
    let v : State := { u with tim := { u.tim with annFresh := false } }
    s.isHead = false ∧ (after (.frameBoundary 0) u).getW A.TIM_FRAME = 77 ∧ (after (.frameBoundary 0) u).tim.ofs = [3] ∧
      (after (.frameBoundary 0) v).getW A.TIM_FRAME = 10 ∧ (after (.frameBoundary 0) v).getF F.TIM_CNT_ANN_MISS = 1 := by decide
theorem wit_selection :
    let v1 : Variant := { cover := [.item (.link 1)] }
    let v2 : Variant := { cover := [.item (.link 1), .item (.link 2)] }
    let h := headS []
    let s : State := { h with
      now := 5000, gov := { items := [{ item := .link 1, hist := [(3000, false), (1, true)], seen := some 1 }] }
      plan := { h.plan with gov := { variants := [{}, v1, v1, v2], headLinks := [(1, 0), (2, 1)] } } }
    let u := s.setF F.GOV_STAT_VARIANT 2
    s.plan.gov.variants[2]? = some v1 ∧ s.moveOk (s.variantOf 0) v1 = true ∧ s.failedItems = [.link 1] ∧
      s.selectVariant = (1, false) ∧ coveredCount s.failedItems v1 = 1 ∧ u.moveOk v1 v1 = true ∧
      (s.setF F.GOV_STAT_VARIANT 3).moveOk v2 v1 = false ∧ (s.setF F.GOV_STAT_VARIANT 3).selectVariant.1 = 3 := by decide
theorem wit_governor :
    let s := tileS []
    let u : State := { s with tim := { s.tim with image := some 5 } }
    let h := headS []
    let w : State := { h with gov := { items := [{ item := .partner, hist := [(3, true)] }] } }
    u.selects = false ∧ diff32 5 6 < 0 ∧ (after (.announceReceived 63 6) u).getF F.GOV_STAT_PENDING = 63 ∧
      (after (.announceReceived 63 5) u).getF F.GOV_STAT_VARIANT = 63 ∧ h.selects = true ∧
      (healthOf w.gov.items .partner).hist = [(3, true)] ∧ (after (.recoverHoldExpiry .partner) w).itemHeld .partner = true ∧
      (after (.statusTimeout 1019) h).tileReport 1019 = none ∧ h.released = true := by decide

/-! ### Obligations.SourceFramesAreCaptured, CapturesStopReadsAndMemorySleep, ExposuresAreRecorded -/

/-- A Head whose source 3 is captured. -/
def srcS (l : List (Fld × Nat)) (x : SrcX) : State :=
  let h := headS ((F.LAN_DPLINK_TRAIN 3, 3) :: (F.ING_SSTAT_STATE 3, 2) :: (F.CLK_STAT_MEM_LOCK, 1) :: l)
  let s : State := { h with boot := { h.boot with memReady := true }, plan := { h.plan with ingest := { src := [{}, {}, {}, { enable := true, stores := 3 }] } } }
  s.setSrc 3 x
theorem wit_capture :
    let s := srcS [(F.ING_SSTAT_HAVE 3, 1), (F.ING_SSTAT_NEWEST 3, 0)] { held := some 1, filling := [1] }
    let z := srcS [(F.ING_SSTAT_HAVE 3, 1), (F.ING_SSTAT_NEWEST 3, 0)] { held := some 1, filling := [2], stopAtEnd := true }
    s.isHead = true ∧ s.getF (F.LAN_DPLINK_TRAIN 3) = 3 ∧ s.getF (F.ING_SSTAT_STATE 3) = 2 ∧ (s.srcPlan 3).enable = true ∧
      s.formatAgrees 3 0 0 false = true ∧ s.freeStores 3 = [2] ∧
      (after (.sourceFrameStart 3 0 0 true 300) s).getF (F.ING_SSTAT_FMT_ERR 3) = 1 ∧ s.formatAgrees 3 0 0 true = false ∧
      (after (.sourceFrameStart 3 0 0 true 300) s).getF (F.LAN_DPLINK_SDP_DROP 3) = 255 ∧
      (after (.sourceFrameStart 3 0 0 true 0) s).bit F.SCN_EVT_SRC_HOLD 3 = true ∧
      z.memRuns = true ∧ (after (.storeComplete 3) z).getF (F.ING_SSTAT_STATE 3) = 0 ∧ (after (.storeComplete 3) z).getF (F.ING_SSTAT_HAVE 3) = 1 ∧
      (after (.sourceFrameStart 3 0 0 true 1) z).getF (F.ING_SSTAT_STATE 3) = 2 ∧ (s.src 3).stopAtEnd = false ∧
      ((after (.sourceFrameStart 3 0 0 false 1) s).src 3).filling.length = 2 := by
  decide
theorem wit_capture_drop :
    let h := srcS [] {}
    let s : State := { h with plan := { h.plan with ingest := { src := [{}, {}, {}, { enable := true, stores := 0 }] } } }
    s.freeStores 3 = [] ∧ s.formatAgrees 3 0 0 false = true ∧
      (after (.sourceFrameStart 3 0 0 false 0) s).getF (F.ING_SSTAT_DROPS 3) = 1 ∧
      (after (.sourceFrameStart 3 0 0 false 0) s).bit F.SCN_EVT_SRC_DROP 3 = true ∧
      (after (.sourceFrameStart 3 0 0 false 7) (s.setF (F.ING_SSTAT_STATE 3) 0)).getF (F.LAN_DPLINK_SDP_DROP 3) = 7 := by decide
theorem wit_capture_ctl : (srcS [] {}).mayWrite .keeper A.ING_CTL := by unfold State.mayWrite; decide
theorem wit_capture_stop :
    let s := srcS [(F.ING_CTL_STOP, 0)] {}
    let w := srcS [(F.ING_CTL_STOP, 0)] { filling := [1] }
    let z := srcS [(F.ING_CTL_STOP, 15), (F.ING_SSTAT_STATE 3, 0)] { changed := true }
    (after (.captureStop .keeper 8) s).getF (F.ING_SSTAT_STATE 3) = 0 ∧ s.bit F.ING_CTL_STOP 3 = false ∧
      ((after (.captureStop .keeper 8) w).src 3).stopAtEnd = true ∧ z.bit F.ING_CTL_STOP 3 = true ∧
      (after (.captureStart .keeper 8) z).getF (F.ING_SSTAT_STATE 3) = 1 ∧ (after (.captureStart .keeper 8) z).getF F.ING_CTL_STOP = 7 ∧
      (after (.captureStart .keeper 8) z).out = [.hpdPulse 3] := by decide
theorem wit_capture_stop_edges :
    let s := srcS [(F.ING_CTL_STOP, 0)] { stopAtEnd := true, filling := [] }
    (s.src 3).filling = [] ∧ (after (.sourceFrameStart 3 0 0 false 0) s).getF (F.ING_SSTAT_STATE 3) = 0 ∧
      after (.storeComplete 3) s = s ∧ (s.shut 0).thisStart = none ∧
      (after (.shutterEdge 0 false) s).shut 0 = s.shut 0 := by decide
theorem wit_shutter :
    let h := headS []
    let s : State := { h with now := 4003, tim := { h.tim with frameAt := 3 } }
    let u := after (.shutterEdge 1 true) s
    (s.shut 1).level = nth s.plan.ingest.shutterPolarity 1 false ∧ (s.shut 1).thisStart = none ∧
      u.getF (F.SCN_SHUT_START 1) = 1000 ∧ u.getF F.SCN_STAT_SHUT1_OK = 1 ∧
      (after (.shutterEdge 1 false) { u with now := 4403 }).getF (F.SCN_SHUTW_WIDTH 1) = 100 ∧
      (s.shut 1).lastStart = none ∧ (after (.shutterLost 1) s).bit F.SCN_EVT_SHUT_LOST 1 = true ∧
      ((after (.shutterEdge 1 true) (after (.shutterEdge 1 false) u)).shut 1).thisStart = some 1000 := by decide
theorem wit_reads :
    let h := headS []
    let s : State := { h with ing := { h.ing with unretired := [(15, [7])] } }
    let r : State := { s.setF F.CMP_STAT_FLOW 2 with cmp := { s.cmp with flowReads := [(15, 7)] } }
    let m : State := { h with now := 99, boot := { h.boot with memReady := true } }
    let u : State := { h with plan := { h.plan with comp := { stripes := [(0, 100), (100, 100), (200, 100), (300, 100)] } } }
    (after (.readUnderrun 63 350) s).getF F.SCN_UNDERRUN_ENGINE = 63 ∧ tabGet [] s.ing.unretired 15 = [7] ∧
      (after (.readUnderrun 63 350) u).cutAt 15 350 (u.lineNow - u.plan.ingest.leadLines) = true ∧
      (after (.readUnderrun 63 350) u).cutAt 15 399 (u.lineNow - u.plan.ingest.leadLines) = true ∧ s.flowBuilding = false ∧
      (after (.bufferRetire 15) s).getF (F.SCN_LSTAT_RETIRE 15) = 1 ∧ (after (.bufferRetire 15) s).getF F.SCN_EVT_RETIRED = 1 ∧
      r.getF F.CMP_STAT_FLOW = 2 ∧ r.cmp.flowReads.contains (15, 7) = true ∧ r.cmp.flowDone = none ∧
      m.plan.ingest.srEnable = true ∧ m.plan.ingest.srMinUs * 1000 ≤ m.tolerance (.other 100000) ∧ m.flag F.SCN_STAT_MEM_SR = false ∧
      (after (.memSelfRefreshEntry [.other 100000] false) m).ing.srIn = some 99 ∧
      (after (.memSelfRefreshExit [.other 4000]) (after (.memSelfRefreshEntry [.other 100000] false) m)).getF F.SCN_STAT_MEM_SR = 0 := by decide

/-! ### Obligations.CoefficientsAreLoaded, CompositionStopsAndCaches, GeodeCommandsAreAcceptedOrRejected -/

theorem wit_coef_may : (headS []).mayWrite .a0 A.CMP_COEFDATA ∧ (headS []).mayWrite .keeper A.CMP_CTL := by
  unfold State.mayWrite; decide
theorem wit_coef :
    let s := headS [(F.CMP_COEFADDR_LAYER, 7), (F.CMP_COEFADDR_BANK, 1), (F.CMP_COEFADDR_TAP, 7), (F.CMP_COEFADDR_PHASE, 63),
      (F.CMP_COEFADDR_INC, 1)]
    let v := s.setF F.CMP_COEFADDR_DIR 1
    s.bankBusy 7 1 = false ∧ s.getF F.CMP_COEFADDR_DIR = 0 ∧ (after (.coefWrite .keeper 0xC00) s).coef 7 1 0 63 7 = -1024 ∧
      (after (.coefWrite .keeper 0xC00) s).getF F.CMP_COEFADDR_TAP = 0 ∧
      (after (.coefWrite .keeper 0xC00) s).getF F.CMP_COEFADDR_PHASE = 0 ∧
      v.getF F.CMP_COEFADDR_DIR = 1 ∧ (after (.coefWrite .keeper 0xC00) v).cmp.coef = [] ∧
      (s.setF F.CMP_COEFADDR_BANK 0).bankBusy 7 0 = true ∧
      (after (.coefWrite .keeper 0xC00) (s.setF F.CMP_COEFADDR_BANK 0)).getF F.CMP_EVT_COEF_BUSY = 1 := by decide
theorem wit_comp :
    let s := headS [(F.CMP_CTL_STOP, 0), (F.GEO_STAT_ACTIVE, 31), (F.CMP_STAT_STATE, 2), (F.CMP_STAT_FLOW, 2), (F.CLK_STAT_MEM_LOCK, 1)]
    s.flag F.CMP_CTL_STOP = false ∧ s.getF F.GEO_STAT_ACTIVE = 31 ∧ (after (.compStop .keeper) s).getF F.CMP_STAT_STATE = 1 ∧
      (after (.compStart .keeper) (after (.compStop .keeper) s)).getF F.CMP_STAT_STATE = 2 ∧
      (after (.compStop .keeper) (s.setF F.GEO_STAT_ACTIVE 15)).getF F.CMP_EVT_STOP_GUARD = 1 ∧ s.cmp.flowDone = none ∧
      (after (.flowReq .keeper) s).getF F.CMP_FLOW_ABANDONED = 1 ∧ s.memRuns = true ∧ (after .flowRebuildDone s).cmp.flowDone = some 0 ∧
      (after .flowSettleExpiry (s.setF F.CMP_STAT_FLOW 1)).getF F.CMP_STAT_FLOW = 2 ∧
      (after (.flowReq .keeper) (s.setF F.CMP_STAT_FLOW 0)).getF F.CMP_STAT_FLOW = 0 := by decide
theorem wit_layer_hold :
    let h := headS []
    let c : CompPlan := { layers := [{ capture := some 3 }], vl := [{ onHold := 2 }] }
    let s := ({ h with plan := { h.plan with comp := c } } : State).setSrc 3 { holdFrom := some 4 }
    (s.layer 0).capture = some 3 ∧ (nth s.plan.comp.vl 0 {}).onHold ≠ 0 ∧ (s.src 3).holdFrom ≠ none ∧
      (after (.layerHoldExpiry 0) s).cmp.holdOut = [(0, 0)] := by decide
theorem wit_own_buffer :
    let h := headS [(F.CMP_STAT_STATE, 2), (F.CLK_STAT_MEM_LOCK, 1)]
    let s : State := { h with
      now := 16000000, ing := { h.ing with imgAt := some 0 }, tim := { h.tim with image := some 9 }
      plan := { h.plan with ingest := { vtotal := 500 } } }
    s.composing = true ∧ 0 < s.facets ∧ s.facetImage 0 = s.imageNow ∧ s.lineComposed (panelLine s.plan.comp.own 0 256) = true ∧
      s.ownRead 0 ((s.facetImage 0).toNat / s.facets % 2) = false ∧ (s.facetImage 0).toNat / s.facets % 2 = 1 := by decide
/-- A Geode command that stops the Geode, counter 1, at once, for wall 1, signed by the key of certificate 1. -/
def geodeMsg1 : GeodeMsg := ⟨bytesBe 0x444f4547ff00000001000000000000000100000000000000000000000000000031c80005c7e5d7020d582650aebb08b4a66d56d340f2a4be06cd2d2010399dcb987ddc5f7e3c796414fa6f60d4417a07a6be55e285d1bf0d5aacf1828e9d3caef4d746a3bd90e4feac3ceff79cea385de7cfad2e82880003d879c62fc0373c77 128⟩
/-- A released Head with the keys of the tests. -/
def geodeHead : State :=
  let h := keyedS (headS [(F.GEO_STAT_ACTIVE, 31)])
  { h with tim := { h.tim with image := some 100 }, plan := { h.plan with sec := { h.plan.sec with geodeCert := 1 } } }
theorem wit_geode_fields :
    let s := geodeHead
    s.isHead = true ∧ s.released = true ∧ s.smp.save = none ∧ s.paired = false ∧ geodeMsg1.wallId = s.plan.wall.id ∧
      geodeMsg1.counter = 1 ∧ geodeMsg1.set = 255 ∧ geodeMsg1.target = 0 ∧ s.geodeSetOk 255 = true ∧ s.geo.counter = 0 := by decide +kernel
theorem wit_geode_accepted :
    let s := geodeHead
    s.geodeAccepts geodeMsg1 = true ∧ (after (.geodeCommand geodeMsg1) s).geo.pending = [⟨31, 1, 108⟩] := by decide +kernel
theorem wit_geode_relayed : (after (.geodeRelayReceived geodeMsg1 100) geodeHead).getF F.GEO_EVT_LATE = 1 := by decide +kernel
theorem wit_geode_rejected :
    let s := geodeHead
    let m : GeodeMsg := ⟨geodeMsg1.bytes.take 127⟩
    m.form = false ∧ (after (.geodeCommand m) s).getF F.GEO_EVT_REJECT = 1 ∧
      (after (.geodeRelayReceived m 100) s).getF F.GEO_EVT_REJECT = 1 ∧ (tileS []).isHead = false := by decide +kernel

/-! ### Obligations.DecodedSlicesCommitOrCount, BlockJobsAreQueuedCodedAndSkipped, PackedHeadersRoundTrip, PacketHeadersRoundTrip -/

/-- A slice waiting in a released Tile. -/
def sliceS (h : Hdr) (p : List Byte) : State :=
  let s := tileS []
  { s with dec := { s.dec with staging := [⟨h, p⟩] } }
theorem wit_slice_late :
    let s0 := sliceS { facet := 3, image := 7 } []
    let s : State := { s0 with dec := { s0.dec with handed := [(3, 7)] } }
    s.handedOver 7 3 = true ∧ (after .sliceDecoded s).getF F.DEC_CNT1_LATE = 1 := by decide
theorem wit_slice_bad :
    let s := sliceS { facet := 3, image := 0x1FFFF, seq := 32 } []
    let u := sliceS { facet := 3, image := 7, seq := 31 } [1, 2]
    let c : CodecPlan := { packed := [[true, true, true, true]] }
    let p : State := { u with plan := { u.plan with codec := c } }
    s.handedOver 0x1FFFF 3 = false ∧ (after .sliceDecoded s).getF F.DEC_ERRLOG_CODE = 2 ∧
      (after .sliceDecoded s).getF F.DEC_ERRLOG_IMAGE = 65535 ∧ u.isPacked 7 3 = false ∧ clearDepth 2 = none ∧
      (after .sliceDecoded u).getF F.DEC_ERRLOG_CODE = 6 ∧ p.isPacked 7 3 = true ∧ pkCheck [1, 2] 31 3 7 = some 6 ∧
      (after .sliceDecoded p).getF F.DEC_CNT0_SYNTAX = 1 := by decide
theorem wit_slice_clear :
    let h : Hdr := { facet := 3, image := 7, seq := 31 }
    let s := setAll [(F.DEC_STAT_LITBUF0, 15), (F.DEC_STAT_LITBUF1, 15), (F.DEC_STAT_LITBUF2, 15), (F.DEC_STAT_LITBUF3, 15)]
      (sliceS h (List.replicate 6144 0))
    s.handedOver 7 3 = false ∧ s.isPacked 7 3 = false ∧ h.geode = false ∧ s.clearBuf 3 (7 / s.facets) = 7 ∧
      s.destBad h 7 = false ∧ (s.facetImg 7 3).dest = none := by decide
theorem wit_slice_clear_length : clearDepth (List.replicate 6144 (0 : Byte)).length = some (8, false) := by
  rw [List.length_replicate]; decide
/-- A Head that composes for one Tile, its facet 0 Clear or Packed, image 9 past its last active line. -/
def encS (packed : Bool) : State :=
  let h := headS [(F.CMP_STAT_STATE, 2), (F.CLK_STAT_MEM_LOCK, 1)]
  { h with
    now := 16000000
    ing := { h.ing with imgAt := some 0 }
    tim := { h.tim with image := some 9 }
    plan := { h.plan with ingest := { vtotal := 500 }, comp := { tiles := [{ id := 5 }] }, codec := { packed := [[packed]] } } }
/-- A job of the test as the queue holds it. -/
def encJob (j : BlockJob) : EncJob := { job := j, ready := 0, place := j.slice.val, imageAt := 0, floor := true, intra := true }
theorem wit_job :
    let j : BlockJob := { tile := 5, slice := 31, facet := 0, image := 9 }
    let s := encS false
    let p := encS true
    s.panelOf 5 = some { id := 5 } ∧ s.composing = true ∧ s.readyNow j { id := 5 } = true ∧ s.isPacked 9 0 = false ∧
      s.enc.inflight.length < 16384 ∧ p.isPacked 9 0 = true ∧ p.readyNow j { id := 5 } = true ∧
      s.readyNow { j with image := 8 } { id := 5 } = false ∧ (p.plan.codec.budgetOf (p.variantFor 9) 0 5 31) = 6144 ∧
      (after (.encodeJobReady j) s).enc.inflight = [(j, 1)] := by decide +kernel
theorem wit_job_packed :
    let j : BlockJob := { tile := 5, slice := 31, facet := 0, image := 9 }
    ((after (.encodeJobReady j) (encS true)).engineJob 0).map (fun x => x.job) = some j := by decide +kernel
theorem wit_job_full (j : BlockJob) : 16384 ≤ (List.replicate 16384 j).length := by rw [List.length_replicate]
theorem wit_job_skip :
    let j : BlockJob := { tile := 5, slice := 31, facet := 0, image := 9 }
    let s := encS true
    let e : SchedEntry := { port := 0, variant := 0, facet := 0, typ := 1, dst := 5, slice := 31, atNs := 0 }
    let p : State := { s with
      now := 17000000
      plan := { s.plan with link := { s.plan.link with sched := [e] } }
      enc := { s.enc with queue := [(7, [encJob j])], inflight := [(j, 1)], running := [(6, encJob j)] } }
    tabGet [] p.enc.queue 7 = [encJob j] ∧ p.skipDue (encJob j) = true ∧ (after (.encodeJobSkip 7) p).enc.inflight = [] ∧
      (after (.encodeJobSkip 7) p).getF F.ENC_CNT1_SKIPJOB = 1 ∧ p.engineJob 6 = some (encJob j) ∧
      (after (.encodeJobDone 6) p).getF F.ENC_CNT0_FLOOR = 1 ∧ (after (.encodeJobDone 6) p).engineJob 6 = none := by decide +kernel
/-- A slice header laid out by hand from the table of R196. -/
theorem test_packed_header_fields :
    let p : List Byte := [0xA5, 0x5C, 0x31, 0x01, 0x04, 0x10, 0x27, 0x35, 0x23, 0x01, 0x00, 0x1F, 0x11, 0x27, 0x00]
    let h := pkParse (p ++ [crc8 0 (bitsOf p)])
    h.slice = 17 ∧ h.facet = 1 ∧ h.depth = 1 ∧ h.dest = 4 ∧ h.ref = 0 ∧ h.refImage = 0x2710 ∧ h.refFacet = 1 ∧ h.qbase = 13 ∧
      h.dataBits = 0x123 ∧ h.gset = 15 ∧ h.gpresent = true ∧ h.image = 0x2711 ∧ h.hcrcOk = true := by decide
theorem wit_packed_header :
    let h : PkHdr := ⟨0, 31, 3, 2, 63, 11, 15, 65535, 3, 31, 16777215, 15, true, 65535, 0, false⟩
    h.slice < 32 ∧ h.dest < 12 ∧ h.ref = 15 ∧ h.image = (0x1FFFF : Word).toNat % 65536 ∧ (pkBytes h).length = 16 ∧
      (pkParse (pkBytes h)).dataBits = 16777215 ∧ pkCheck (pkBytes h) 31 3 0x1FFFF = none := by decide
/-- The slice header of Stage Kerrow in chapter 6: its 16 bytes stand there. -/
theorem test_packet_header_example :
    hdrBytes { typ := 1, prot := 2, dst := 77, keyEp := 5, src := 1022, facet := 2, seq := 0x004B0091, image := 0x00012C02, len := 6144 } =
      [0x21, 0x4D, 0x14, 0xFE, 0x0B, 0x91, 0x00, 0x4B, 0x00, 0x02, 0x2C, 0x01, 0x00, 0x00, 0x18, 0x01] := by decide

/-! ### Obligations.SlotsRunAndLampsStopStartAndBlank -/

/-- A released Tile whose lamp engine may run slots. -/
def lampS (l : List (Fld × Nat)) (x : Option SlotX) : State :=
  let s := tileS ([(F.LMP_STAT_STATE, 2), (F.LMP_CTL_STOP, 0), (F.LMP_CTL_HARD, 0), (F.RAIL_STAT_STATE, 2), (F.LMP_PLANECFG_DEPTH, 12),
    (F.LMP_PLANECFG_SHADE, 4)] ++ l)
  { s with lmp := { s.lmp with tb0Once := true, slot := x } }
theorem wit_slot :
    let s := lampS [] none
    let u := lampS [] (some { facet := 0 })
    let z := lampS [(F.LMP_IREF_BAD, 1)] none
    0 < s.facets ∧ s.released = true ∧ s.lmp.slot = none ∧ s.slotsOk = true ∧
      (after (.slotPreloadStart 0) s).getF F.LMP_STAT_INSLOT = 1 ∧ (after (.slotPreloadStart 0) u).getF F.LMP_CNT_SLOT_LATE = 1 ∧
      (after (.slotPreloadStart 0) u).lmp.waiting = [0] ∧ z.slotsOk = false ∧ (after (.slotPreloadStart 0) z).lmp.slot = none := by decide
theorem wit_line :
    let u := lampS [] (some { facet := 0, lit := true })
    let v := lampS [(F.LMP_STAT_LINE, 62)] (some { facet := 0, preload := false, driven := true })
    let w : State := { v with lmp := { v.lmp with softPend := true } }
    u.lmp.softPend = false ∧ nextLine true 0 0 = (0, 0) ∧ 0 < u.segments ∧ (after (.lineStart []) u).lmp.gate = some 0 ∧
      (after (.lineStart []) v).getF F.LMP_STAT_LINE = 63 ∧ (after (.lineStart []) v).lmp.gate = none ∧
      w.lmp.waiting = [] ∧ (after (.lineStart []) w).getF F.LMP_EVT_BLANKED = 1 ∧ (after (.lineStart []) w).getF F.LMP_CNT_BLANKS = 1 ∧
      (after .slotEnd v).lmp.slot = none ∧ (after .slotEnd v).getF F.LMP_STAT_INSLOT = 0 := by decide
theorem wit_lamp_may : (lampS [] none).mayWrite .keeper A.LMP_CTL ∧ (lampS [] none).mayWrite .a1 A.CORR_CTL ∧
    (lampS [] none).mayWrite .a0 A.CORR_MADDR ∧ (lampS [] none).mayWrite .a0 A.CORR_MDATA := by unfold State.mayWrite; decide
theorem wit_lamp_ctl :
    let s := lampS [] none
    let u := lampS [] (some { facet := 0, driven := true })
    s.flag F.LMP_CTL_STOP = false ∧ s.hardHeld = false ∧ (after (.lampStop .keeper) s).getF F.LMP_STAT_STATE = 0 ∧
      (after (.lampStop .keeper) u).getF F.LMP_STAT_STATE = 1 ∧ (after (.lampStop .keeper) u).lmp.softPend = true ∧
      (after (.lampStart .keeper) (after (.lampStop .keeper) s)).getF F.LMP_STAT_STATE = 2 ∧
      (after (.hardBlankRequest .keeper) u).getF F.LMP_STAT_STATE = 3 ∧ (after (.hardBlankRequest .keeper) u).lmp.slot = none ∧
      (after (.hardBlankClear .keeper) (after (.hardBlankRequest .keeper) u)).getF F.LMP_STAT_STATE = 2 := by decide
theorem wit_iref :
    let s := lampS [] none
    s.running = true ∧ (after (.irefMeasurement 18000) s).getF F.LMP_IREF_BAD = 0 ∧ (after (.irefMeasurement 110000) s).getF F.LMP_IREF_NA = 110000 ∧
      (after (.irefMeasurement 17999) s).getF F.LMP_IREF_BAD = 1 ∧ (after (.irefMeasurement 110001) s).getF F.LMP_EVT_IREF_BAD = 1 := by
  decide
theorem wit_unmeasured :
    let s := lampS [(F.CORR_FMAP_L 196607, 0), (F.CORR_FUNMEAS_COUNT, 3)] none
    s.lampAt 196607 = 0 ∧ (after (.lampUnmeasuredTimeout 196607) s).lampAt 196607 = 1 ∧
      (after (.lampUnmeasuredTimeout 196607) s).getF F.CORR_FUNMEAS_COUNT = 4 := by decide

/-! ### Obligations.MatrixBanksAndProbeSweeps -/

theorem wit_matrix :
    let s := lampS [] none
    let u := s.setF F.CORR_MADDR_BANK 1 |>.setF F.CORR_MADDR_WORD 196607
    s.matrixBusy true = false ∧ s.matrixBusy false = true ∧ (0x7FFFF : BitVec 19).getLsbD 18 = true ∧
      (after (.matrixAddressWrite .a0 0x7FFFF) s).getF F.CORR_MADDR_WORD = 0x3FFFF ∧
      (after (.matrixAddressWrite .a0 0) s).getF F.CORR_EVT_BANK_BUSY = 1 ∧ u.getF F.CORR_MADDR_WORD < 196608 ∧
      (after (.matrixWordWrite .a0 77) u).matrixWord true 196607 = 77 ∧
      (after (.matrixWordWrite .a0 77) s).getF F.CORR_EVT_BANK_BUSY = 1 := by decide
theorem wit_seal :
    let s := lampS [(F.CORR_STAT_FACT_OK, 1), (F.CORR_STAT_FACT_SETS, 2)] none
    let z := lampS [] none
    (after (.bankSeal .a1 true) s).getF F.CORR_STAT_SEALING = 1 ∧ (after (.bankSeal .a1 false) s).getF F.CORR_EVT_BANK_BUSY = 1 ∧
      true.toNat < s.getF F.CORR_STAT_FACT_SETS ∧ (after (.factorySetLoad .a1 true true) s).corr.sealing = [⟨true, some 0⟩] ∧
      z.flag F.CORR_STAT_FACT_OK = false ∧ (after (.factorySetLoad .a1 true true) z).getF F.CORR_EVT_SEAL_FAIL = 1 ∧
      (after (.bankSeal .a1 true) s).corr.sealing = [⟨true, none⟩] := by decide
theorem wit_fault_map : resetOf (A.CORR_FMAP 0) = 0x55555555 ∧ resetOf (A.CORR_FMAP 12287) = 0x55555555 ∧
    (after (.faultMapClear .a1) (lampS [(F.CORR_FMAP_L 196607, 3)] none)).lampAt 196607 = 1 := by decide
theorem wit_probe_request :
    let s := lampS [(F.CORR_FUNMEAS_COUNT, 1)] none
    s.plan.corr.probePeriod ≠ 0 ∧ s.flag F.CORR_PROBE_PENDING = false ∧ s.flag F.CORR_STAT_PROBING = false ∧
      (after (.probeRequest .a1 true) s).corr.probeAll = true ∧ (after .probePeriodExpiry s).getF F.CORR_PROBE_PENDING = 1 ∧
      (after (.probeRequest .a1 true) (s.setF F.CORR_STAT_PROBING 1)).getF F.CORR_PROBE_PENDING = 0 := by decide
/-- A sweep whose next row is 63, with one target lamp or none. -/
def sweepS (v : Nat) : State :=
  let s := lampS ((F.CORR_PROBE_PENDING, 1) :: (F.CORR_PROBE_NEXT_ROW, 63) :: (F.LMP_LINECFG_BLANK, 16) :: (F.LMP_LINECFG_WINDOW, 100) ::
    (F.CORR_FMAP_L 127, v) :: []) none
  s
theorem wit_probe_hyps :
    let s := sweepS 1
    s.getF F.LMP_STAT_STATE = 2 ∧ s.stepTicks ≤ 48 ∧ s.stepTicks + (s.getF F.LMP_LINECFG_BLANK + s.getF F.LMP_LINECFG_WINDOW) ≤ 164 ∧
      s.lmp.slot = none ∧ (s.flag F.CORR_PROBE_PENDING || s.flag F.CORR_STAT_PROBING) = true ∧ 1 ≤ s.plan.corr.sagCount ∧
      (after (.probeStep 47 164 false []) s).getF F.CORR_STAT_PROBING = 0 := by decide

theorem wit_probe_target : (sweepS 1).probeRow ((sweepS 1).getF F.CORR_PROBE_NEXT_ROW) = some 63 ∧ (1 : Nat) ∈ (sweepS 1).probeTargets 63 := by
  refine ⟨by decide, ?_⟩
  unfold State.probeTargets
  rw [List.mem_filter]
  exact ⟨List.mem_range.mpr (by decide), by decide⟩
/-- A table whose values are all equal gives that value for each of its keys. -/
theorem tabGet_of_all {d v : Word} {k : Nat} : ∀ l : List (Nat × Word), (∃ p ∈ l, p.1 = k) → (∀ p ∈ l, p.2 = v) → tabGet d l k = v
  | [], h, _ => by obtain ⟨_, h, _⟩ := h; cases h
  | (a, b) :: rest, h, hv => by
    unfold tabGet
    split
    · exact hv (a, b) List.mem_cons_self
    · rename_i n
      refine tabGet_of_all rest ?_ (fun p hp => hv p (List.mem_cons_of_mem _ hp))
      obtain ⟨p, hp, e⟩ := h
      rcases List.mem_cons.mp hp with rfl | hp
      · exact absurd e n
      · exact ⟨p, hp, e⟩
/-- A device whose lamps are all good, with a sweep pending whose next row is 63. -/
def goodS : State :=
  { State.reset with regs := (A.CORR_PROBE, 0x01FC0000) :: (A.LMP_STAT, 2) :: (List.range 12288).map (fun i => (A.CORR_FMAP i, (0 : Word))) }
theorem goodS_lamp (i : Nat) (h : i < 196608) : goodS.lampAt i = 0 := by
  have h1 : goodS.getW (A.CORR_FMAP (i / 16)) = 0 := by
    have hl : tabGet (resetOf (A.CORR_FMAP (i / 16))) ((List.range 12288).map (fun i => (A.CORR_FMAP i, (0 : Word))))
        (A.CORR_FMAP (i / 16)) = 0 := by
      refine tabGet_of_all _ ⟨(A.CORR_FMAP (i / 16), 0), ?_, rfl⟩ ?_
      · exact List.mem_map.mpr ⟨i / 16, List.mem_range.mpr (by omega), rfl⟩
      · intro p hp
        obtain ⟨_, _, rfl⟩ := List.mem_map.mp hp
        rfl
    have n1 : A.CORR_PROBE ≠ A.CORR_FMAP (i / 16) := by show (_ : Nat) ≠ _; unfold A.CORR_PROBE A.CORR_FMAP; omega
    have n2 : A.LMP_STAT ≠ A.CORR_FMAP (i / 16) := by show (_ : Nat) ≠ _; unfold A.LMP_STAT A.CORR_FMAP; omega
    unfold State.getW goodS
    show tabGet _ (_ :: _ :: _) _ = _
    rw [tabGet, if_neg n1, tabGet, if_neg n2]
    exact hl
  unfold State.lampAt State.getF
  show Fld.of _ (goodS.getW (A.CORR_FMAP (i / 16))) = 0
  rw [h1]
  simp [Fld.of]
theorem wit_no_target :
    (goodS.flag F.CORR_PROBE_PENDING || goodS.flag F.CORR_STAT_PROBING) = true ∧ goodS.getF F.LMP_STAT_STATE = 2 ∧
      goodS.stepTicks ≤ goodS.stepTicks ∧ goodS.lmp.slot = none ∧ goodS.getF F.CORR_PROBE_NEXT_ROW = 63 ∧ goodS.probeRow 63 = none := by
  refine ⟨by decide, by decide, Nat.le_refl _, by decide, by decide, ?_⟩
  unfold State.probeRow
  rw [List.find?_eq_none]
  intro x hx
  have : goodS.probeTargets x = [] := by
    unfold State.probeTargets
    rw [List.filter_eq_nil_iff]
    intro k hk
    have h1 := List.mem_range.mp hk
    have h2 := List.mem_range.mp hx
    rw [goodS_lamp _ (by omega)]
    decide
  rw [this]
  simp

/-! ### Obligations.RailTurnsMeasureAndRegulate, SetPointSourcesMoveTheTarget, RailFaultsRetryAndLatch, TheTraceArmsTriggersAndReads -/

/-- A released Tile with a rail controller of four phases. -/
def railS (state : Nat) (l : List (Fld × Nat)) (r : RailState) : State :=
  { tileS ([(F.RAIL_STAT_STATE, state), (F.RAIL_PWM_PHASES, 4), (F.RAIL_PWM_PERIOD, 800), (F.RAIL_CTL_STOP, 0)] ++ l) with rail := r }
theorem wit_turn :
    let s := (railS 2 [] {}).setActW A.RAIL_DLIM 0x10000010
    let p := railS 2 [(F.RAIL_CTL_STOP, 1)] { rc := [(0, 1)] }
    let o := railS 1 [] { ovCount := 1 }
    let z := railS 3 [] { duty := [] }
    s.running = true ∧ s.getF F.RAIL_PWM_PHASES = 4 ∧ s.railOn = true ∧ s.flag F.RAIL_CTL_STOP = false ∧
      s.actF F.RAIL_DLIM_DMIN ≤ s.actF F.RAIL_DLIM_DMAX ∧ p.railOn = true ∧ p.flag F.RAIL_CTL_STOP = true ∧
      1 ≤ o.rail.ovCount ∧ spCode o.plan.rail.div o.plan.rail.ovpMv < 4095 ∧ z.railOn = false := by decide
theorem wit_turn_stop :
    let p := railS 2 [(F.RAIL_CTL_STOP, 1)] { rc := [(0, 1)] }
    (after (.railTurn 0 [1, 2, 3, 4] 512 0) p).getF F.RAIL_STAT_STATE = 0 ∧
      (after (.railTurn 0 [1, 2, 3, 4] 512 0) p).getF (F.RAIL_ISNS_CODE 3) = 4 := by decide
theorem wit_current_limit :
    let s := railS 1 [] {}
    s.railOn = true ∧ 3 < s.getF F.RAIL_PWM_PHASES ∧ s.rail.cut.getLsbD 3 = false ∧
      (after (.phaseCurrentLimit 3) s).getF (F.RAIL_ISNS_ILIM 3) = 1 := by decide
theorem wit_set_point :
    let s := railS 2 [(F.RAIL_STAT_SRC, 2)] {}
    let h := railS 2 [] {}
    s.getF F.RAIL_STAT_SRC = 2 ∧ s.flag F.RAIL_STAT_AUX_LOST = false ∧
      (after (.auxpwmPeriodEnd 4000 4000) s).getF F.RAIL_SP_TARGET = 5000 ∧
      (after (.auxpwmPeriodEnd 0 800000) s).getF F.RAIL_EVT_SP_LIMIT = 1 ∧ (after .auxLost s).getF F.RAIL_EVT_AUX_LOST = 1 ∧
      h.getF F.RAIL_STAT_SRC ≠ 2 ∧ (after (.headroomValue 255) h).rail.segMin = some 255 ∧ h.getF F.RAIL_STAT_SRC = 0 ∧
      (after .headroomDarkTimeout h).getF F.RAIL_SP_TARGET = 3000 := by decide
theorem wit_rail_fault :
    let s := railS 2 [(F.RAIL_STAT_RETRIES, 2)] { feTicks := 1 }
    let l := railS 1 [(F.RAIL_STAT_RETRIES, 3)] { rampDone := 1 }
    let f := railS 3 [(F.RAIL_STAT_RETRIES, 2)] {}
    let g := railS 3 [(F.RAIL_STAT_RETRIES, 3)] {}
    s.railOn = true ∧ 0 < s.rail.feTicks ∧ (after .followingErrorTrip s).getF F.RAIL_STAT_STATE = 3 ∧ 0 < l.rail.rampDone ∧
      (after .followingErrorTrip l).getF F.RAIL_STAT_LATCHED = 1 ∧ f.flag F.RAIL_STAT_LATCHED = false ∧
      (after .railFaultRetry f).getF F.RAIL_STAT_RETRIES = 3 ∧ (after .railFaultRetry f).getF F.RAIL_STAT_STATE = 1 ∧
      (after .railFaultRetry g).getF F.RAIL_EVT_LATCHED = 1 ∧ (after .railRetriesReset s).getF F.RAIL_STAT_RETRIES = 0 := by decide
theorem wit_rail_may : (railS 0 [] {}).mayWrite .service A.RAIL_CTL ∧ (railS 0 [] {}).mayWrite .service A.RAIL_TCTL := by
  unfold State.mayWrite; decide
theorem wit_rail_ctl :
    let g := railS 3 [(F.RAIL_STAT_LATCHED, 1)] {}
    let z := railS 0 [(F.RAIL_CTL_STOP, 1), (F.RAIL_MEAS_VSNS_MV, 1200)] { rc := [(5, 7)] }
    (after (.railClearFault .keeper) g).getF F.RAIL_STAT_STATE = 1 ∧ (after (.railClearFault .keeper) z).getF F.RAIL_STAT_STATE = 0 ∧
      (after (.railStop .keeper) g).getF F.RAIL_CTL_STOP = 1 ∧ z.flag F.RAIL_CTL_STOP = true ∧ z.getF F.RAIL_STAT_STATE = 0 ∧
      (after (.railStart .keeper) z).rail.ramp = 9600000 ∧ (after (.rcClr .keeper) z).rail.rc = [] ∧
      (after (.rcClr .keeper) z).getF F.RAIL_CTL_STOP = 1 := by decide
theorem wit_trace :
    let s := railS 2 [(F.RAIL_TCTL_PRE, 2047)] { trace := [[9]] }
    let u := after (.traceArm .service) s
    let v : State := railS 2 [(F.RAIL_TADDR_SAMPLE, 2047), (F.RAIL_TCTL_TSTATE, 3)] { trace := [[9]] }
    u.getF F.RAIL_TCTL_TSTATE = 1 ∧ u.rail.trace = [] ∧ (after (.traceForce .service) u).rail.traceLeft = 1 ∧
      (after (.traceForce .service) u).getF F.RAIL_TCTL_TSTATE = 2 ∧ (after (.traceForce .service) v).getF F.RAIL_TCTL_TSTATE = 3 ∧
      (after (.traceDataRead .a0) v).bus.data = 9 ∧ (after (.traceDataRead .a0) v).getF F.RAIL_TADDR_SAMPLE = 0 := by decide

/-! ### Obligations.TimeBasesCaptureSettleAndFollowGenlock, PathDelaysAndSyncAreFollowed -/

/-- A device whose chain time runs, with every time base at a source code. -/
def chronoS (s : State) (src : Nat) (l : List (Fld × Nat)) : State :=
  let u := setAll ([(F.TIM_CTL_STOP, 0), (F.TIM_SRC_SRC 0, src), (F.LNK_PSTAT_STATE 0, 2)] ++ l) s
  { u with now := 10000, tim := { u.tim with running := true, period := 266666667 } }
theorem wit_time_capture :
    let s := chronoS (tileS []) 2 []
    let t := after (.timeCapture .keeper) s
    s.mayWrite .keeper A.TIM_CTL ∧ t.getF (F.TIM_CNS_NS 1) = 10000 ∧ t.getF (F.TIM_CFRAC_FRAC 0) = 0 ∧ s.tim.running = true ∧
      (after (.timeBaseWrap 3) s).getF F.TIM_EVT_WRAP = 8 := by
  unfold State.mayWrite; decide
theorem wit_settle :
    let s := chronoS (tileS []) 2 [(F.TIM_STAT_TB 0, 2)]
    let u : State := { s with tim := { s.tim with ann := some { settled := true } } }
    let v : State := { s with tim := { s.tim with ann := some { settled := false } } }
    u.tbState 0 = 2 ∧ u.isHead = false ∧ (after .settleExpiry u).getF F.TIM_STAT_SETTLED = 1 ∧
      (after .settleExpiry v).getF F.TIM_STAT_SETTLED = 0 ∧ v.isHead = false ∧ (tileS []).tbState 0 ≠ 2 ∧
      (after .settleExpiry (chronoS (headS []) 0 [(F.TIM_STAT_TB 0, 2)])).getF F.TIM_STAT_SETTLED = 1 := by decide
/-- A Head with a genlock reference, 60 Hz, and an instant received one frame period before. -/
def genS (miss src : Nat) (l : List (Fld × Nat)) : State :=
  let s := chronoS (headS []) src ((F.SCN_STAT_GLK, 1) :: l)
  { s with now := 20000000, plan := { s.plan with ingest := { s.plan.ingest with glk := .pulse }, wall := { s.plan.wall with rateNum := 60, rateDen := 1 } },
           ing := { s.ing with glkLast := some 3333333, glkMiss := miss } }
theorem wit_genlock :
    let s := genS 0 1 []
    let u := genS 0 0 []
    s.glkOn = true ∧ s.glkCounts .pulse false = true ∧ s.plan.ingest.glk ≠ .biLevel ∧ s.glkWindow 3333333 = true ∧ s.getF F.SCN_STAT_GLK ≠ 2 ∧ s.tbSrc 0 = 1 ∧ s.tim.period ≠ 0 ∧ s.tbState 0 ≠ 2 ∧
      s.plan.time.stepNs * 256 < (s.nearBoundary (s.tbVal 0 + s.plan.ingest.phaseNs * 256)).2.natAbs ∧
      u.tbSrc 0 ≠ 1 ∧
      (after (.genlockInstant .pulse false) u).getF F.SCN_STAT_GLK = 2 ∧ (after (.genlockInstant .pulse false) u).tbState 0 = 0 ∧ u.glkOn = true := by decide
theorem wit_genlock_lost :
    let s := genS 0 1 [(F.SCN_STAT_GLK, 2), (F.TIM_STAT_TB 0, 2)]
    let u : State := { s with now := 19000000 }
    let v := genS 1 1 [(F.SCN_STAT_GLK, 2), (F.TIM_STAT_TB 0, 2)]
    u.glkOn = true ∧ u.glkWindow 3333333 = false ∧ u.getF F.SCN_STAT_GLK = 2 ∧ (after (.genlockInstant .pulse false) u).getF F.SCN_STAT_GLK = 3 ∧
      (after (.genlockInstant .pulse false) u).tbState 0 = 3 ∧ (after .genlockInstantMissing s).ing.glkMiss = 1 ∧ v.glkOn = true ∧
      (after .genlockInstantMissing v).getF F.SCN_EVT_GLK_LOST = 1 ∧ (tileS []).glkOn = false ∧
      ({ s with ing := {} } : State).glkOn = true := by decide
theorem wit_dreq :
    let s := chronoS (tileS [(F.CLK_STAT_PORT_LOCK, 255), (F.LNK_PSTAT_TXMASK 0, 15)]) 2 []
    let u : State := { s with sec := { s.sec with keys := [((0, 0), 7)] } }
    u.tim.running = true ∧ 0 ∈ u.upPorts ∧ ((after .dreqPeriod u).port 0).dreq = some (1, 2560000) ∧ u.portUp 0 = true ∧ u.canSend 0 = true ∧
      u.chainKey (u.chainOf 0) (BitVec.ofNat 6 u.curEp).toNat = some (7) ∧ (after (.dreqReceived 0 7 5) u).out.length = 1 ∧
      u.portUp 1 = false := by decide
/-- The delay of Tile 77 in the spec's example (ch. 14): 11.250 ns. -/
theorem test_path_delay :
    let s := chronoS (tileS []) 2 []
    let v : State := { s with now := 1000320 }
    let u : State := v.setPort 0 { dreq := some (9, 256000000) }
    u.tim.running = true ∧ (u.port 0).dreq = some (9, 256000000) ∧
      (after (.drespReceived 0 9 256003136 256079424 128) u).getF (F.TIM_DELAY_MEAN 0) = 11 * 256 + 64 ∧
      ((after (.drespTimeout 0) u).port 0).dreq = none ∧ ((after (.drespReceived 0 8 0 0 0) u).port 0).dreq = some (9, 256000000) := by decide
/-- A SYNC as port A of a Tile receives it. -/
def syncM (tTx : Nat) : SyncMsg := { hops := 5, valid := 1, tTx := tTx, period := 266666667 }
theorem wit_sync :
    let s := chronoS (tileS []) 2 [(F.TIM_SRC_SRC 1, 0)]
    let t := after (.syncReceived 0 (syncM 0) 0) s
    let u := { (s.setF (F.TIM_STAT_TB 0) 1) with tim := { s.tim with follow := some 0, tb := [(0, { good := 15 })] } }
    let v := { (s.setF (F.TIM_STAT_TB 0) 2) with tim := { s.tim with follow := some 0, tb := [(0, { bad := 3 })] } }
    (syncM 0).invalid = false ∧ (syncM 0).usable = true ∧ s.tbSrc 0 = 2 ∧ s.tbSrc 1 ≠ 2 ∧ s.tbSrc 2 ≠ 2 ∧ s.tbSrc 3 ≠ 2 ∧
      (s.port 1).sync = none ∧ t.tbState 0 = 1 ∧ t.getF F.TIM_EVT_STEP = 1 ∧ t.getF F.TIM_STAT_HOPS = 5 ∧ t.getF F.TIM_OFS_OFS = 2560000 ∧
      u.tbState 0 = 1 ∧ (u.tb 0).good = 15 ∧ u.tbSrc 0 = 2 ∧ v.tbState 0 = 2 ∧ (v.tb 0).bad = 3 ∧ v.tbSrc 0 = 2 ∧ v.tim.running = true ∧
      (after (.syncReceived 0 { syncM 0 with hops := 26 } 0) s).getF (F.LNK_RXERR_FRAME 0) = 1 := by decide
theorem wit_sync_sent :
    let s := chronoS (tileS [(F.CLK_STAT_PORT_LOCK, 255), (F.LNK_PSTAT_TXMASK 0, 15)]) 2 []
    let u : State := { s with sec := { s.sec with keys := [((0, 0), 7)] } }
    u.upPorts = [0] ∧ u.canSend 0 = true ∧ (after (.syncReceived 0 (syncM 0) 0) u).out.length = 1 := by decide
theorem wit_sync_switch :
    let s := chronoS (tileS []) 2 []
    let f := fun (c : Nat) => ({ s with tim := { s.tim with follow := some 0, challenger := some (1, c) } } : State).setPort 0
      { sync := some { syncM 0 with hops := 14 } }
    (f 15).tbSrc 0 = 2 ∧ (after (.syncReceived 1 (syncM 0) 0) (f 14)).tim.challenger = some (1, 15) ∧
      (after (.syncReceived 1 (syncM 0) 0) (f 15)).tim.follow = some 1 ∧ (f 15).tim.follow = some 0 ∧
      (after (.syncReceived 1 (syncM 0) 0) (f 15)).getF F.TIM_EVT_SWITCH = 1 := by decide
theorem wit_sync_timeout :
    let s := chronoS (tileS []) 2 [(F.TIM_STAT_TB 0, 2)]
    let u : State := { s with tim := { s.tim with follow := some 0 } }
    let v := u.setPort 1 { sync := some (syncM 0) }
    u.tim.follow = some 0 ∧ (u.port 1).sync = none ∧ u.tbSrc 0 = 2 ∧ u.tbState 0 = 2 ∧ (after (.syncSourceTimeout 0) u).tbState 0 = 3 ∧
      (after (.syncSourceTimeout 0) v).tim.follow = some 1 ∧ (v.port 1).sync = some (syncM 0) := by decide
theorem wit_ptp_sync :
    let s := chronoS (tileS []) 2 [(F.TIM_SRC_SRC 3, 1)]
    let m : PtpMaster := ⟨7, 128, 6, 33, 100, 128, 9, 4⟩
    let u : State := { s with lan := { s.lan with svcUp := true } }
    let v := after (.ptpMessageReceived (.announce 0 m)) u
    let w := after (.ptpMessageReceived (.sync 0 7 5 none 0)) v
    let x := after (.ptpMessageReceived (.followUp 0 7 5 2560000)) w
    v.tim.ptp.master = some m ∧ w.tim.ptp.wait = some (5, v.tbVal 3) ∧ v.tbVal 3 = 2560000 ∧ x.tim.ptp.wait = none ∧
      x.out = [.ptpDelayReq 1] ∧ x.tim.ptp.asked = some (1, 2560000) ∧ x.tim.ptp.last = some (2560000, 2560000) ∧
      (after (.ptpMessageReceived (.delayResp 0 7 1 2560256)) (v.setPtp x.tim.ptp)).tim.ptp.delay2 = 256 ∧
      (PtpMsg.announce 1 m).from.1.toNat ≠ u.plan.time.ptpDomain := by decide
theorem wit_ptp :
    let s := chronoS (tileS []) 2 [(F.TIM_SRC_SRC 3, 1)]
    let u : State := { s with lan := { s.lan with svcUp := true } }
    let m : PtpMaster := ⟨7, 128, 6, 33, 100, 128, 9, 4⟩
    let v := after (.ptpMessageReceived (.announce 0 m)) u
    u.lan.svcUp = true ∧ u.tbSrc 3 = 1 ∧ v.getF F.TIM_PTPSTAT_STEPS_REMOVED = 4 ∧ v.tbState 3 = 1 ∧ v.flag F.TIM_PTPSTAT_MASTER = true ∧
      v.tbSrc 3 = 1 ∧ (after .ptpAnnounceTimeout v).tbState 3 = 3 ∧ s.lan.svcUp = false ∧ u.plan.time.ptpDomain = 0 := by decide

/-! ### Obligations.HeartbeatsFindThePartner, VerdictsAndClaimsGiveTheOwner, FailedHeadsYieldsCopiesAndHolds -/

/-- A Head of a pair with a duty. -/
def pairS (duty : Nat) (endB : Bool) (l : List (Fld × Nat)) : State :=
  let s := headS ([(F.RED_STAT_DUTY, duty), (F.CLK_STAT_PORT_LOCK, 255), (F.LNK_PSTAT_STATE 0, 2), (F.LNK_PSTAT_TXMASK 0, 15)] ++ l)
  { s with
    now := 10000, sec := { s.sec with keys := [((0, 0), 7)] }
    plan := { s.plan with wall := { s.plan.wall with pairId := 5 }, red := { s.plan.red with endB := endB, sharedPorts := [0] } } }
/-- A HEART of the other end. -/
def heartB (duty : Nat) : HeartMsg := { endB := true, duty := duty, pair := 5, conv := 1, ready := true, sigs := [1] }
theorem wit_heart_sent :
    let s := pairS 2 false []
    s.paired = true ∧ s.duty ≠ 3 ∧ s.sec.quiet = false ∧ s.sec.pairWait = false ∧ s.heartPorts = [0] ∧
      (after .heartPeriod s).out.length = 1 ∧ (after .heartPeriod s).red.leaseAt = 10000 + s.plan.red.leaseUs * 1000 ∧
      (pairS 3 false []).duty = 3 := by decide
theorem wit_heart_refused :
    let s := pairS 1 false []
    let t := after (.heartReceived { heartB 2 with pair := 6 }) s
    s.pairLive = true ∧ s.red.pairSeen = false ∧ t.getF F.RED_STAT_PAIR_REFUSED = 1 ∧ t.getF F.RED_STAT_DUTY = 0 := by decide
theorem wit_heart_heard :
    let s := pairS 1 false []
    let u := fun (n : Nat) => ({ s with red := { s.red with lostOnce := true, back := n } } : State)
    s.flag F.RED_STAT_PEER = false ∧ s.red.lostOnce = false ∧ (after (.heartReceived (heartB 2)) s).getF F.RED_STAT_PEER = 1 ∧
      (after (.heartReceived (heartB 2)) (u 14)).getF F.RED_STAT_PEER = 0 ∧
      (after (.heartReceived (heartB 2)) (u 15)).getF F.RED_EVT_PEER_BACK = 1 ∧ (u 15).pairLive = true ∧
      after (.heartReceived { heartB 2 with endB := false }) s = s := by decide
theorem wit_heart_lost :
    let s := pairS 1 false [(F.RED_STAT_PEER, 1)]
    let u : State := { s with red := { s.red with copyIn := some { epoch := 3, parts := 2, last := { epoch := 3, part := 0, parts := 2, term := 1 } } } }
    let t := after (.peerMissTimeout true) u
    u.flag F.RED_STAT_PEER = true ∧ (after (.heartReceived (heartB 3)) u).getF F.RED_EVT_PEER_LOST = 1 ∧ t.getF F.RED_STAT_PEER = 0 ∧
      t.getF F.RED_CNT_COPY_ABORT = 1 ∧ (heartB 3).pair = s.plan.wall.pairId := by decide
theorem wit_signatures :
    let s := pairS 1 false [(F.RED_STAT_PEER, 1), (F.ENC_STAT_CONV, 1)]
    let u : State := { s with red := { s.red with pairSeen := true, sigs := [2], sigBad := [(0, 1)] } }
    let v : State := { u with red := { u.red with sigBad := [] } }
    u.pairLive = true ∧ u.facets = 1 ∧ u.red.sigSeen ≠ some 0 ∧ u.bit F.ENC_STAT_CONV 0 = true ∧ tabGet 0 u.red.sigBad 0 = 1 ∧
      u.plan.red.sigLimit = 2 ∧ (after (.heartReceived (heartB 2)) u).getF F.RED_EVT_SIG_DIFF = 1 ∧
      (after (.heartReceived (heartB 2)) v).enc.held = 0 ∧ (heartB 2).sigFrame = u.red.sigFrame ∧
      ((after (.heartReceived { heartB 2 with sigs := [2] }) { u with enc := { u.enc with held := 1 }, red := { u.red with sigGood := [(0, 1)] } }).enc.held = 0) := by decide
/-- A Warden Tile. -/
def wardS : State := { tileS [(F.LNK_ID_ASSIGNED, 1), (F.LNK_ID_TILE_ID, 1)] with now := 10000 }
theorem wit_warden :
    let s := wardS
    let t := after (.heartReceived { heartB 2 with term := 7, peer := true }) s
    s.isWarden = true ∧ t.red.term = 7 ∧ t.red.vouchB = some 10000 ∧ (after .verdictPeriod t).red.owner = 1 ∧
      (after .verdictPeriod t).red.term = 8 ∧ (tileS []).isWarden = false ∧ (tileS []).isHead = false ∧
      (after (.peerMissTimeout true) t).red.seenB = none := by decide
theorem wit_warden_rows :
    let s := wardS
    let m := fun (y r : Bool) => ({ endB := false, duty := 1, yield := y, ready := r } : HeartMsg)
    let f := fun (o : Nat) (a b : Option HeartMsg) => (after .verdictPeriod { s with red := { s.red with seenA := a, seenB := b, owner := o } }).red.owner
    f 2 none none = 2 ∧ f 0 (some (m false false)) (some (m false false)) = 1 ∧ f 1 (some (m true false)) (some (m false true)) = 2 ∧
      f 1 (some (m true false)) (some (m false false)) = 1 ∧ f 2 (some (m false true)) (some (m true false)) = 1 ∧
      f 1 none (some (m false false)) = 2 := by decide
theorem wit_epochs_differ :
    let s := pairS 1 false []
    let u : State := { s with red := { s.red with peerHeart := some { heartB 2 with epoch := 1 } } }
    u.paired = true ∧ (after .epochDiffTimeout u).getF F.RED_EVT_EPOCH_DIFF = 1 ∧ u.getW A.CFG_EPOCH = 0 := by decide
theorem wit_verdict :
    let v : VerdictMsg := { owner := 1, term := 7, pair := 5 }
    let f := fun (d ilk o : Nat) => after (.verdictReceived { v with owner := o }) (pairS d false [(F.RED_STAT_ILK_IN, ilk), (F.RED_TERM_TERM, 6)])
    (pairS 1 false []).endNo = 1 ∧ (pairS 1 false []).pairLive = true ∧ (f 1 0 1).getF F.RED_STAT_ILK_OUT = 1 ∧ (f 1 0 1).getF F.RED_TERM_TERM = 7 ∧
      (f 1 1 1).getF F.RED_EVT_CLAIM_FAIL = 1 ∧ (f 2 0 2).getF F.RED_STAT_DUTY = 1 ∧ (f 2 0 1).getF F.RED_STAT_DUTY = 2 ∧
      (f 0 0 0).getF F.RED_STAT_DUTY = 1 ∧ (f 1 0 3).getF F.RED_TERM_TERM = 6 := by decide
theorem wit_claim :
    let s := pairS 1 false [(F.RED_STAT_ILK_OUT, 1)]
    let f := fun (b : Bool) (ilk : Nat) => ({ s.setF F.RED_STAT_ILK_IN ilk with red := { s.red with claim := some b } } : State)
    (after .ilkClaimSettle (f false 0)).getF F.RED_STAT_DUTY = 2 ∧ (after .ilkClaimSettle (f false 0)).getF F.RED_CNT_SWITCHES = 1 ∧
      (after .ilkClaimSettle (f false 1)).red.claim = some true ∧ (after .ilkClaimSettle (f true 1)).getF F.RED_EVT_CLAIM_FAIL = 1 ∧
      (f true 1).plan.red.endB = false ∧ (after (.ilkInChange false false) (f true 1)).getF F.RED_STAT_DUTY = 2 ∧
      (after (.ilkInChange false true) s).getF F.RED_STAT_ILK_IN = 1 ∧ s.running = true ∧ s.red.claim = none := by decide
theorem wit_orphan :
    let s := pairS 1 false []
    s.pairLive = true ∧ s.duty < 2 ∧ s.flag F.RED_STAT_WARDEN = false ∧ s.flag F.RED_STAT_PEER = false ∧
      s.flag F.RED_STAT_ILK_IN = false ∧ (after .ilkOrphanExpiry s).getF F.RED_STAT_ILK_OUT = 1 ∧
      (pairS 1 false [(F.RED_STAT_WARDEN, 1)]).flag F.RED_STAT_WARDEN = true ∧
      (after .wardenMissTimeout (pairS 1 false [(F.RED_STAT_WARDEN, 1)])).getF F.RED_EVT_WARDEN_LOST = 1 := by decide
theorem wit_failed :
    let s := pairS 2 false [(F.RED_STAT_ILK_OUT, 1)]
    (after .ilkLeaseExpiry s).getF F.RED_STAT_CAUSE = 2 ∧ (after .ilkLeaseExpiry s).getF F.RED_STAT_DUTY = 3 ∧ s.paired = true ∧
      (after .ilkLeaseExpiry s).getF F.RED_STAT_ILK_OUT = 0 ∧ (after .refclkStopDetected s).getF F.RED_STAT_ILK_OUT = 0 ∧
      s.released = true ∧ (after .fwAliveTimeout s).getF F.RED_STAT_CAUSE = 3 := by decide
theorem wit_red_ctl :
    let s := pairS 2 false [(F.RED_STAT_WARDEN, 1), (F.RED_STAT_PEER, 1)]
    let u : State := { s with red := { s.red with peerHeart := some (heartB 1) } }
    let v : State := { s with red := { s.red with peerHeart := some { heartB 1 with ready := false } } }
    u.mayWrite .a0 A.RED_CTL ∧ u.mayWrite .service A.RED_CTL ∧ (after (.fwAlive .a0) u).red.aliveAt = 10000 ∧
      (after (.failRequest .a0) u).getF F.RED_STAT_CAUSE = 4 ∧ (after (.failRequest .service) u).getF F.RED_STAT_DUTY = 2 ∧
      (after (.yieldRequest .a0) u).red.yieldOn = true ∧ (after (.yieldRequest .a0) v).getF F.RED_EVT_YIELD_REF = 1 ∧
      (after .yieldExpiry { u with red := { u.red with yieldOn := true } }).red.yieldOn = false := by
  unfold State.mayWrite; decide
theorem wit_copies :
    let s := pairS 2 false []
    let u := pairS 1 false []
    let p : CopyPart := { epoch := 4, part := 0, parts := 2, term := 1 }
    let c : CopyIn := { epoch := 4, parts := 2, got := [1], last := p }
    let v : State := { u with red := { u.red with copyIn := some c } }
    s.duty = 2 ∧ s.pairLive = true ∧ u.pairLive = true ∧ u.duty ≠ 2 ∧
      (after (.copyPartReceived p) v).red.copyIn = none ∧ ((after (.copyPartReceived p) u).red.copyIn.map (·.got)) = some [0] ∧
      (after (.copyPartReceived { p with epoch := 5 }) v).getF F.RED_CNT_COPY_ABORT = 1 ∧ 0 < diff32 5 4 ∧
      ((after (.copyPartReceived { p with parts := 1 }) u).red.copyReady.map (·.epoch)) = some 4 ∧
      (after .copyTimeout v).getF F.RED_EVT_COPY_ABORT = 1 ∧ c.got.contains p.part = false := by decide
theorem wit_hold :
    let s := tileS [(F.RED_TSTAT_HOLDING, 2)]
    s.bit F.RED_TSTAT_HOLDING 1 = true ∧ s.bit F.RED_TSTAT_EXPIRED 1 = false ∧ s.geo.wasGeode.getLsbD 1 = false ∧
      (after (.holdExpiry 1) s).getF F.RED_TSTAT_EXPIRED = 2 ∧ s.bit F.RED_TSTAT_HOLDING 0 = false := by decide

/-! ### Obligations.MailboxesLocksAndDoorbells -/

theorem wit_mailbox_post :
    let s := runS [(F.MBX_CCFG_SENDERS 9, 2), (F.MBX_CCFG_RECEIVER 9, 2), (F.MBX_CCFG_LOCK_REQ 9, 1), (F.MBX_LOCK_HELD 9, 1), (F.MBX_LOCK_HOLDER 9, 1)]
    let t := after (.mailboxDataWrite .a0 9 77) s
    s.isSender .a0 9 = true ∧ s.flag (F.MBX_CST_FULL 9) = false ∧ t.getW (A.MBX_DATA 9) = 77 ∧ t.getF (F.MBX_CST_LASTSND 9) = 1 ∧
      (after (.mailboxDataWrite .a0 9 78) t).getF (F.MBX_CST_REFUSED 9) = 1 ∧ (after (.mailboxDataWrite .a1 9 78) s).bus = ⟨0, false⟩ ∧
      (after (.mailboxDataWrite .keeper 9 78) s).bus = ⟨0, true⟩ ∧ s.isReceiver .a1 9 = true ∧ s.isSender .a1 9 = false ∧
      (after (.mailboxTake .a1 9) t).getF (F.MBX_CST_TAKEN 9) = 1 ∧ (after (.mailboxTake .a0 9) t).getF (F.MBX_CST_FULL 9) = 1 := by decide
theorem wit_locks :
    let s := runS [(F.MBX_CCFG_SENDERS 3, 3), (F.MBX_CCFG_RECEIVER 3, 2)]
    let t := after (.lockRead .a0 3) s
    t.bus.data.toNat % 2 = 1 ∧ t.getF (F.MBX_LOCK_HOLDER 3) = 1 ∧ (after (.lockRead .keeper 3) t).bus.data.toNat % 2 = 0 ∧
      (after (.lockRelease .a0 3) t).getF (F.MBX_LOCK_HELD 3) = 0 ∧ (after (.lockRelease .keeper 3) t).getF (F.MBX_LOCK_HELD 3) = 1 ∧
      (after (.lockForce .keeper 3) t).getF (F.MBX_LOCK_HELD 3) = 0 ∧ (after (.lockForce .a1 3) t).getF (F.MBX_LOCK_HELD 3) = 1 ∧
      (after (.lockTimeout 3) { t with plan := { t.plan with mbx := { t.plan.mbx with lockTimeoutUs := 5 } } }).getF F.MBX_EVT_LOCKTO = 8 ∧
      after (.lockTimeout 3) s = s := by decide
theorem wit_doorbells :
    let s := runS [(⟨A.MBX_DBRING 2, 0, 4⟩, 2), (F.MBX_DBTGT_TGT, 1)]
    let t := after (.doorbellRing .a0 0x30000) s
    s.mayRing .a0 16 = true ∧ s.mayRing .a0 17 = false ∧ t.getW A.MBX_DBPEND = 0x10000 ∧ t.getF F.MBX_EVT_DB_DENY = 1 ∧
      s.bellTarget 16 = .a1 ∧ (after (.doorbellClear .a1 0x10000) t).getW A.MBX_DBPEND = 0 ∧
      (after (.doorbellClear .a0 0x10000) t).getW A.MBX_DBPEND = 0x10000 := by decide

/-! ### Obligations.RekeysAndEnrolment, ZeroiseEntropySessionsAndLifecycle -/

/-- A Head without a partner that holds the key of its chain. -/
def ownS (l : List (Fld × Nat)) : State :=
  let s := headS ((F.LNK_PCFG_ROLE 0, 1) :: l)
  { s with
    sec := { s.sec with keys := [((0, 0), 7)], identity := some 7 }
    plan := { s.plan with
      wall := { s.plan.wall with tilesPerChain := [3] }
      comp := { s.plan.comp with tiles := [{ chain := 0, pos := 2, id := 77 }] }
      sec := { s.plan.sec with enrolAllow := false } } }
theorem wit_rekey :
    let s := ownS [(F.SEC_KEYEP_CUR, 63)]
    let t := after .rekeyTimer s
    s.owns = true ∧ s.sec.keys ≠ [] ∧ s.flag F.SEC_KEYEP_NEXT_VALID = false ∧ t.getF F.SEC_KEYEP_NEXT = 0 ∧
      t.getF F.SEC_KEYEP_NEXT_VALID = 1 ∧ t.curEp = 63 ∧ s.headChains = [0] ∧ (t.chainKey 0 64).isSome = true ∧
      s.mayWrite .keeper A.SEC_CTL ∧ (after (.rekeyRequest .keeper) s).getF F.SEC_KEYEP_NEXT_VALID = 1 ∧ (tileS []).owns = false := by
  unfold State.mayWrite; decide
/-- A state with the keys of the tests (`keyedS`) whose device certificate is that of serial 9. -/
def idS (s : State) : State := { keyedS s with kar := { s.kar with cert := cert9 } }
/-- The public key of the private key 13. -/
def pub13 : List Byte := bytesBe 0x4a567ba97b67aea5bafdaf5002ffcc6ab9632bff9f01f873f6267bcd1f0f11c139ee5f441abd99f1baaf1ca1e3b5cbce7de1b38b3989f3318644e4147af164ecc5185595046932ec086329be057857d66776bcb8272218a7d6423a12736f429cc 97
/-- The device certificate of serial 10, of the key 12. -/
def cert10 : List Byte := bytesBe 0x52454347ff01000000000000000000000a00000000000000000000000000000004952a7a349bd49289ab3ac421dcf683d08c2ed5e41f6d0e21648af2691a481406da4a5e22da817cb466da2ea77d2a7022a0320faf84b5bc0563052deae6f66f2e09fb8036ce18a0ebb9028b096196b50d031aa64589743e229ef6bacce21bd16e0000000000000000000000000000000000000000000000000000000000000031c80005c7e5d7020d582650aebb08b4a66d56d340f2a4be06cd2d2010399dcb987ddc5f7e3c796414fa6f60d4417a070395b7790f80093cf55462c3bd239c26f9ef4639a9cbb321be5ce82a31008bd76fdf619c62f3533edebbccf388d88503 256
/-- Every private key shares a secret with that public key. -/
theorem ecdh_pub13 (d : Nat) : ∃ z, ecdh d pub13 = some z := by
  obtain ⟨q, hq⟩ := Option.isSome_iff_exists.mp (by decide +kernel : (decodePoint pub13).isSome = true)
  exact ⟨_, by rw [ecdh, hq]; rfl⟩
/-- A JOIN of serial 10 from the middle Tile of chain 0, of wall 1. -/
def joinM : JoinMsg :=
  ⟨joinBody 10 2 2 0 1 0 0 pub13 cert10 ++
    bytesBe 0x31c80005c7e5d7020d582650aebb08b4a66d56d340f2a4be06cd2d2010399dcb987ddc5f7e3c796414fa6f60d4417a07addd8bafa5a3d5ccf576a5e0ebc5fc77e0aaafaaa6afb19666b1fa83644f94c1d1f1cd230f9b04cd51c4f24a50efa52c 96⟩
theorem wit_join_signed : (idS (ownS [])).joinFails joinM = none := by decide +kernel
theorem wit_join_fields :
    let s := idS (ownS [])
    s.ownsChain joinM.chain.val = true ∧ s.flag F.SEC_STAT_DEBUG = false ∧ s.sec.entropyBad = false ∧
      s.idAt joinM.chain.val (s.joinAt joinM) = some 77 ∧ joinM.pub = pub13 ∧ joinM.serial = 10 ∧ s.chainKey joinM.chain.val s.curEp = some 7 ∧
      joinM.cert = cert10 ∧ (tileS []).ownsChain 0 = false := by decide +kernel
theorem wit_join_share : ∃ z, ecdh (idS (ownS [])).drawScalar.1 pub13 = some z := ecdh_pub13 _
theorem wit_join_fails :
    let s := idS (ownS [])
    let m : JoinMsg := ⟨joinM.bytes.take 487⟩
    s.ownsChain m.chain.val = true ∧ m.bytes.length ≠ 488 ∧ s.joinFails m = some F.SEC_EVT_ENROL_FAIL ∧
      (after (.joinReceived m) s).getF F.SEC_CNT0_ENROL_FAIL = 1 := by decide +kernel
/-- A Tile of serial 9 with the private share 4. -/
def shareS : State := { idS (tileS []) with sec := { (tileS []).sec with share := some 4 } }
/-- The offer of serial 10 to that Tile. -/
def keyxOfferM : KeyxMsg :=
  { src := 1020
    bytes := keyxOffer (keyxHead 1 0 77 9 10 0 0) pub13 cert10 ++
      bytesBe 0x31c80005c7e5d7020d582650aebb08b4a66d56d340f2a4be06cd2d2010399dcb987ddc5f7e3c796414fa6f60d4417a07f52bd00b053a4ecad3b525cf6c48bb1e7054bfaf59c01385cc5162b1095be5eac16d5f79f3fb420186cf403251f2d94e 96 }
theorem wit_keyx_offer : shareS.keyxAuth keyxOfferM (publicKey 4) = true := by decide +kernel
theorem wit_keyx_offer_fields :
    let s := shareS
    let m := keyxOfferM
    let c : KeyxMsg := { m with bytes := m.bytes.take 495 }
    s.flag F.SEC_STAT_DEBUG = false ∧ s.isHead = false ∧ m.toSerial = s.shadow.serial ∧ m.step = 1 ∧ s.sec.share = some 4 ∧ m.pub = pub13 ∧
      m.fromSerial = 10 ∧ (ecdh 4 m.pub).isSome = true ∧ (tileS []).sec.share = none ∧ c.bytes.length ≠ 496 ∧ c.step = 1 ∧
      c.toSerial = s.shadow.serial ∧ (after (.keyxReceived c) s).getF F.SEC_CNT1_KEYX_FAIL = 1 := by decide +kernel
/-- A chain key, wrapped under the enrolment key 3 for serial 9. -/
def keyxKeyM (ep : Nat) (switch : Word) : KeyxMsg := { src := 1020, bytes := keyxKey (keyxHead 3 0 77 9 10 ep switch) 3 1 8 }
/-- A Tile of serial 9 with the enrolment key 3 and perhaps the key of epoch 0. -/
def ekS (keys : List ((Nat × Nat) × Key)) : State := { idS (tileS []) with sec := { (tileS []).sec with ek := some 3, keys := keys } }
theorem wit_keyx_key :
    let s := ekS []
    let m := keyxKeyM 1 0
    s.flag F.SEC_STAT_DEBUG = false ∧ s.isHead = false ∧ m.toSerial = s.shadow.serial ∧ m.step = 3 ∧ s.sec.ek = some 3 ∧
      gcmTag 3 m.nonce (m.bytes.take 44) m.wrapped = m.wrapTag ∧ keyOf (gcmCrypt 3 m.nonce m.wrapped) = 8 ∧
      (after (.keyxReceived m) s).curEp = 1 ∧ (after (.keyxReceived m) s).chainKey 0 1 = some 8 := by decide +kernel
theorem wit_keyx_next :
    let v := ekS [((0, 0), 7)]
    let m := keyxKeyM 1 5
    0 < diff32 m.switch v.imageNow ∧ v.sec.keys ≠ [] ∧ m.ep.toNat ≠ v.curEp ∧ (after (.keyxReceived m) v).getF F.SEC_KEYEP_NEXT = 1 ∧
      diff32 (keyxKeyM 1 0).switch v.imageNow ≤ 0 ∧ (after (.keyxReceived (keyxKeyM 1 0)) v).curEp = 1 ∧ (keyxKeyM 0 0).ep.toNat = v.curEp := by
  decide +kernel
theorem wit_keyx_bad :
    let v := { ekS [] with sec := { (ekS []).sec with ek := some 2 } }
    gcmTag 2 (keyxKeyM 1 0).nonce ((keyxKeyM 1 0).bytes.take 44) (keyxKeyM 1 0).wrapped ≠ (keyxKeyM 1 0).wrapTag ∧
      (after (.keyxReceived (keyxKeyM 1 0)) v).getF F.SEC_CNT1_KEYX_FAIL = 1 := by decide +kernel
theorem wit_keyx_window :
    let s := ekS []
    let u : State := { s with boot := { s.boot with posLoaded := true }, lmp := { s.lmp with tb0Once := true } }
    u.hasWindow = true ∧ (after (.keyxReceived (keyxKeyM 1 0)) u).lnk.own.length = 1 := by decide +kernel
/-- The acknowledgement of epoch 0 under the enrolment key 3. -/
def keyxAckM : KeyxMsg := { src := 77, bytes := keyxAck (keyxHead 4 0 77 9 10 0 0) 3 0 }
theorem wit_keyx_owner :
    let s := idS (ownS [])
    let r : RosterEntry := { id := 77, serial := 10, chain := 0, pos := 2, ek := some 3, waiting := true }
    let u : State := { s with sec := { s.sec with roster := [r] } }
    let v : State := { s with sec := { s.sec with roster := [{ r with assigned := true }] } }
    let w : State := { s with sec := { s.sec with roster := [{ r with ek := some 2 }] } }
    let t := after (.keyxReceived keyxAckM) u
    u.rosterOf 10 = some r ∧ u.ownsChain keyxAckM.chain.val = true ∧ keyxAckM.fromHead = false ∧ keyxAckM.step = 4 ∧ keyxAckM.fromSerial = 10 ∧
      keyxAckM.ackOk 3 = true ∧ keyxAckM.ep.toNat = u.curEp ∧ (t.rosterOf 10).map (·.assigned) = some true ∧ t.lnk.own.length = 1 ∧
      keyxAckM.ackOk 2 = false ∧ (after (.keyxReceived keyxAckM) w).getF F.SEC_CNT1_KEYX_FAIL = 1 ∧
      (after (.keyxStepTimeout 10) u).sec.roster = [] ∧ ((after (.keyxStepTimeout 10) v).rosterOf 10).map (·.waiting) = some false ∧
      u.rosterOf 6 = none ∧ u.paired = false := by decide +kernel
/-- A Head of a pair of serial 9, end B or A, whose partner has serial 10. -/
def pairIdS (endB : Bool) : State :=
  let s := idS (pairS 1 endB [])
  { s with sec := { s.sec with pairKey := some 3, pairWait := true }, plan := { s.plan with sec := { s.plan.sec with peerSerial := 10 } } }
/-- Offers of the partner: the first, and the answer to the share 4. -/
def pairOfferM (step : Nat) : KeyxMsg :=
  { src := 1020
    bytes := keyxOffer (keyxHead step 0 0 9 10 0 0) pub13 cert10 ++ (if step = 1 then
      bytesBe 0x31c80005c7e5d7020d582650aebb08b4a66d56d340f2a4be06cd2d2010399dcb987ddc5f7e3c796414fa6f60d4417a07d7ea68953a42fa4a85cb07ec9add9830b5af4dcee86a7f6aba2bffb9507cd304f776b6a9b000fa4220173f6205bf48bb 96
      else bytesBe 0x31c80005c7e5d7020d582650aebb08b4a66d56d340f2a4be06cd2d2010399dcb987ddc5f7e3c796414fa6f60d4417a076438954f17938f2e70088c4edcacfbdbe18208d4d77a472e1ebd824cc75e659d1c916a4ece787f08df945fd0e7f68436 96) }
theorem wit_pair_first : (pairIdS true).partnerOk (pairOfferM 1) = true := by decide +kernel
theorem wit_pair_second :
    let s := pairIdS true
    ({ s with sec := { s.sec with share := some 4 } } : State).partnerOk (pairOfferM 2) = true := by decide +kernel
theorem wit_pair_fields :
    let s := pairIdS true
    s.paired = true ∧ s.flag F.RED_STAT_PAIR_REFUSED = false ∧ s.flag F.SEC_STAT_DEBUG = false ∧ (pairOfferM 1).fromHead = true ∧
      (pairOfferM 1).step = 1 ∧ (pairOfferM 2).step = 2 ∧ (pairOfferM 1).pub = pub13 ∧ (pairOfferM 1).pub ≠ s.sec.peerPub ∧ s.sec.entropyBad = false ∧
      s.sec.share = none ∧ (pairOfferM 1).fromSerial = 10 ∧ (ecdh 4 (pairOfferM 2).pub).isSome = true := by decide +kernel
theorem wit_pair_share : ∃ z, ecdh (pairIdS true).drawScalar.1 pub13 = some z := ecdh_pub13 _
theorem wit_pair_refused :
    let s := { pairIdS true with plan := { (pairIdS true).plan with sec := { (pairIdS true).plan.sec with peerSerial := 11 } } }
    s.plan.sec.peerSerial ≠ 0 ∧ (pairOfferM 1).fromSerial ≠ s.plan.sec.peerSerial ∧
      (after (.keyxReceived (pairOfferM 1)) s).getF F.SEC_EVT_PAIR_AUTH = 1 := by decide +kernel
theorem wit_pair_keys :
    let s := pairIdS true
    let k : KeyxMsg := { src := 1020, bytes := keyxKey (keyxHead 3 0 0 9 10 2 0) 3 1 8 }
    let a : KeyxMsg := { src := 1020, bytes := keyxAck (keyxHead 4 0 0 9 10 0 0) 3 0 }
    k.unwrap 3 = some 8 ∧ k.step = 3 ∧ (after (.keyxReceived k) s).curEp = 2 ∧ a.step = 4 ∧ a.ackOk 3 = true ∧
      (after (.keyxReceived a) s).sec.pairWait = false := by decide +kernel
theorem wit_key_lost :
    let s := tileS [(F.SEC_STAT_CHAINKEY, 1)]
    let u : State := { s with lnk := { s.lnk with frameFail := true }, sec := { s.sec with keys := [((0, 0), 7)] } }
    u.lnk.framePass = false ∧ (after .keyLostDetect u).sec.keys = [] ∧ (after .keyLostDetect u).getF F.SEC_EVT_KEY_LOST = 1 ∧
      s.lnk.frameFail = false := by decide
theorem wit_zeroise :
    let s := tileS [(F.SEC_STAT_CHAINKEY, 1), (F.SEC_STAT_PAIRKEY, 1)]
    let u : State := { s with sec := { s.sec with keys := [((0, 0), 7)], pairKey := some 3 } }
    let t := after (.keyZeroise .keeper) u
    u.mayWrite .keeper A.SEC_CTL ∧ t.sec.keys = [] ∧ t.getF F.SEC_STAT_PAIRKEY = 0 ∧ (ownS []).mayWrite .keeper A.SEC_CTL ∧
      (pairS 2 false []).paired = true ∧ (pairS 2 false []).duty ≠ 3 ∧ (pairS 2 false []).mayWrite .keeper A.SEC_CTL ∧
      (ownS []).paired = false ∧ (ownS []).isHead = true ∧ (ownS []).sec.entropyBad = false := by
  unfold State.mayWrite; decide
theorem wit_entropy :
    let s := ownS []
    let u : State := { s with sec := { s.sec with entropyBad := true, keys := [] } }
    (after (.entropyRetry false) s).sec.entropyBad = true ∧ (after (.entropyRetry true) s).sec.entropyBad = false ∧
      u.released = true ∧ u.isHead = true ∧ u.paired = false ∧ u.sec.keys = [] ∧ u.sec.entropyBad = true ∧ u.headChains = [0] := by decide
/-- A session setup under certificate 1. -/
def sessM : SessionMsg := { cert := cert1, pub := pub13, transcript := [1], sig := bytesBe 0x31c80005c7e5d7020d582650aebb08b4a66d56d340f2a4be06cd2d2010399dcb987ddc5f7e3c796414fa6f60d4417a07a2f52d3453eb970a5aa841efeab5e25098027c75b9c34a8e5c74b048ee8656085def3795dc41a4a808f0e7cd7ecddbaa 96 }
/-- A device of serial 9 whose service lane is up. -/
def svcS (l : List Session) : State :=
  let s := idS (ownS [])
  { s with lan := { s.lan with svcUp := true }, sec := { s.sec with sessions := l } }
theorem wit_session_signed : (svcS []).sessionOk sessM = true := by decide +kernel
theorem wit_sessions :
    let x : Session := { id := 0, key := 0 }
    let m := { sessM with cert := [] }
    (svcS []).running = true ∧ (svcS []).lan.svcUp = true ∧ (svcS []).sec.identity.isSome = true ∧ (svcS []).sec.entropyBad = false ∧
      (svcS [x, x, x, x]).sec.sessions.length = 4 ∧ (svcS []).sessionRole m .manage = false ∧ (svcS []).sessionRole m .arbiter = false ∧
      (after (.sessionSetup m) (svcS [])).getF F.SEC_CNT0_SESS_FAIL = 1 := by decide +kernel
/-- Commands of R383 and R384 under certificate 2. -/
def lifeCmd : SignedCmd := { cert := cert2, body := [1], sig := bytesBe 0x31c80005c7e5d7020d582650aebb08b4a66d56d340f2a4be06cd2d2010399dcb987ddc5f7e3c796414fa6f60d4417a075d038af310eb016e1f81921646ed0a3ae0f34487f959ad231c187421eaf3384909850e20e38e462eb4bca8fd34786b7a 96 }
def debugCmd : SignedCmd := { lifeCmd with sig := bytesBe 0x31c80005c7e5d7020d582650aebb08b4a66d56d340f2a4be06cd2d2010399dcb987ddc5f7e3c796414fa6f60d4417a0789b445add11274f1f7e2e1cb9358cf99bfa22327e81c2a4bdd89d2ca5c2e4acc6f969a1ebcd15ef39d8bd3b5aa96f9ba 96 }
/-- A device of serial 9 in state FIELD, with the challenge 7. -/
def fieldS : State :=
  let s := keyedS (runS [])
  { s with fuses := { fuses1 with life := 3 }, shadow := { fuses1 with life := 3 }, sec := { s.sec with challenge := some 7 } }
theorem wit_lifecycle :
    fieldS.debugSigned lifeCmd (lifeCmd.body ++ [2]) = true := by decide +kernel
theorem wit_lifecycle_state :
    let s := fieldS
    s.running = true ∧ s.shadow.life = s.fuses.life ∧ lifeState s.fuses.life = 2 ∧ (0 : Fin 3).val + 1 ≤ lifeState s.fuses.life ∧
      (after (.lifecycleCommand 0 lifeCmd) s).fuses.life = 3 ∧ s.sec.challenge = some 7 ∧ (runS []).shadow.serial = 0 ∧
      certSerial lifeCmd.cert = 9 := by decide +kernel
theorem wit_debug_signed : fieldS.debugSigned debugCmd (debugCmd.body ++ keyBytes 7) = true := by decide +kernel

/-! ### Obligations.PackagesArriveAreStoredAndPassedOn, PackagesAreVerifiedActivatedAndConfirmed -/

/-- An item of a manifest of the tests. -/
def manItem (kind length : Nat) (digest : BitVec 384) (serial : Serial) : List Byte :=
  [BitVec.ofNat 8 kind, 0, 0, 0] ++ bytesLe length 4 ++ bytesBe digest.toNat 48 ++ serialBytes serial
/-- The manifest of package 9 of wall 1 with some items, its signature that of the package below. -/
def manOf (items : List (List Byte)) : Manifest :=
  ⟨padTo 3840 (bytesLe 0x55504B47 4 ++ bytesLe 1 4 ++ bytesLe 9 8 ++ bytesLe 1 8 ++ zeros 4 ++ bytesLe items.length 4 ++ items.flatten) ++
    1#8 :: (bytesBe 0x31c80005c7e5d7020d582650aebb08b4a66d56d340f2a4be06cd2d2010399dcb987ddc5f7e3c796414fa6f60d4417a07e193139a45ad05ab03acfd9b60e2f64fb9fce2f300f4e92a18b16633e8e0fe3838caaa3653462eaa891ea5ab907fdfe5 96 ++ zeros 159)⟩
/-- A package of a plan, [1, 2, 3], and a firmware, [4, 5]: three blocks. -/
def packM : Manifest := manOf [manItem 2 3 0x86229dc6d2ffbeac7380744154aa700291c064352a0dbdc77b9ed3f2c8e1dac4dc325867d39ddff1d2629b7a393d47f6#384 0, manItem 1 2 0xff4368b3cb96f6a8031219a1c1687dddb7ec51ccbd122015385bf2fe8499bacce7b36d2ec1a2688ecc8c50abd598eba2#384 0]
/-- A device whose spare bank holds the package in a state of `UPD_STAT.SPARE`. -/
def packS (s : State) (sp : Nat) (held : List Nat) : State :=
  let u := keyedS (s.setF F.UPD_STAT_SPARE sp)
  { u with
    nvm := { u.nvm with bank1 := { manifest := some packM, blocks := [(0, packM.bytes), (1, [1, 2, 3]), (2, [4, 5])] } }
    upd := { u.upd with held := held } }
theorem wit_manifest_valid : (keyedS (headS [])).manifestValid packM = true := by decide +kernel
theorem wit_manifest :
    let s := keyedS (headS [])
    let b : Manifest := ⟨[]⟩
    s.updFrom none = true ∧ s.flag F.UPD_STAT_TRIAL = false ∧ s.dirNow.pkg ≠ packM.pkg ∧ s.hasPkg 9 = false ∧ packM.pkg = 9 ∧
      s.getF F.UPD_STAT_SPARE ≠ 5 ∧ s.storesCount packM = 3 ∧ packM.total = 3 ∧ s.manifestValid b = false ∧
      (after (.updateManifestReceived none b) s).getF F.UPD_EVT_REFUSED = 1 ∧ (tileS []).updFrom none = false ∧
      (after .spareEraseDone (packS s 1 [])).getF F.UPD_STAT_SPARE = 2 ∧ (packS s 2 [0]).hasPkg 9 = true ∧
      (packS s 2 [0]).dirNow.pkg ≠ packM.pkg := by decide +kernel
theorem wit_data :
    let s := packS (tileS [(F.LNK_PSTAT_STATE 0, 2)]) 2 [0]
    let m : UpdMsg := { kind := 0, pkg := 9, arg := 1, count := 3, data := [4] }
    let t := after (.updateDataReceived (some 0) m) s
    s.updFrom (some 0) = true ∧ s.spare.manifest = some packM ∧ s.storesBlock packM 1 = true ∧ t.upd.prog = [(1, [4])] ∧
      t.getF F.UPD_CNT_RELAYED = 1 ∧ t.newBlock 9 1 = false ∧ (after (.updateDataReceived (some 0) m) t).getF F.UPD_CNT_RELAYED = 1 ∧
      (after (.blockProgrammed 1 true) t).upd.held = [1, 0] ∧ (after (.blockProgrammed 1 true) t).getF F.UPD_PROG_HAVE = 2 ∧
      t.upd.prog.find? (fun p => p.1 == 1) = some (1, [4]) := by decide +kernel
theorem wit_pass :
    let s := packS (headS [(F.LNK_PCFG_ROLE 0, 1)]) 4 [0, 1, 2]
    let u : State := { s with upd := { s.upd with preparing := true } }
    s.passPorts = [0] ∧ u.spare.manifest = some packM ∧ (after .updatePrepareExpiry u).lnk.own.length = 2 ∧
      (after .updatePrepareExpiry u).out = [] ∧
      (after .updatePrepareExpiry { u with upd := { u.upd with held := [0, 2] } }).upd.wanted = [1] := by decide +kernel
theorem wit_need :
    let s := packS (headS []) 2 [0]
    let u : State := { s with upd := { s.upd with source := some 0 } }
    let v : State := { u with boot := { u.boot with posLoaded := true }, lmp := { u.lmp with tb0Once := true } }
    let m : UpdMsg := { kind := 1, pkg := 9, arg := 1, count := 1 }
    s.lackRun packM = some (1, 2) ∧ (after .updateNeedTimer s).out.length = 1 ∧ v.hasWindow = true ∧ v.lackRun packM = some (1, 2) ∧
      (packS s 2 [0, 1, 2]).lackRun packM = none ∧ s.portRec 0 = false ∧ s.recovering = false ∧
      (after (.updateNeedReceived 0 m) s).upd.wanted = [1] ∧ (after (.updateNeedReceived 0 m) (packS s 2 [0, 1])).getF F.UPD_CNT_REPAIRS = 1 := by decide +kernel
theorem wit_verify :
    let s := packS (headS []) 2 [0, 1, 2]
    let t := after .spareVerify s
    let u : State := { t with nvm := { t.nvm with bank1 := { manifest := some packM } } }
    let c : BankCheck := { bank := { fw := {}, image := {} } }
    s.allHeld = true ∧ t.getF F.UPD_STAT_SPARE = 3 ∧ t.upd.verifying = true ∧ packM.regions = false ∧ t.recovering = false ∧
      u.itemsOk packM = false ∧ (after (.spareVerifyDone c) u).getF F.UPD_STAT_VCODE = 0x20 ∧
      t.itemsOk packM = true ∧ fwFault t.shadow (t.completed packM c.bank).image.wallId (t.completed packM c.bank).fw = 3 ∧
      (after (.spareVerifyDone c) t).getF F.UPD_STAT_VCODE = 3 := by decide +kernel
/-- The manifest of a factory region of serial 9. -/
def regionM : Manifest := manOf [manItem 3 1 0xbec021b4f368e3069134e012c2b4307083d3a9bdd206e24e5f0d86e13d6636655933ec2b413465966817a9c208a11717#384 9]
theorem wit_verify_region :
    let s := packS (headS []) 3 []
    let r : FactoryRegion := { signed := true, signer := 1, magic := 0x504E4C52, version := 1, sets := 1 }
    let u : State := { s with upd := { verifying := true }, nvm := { s.nvm with bank1 := { manifest := some regionM } } }
    let c : BankCheck := { bank := {}, factory := some r }
    u.spare.manifest = some regionM ∧ regionM.regions = true ∧ u.recovering = false ∧ u.itemsOk regionM = true ∧
      u.regionsOk regionM c = true := by decide +kernel
/-- With `wit_load_firmware`, `wit_load_plan_signed` and `wit_load_plan`: a package that verifies. -/
theorem wit_verify_good :
    let s := packS (headS []) 3 []
    let u : State := { s with upd := { verifying := true } }
    let c : BankCheck := { bank := nvm0.bank0 }
    u.spare.manifest = some packM ∧ (u.completed packM c.bank).fw = fw1 ∧ (u.completed packM c.bank).image = image0 ∧ u.shadow = fuses1 ∧
      image0.ownedOk (fun _ => true) = true := by decide +kernel
theorem wit_activate :
    let h := packS (headS []) 4 [0, 1, 2]
    let w := packS (tileS [(F.LNK_PSTAT_STATE 0, 2)]) 4 [0, 1, 2]
    let t := after (.updateActivate none 9 200) h
    h.updReady 9 = true ∧ h.leadOk 200 = true ∧ h.leadOk 0 = false ∧ h.memHold = false ∧ t.getF F.UPD_STAT_SPARE = 5 ∧ t.getW A.UPD_TGT = 200 ∧
      (after (.updateActivate none 9 0) h).getF F.UPD_EVT_REFUSED = 1 ∧ (after (.updateActivate (some 0) 9 200) w).upd.writing = true ∧
      (after (.updateActivate (some 0) 8 200) w).getF F.UPD_EVT_REFUSED = 1 ∧ w.updFrom (some 0) = true ∧
      (after .activationWriteDone t).dirNow.pkg = 9 ∧ (after .activationWriteDone t).dirNow.trial = true ∧ t.activateDue 200 = false ∧
      ({ t with tim := { t.tim with image := some 200 } } : State).activateDue 200 = true ∧ t.saving = false := by decide +kernel
theorem wit_abort :
    let s := packS (headS []) 4 [0, 1, 2]
    (after (.updateAbort none 9) s).getF F.UPD_STAT_SPARE = 0 ∧ (after (.updateAbort none 9) s).upd.held = [] ∧
      (after (.updateAbort none 9) (packS s 5 [0])).getF F.UPD_STAT_SPARE = 5 ∧ s.updFrom none = true ∧ s.hasPkg 8 = false := by decide +kernel
/-- A released Tile on trial with package 9, which fell from 8. -/
def trialS : State :=
  let s := tileS [(F.UPD_STAT_TRIAL, 1)]
  { s with
    nvm := { s.nvm with dirA := ({ trial := true, pkg := 9, prev := 8 } : DirCopy).bytes }
    boot := { s.boot with fw := { rollback := 2 } } }
theorem wit_confirm_may : trialS.mayWrite .keeper A.UPD_CTL ∧ (tileS []).mayWrite .keeper A.UPD_CTL := by unfold State.mayWrite; decide
theorem wit_confirm :
    let u := trialS
    let t := after (.updateConfirm .keeper) u
    let r := (recordRows 2).getLast?.getD 0
    let w : State := { t with smp := { t.smp with save := some { kind := .record 2, rows := [(2, r)] } } }
    let d := after (.sumpRowWritten 3000) w
    u.flag F.UPD_STAT_TRIAL = true ∧ u.released = true ∧ u.upd.confirming = false ∧ u.smp.save = none ∧ t.upd.confirming = true ∧
      t.smp.upd.confirmed = 9 ∧ t.getF F.SMP_STAT_STATE = 2 ∧ w.pwr.porAfterRow = false ∧ w.upd.confirming = true ∧
      d.dirNow.trial = false ∧ blown d.fuses.fwRollback = 2 ∧ d.getF F.UPD_STAT_TRIAL = 0 ∧
      (after (.updateFallback .keeper) u).dirNow.pkg = 8 ∧ (after (.updateFallback .keeper) u).smp.upd.cause = 5 ∧ u.saving = false ∧
      (after .confirmTimeout u).dirNow.active = true ∧ (after .confirmTimeout u).getF F.SMP_STAT_STATE = 3 ∧
      (tileS []).dirNow.prev = 0 := by decide +kernel

/-! ### Obligations.SensorsDemandGraceAndTrips -/

/-- A Tile whose sensor 3 converts. -/
def thermS (x : SensorX) (l : List (Fld × Nat)) : State :=
  let s := tileS ([(F.THM_LIM_WARN, 90), (F.THM_LIM_HOT, 100), (F.THM_LIM_TRIP, 115), (F.THM_LIM_FLOOR, 64)] ++ l)
  let u := { s.setBoth F.LMP_CUR_BLIMIT 255 with now := 5000000000 }
  u.setSensor 3 { x with converting := true }
theorem wit_sensor :
    let s := thermS {} []
    let t := after (.sensorConversionDone 3 816) s
    s.running = true ∧ (s.sensor 3).converting = true ∧ t.getF (F.THM_T_TEMP 3) = 816 ∧ t.getF (F.THM_T_TEFF 3) = 816 ∧
      s.rises (s.window ((s.now, 816) :: (s.sensor 3).past)) 816 = false ∧ t.hottest = some (3, 816) ∧ t.getF F.THM_STAT_DEMAND = 223 ∧
      t.thm.graceAt = some 5000000000 ∧ t.getF F.THM_STAT_HOTTEST = 3 ∧ (s.sensor 4).converting = false ∧
      ((after (.sensorConversionStart 4) s).sensor 4).converting = true := by decide
/-- The demand of the spec's example (ch. 19): T8 − H8 = 28 gives 199 with a slope of 16. -/
theorem test_demand : rawDemand 16 64 800 828 = 199 ∧ rawDemand 16 64 800 800 = 255 ∧ rawDemand 16 64 800 1200 = 64 := by decide
theorem wit_sensor_broken :
    let s := thermS { good := 3 } [(F.THM_T_BROKEN 3, 1)]
    let u := thermS { good := 15 } [(F.THM_T_BROKEN 3, 1)]
    (after (.sensorConversionDone 3 400) s).getF (F.THM_T_BROKEN 3) = 1 ∧ (after (.sensorConversionDone 3 400) s).getF (F.THM_T_TEFF 3) = 912 ∧
      (after (.sensorConversionDone 3 400) u).getF (F.THM_T_BROKEN 3) = 0 ∧ (after (.sensorTimeout 3) (thermS {} [])).getF F.THM_EVT_BROKEN = 1 ∧
      (after (.sensorConversionDone 3 1201) u).getF (F.THM_T_BROKEN 3) = 1 := by decide
theorem wit_sensor_rises :
    let s := thermS { past := [(4500000000, 300)] } []
    let t := after (.sensorConversionDone 3 400) s
    s.rises (s.window ((s.now, 400) :: (s.sensor 3).past)) 400 = true ∧ t.getF (F.THM_T_ROR 3) = 1 ∧ t.getF (F.THM_T_TEFF 3) = 832 ∧
      s.flag (F.THM_T_BROKEN 3) = false := by decide
theorem wit_trip :
    let s := thermS { hot := 1 } []
    let t := after (.sensorConversionDone 3 920) s
    t.thm.tripped = true ∧ t.getF F.THM_CNT_TRIPS = 1 ∧ t.getF F.LMP_STAT_STATE = 3 ∧ s.thm.tripped = false := by decide
theorem wit_enforcing :
    let s := thermS {} [(F.THM_STAT_DEMAND, 240)]
    let u : State := { s with thm := { s.thm with enforcing := true } }
    u.rawAt 816 = 223 ∧ (after (.sensorConversionDone 3 816) u).getF F.LMP_CUR_TLIMIT = 223 ∧
      (after .demandRecoverStep { u with thm := { u.thm with raw := 250 } }).getF F.LMP_CUR_TLIMIT = 241 ∧
      (after .demandRecoverStep { u with thm := { u.thm with raw := 100 } }).getF F.THM_STAT_DEMAND = 240 := by decide
theorem wit_recover_ends :
    let s := thermS {} [(F.THM_STAT_DEMAND, 254), (F.LMP_CUR_TLIMIT, 254)]
    let u : State := { s with thm := { s.thm with enforcing := true, raw := 255 } }
    (after .demandRecoverStep u).getF F.LMP_CUR_TLIMIT = 255 ∧ (after .demandRecoverStep u).thm.enforcing = false := by decide
theorem wit_grace :
    let s := thermS {} [(F.THM_STAT_DEMAND, 240)]
    let u : State := { s with thm := { s.thm with graceAt := some 1 } }
    u.getF F.THM_STAT_DEMAND < u.actF F.LMP_CUR_BLIMIT ∧ (after .graceExpiry u).getF F.LMP_CUR_TLIMIT = 240 ∧
      (after .graceExpiry u).getF F.THM_STAT_STATE = 3 ∧ (after .graceExpiry (u.setBoth F.LMP_CUR_BLIMIT 240)).thm.enforcing = false ∧
      (u.setBoth F.LMP_CUR_BLIMIT 240).actF F.LMP_CUR_BLIMIT = 240 := by decide
theorem wit_trip_clears :
    let s := tileS [(F.THM_LIM_TRIP, 115), (F.LMP_CTL_STOP, 0)]
    let u : State := { s with thm := { s.thm with tripped := true }, lmp := { s.lmp with tripHard := true } }
    u.tripCool = true ∧ (after .tripHoldExpiry u).getF F.LMP_STAT_STATE = 2 ∧ (after .tripHoldExpiry u).getF F.THM_EVT_TRIP_CLEAR = 1 ∧
      s.thm.tripped = false ∧ u.mayWrite .keeper A.THM_CTL ∧ ((after (.sensorMeasureRequest .keeper 5) u).sensor 2).converting = true := by
  unfold State.mayWrite; decide
theorem wit_zone :
    let s := ownS [(F.THM_LIM_HOT, 100), (F.THM_LIM_FLOOR, 64)]
    let m : StatusMsg := { src := 77, hottest := 816 }
    let t := after (.statusReceived m) s
    s.owns = true ∧ s.released = true ∧ s.plan.therm.zone = .head ∧ t.tileDemand 77 = 223 ∧ t.lowest s.zoneTiles (s.getF F.THM_STAT_DEMAND) = 223 ∧
      tabGet 255 s.thm.sent 0 = 255 ∧ tabGet 255 t.thm.sent 0 = 223 ∧ t.lnk.own.length = 1 ∧ (tileS []).isHead = false := by decide

/-! ### The bus, memory, the queue and the bank loaded (Obligations.UnalignedRegisterAccessIsABusError to MemoryStaysCanonical) -/

theorem wit_load_ok : loadS.bankFault false = 0 := by
  have p : planFault fuses1 fw1 image0 = 0 := by
    obtain ⟨a, b, c, d, e, _⟩ := wit_load_plan
    unfold planFault
    rw [a, wit_load_plan_signed, b, c, d, e]
    decide
  show (if fwFault fuses1 image0.wallId fw1 ≠ 0 then fwFault fuses1 image0.wallId fw1
    else if planFault fuses1 fw1 image0 ≠ 0 then planFault fuses1 fw1 image0
    else if !image0.sectionsOk then 9 else loadS.paramFault false fw1 image0) = 0
  rw [wit_load_firmware, p, wit_load_plan.2.2.2.2.2, wit_load_fault]
  decide
theorem wit_empty_queue : State.reset.pending = [] ∧ step State.reset = .next State.reset.tick := ⟨by decide, rfl⟩
theorem wit_kept_command : ∃ t, exec (.testReset) State.reset = .next t := ⟨_, rfl⟩
theorem wit_step : ∃ t, step State.reset = .next t := ⟨_, rfl⟩
theorem wit_unaligned :
    let s := runS []
    s.running = true ∧ isRegAddr 0x40000002 = true ∧ 0x40000002 % 4 ≠ 0 ∧
      (after (.registerWrite .a0 0x40000002 .b32 1) s).bus.error = true ∧
      (after (.registerWrite .a0 0x40000002 .b32 1) s).getF F.CORE_FAULT_KIND = 1 ∧
      (after (.coreMemoryAccess ⟨.keeper, false, 0x40000000, .b16, 0, .good⟩) s).bus.error = true := by decide
theorem wit_denied :
    let s := runS []
    isRegAddr A.SEC_CTL = true ∧ A.SEC_CTL % 4 = 0 ∧ writeDenied .a0 A.SEC_CTL = true ∧
      (after (.registerWrite .a0 (BitVec.ofNat 32 A.SEC_CTL) .b32 1) s).bus.error = true ∧
      isRegAddr 0x401A0000 = true ∧ 26 ≤ blockOf 0x401A0000 ∧
      (after (.coreMemoryAccess ⟨.keeper, false, 0x401A0000, .b32, 0, .good⟩) s).bus.error = true ∧
      isRegAddr (A.ING_SSTAT 0) = true ∧ headOnlyReg (A.ING_SSTAT 0) = true ∧ s.isHead = false ∧
      (after (.coreMemoryAccess ⟨.a0, false, BitVec.ofNat 32 (A.ING_SSTAT 0), .b32, 0, .good⟩) s).bus = ⟨0, false⟩ := by decide
theorem wit_codes :
    let s := runS [(F.CLK_EVT_MEM_UNLOCK, 1)]
    let a := A.CLK_EVT
    s.mayWrite .a0 a ∧ isRegAddr a = true ∧ a % 4 = 0 ∧ blockOf a ≠ 6 ∧ stagingRow a = none ∧
      (specOf a).map RegSpec.idle = some 0 ∧ a ∉ ctlRegs ∧ a ≠ A.DEC_ERRLOG ∧
      (after (.registerWrite .a0 (BitVec.ofNat 32 a) .b32 0xFFFFFFFF) s).getW a = 0 := by
  unfold State.mayWrite; decide
theorem wit_idle :
    let s := runS [(F.LMP_STAT_STATE, 2)]
    let a := A.LMP_LINECFG
    s.mayWrite .a0 a ∧ isRegAddr a = true ∧ a % 4 = 0 ∧ blockOf a ≠ 6 ∧ stagingRow a = none ∧ a ∉ ctlRegs ∧
      (specOf a).map (fun r => s.closedAt r a != 0) = some true ∧
      (after (.registerWrite .a0 (BitVec.ofNat 32 a) .b32 0xFFFFFFFF) s).getF F.CFG_EVT_BUSYWR = 1 := by
  unfold State.mayWrite; decide
/-- A write of four bytes by application core 0 into its own memory. -/
def storeM : MemAccess := ⟨.a0, true, 0x10080002, .b32, 0x11223344, .good⟩
theorem wit_memory_access :
    let s := runS []
    let r : MemAccess := ⟨.a0, false, 0x10080003, .b16, 0, .single⟩
    let b : MemAccess := { r with ecc := .uncorrectable }
    let t := after (.coreMemoryAccess storeM) s
    s.running = true ∧ isRegAddr storeM.addr.toNat = false ∧
      s.memAccessRegion storeM.who storeM.write storeM.addr.toNat storeM.size.bytes = some .a0 ∧ MemRegion.coded .a0 = true ∧
      (after (.coreMemoryAccess r) t).bus = ⟨0x2233, false⟩ ∧ t.eccBad r = false ∧
      (after (.coreMemoryAccess r) t).getF F.CORE_STAT_ECC_CORR = 1 ∧
      t.eccBad b = true ∧ (after (.coreMemoryAccess b) t).bus = ⟨0, true⟩ ∧
      s.memAccessRegion .a1 true 0x10080002 4 = none ∧
      (after (.coreMemoryAccess { storeM with who := .a1 }) s).bus = ⟨0, true⟩ ∧ Memory.wf s.core.mem = true ∧
      Memory.wf t.core.mem = true := by decide

/-! ### Worked examples of the spec -/

/-- The bits of a text of 0 and 1, first bit first. -/
def bitsOf (t : String) : List Bool := t.toList.map (· == '1')

/-- A decoder of 8-bit blocks without a reference. -/
def env8 : BlkEnv := { d := 8, slice := 0, noRef := true, lost := false, ref := {}, lit := none, gpresent := false }

/-- A block unit read whole gives one colour everywhere. -/
def givesColour (t : String) (rgb : List Nat) : Bool :=
  match blkUnit env8 0 { qp := 0 } (bitsOf t) with
  | .ok (b, _, rest) => b.codes == (List.replicate 64 rgb).flatten && rest.isEmpty
  | .error _ => false

-- The block of chapter 09 that shows (200, 120, 40): 47 bits as INTRA, 30 bits as FLAT.
theorem test_intra_block :
    givesColour ("110" ++ "00" ++ "0" ++ "1000000000010001" ++ "100000000000000101000000" ++ "0") [200, 120, 40] = true := by
  decide
theorem test_flat_block : givesColour ("1110" ++ "01111000" ++ "010100000" ++ "000000000") [200, 120, 40] = true := by decide
-- The dithered code of chapter 08.
theorem test_dither : ditherCode 1 12 0x8A37 0 0 0 = 0x8A4 ∧ ditherCode 1 12 0x8A37 1 0 0 = 0x8A3 := by decide
-- The set-point of 3,800 mV of chapter 13.
theorem test_set_point_code : spCode 1280 3800 = 2594 := by decide
-- The corrected red lamp of chapter 12.
theorem test_correction :
    correct (15564 + 2 ^ 42 * (512 - 40)) 0 [8388608, 8388608, 8388608] = 0x771A00 ∧ quantise 16 0x771A00 = 30490 := by decide
-- The scaler's lines of R171.
theorem test_scaler_need : sclNeed 6 1024 0x1000 = 37152 ∧ sclNeed 6 1024 0x1800 = 55584 := by decide

/-! ### Operands that WellFormed refuses, one for each check -/

theorem ill_fetched :
    WellFormed (.imageBoundary 0 [⟨0, 0, 0, 0, 0⟩]) = false ∧ WellFormed (.imageBoundary 0 [⟨0, 0, 0, 0, 32769⟩]) = false ∧
      WellFormed (.imageBoundary 0 [⟨8, 1, 0, 0, 1⟩]) = false ∧ WellFormed (.imageBoundary 0 [⟨7, 1, 0, 0, 1⟩]) = true := by decide
theorem ill_aux_lanes : WellFormed (.dpAuxTransaction 0 (.begin 0 3)) = false := by decide
theorem ill_aux_swing : WellFormed (.dpAuxTransaction 0 (.equalisation 1 true 4 0)) = false := by decide
theorem ill_aux_pre : WellFormed (.dpAuxTransaction 0 (.equalisation 1 true 0 4)) = false := by decide
theorem ill_aux_pattern : WellFormed (.dpAuxTransaction 0 (.clockRecovery 0 true)) = false ∧
    WellFormed (.dpAuxTransaction 0 (.equalisation 5 true 0 0)) = false := by decide
theorem ill_markers : WellFormed (.markerReceived 0 [⟨1, 0, 0, 0⟩, ⟨1, 0, 0, 0⟩]) = false := by decide
theorem ill_packet : RxPacket.wf { framed := true, wire := List.replicate 12325 0 } = false := by
  simp only [RxPacket.wf, List.length_replicate]; decide
theorem ill_entries :
    let e : SchedEntry := { port := 0, variant := 0, facet := 0, typ := 0, dst := 0, slice := 0, atNs := 0 }
    WellFormed (.scheduledPacketDue { e with port := 8 }) = false ∧ WellFormed (.scheduledPacketDue { e with variant := 64 }) = false ∧
      WellFormed (.scheduledPacketDue { e with facet := 4 }) = false ∧ WellFormed (.scheduledPacketDue { e with slice := 64 }) = false ∧
      WellFormed (.scheduledPacketDue { e with typ := 16 }) = false ∧ WellFormed (.scheduledPacketDue { e with dst := 1024 }) = false ∧
      WellFormed (.scheduledPacketDue e) = true := by decide
theorem ill_enum :
    let m : EnumMsg := { wallId := 0, planSerial := 0, head := 0, chain := 0, tiles := 24, endB := false, hops := 1 }
    WellFormed (.enumReceived 0 { m with hops := 0 }) = false ∧ WellFormed (.enumReceived 0 { m with hops := 26 }) = false ∧
      WellFormed (.enumReceived 0 { m with tiles := 25 }) = false ∧ WellFormed (.enumReceived 0 m) = true := by decide
theorem ill_rail : WellFormed (.railTurn 0 [0, 0, 0, 0, 0] 0 0) = false := by decide
theorem ill_aux_pwm : WellFormed (.auxpwmPeriodEnd 2 1) = false ∧ WellFormed (.auxpwmPeriodEnd 0 0) = false := by decide
theorem ill_geode :
    let m := fun (n : Nat) => (⟨zeros 4 ++ bytesLe n 1⟩ : GeodeMsg)
    WellFormed (.geodeCommand (m 31)) = false ∧ WellFormed (.geodeRelayReceived (m 31) 0) = false ∧
      WellFormed (.geodeCommand (m 255)) = true := by decide
theorem ill_copy :
    let p : CopyPart := { epoch := 0, part := 0, parts := 48, term := 0 }
    WellFormed (.copyPartReceived { p with parts := 0 }) = false ∧ WellFormed (.copyPartReceived { p with parts := 49 }) = false ∧
      WellFormed (.copyPartReceived { p with part := 48 }) = false ∧ WellFormed (.copyPartReceived p) = true := by decide
theorem ill_update :
    let m : UpdMsg := { kind := 4, pkg := 0, arg := 0, count := 0 }
    WellFormed (.updateDataReceived none m) = false ∧ WellFormed (.updateNeedReceived 0 m) = false ∧
      WellFormed (.updateNeedReceived 0 { m with kind := 3 }) = true := by decide

end Sys2Proof.Tests
end

section
/-!
PROOFS. Register accesses (chapter 00): the Reset column (R8), the refusal of accesses that are not aligned words (R1), and
what the access codes leave of a register (R2 to R9).
-/

namespace Sys2Proof.Machine

/-! ### Where a register run lies -/

/-- The last address of a register run. -/
def RegSpec.last (r : RegSpec) : Nat := r.addr + r.stride * (r.count - 1)

/-- A run covers the addresses a stride apart, from its base on. -/
theorem RegSpec.covers_iff (r : RegSpec) (a : Nat) :
    r.covers a = true ↔ ∃ k, k < max 1 r.count ∧ a = r.addr + r.stride * k := by
  unfold RegSpec.covers
  split
  · next h =>
    rw [beq_iff_eq]
    constructor
    · rintro rfl
      exact ⟨0, by omega, by simp⟩
    · rintro ⟨k, hk, rfl⟩
      obtain rfl : k = 0 := by omega
      simp
  · next h =>
    simp only [Bool.and_eq_true, decide_eq_true_eq, beq_iff_eq]
    constructor
    · rintro ⟨⟨hle, hmod⟩, hdiv⟩
      refine ⟨(a - r.addr) / r.stride, by omega, ?_⟩
      rw [Nat.mul_div_cancel' (Nat.dvd_of_mod_eq_zero hmod)]
      omega
    · rintro ⟨k, hk, rfl⟩
      rw [Nat.add_sub_cancel_left]
      refine ⟨⟨Nat.le_add_right _ _, Nat.mul_mod_right _ _⟩, ?_⟩
      exact lt_of_le_of_lt (Nat.div_le_of_le_mul le_rfl) (by omega)

/-- A covered address lies between the run's base and its last address. -/
theorem RegSpec.bounds_of_covers {r : RegSpec} {a : Nat} (h : r.covers a = true) : r.addr ≤ a ∧ a ≤ r.last := by
  obtain ⟨k, hk, rfl⟩ := (r.covers_iff a).1 h
  exact ⟨Nat.le_add_right _ _, Nat.add_le_add_left (Nat.mul_le_mul_left _ (by omega)) _⟩

/-- The register found at an address is one of its block's table and covers the address. -/
theorem specOf_eq_some {a : Nat} {r : RegSpec} (h : specOf a = some r) :
    r ∈ regTableOf (blockOf a) ∧ r.covers a = true :=
  ⟨List.mem_of_find?_eq_some h, List.find?_some (p := fun r : RegSpec => r.covers a) h⟩

/-- A register found between two addresses is of one kind, if every register of the block that reaches between them is. -/
theorem specOf_of_between {p : RegSpec → Prop} {i lo hi a : Nat} {r : RegSpec}
    (table : ∀ r ∈ regTableOf i, p r ∨ r.last < lo ∨ hi ≤ r.addr) (hb : blockOf a = i) (hlo : lo ≤ a) (hhi : a < hi)
    (h : specOf a = some r) : p r := by
  obtain ⟨hmem, hcov⟩ := specOf_eq_some h
  obtain ⟨hfirst, hlast⟩ := RegSpec.bounds_of_covers hcov
  rcases table r (hb ▸ hmem) with hp | hbelow | habove
  · exact hp
  · omega
  · omega

/-- The address of a member of an indexed run lies in the run. -/
theorem runIndex_eq_some {base stride count a n : Nat} (h : runIndex base stride count a = some n) :
    n < count ∧ a = base + stride * n := by
  unfold runIndex at h
  split at h
  · next hc =>
    obtain ⟨hle, hmod, hdiv⟩ := hc
    obtain rfl := Option.some.inj h
    refine ⟨hdiv, ?_⟩
    rw [Nat.mul_div_cancel' (Nat.dvd_of_mod_eq_zero hmod)]
    omega
  · exact absurd h (by simp)

/-! ### The Reset column (R8) -/

/-- The registers of one word whose Reset column is not 0. -/
def resetWords : List Nat :=
  [A.SUP_STAT, A.RST_CAUSE, A.LAN_CTL, A.ING_CTL, A.CMP_CTL, A.GEO_STAT, A.DEC_STAT, A.LMP_CTL, A.LMP_CUR, A.CORR_FUNMEAS,
    A.RAIL_CTL, A.RAIL_HR, A.TIM_CTL, A.THM_STAT, A.THM_LIM]

@[simp] theorem State.getW_reset (a : Nat) : State.reset.getW a = resetOf a := rfl
@[simp] theorem State.actW_reset (a : Nat) : State.reset.actW a = resetOf a := rfl

/-- A register of a table resets to 0, is one of the single words, or is one of the two runs that do not. -/
theorem regTableOf_reset (i : Nat) : ∀ r ∈ regTableOf i, r.reset = 0 ∨ (r.count ≤ 1 ∧ r.addr ∈ resetWords) ∨
    (r.addr = A.CORR_HR 0 ∧ r.stride = 4 ∧ r.count = 4) ∨ (r.addr = A.CORR_FMAP 0 ∧ r.stride = 4 ∧ r.count = 12288) := by
  have tables : ∀ i < 26, ∀ r ∈ regTableOf i, r.reset = 0 ∨ (r.count ≤ 1 ∧ r.addr ∈ resetWords) ∨
      (r.addr = A.CORR_HR 0 ∧ r.stride = 4 ∧ r.count = 4) ∨
      (r.addr = A.CORR_FMAP 0 ∧ r.stride = 4 ∧ r.count = 12288) := by decide
  by_cases hi : i < 26
  · exact tables i hi
  · obtain ⟨k, rfl⟩ := Nat.exists_eq_add_of_le' (Nat.le_of_not_lt hi)
    have empty : regTableOf (k + 26) = [] := rfl
    simp [empty]

/-- Away from the registers whose Reset column is not 0, an address reads 0 after reset. -/
theorem resetOf_eq_zero {a : Nat} (hw : a ∉ resetWords) (hhr : ∀ b, b < 4 → a ≠ A.CORR_HR b)
    (hfm : ∀ w, w < 12288 → a ≠ A.CORR_FMAP w) : resetOf a = 0 := by
  unfold resetOf
  split
  case h_2 => rfl
  case h_1 r h =>
    obtain ⟨hmem, hcov⟩ := specOf_eq_some h
    obtain ⟨k, hk, rfl⟩ := (r.covers_iff a).1 hcov
    rcases regTableOf_reset _ r hmem with hz | ⟨hc, hin⟩ | ⟨hbase, hs, hc⟩ | ⟨hbase, hs, hc⟩
    · simp [hz]
    · obtain rfl : k = 0 := by omega
      exact absurd hin (by simpa using hw)
    · exact absurd (by rw [hbase, hs]; rfl) (hhr k (by omega))
    · exact absurd (by rw [hbase, hs]; rfl) (hfm k (by omega))

/-- Every word of the fault map resets to "not measured" for each of its lamps. -/
theorem resetOf_corrFmap {w : Nat} (hw : w < 12288) : resetOf (A.CORR_FMAP w) = 0x55555555 := by
  have hb : blockOf (A.CORR_FMAP w) = 18 := by unfold blockOf A.CORR_FMAP; omega
  have table : ∀ r ∈ regTableOf 18, r.reset = 0x55555555 ∨ r.last < A.CORR_FMAP 0 ∨ A.CORR_FMAP 12288 ≤ r.addr := by decide
  have found : (specOf (A.CORR_FMAP w)).isSome = true := by
    rw [specOf, List.find?_isSome, hb]
    exact ⟨_, List.getLast_mem (l := regTableCorr) (by decide), (RegSpec.covers_iff _ _).2 ⟨w, hw, rfl⟩⟩
  obtain ⟨r, hr⟩ := Option.isSome_iff_exists.1 found
  have hreset := specOf_of_between table hb (Nat.add_le_add_left (by omega) _) (Nat.add_lt_add_left (by omega) _) hr
  simp [resetOf, hr, hreset]

/-- Settles O1: the registers named read as their Reset column says, and the tables hold no other value than 0. -/
theorem resetGivesTheResetColumn : Obligations.ResetGivesTheResetColumn := by
  unfold Obligations.ResetGivesTheResetColumn
  iterate 25 refine ⟨by decide, ?_⟩
  exact ⟨fun w hw => resetOf_corrFmap hw, fun a => resetOf_eq_zero, fun a => rfl⟩

/-! ### Accesses that are not aligned words (R1) -/

/-- An access to the register blocks that is not an aligned word is a bus error of kind 1. -/
theorem State.access_unaligned {s : State} {m : MemAccess} (hr : isRegAddr m.addr.toNat = true)
    (h : m.size ≠ .b32 ∨ m.addr.toNat % 4 ≠ 0) : s.access m = s.busFault m.who m.write m.addr 1 := by
  rw [State.access, if_pos hr, if_pos h]

theorem exec_coreMemoryAccess_running {s : State} (m : MemAccess) (h : s.running = true) :
    exec (.coreMemoryAccess m) s = .next (s.access m) :=
  congrArg Host.Outcome.next (if_pos h)

theorem exec_registerWrite_running {s : State} (who : Initiator) (a : Word) (size : AccessSize) (v : Word)
    (h : s.running = true) :
    exec (.registerWrite who a size v) s = .next (s.access ⟨who, true, a, size, v.setWidth 64, .good⟩) :=
  congrArg Host.Outcome.next (if_pos h)

/-- Settles O7: both commands come to the same access, which is refused before anything else is looked at. That
the width and the alignment come before a denial, and that 64 bits are refused too, is the model's reading (log entry 24). -/
theorem unalignedRegisterAccessIsABusError : Obligations.UnalignedRegisterAccessIsABusError := by
  unfold Obligations.UnalignedRegisterAccessIsABusError
  constructor
  · intro m s hrun hr h
    refine ⟨_, exec_coreMemoryAccess_running m hrun, ?_⟩
    rw [State.access_unaligned hr h]
    exact s.busFault_busError m.who m.write m.addr 1 (by decide)
  · intro who a size v s hrun hr h
    refine ⟨_, exec_registerWrite_running who a size v hrun, ?_⟩
    rw [State.access_unaligned hr h]
    exact s.busFault_busError who true a 1 (by decide)

/-! ### Writes by the access codes (R2 to R9) -/

@[simp] theorem State.getW_busOk (s : State) (d : Word) (a : Nat) : (s.busOk d).getW a = s.getW a := rfl
@[simp] theorem State.released_busOk (s : State) (d : Word) : (s.busOk d).released = s.released := rfl

/-- An aligned word written where its initiator may write reaches the register. -/
theorem exec_registerWrite_of_mayWrite {s : State} {who : Initiator} {a : Word} (v : Word) (hm : s.mayWrite who a.toNat)
    (hr : isRegAddr a.toNat = true) (ha : a.toNat % 4 = 0) (hmbx : blockOf a.toNat ≠ 6) :
    exec (.registerWrite who a .b32 v) s = .next ((s.busOk 0).regWrite who a.toNat v) := by
  obtain ⟨hrun, hden, hhead⟩ := hm
  rw [exec_registerWrite_running who a .b32 v hrun]
  have hoff : (headOnlyReg a.toNat && !s.isHead) = false := by simpa using hhead
  have hword : (v.setWidth 64).setWidth 32 = v := by simp
  simp [State.access, hr, ha, State.busWrite, hden, hmbx, hoff, hword]

/-- A register outside the control registers and the mailbox block has no write of its own. -/
theorem State.ctlWrite_eq_none (s : State) (who : Initiator) {a : Nat} (w : Word) (hc : a ∉ ctlRegs) (hmbx : blockOf a ≠ 6) :
    s.ctlWrite who a w = none := by
  simp only [ctlRegs, List.mem_cons, List.not_mem_nil, or_false, not_or] at hc
  simp [State.ctlWrite, hc, hmbx]

/-- A write to a register without an effect of its own goes by the access codes. -/
theorem State.regWrite_eq_codeWrite (s : State) (who : Initiator) {a : Nat} (w : Word) (hs : stagingRow a = none)
    (hc : a ∉ ctlRegs) (hmbx : blockOf a ≠ 6) : s.regWrite who a w = s.codeWrite a w := by
  simp [State.regWrite, hs, s.ctlWrite_eq_none who w hc hmbx]

/-- A register without idle-only bits is outside a run, if every register of the block that reaches into the run has some. -/
theorem runIndex_eq_none_of_idle_zero {i base stride count a : Nat} {r : RegSpec}
    (table : ∀ r ∈ regTableOf i, r.idle ≠ 0 ∨ r.last < base ∨ base + stride * count ≤ r.addr)
    (block : ∀ n < count, blockOf (base + stride * n) = i) (hstride : 0 < stride)
    (h : specOf a = some r) (hidle : r.idle = 0) : runIndex base stride count a = none := by
  refine Option.eq_none_iff_forall_ne_some.2 fun n hn => ?_
  obtain ⟨hlt, rfl⟩ := runIndex_eq_some hn
  have hend : base + stride * n < base + stride * count := Nat.add_lt_add_left (Nat.mul_lt_mul_of_pos_left hlt hstride) _
  exact specOf_of_between table (block n hlt) (Nat.le_add_right _ _) hend h hidle

/-- A write to a register without idle-only bits is followed by nothing: the rates that share storage and what a receiver
retrains for are idle-only (R88, R146), and the error log is set apart. -/
theorem State.afterWrite_of_idle_zero (s old : State) {a : Nat} {r : RegSpec} (h : specOf a = some r)
    (hidle : r.idle = 0) (hlog : a ≠ A.DEC_ERRLOG) : s.afterWrite old a = s := by
  have hlan : runIndex (A.LAN_CFG 0) 4 32 a = none :=
    runIndex_eq_none_of_idle_zero (i := 8) (by decide) (by decide) (by decide) h hidle
  have hlnk : runIndex (A.LNK_PCFG 0) 4 8 a = none :=
    runIndex_eq_none_of_idle_zero (i := 9) (by decide) (by decide) (by decide) h hidle
  have hing : runIndex (A.ING_SCFG 0) 4 4 a = none :=
    runIndex_eq_none_of_idle_zero (i := 10) (by decide) (by decide) (by decide) h hidle
  simp [State.afterWrite, hlan, hlnk, hing, hlog]

/-- A write by the access codes to a register without idle-only bits changes that register alone. -/
theorem State.codeWrite_of_idle_zero (s : State) {a : Nat} {r : RegSpec} (w : Word) (h : specOf a = some r)
    (hidle : r.idle = 0) (hlog : a ≠ A.DEC_ERRLOG) :
    s.codeWrite a w = s.setW a (r.after (r.openBits s.released a 0) (s.getW a) w) := by
  have hclosed : s.closedAt r a = 0 := if_pos hidle
  simp [State.codeWrite, h, hclosed, State.when, State.afterWrite_of_idle_zero _ _ h hidle hlog]

/-- The bits that a write opens: RW, RWS and, before release, RWL, but for what is closed or reserved. -/
theorem RegSpec.getLsbD_openBits (r : RegSpec) (released : Bool) (a : Nat) (closed : Word) {i : Nat} (hi : i < 32) :
    (r.openBits released a closed).getLsbD i =
      ((r.rw.testBit i || r.rws.testBit i || (r.rwl.testBit i && !released)) && !closed.getLsbD i &&
        !(reservedAt a).getLsbD i) := by
  cases released <;> simp [RegSpec.openBits, BitVec.getLsbD_ofNat, hi, -BitVec.getLsbD_eq_getElem]

/-- Each bit after a write: an open bit is the value's, another stays unless it is W1C and written 1. -/
theorem RegSpec.getLsbD_after (r : RegSpec) (openB old w : Word) {i : Nat} (hi : i < 32) :
    (r.after openB old w).getLsbD i =
      if openB.getLsbD i then w.getLsbD i else old.getLsbD i && !(w.getLsbD i && r.w1c.testBit i) := by
  cases ho : openB.getLsbD i <;>
    simp [RegSpec.after, BitVec.getLsbD_ofNat, hi, ho, -BitVec.getLsbD_eq_getElem]

/-- Settles O9: the write reaches its register, goes by the access codes, and each bit is as its code says. -/
theorem registerWriteFollowsAccessCodes : Obligations.RegisterWriteFollowsAccessCodes := by
  unfold Obligations.RegisterWriteFollowsAccessCodes
  intro who a v r s hm hr ha hmbx hstage hspec hctl hidle hlog
  refine ⟨_, exec_registerWrite_of_mayWrite v hm hr ha hmbx, ?_⟩
  rw [State.regWrite_eq_codeWrite _ who v hstage hctl hmbx, State.codeWrite_of_idle_zero _ v hspec hidle hlog]
  refine ⟨rfl, (State.onlyBus.ok s [a.toNat] 0).setW _ _ (by simp), fun i hi => ?_⟩
  rw [State.getW_setW_self, RegSpec.getLsbD_after _ _ _ _ hi, RegSpec.getLsbD_openBits _ _ _ _ hi]
  simp

end Sys2Proof.Machine
end

section
/-!
PROOFS. The placement governor (chapter 01): the best of the variants that a test permits (R20) and the selection under the
recovery hold (R24), an announced variant that waits or takes effect (R23, R25), and the health record (R21, R24, R138, R448).
-/

namespace Sys2Proof.Machine

/-! ### The best of a list of variants (R20) -/

/-- One variant is preferred to another: it covers more of the failed items, or as many with the smaller cover set. -/
theorem variantBetter_iff {failed : List HealthItem} {a b : Variant} :
    variantBetter failed a b = true ↔ coveredCount failed b < coveredCount failed a ∨
      (coveredCount failed a = coveredCount failed b ∧ a.cover.length < b.cover.length) := by
  simp [variantBetter]

theorem variantBetter_eq_false_iff {failed : List HealthItem} {a b : Variant} :
    variantBetter failed a b = false ↔ coveredCount failed a ≤ coveredCount failed b ∧
      (coveredCount failed a = coveredCount failed b → b.cover.length ≤ a.cover.length) := by
  simp [variantBetter]

theorem variantBetter_irrefl (failed : List HealthItem) (v : Variant) : variantBetter failed v v = false :=
  variantBetter_eq_false_iff.2 ⟨le_rfl, fun _ => le_rfl⟩

theorem variantBetter_eq_false_trans {failed : List HealthItem} {a b c : Variant} (hab : variantBetter failed a b = false)
    (hbc : variantBetter failed b c = false) : variantBetter failed a c = false := by
  rw [variantBetter_eq_false_iff] at hab hbc ⊢
  omega

theorem variantBetter_asymm {failed : List HealthItem} {a b : Variant} (h : variantBetter failed a b = true) :
    variantBetter failed b a = false := by
  rw [variantBetter_iff] at h
  rw [variantBetter_eq_false_iff]
  omega

/-- Of the variants of a list that a test permits, none is preferred to `w`, which is number `j`, and no lower number is as
good. -/
def IsBestVariant (failed : List HealthItem) (ok : Variant → Bool) (l : List Variant) (j : Nat) (w : Variant) : Prop :=
  l[j]? = some w ∧ ok w = true ∧ ∀ (i : Nat) (v : Variant), l[i]? = some v → ok v = true →
    variantBetter failed v w = false ∧ (variantBetter failed w v = false → j ≤ i)

section
variable {failed : List HealthItem} {ok : Variant → Bool} {v w : Variant} {l : List Variant} {j : Nat}

/-- A permitted variant to which none after it is preferred is the best of the list that it heads. -/
theorem IsBestVariant.head (hv : ok v = true) (h : ∀ u ∈ l, ok u = true → variantBetter failed u v = false) :
    IsBestVariant failed ok (v :: l) 0 v := by
  refine ⟨rfl, hv, fun i u hi hu => ⟨?_, fun _ => Nat.zero_le i⟩⟩
  rcases List.mem_cons.1 (List.mem_of_getElem? hi) with rfl | hmem
  · exact variantBetter_irrefl failed u
  · exact h u hmem hu

/-- The best of the rest is the best of the list where the first is not permitted, or is less preferred. -/
theorem IsBestVariant.tail (hw : IsBestVariant failed ok l j w) (hv : ok v = true → variantBetter failed w v = true) :
    IsBestVariant failed ok (v :: l) (j + 1) w := by
  obtain ⟨hj, hok, hbest⟩ := hw
  refine ⟨hj, hok, fun i u hi hu => ?_⟩
  cases i with
  | zero =>
    obtain rfl : v = u := Option.some.inj hi
    exact ⟨variantBetter_asymm (hv hu), fun h => absurd (hv hu) (by simp [h])⟩
  | succ i =>
    obtain ⟨hnot, hlow⟩ := hbest i u hi hu
    exact ⟨hnot, fun h => Nat.succ_le_succ (hlow h)⟩

/-- The search finds none only where no variant is permitted. -/
theorem ok_eq_false_of_bestVariant_eq_none {n : Nat} (h : bestVariant failed (fun _ v => ok v) n l = none) :
    ∀ u ∈ l, ok u = false := by
  induction l generalizing n with
  | nil => simp
  | cons x l ih =>
    cases hrest : bestVariant failed (fun _ v => ok v) (n + 1) l with
    | some p => simp only [bestVariant, hrest] at h; split at h <;> simp at h
    | none =>
      have hx : ok x = false := by simpa [bestVariant, hrest] using h
      exact List.forall_mem_cons.2 ⟨hx, ih hrest⟩

/-- What the search finds is the best of the permitted variants, numbered from `n`. -/
theorem isBestVariant_of_bestVariant_eq_some {n : Nat} {p : Nat × Variant}
    (h : bestVariant failed (fun _ v => ok v) n l = some p) : ∃ j, p.1 = n + j ∧ IsBestVariant failed ok l j p.2 := by
  induction l generalizing n p with
  | nil => exact absurd h (by simp [bestVariant])
  | cons x l ih =>
    cases hrest : bestVariant failed (fun _ v => ok v) (n + 1) l with
    | none =>
      obtain ⟨hx, rfl⟩ : ok x = true ∧ (n, x) = p := by simpa [bestVariant, hrest] using h
      exact ⟨0, rfl, .head hx fun u hu hok => absurd hok (by simp [ok_eq_false_of_bestVariant_eq_none hrest u hu])⟩
    | some q =>
      obtain ⟨j, hj, hq⟩ := ih hrest
      simp only [bestVariant, hrest] at h
      split at h
      · next hx =>
        obtain rfl := Option.some.inj h
        obtain ⟨hx, hqx⟩ : ok x = true ∧ variantBetter failed q.2 x = false := by simpa using hx
        refine ⟨0, rfl, .head hx fun u hu hok => ?_⟩
        obtain ⟨i, hi⟩ := List.getElem?_of_mem hu
        obtain ⟨-, -, hbest⟩ := hq
        exact variantBetter_eq_false_trans (hbest i u hi hok).1 hqx
      · next hx =>
        obtain rfl := Option.some.inj h
        exact ⟨j + 1, by omega, hq.tail fun hok => by simpa [hok] using hx⟩

end

/-- A variant covers every failed item just where it covers as many as there are. -/
theorem coveredCount_ne_length_iff (failed : List HealthItem) (v : Variant) :
    coveredCount failed v ≠ failed.length ↔ ∃ i ∈ failed, variantCovers failed v i = false := by
  simp [coveredCount, List.length_filter_eq_length_iff]

/-! ### The selection (R20, R24) -/

/-- The variant in force and its number. -/
def State.inForce (s : State) : Nat × Variant := (s.getF F.GOV_STAT_VARIANT, s.variantOf (s.getF F.GOV_STAT_VARIANT))

/-- The best of the plan's variants that a test permits, the one in force where it permits none. -/
def State.bestOf (s : State) (ok : Variant → Bool) : Nat × Variant :=
  (bestVariant s.failedItems (fun _ v => ok v) 0 s.plan.gov.variants).getD s.inForce

/-- R24 permits a variant from the one in force. -/
def State.permits (s : State) (v : Variant) : Bool := s.moveOk s.inForce.2 v

/-- The selection with its variant: the best of all where R24 permits it, else the best that R24 permits where that one covers
more than the one in force, else the one in force. -/
def State.selection (s : State) : Nat × Variant :=
  if s.permits (s.bestOf fun _ => true).2 then s.bestOf fun _ => true
  else if coveredCount s.failedItems s.inForce.2 < coveredCount s.failedItems (s.bestOf s.permits).2 then s.bestOf s.permits
  else s.inForce

theorem State.selectVariant_eq (s : State) :
    s.selectVariant = (s.selection.1, coveredCount s.failedItems s.selection.2 != s.failedItems.length) := rfl

section
variable (s : State) (ok : Variant → Bool)

/-- What is taken under a test is the best of what the test permits, or the variant in force where it permits none. -/
theorem State.bestOf_cases :
    IsBestVariant s.failedItems ok s.plan.gov.variants (s.bestOf ok).1 (s.bestOf ok).2 ∨
      (s.bestOf ok = s.inForce ∧ ∀ v ∈ s.plan.gov.variants, ok v = false) := by
  unfold State.bestOf
  cases h : bestVariant s.failedItems (fun _ v => ok v) 0 s.plan.gov.variants with
  | none => exact .inr ⟨rfl, ok_eq_false_of_bestVariant_eq_none h⟩
  | some p =>
    obtain ⟨j, hj, hbest⟩ := isBestVariant_of_bestVariant_eq_some h
    rw [Nat.zero_add] at hj
    exact .inl (by simpa [hj] using hbest)

theorem State.variantOf_of_getElem? {n : Nat} {v : Variant} (h : s.plan.gov.variants[n]? = some v) : s.variantOf n = v := by
  simp [State.variantOf, nth, List.getD, h]

theorem State.variantOf_bestOf : s.variantOf (s.bestOf ok).1 = (s.bestOf ok).2 := by
  rcases s.bestOf_cases ok with ⟨hget, -, -⟩ | ⟨heq, -⟩
  · exact s.variantOf_of_getElem? hget
  · rw [heq]; rfl

theorem State.permits_inForce : s.permits s.inForce.2 = true := by simp [State.permits, State.moveOk]

theorem State.permits_bestOf_permits : s.permits (s.bestOf s.permits).2 = true := by
  rcases s.bestOf_cases s.permits with ⟨-, hok, -⟩ | ⟨heq, -⟩
  · exact hok
  · rw [heq]; exact s.permits_inForce

variable {ok} {n : Nat} {v : Variant}

/-- No permitted variant covers more than the one taken. -/
theorem State.coveredCount_le_bestOf (h : s.plan.gov.variants[n]? = some v) (hv : ok v = true) :
    coveredCount s.failedItems v ≤ coveredCount s.failedItems (s.bestOf ok).2 := by
  rcases s.bestOf_cases ok with ⟨-, -, hbest⟩ | ⟨-, hnone⟩
  · exact (variantBetter_eq_false_iff.1 (hbest n v h hv).1).1
  · exact absurd hv (by simp [hnone v (List.mem_of_getElem? h)])

/-- The variant to which none is preferred and which has the lowest number of those as good is the best of all. -/
theorem State.bestOf_all_eq (h : s.plan.gov.variants[n]? = some v)
    (hbest : ∀ (k : Nat) (u : Variant), s.plan.gov.variants[k]? = some u →
      variantBetter s.failedItems u v = false ∧ (variantBetter s.failedItems v u = false → n ≤ k)) :
    s.bestOf (fun _ => true) = (n, v) := by
  rcases s.bestOf_cases fun _ => true with ⟨hget, -, hall⟩ | ⟨-, hnone⟩
  · obtain ⟨hnot, hlow⟩ := hbest _ _ hget
    obtain ⟨hnot', hlow'⟩ := hall n v h rfl
    have hnum : (s.bestOf fun _ => true).1 = n := le_antisymm (hlow' hnot) (hlow hnot')
    rw [hnum, h] at hget
    exact Prod.ext hnum (Option.some.inj hget).symm
  · exact absurd (hnone v (List.mem_of_getElem? h)) (by simp)

theorem State.variantOf_selection : s.variantOf s.selection.1 = s.selection.2 := by
  unfold State.selection
  split
  · exact s.variantOf_bestOf _
  · split
    · exact s.variantOf_bestOf _
    · rfl

theorem State.permits_selection : s.permits s.selection.2 = true := by
  unfold State.selection
  split
  · next hall => exact hall
  · split
    · exact s.permits_bestOf_permits
    · exact s.permits_inForce

/-- No variant that R24 permits covers more of the failed items than the selection. -/
theorem State.coveredCount_le_selection (h : s.plan.gov.variants[n]? = some v) (hv : s.permits v = true) :
    coveredCount s.failedItems v ≤ coveredCount s.failedItems s.selection.2 := by
  have hheld := s.coveredCount_le_bestOf h hv
  unfold State.selection
  split
  · exact s.coveredCount_le_bestOf h rfl
  · split
    · exact hheld
    · next hmore => exact hheld.trans (Nat.le_of_not_lt hmore)

/-- The best variant of all is selected where R24 permits it. -/
theorem State.selection_eq_of_best (h : s.bestOf (fun _ => true) = (n, v)) (hv : s.permits v = true) :
    s.selection = (n, v) := by
  simp [State.selection, h, hv]

end

/-! ### Commands of the governor: registers and the governor's own part -/

/-- Nothing changed but the governor's own part and, of the live registers, the ones listed. -/
def State.onlyGov (s t : State) (l : List Nat) : Prop := t = { s with regs := t.regs, gov := t.gov } ∧ s.regsKept t l

section
variable {s t : State} {l : List Nat}

theorem State.onlyGov.gov (g : GovState) (h : s.onlyGov t l) : s.onlyGov { t with gov := g } l := by
  obtain ⟨hrest, hregs⟩ := h
  exact ⟨by rw [hrest], hregs⟩

theorem State.onlyGov.setF (h : s.onlyGov t l) (f : Fld) (v : Nat) (m : f.addr ∈ l) : s.onlyGov (t.setF f v) l := by
  obtain ⟨hrest, hregs⟩ := h
  refine ⟨?_, hregs.setF f v m⟩
  unfold State.setF State.setW
  rw [hrest]

theorem State.onlyGov.refl (s : State) (l : List Nat) : s.onlyGov s l := ⟨rfl, State.regsKept.refl s l⟩

theorem State.onlyGov.mono {m : List Nat} (h : s.onlyGov t l) (k : ∀ a ∈ l, a ∈ m) : s.onlyGov t m := ⟨h.1, h.2.mono k⟩

theorem State.onlyGov.trans {u : State} (h : s.onlyGov t l) (k : t.onlyGov u l) : s.onlyGov u l := by
  obtain ⟨hrest, hregs⟩ := h
  obtain ⟨krest, kregs⟩ := k
  rw [hrest] at krest
  exact ⟨krest, hregs.trans kregs⟩

theorem State.onlyGov.when (h : s.onlyGov t l) (c : Bool) {f : State → State} (hf : s.onlyGov (f t) l) :
    s.onlyGov (t.when c f) l := by
  cases c
  · exact h
  · exact hf

theorem State.onlyGov.flag_eq (h : s.onlyGov t l) (f : Fld) (m : f.addr ∉ l) : t.flag f = s.flag f := by
  unfold State.flag State.getF
  rw [h.2 _ m]

theorem State.onlyGov.plan_eq (h : s.onlyGov t l) : t.plan = s.plan := by rw [h.1]

theorem State.onlyGov.tim_eq (h : s.onlyGov t l) : t.tim = s.tim := by rw [h.1]

theorem State.onlyGov.variantOf_eq (h : s.onlyGov t l) (n : Nat) : t.variantOf n = s.variantOf n := by
  rw [State.variantOf, h.plan_eq, State.variantOf]

/-- Which Head selects (R23) does not turn on the governor's own registers. -/
theorem State.onlyGov.selects_eq (h : s.onlyGov t [A.GOV_STAT, A.GOV_EVT]) : t.selects = s.selects := by
  have hduty : t.duty = s.duty := congrArg F.RED_STAT_DUTY.of (h.2 A.RED_STAT (by decide))
  simp only [State.selects, State.isHead, hduty, h.plan_eq, h.flag_eq F.SUP_STAT_ROLE (by decide),
    h.flag_eq F.BOOT_STAT_ROLE_PLAN (by decide), h.flag_eq F.RED_STAT_PAIR_REFUSED (by decide)]

end

/-! ### ANNOUNCE (R23, R25) -/

section
variable (s : State)

theorem State.announce_onlyGov (v : Nat) (first : Word) (u : Bool) : s.onlyGov (s.announce v first u) [A.GOV_STAT] :=
  (((State.onlyGov.refl s _).setF _ _ (by decide)).setF _ _ (by decide)).gov _

theorem State.getF_announce_pending {v : Nat} (hv : v < 64) (first : Word) (u : Bool) :
    (s.announce v first u).getF F.GOV_STAT_PENDING = v := by
  simp (disch := decide) only [State.announce, State.raise, State.getF_mk, State.getF_setF_apart, State.getF_setF_self]
  exact Nat.mod_eq_of_lt hv

theorem State.getF_announce_pendValid (v : Nat) (first : Word) (u : Bool) :
    (s.announce v first u).getF F.GOV_STAT_PEND_VALID = 1 :=
  State.getF_raise_self (s.setF F.GOV_STAT_PENDING v) _ (by decide) (by decide)

/-- A field apart from those of the pending variant is as it was. -/
theorem State.getF_announce_apart (v : Nat) (first : Word) (u : Bool) (f : Fld) (hp : F.GOV_STAT_PENDING.apart f = true)
    (hv : F.GOV_STAT_PEND_VALID.apart f = true) (hf : f.lo + f.width ≤ 32) : (s.announce v first u).getF f = s.getF f := by
  simp only [State.announce, State.raise, State.getF_mk]
  rw [State.getF_setF_apart _ _ _ _ hv hf, State.getF_setF_apart _ _ _ _ hp hf]

/-- The switch to another variant, before RECOVERED: the variant in force, one switch more and CHANGED (R23). -/
def State.switchTo (v : Nat) (image : Word) : State :=
  ((({ s with gov := { s.gov with applied := (image, v) :: s.gov.applied } } : State).setF F.GOV_STAT_VARIANT v).bump
    F.GOV_STAT_SWITCHES).raise F.GOV_EVT_CHANGED

theorem State.applyVariant_of_ne {v : Nat} (image : Word) (h : v ≠ s.getF F.GOV_STAT_VARIANT) :
    s.applyVariant v image = (s.switchTo v image).when
      (decide ((s.variantOf v).cover.length < (s.variantOf (s.getF F.GOV_STAT_VARIANT)).cover.length))
      (fun t => t.raise F.GOV_EVT_RECOVERED) := if_neg h

theorem State.switchTo_onlyGov (v : Nat) (image : Word) : s.onlyGov (s.switchTo v image) [A.GOV_STAT, A.GOV_EVT] :=
  ((((State.onlyGov.refl s _).gov _).setF _ _ (by decide)).setF _ _ (by decide)).setF _ _ (by decide)

theorem State.applyVariant_onlyGov (v : Nat) (image : Word) : s.onlyGov (s.applyVariant v image) [A.GOV_STAT, A.GOV_EVT] := by
  by_cases h : v = s.getF F.GOV_STAT_VARIANT
  · rw [State.applyVariant, if_pos h]
    exact State.onlyGov.refl s _
  · rw [s.applyVariant_of_ne image h]
    exact (s.switchTo_onlyGov v image).when _ ((s.switchTo_onlyGov v image).setF _ _ (by decide))

theorem State.getF_when_raise_apart (c : Bool) (f g : Fld) (h : f.apart g = true) (hg : g.lo + g.width ≤ 32) :
    (s.when c fun t => t.raise f).getF g = s.getF g := by
  cases c
  · rfl
  · exact State.getF_setF_apart s f g 1 h hg

theorem State.getF_switchTo_variant {v : Nat} (hv : v < 64) (image : Word) :
    (s.switchTo v image).getF F.GOV_STAT_VARIANT = v := by
  simp (disch := decide) only [State.switchTo, State.raise, State.bump, State.bumpBy, State.getF_setF_apart,
    State.getF_setF_self]
  exact Nat.mod_eq_of_lt hv

theorem State.getF_switchTo_switches (v : Nat) (image : Word) :
    (s.switchTo v image).getF F.GOV_STAT_SWITCHES = min (s.getF F.GOV_STAT_SWITCHES + 1) 65535 := by
  simp (disch := decide) only [State.switchTo, State.raise, State.getF_setF_apart, State.getF_bump_self, State.getF_mk]
  rfl

theorem State.getF_switchTo_changed (v : Nat) (image : Word) : (s.switchTo v image).getF F.GOV_EVT_CHANGED = 1 :=
  State.getF_raise_self _ _ (by decide) (by decide)

/-- What a switch to another variant leaves in the governor's registers (R23): the variant in force, one switch more, CHANGED, and
RECOVERED where the cover set got smaller. -/
theorem State.getF_applyVariant_of_ne {v : Nat} (hv : v < 64) (image : Word) (h : v ≠ s.getF F.GOV_STAT_VARIANT) :
    (s.applyVariant v image).getF F.GOV_STAT_VARIANT = v ∧
      (s.applyVariant v image).getF F.GOV_STAT_SWITCHES = min (s.getF F.GOV_STAT_SWITCHES + 1) 65535 ∧
      (s.applyVariant v image).getF F.GOV_EVT_CHANGED = 1 ∧
      ((s.variantOf v).cover.length < (s.variantOf (s.getF F.GOV_STAT_VARIANT)).cover.length →
        (s.applyVariant v image).getF F.GOV_EVT_RECOVERED = 1) := by
  rw [s.applyVariant_of_ne image h]
  refine ⟨?_, ?_, ?_, fun hsmaller => ?_⟩
  · rw [State.getF_when_raise_apart _ _ _ _ (by decide) (by decide), s.getF_switchTo_variant hv]
  · rw [State.getF_when_raise_apart _ _ _ _ (by decide) (by decide), s.getF_switchTo_switches]
  · rw [State.getF_when_raise_apart _ _ _ _ (by decide) (by decide), s.getF_switchTo_changed]
  · rw [decide_eq_true hsmaller]
    exact State.getF_raise_self _ _ (by decide) (by decide)

/-- A pending variant waits while its first image lies ahead. -/
theorem State.applyPending_of_ahead {image : Word} (h : diff32 image s.gov.pendFirst < 0) : s.applyPending image = s :=
  if_neg fun hbegun => absurd hbegun.2 (not_le.2 h)

/-- A pending variant whose first image has begun is put in force; only the Head that selects shows UNCOVERED with it. -/
theorem State.applyPending_of_begun {image : Word} (hpend : s.getF F.GOV_STAT_PEND_VALID = 1)
    (hbegun : 0 ≤ diff32 image s.gov.pendFirst) (hsel : s.selects = false) :
    s.applyPending image = (s.applyVariant (s.getF F.GOV_STAT_PENDING) s.gov.pendFirst).setF F.GOV_STAT_PEND_VALID 0 := by
  have hflag : s.flag F.GOV_STAT_PEND_VALID = true := by simp [State.flag, hpend]
  have hkeep := ((s.applyVariant_onlyGov (s.getF F.GOV_STAT_PENDING) s.gov.pendFirst).setF F.GOV_STAT_PEND_VALID 0
    (by decide)).selects_eq
  simp only [State.applyPending, hflag, hbegun, and_self, if_true, hkeep, hsel, State.when, Bool.false_eq_true, if_false]

/-- An ANNOUNCE at a device that does not select, once it numbers its images: the variant becomes pending and is applied if its
first image has begun. -/
theorem State.announceRx_of_image {image : Word} (v : Nat) (first : Word) (hsel : s.selects = false)
    (himage : s.tim.image = some image) : s.announceRx v first = (s.announce v first false).applyPending image := by
  have htim : (s.announce v first false).tim = s.tim := (s.announce_onlyGov v first false).tim_eq
  simp [State.announceRx, hsel, htim, himage]

theorem State.announceRx_of_selects (v : Nat) (first : Word) (hsel : s.selects = true) : s.announceRx v first = s := if_pos hsel

/-- The state after an announcement that takes effect at once. -/
def State.applyAnnounced (v : Nat) (first : Word) : State :=
  ((s.announce v first false).applyVariant v first).setF F.GOV_STAT_PEND_VALID 0

theorem State.announceRx_of_begun {v : Nat} {first image : Word} (hv : v < 64) (hsel : s.selects = false)
    (himage : s.tim.image = some image) (hbegun : 0 ≤ diff32 image first) :
    s.announceRx v first = s.applyAnnounced v first := by
  have hselA : (s.announce v first false).selects = false :=
    ((s.announce_onlyGov v first false).mono (by simp)).selects_eq.trans hsel
  rw [s.announceRx_of_image v first hsel himage,
    State.applyPending_of_begun _ (s.getF_announce_pendValid v first false) hbegun hselA, s.getF_announce_pending hv]
  rfl

theorem State.applyAnnounced_onlyGov (v : Nat) (first : Word) :
    s.onlyGov (s.applyAnnounced v first) [A.GOV_STAT, A.GOV_EVT] :=
  ((s.announce_onlyGov v first false).mono (by simp)).trans
    ((State.applyVariant_onlyGov _ v first).setF F.GOV_STAT_PEND_VALID 0 (by decide))

/-- What an announcement of another variant leaves in the governor's registers when it takes effect (R23). -/
theorem State.getF_applyAnnounced_of_ne {v : Nat} (hv : v < 64) (first : Word) (h : v ≠ s.getF F.GOV_STAT_VARIANT) :
    (s.applyAnnounced v first).getF F.GOV_STAT_VARIANT = v ∧ (s.applyAnnounced v first).getF F.GOV_STAT_PEND_VALID = 0 ∧
      (s.applyAnnounced v first).getF F.GOV_STAT_SWITCHES = min (s.getF F.GOV_STAT_SWITCHES + 1) 65535 ∧
      (s.applyAnnounced v first).getF F.GOV_EVT_CHANGED = 1 ∧
      ((s.variantOf v).cover.length < (s.variantOf (s.getF F.GOV_STAT_VARIANT)).cover.length →
        (s.applyAnnounced v first).getF F.GOV_EVT_RECOVERED = 1) := by
  have hcur : (s.announce v first false).getF F.GOV_STAT_VARIANT = s.getF F.GOV_STAT_VARIANT :=
    s.getF_announce_apart v first false _ (by decide) (by decide) (by decide)
  have hcount : (s.announce v first false).getF F.GOV_STAT_SWITCHES = s.getF F.GOV_STAT_SWITCHES :=
    s.getF_announce_apart v first false _ (by decide) (by decide) (by decide)
  have hcovers := (s.announce_onlyGov v first false).variantOf_eq
  have happlied := State.getF_applyVariant_of_ne (s.announce v first false) hv first (hcur ▸ h)
  rw [hcur, hcount, hcovers, hcovers] at happlied
  obtain ⟨hvariant, hswitches, hchanged, hrecovered⟩ := happlied
  have hother (f : Fld) (ha : F.GOV_STAT_PEND_VALID.apart f = true) (hf : f.lo + f.width ≤ 32) :
      (s.applyAnnounced v first).getF f = ((s.announce v first false).applyVariant v first).getF f :=
    State.getF_setF_apart _ _ f 0 ha hf
  refine ⟨(hother _ (by decide) (by decide)).trans hvariant, State.getF_setF_self _ _ _ (by decide),
    (hother _ (by decide) (by decide)).trans hswitches, (hother _ (by decide) (by decide)).trans hchanged,
    fun hsmaller => (hother _ (by decide) (by decide)).trans (hrecovered hsmaller)⟩

end

/-- An announcement waits as PENDING while its first image lies ahead (R23). -/
theorem announceReceived_ahead (v : Fin 64) (first image : Word) (s : State) (hsel : s.selects = false)
    (himage : s.tim.image = some image) (hahead : diff32 image first < 0) :
    ∃ t, exec (.announceReceived v first) s = .next t ∧ t.getF F.GOV_STAT_PENDING = v.val ∧ t.getF F.GOV_STAT_PEND_VALID = 1 ∧
      t.getF F.GOV_STAT_VARIANT = s.getF F.GOV_STAT_VARIANT ∧ t.gov.pendFirst = first ∧ s.regsKept t [A.GOV_STAT] ∧
      t = { s with regs := t.regs, gov := t.gov } := by
  obtain ⟨hrest, hregs⟩ := s.announce_onlyGov v.val first false
  have hrx : s.announceRx v.val first = s.announce v.val first false :=
    (s.announceRx_of_image v.val first hsel himage).trans (State.applyPending_of_ahead _ hahead)
  exact ⟨s.announce v.val first false, congrArg Host.Outcome.next hrx, s.getF_announce_pending v.isLt first false,
    s.getF_announce_pendValid v.val first false,
    s.getF_announce_apart v.val first false _ (by decide) (by decide) (by decide), rfl, hregs, hrest⟩

/-- An announcement whose first image has begun takes effect (R23). -/
theorem announceReceived_begun (v : Fin 64) (first image : Word) (s : State) (hsel : s.selects = false)
    (himage : s.tim.image = some image) (hbegun : 0 ≤ diff32 image first) (hne : v.val ≠ s.getF F.GOV_STAT_VARIANT) :
    ∃ t, exec (.announceReceived v first) s = .next t ∧ t.getF F.GOV_STAT_VARIANT = v.val ∧ t.getF F.GOV_STAT_PEND_VALID = 0 ∧
      t.getF F.GOV_STAT_SWITCHES = min (s.getF F.GOV_STAT_SWITCHES + 1) 65535 ∧ t.getF F.GOV_EVT_CHANGED = 1 ∧
      ((s.variantOf v).cover.length < (s.variantOf (s.getF F.GOV_STAT_VARIANT)).cover.length → t.getF F.GOV_EVT_RECOVERED = 1) ∧
      s.regsKept t [A.GOV_STAT, A.GOV_EVT] ∧ t = { s with regs := t.regs, gov := t.gov } := by
  obtain ⟨hrest, hregs⟩ := s.applyAnnounced_onlyGov v.val first
  obtain ⟨hvariant, hpend, hswitches, hchanged, hrecovered⟩ := s.getF_applyAnnounced_of_ne v.isLt first hne
  exact ⟨s.applyAnnounced v.val first, congrArg Host.Outcome.next (s.announceRx_of_begun v.isLt hsel himage hbegun), hvariant,
    hpend, hswitches, hchanged, hrecovered, hregs, hrest⟩

/-! ### The health record (R21, R24, R138) -/

theorem healthOf_item (l : List HealthRec) (i : HealthItem) : (healthOf l i).item = i := by
  unfold healthOf
  cases h : l.find? (fun r => decide (r.item = i)) with
  | none => rfl
  | some r => exact of_decide_eq_true (List.find?_some (p := fun r : HealthRec => decide (r.item = i)) h)

/-- An item's record is the one put for it. -/
theorem healthOf_healthPut_self (l : List HealthRec) (r : HealthRec) : healthOf (healthPut l r) r.item = r := by
  induction l with
  | nil => simp [healthPut, healthOf]
  | cons x l ih =>
    by_cases hx : x.item = r.item
    · simp [healthPut, healthOf, hx]
    · simpa [healthPut, healthOf, hx] using ih

theorem HealthRec.latch_item (r : HealthRec) (now : Nat) (ok : Bool) : (r.latch now ok).item = r.item := by
  unfold HealthRec.latch
  dsimp only
  split
  · split <;> rfl
  · rfl

/-- The newest entry after a latch holds the health latched. -/
theorem HealthRec.latch_head (r : HealthRec) (now : Nat) (ok : Bool) : ∃ x, (r.latch now ok).hist.head? = some (x, ok) := by
  unfold HealthRec.latch
  dsimp only
  split
  · next x b rest h =>
    split
    · next hb => exact ⟨x, by rw [h, hb]; rfl⟩
    · exact ⟨now, rfl⟩
  · exact ⟨now, rfl⟩

theorem State.healthOf_latchHealth_self (s : State) (i : HealthItem) (ok : Bool) :
    healthOf (s.latchHealth i ok).gov.items i = (healthOf s.gov.items i).latch s.now ok := by
  have hitem : ((healthOf s.gov.items i).latch s.now ok).item = i := (HealthRec.latch_item _ _ _).trans (healthOf_item _ i)
  have hput := healthOf_healthPut_self s.gov.items ((healthOf s.gov.items i).latch s.now ok)
  rwa [hitem] at hput

theorem exec_startGraceExpiry_released {s : State} (hhead : s.isHead = true) (hrel : s.released = true) :
    exec .startGraceExpiry s = .next { s with gov := { s.gov with graceOver := true } } := by
  have hcond : (s.isHead && s.released) = true := by simp [hhead, hrel]
  exact if_pos hcond

/-- The record of an item with its hold run. -/
def State.holdRun (s : State) (i : HealthItem) : State :=
  { s with gov := { s.gov with items := healthPut s.gov.items { healthOf s.gov.items i with held := true } } }

theorem State.healthOf_holdRun_self (s : State) (i : HealthItem) :
    healthOf (s.holdRun i).gov.items i = { healthOf s.gov.items i with held := true } := by
  have hput := healthOf_healthPut_self s.gov.items { healthOf s.gov.items i with held := true }
  rwa [healthOf_item] at hput

/-- The hold of an item that is healthy is recorded as run (R24). -/
theorem recoverHoldExpiry_healthy (i : HealthItem) (at0 : Nat) (rest : List (Nat × Bool)) (s : State)
    (h : (healthOf s.gov.items i).hist = (at0, true) :: rest) :
    ∃ t, exec (.recoverHoldExpiry i) s = .next t ∧ t.itemHeld i = true ∧ t = { s with gov := t.gov } := by
  have hexec : execRecoverHoldExpiry i s = .next (s.holdRun i) := by simp [execRecoverHoldExpiry, State.holdRun, h]
  exact ⟨s.holdRun i, hexec, by simp [State.itemHeld, s.healthOf_holdRun_self i, h], rfl⟩

/-- A Tile's entry with the Tile absent (R138); a Tile without an entry gets one. -/
def State.markAbsent (s : State) (id : BitVec 10) : State :=
  let x := tabGet { status := { src := id } } s.lnk.tiles id.toNat
  { s with lnk := { s.lnk with tiles := tabPut s.lnk.tiles id.toNat { x with present := false } } }

theorem State.tileReport_latchHealth (s : State) (i : HealthItem) (ok : Bool) (n : Nat) :
    (s.latchHealth i ok).tileReport n = s.tileReport n := rfl

theorem State.tileReport_markAbsent (s : State) (id : BitVec 10) : (s.markAbsent id).tileReport id.toNat = none := by
  simp [State.tileReport, State.markAbsent, tabPut]

theorem exec_statusTimeout_head (id : BitVec 10) {s : State} (hhead : s.isHead = true) :
    exec (.statusTimeout id) s = .next ((s.markAbsent id).latchHealth (.tile id.toNat) false) := by
  have hcond : ¬(!s.isHead) = true := by simp [hhead]
  exact if_neg hcond

/-- A Tile whose STATUS stays out is absent, and failed in the record of a Head (R138). -/
theorem statusTimeout_head (id : BitVec 10) (s : State) (hhead : s.isHead = true) :
    ∃ t, exec (.statusTimeout id) s = .next t ∧ t.tileReport id.toNat = none ∧
      (∃ x, (healthOf t.gov.items (.tile id.toNat)).hist.head? = some (x, false)) ∧
      t = { s with gov := t.gov, lnk := { s.lnk with tiles := t.lnk.tiles } } := by
  refine ⟨_, exec_statusTimeout_head id hhead, ?_, ?_, rfl⟩
  · rw [State.tileReport_latchHealth, State.tileReport_markAbsent]
  · rw [State.healthOf_latchHealth_self]
    exact HealthRec.latch_head _ _ _

/-! ### The statement -/

/-- Settles O31: the selection is the best of all the variants, the best that R24 permits or the one in force; the commands go by
the governor's operations, one case each. -/
theorem variantsAreSelectedAnnouncedAndFollowed : Obligations.VariantsAreSelectedAnnouncedAndFollowed := by
  unfold Obligations.VariantsAreSelectedAnnouncedAndFollowed
  refine ⟨fun s => ?_, announceReceived_ahead, announceReceived_begun,
    fun v first s hsel => congrArg Host.Outcome.next (s.announceRx_of_selects v.val first hsel),
    fun s => exec_startGraceExpiry_released, recoverHoldExpiry_healthy, statusTimeout_head⟩
  simp only [State.selectVariant_eq, State.variantOf_selection]
  refine ⟨s.permits_selection, fun m w hw hok => s.coveredCount_le_selection hw hok, fun m w hw hok hbest => ?_, ?_⟩
  · have hall : s.bestOf (fun _ => true) = (m, w) := s.bestOf_all_eq hw fun k v hk => by
      simp only [variantBetter_eq_false_iff]
      obtain ⟨hmore, hequal⟩ := hbest k v hk
      exact ⟨⟨hmore, fun h => (hequal h).1⟩, fun ⟨hle, hlen⟩ =>
        have hsame := le_antisymm hmore hle
        (hequal hsame).2 (le_antisymm (hequal hsame).1 (hlen hsame.symm))⟩
    rw [s.selection_eq_of_best hall hok]
  · rw [bne_iff_ne, coveredCount_ne_length_iff]

end Sys2Proof.Machine
end

section
/-!
PROOFS. Supplies, the power-on reset pin and the hold-up capacitor (chapters 02 and 19): what the monitors show of a supply (R32),
power-on reset (R34, R37, R51), the first steps of the supply-loss sequence (R406, R407) and its loss record (R408, R418).
-/

namespace Sys2Proof.Machine

/-! ### Fields of registers that are kept -/

section
variable {s t : State} {l : List Nat}

theorem State.regsKept.getF_eq (h : s.regsKept t l) (f : Fld) (m : f.addr ∉ l) : t.getF f = s.getF f :=
  congrArg f.of (h _ m)

theorem State.regsKept.flag_eq (h : s.regsKept t l) (f : Fld) (m : f.addr ∉ l) : t.flag f = s.flag f :=
  congrArg (· != 0) (h.getF_eq f m)

theorem State.regsKept.bit_eq (h : s.regsKept t l) (f : Fld) (i : Nat) (m : f.addr ∉ l) : t.bit f i = s.bit f i :=
  congrArg (Nat.testBit · i) (h.getF_eq f m)

theorem State.onlyRegs.when (h : s.onlyRegs t l) (c : Bool) {f : State → State} (hf : s.onlyRegs (f t) l) :
    s.onlyRegs (t.when c f) l := by
  cases c
  · exact h
  · exact hf

/-- Whether a Head belongs to a pair turns on its plan, its role and the debug unlock (R318, R384). -/
theorem State.paired_congr (hp : t.plan = s.plan) (hrole : t.flag F.SUP_STAT_ROLE = s.flag F.SUP_STAT_ROLE)
    (hplan : t.flag F.BOOT_STAT_ROLE_PLAN = s.flag F.BOOT_STAT_ROLE_PLAN)
    (hdebug : t.flag F.SEC_STAT_DEBUG = s.flag F.SEC_STAT_DEBUG) : t.paired = s.paired := by
  simp only [State.paired, State.isHead, hp, hrole, hplan, hdebug]

end

theorem Fld.of_and (f : Fld) (v w : Word) : f.of (v &&& w) = f.of v &&& f.of w := by
  simp [Fld.of, Nat.shiftRight_and_distrib, Nat.and_mod_two_pow]

/-! ### The monitors' bits (R32) -/

section
variable (s : State) (k : Supply)

theorem Supply.bit_lt : k.bit < 8 := by cases k <;> decide

/-- The state in which the monitor shows the loss of a supply: its bit of `SUP_STAT` at 0 and its bit of `SUP_EVT.DIP` set. -/
def State.dipped : State := (s.setSupply k false).raiseBit F.SUP_EVT_DIP k.bit

theorem State.getF_setSupply_self (ok : Bool) : (s.setSupply k ok).getF ⟨A.SUP_STAT, k.bit, 1⟩ = ok.toNat := by
  refine (State.getF_setF_self s _ _ ?_).trans ?_
  · have := k.bit_lt
    show k.bit + 1 ≤ 32
    omega
  · cases ok <;> rfl

theorem State.setSupply_regsKept (ok : Bool) : s.regsKept (s.setSupply k ok) [A.SUP_STAT] :=
  (State.regsKept.refl s _).setB _ _ (by simp)

theorem State.dipped_onlyRegs : s.onlyRegs (s.dipped k) [A.SUP_STAT, A.SUP_EVT] :=
  ((State.onlyRegs.refl s _).setB _ _ (by simp)).raiseBit F.SUP_EVT_DIP _ (by decide)

theorem State.dipped_regsKept : s.regsKept (s.dipped k) [A.SUP_STAT, A.SUP_EVT] := (s.dipped_onlyRegs k).2

theorem State.getF_dipped_supply : (s.dipped k).getF ⟨A.SUP_STAT, k.bit, 1⟩ = 0 :=
  ((State.regsKept.refl (s.setSupply k false) [A.SUP_EVT]).raiseBit F.SUP_EVT_DIP k.bit (by decide)).getF_eq _
    (show A.SUP_STAT ∉ [A.SUP_EVT] by decide)    |>.trans (s.getF_setSupply_self k false)

theorem State.bit_dipped : (s.dipped k).bit F.SUP_EVT_DIP k.bit = true :=
  State.bit_raiseBit_self _ _ _ (by decide) k.bit_lt

/-- The strap as it was sampled stands apart from the monitors' bits (R31). -/
theorem State.flag_dipped_role : (s.dipped k).flag F.SUP_STAT_ROLE = s.flag F.SUP_STAT_ROLE := by
  have hevt : (s.dipped k).getF F.SUP_STAT_ROLE = (s.setSupply k false).getF F.SUP_STAT_ROLE :=
    State.getF_setF_apart _ _ _ _ (by decide) (by decide)
  have hstat : (s.setSupply k false).getF F.SUP_STAT_ROLE = s.getF F.SUP_STAT_ROLE :=
    State.getF_setF_apart _ _ _ _ (by cases k <;> decide) (by decide)
  rw [State.flag, hevt, hstat, State.flag]

theorem State.isHead_dipped : (s.dipped k).isHead = s.isHead := by
  rw [State.isHead, s.flag_dipped_role, (s.dipped_regsKept k).flag_eq _ (by decide), State.isHead]

theorem State.paired_dipped : (s.dipped k).paired = s.paired :=
  State.paired_congr rfl (s.flag_dipped_role k) ((s.dipped_regsKept k).flag_eq _ (by decide))
    ((s.dipped_regsKept k).flag_eq _ (by decide))

@[simp] theorem State.needsSupply_dipped : (s.dipped k).needsSupply k = s.needsSupply k := by
  rw [State.needsSupply, s.isHead_dipped, State.needsSupply]

@[simp] theorem State.released_dipped : (s.dipped k).released = s.released :=
  (s.dipped_regsKept k).flag_eq F.BOOT_STAT_RELEASED (by decide)

@[simp] theorem State.saving_dipped : (s.dipped k).saving = s.saving := rfl
@[simp] theorem State.pwr_dipped : (s.dipped k).pwr = s.pwr := rfl

end

/-! ### What a lost supply brings about (R37, R406, R408) -/

section
variable {s : State} {k : Supply}

theorem exec_supplyLeavesRange (h : s.pwr.phase ≠ .por) :
    exec (.supplyLeavesRange k) s = .next ((s.dipped k).supplyLost k) := by
  have hphase : (s.setSupply k false).pwr.phase ≠ .por := h
  show execSupplyLeavesRange k s = _
  simp only [execSupplyLeavesRange, hphase, if_false]
  rfl

theorem State.supplyLost_notNeeded (h : s.needsSupply k = false) : s.supplyLost k = s := if_pos (Or.inr h)

theorem State.supplyLost_lossSave (hphase : s.pwr.phase = .lossSave) (hneed : s.needsSupply k = true) :
    s.supplyLost k = s.lossDip := by
  simp [State.supplyLost, hphase, hneed]

/-- A supply that the device does not survive, lost with no save running: the supply-loss sequence after release, power-on reset
before it. -/
theorem State.supplyLost_needed (hpor : s.pwr.phase ≠ .por) (hloss : s.pwr.phase ≠ .lossSave) (hneed : s.needsSupply k = true)
    (hsave : s.saving = false) : s.supplyLost k = if s.released then s.startLoss else s.enterPor := by
  simp [State.supplyLost, hpor, hloss, hneed, hsave]

/-- During the sequence a further dip goes into the loss record. -/
theorem State.lossDip_of_lossSaving (h : s.lossSaving = true) :
    s.lossDip = { s with smp := s.smp.setLoss { s.smp.loss with dip := s.getF F.SUP_EVT_DIP } } := by
  unfold State.lossSaving at h
  unfold State.lossDip
  split at h
  · split at h
    · simp [*]
    · simp at h
  · simp at h

theorem State.saving_of_lossSaving (h : s.lossSaving = true) : s.saving = true := by
  unfold State.lossSaving at h
  unfold State.saving
  split at h
  · split at h
    · simp [*]
    · simp at h
  · simp at h

end

/-! ### Power-on reset (R51) -/

section
variable (s : State)

theorem State.enterPor_poweredOff : s.poweredOff s.enterPor := by
  refine ⟨rfl, fun a ha => ?_, rfl, rfl, rfl, rfl, rfl, rfl, rfl, rfl, rfl, rfl⟩
  exact State.getW_setW_ne _ _ ha

theorem State.enterPor_sumpKept : s.sumpKept s.enterPor := ⟨rfl, rfl, rfl, rfl⟩

theorem State.getW_enterPor_supStat : s.enterPor.getW A.SUP_STAT = s.getW A.SUP_STAT &&& 0x1FFF01FF :=
  State.getW_setW_self _ _ _

/-- A monitor that shows its supply out of range goes on showing it. -/
theorem State.getF_enterPor_supply {k : Supply} (h : s.getF ⟨A.SUP_STAT, k.bit, 1⟩ = 0) :
    s.enterPor.getF ⟨A.SUP_STAT, k.bit, 1⟩ = 0 := by
  unfold State.getF at h ⊢
  rw [State.getW_enterPor_supStat, Fld.of_and, h, Nat.zero_and]

end

/-! ### The first steps of the supply-loss sequence (R38, R329, R407) -/

section
variable (s : State)

theorem State.dropSlot_eq : s.dropSlot = { s with regs := s.dropSlot.regs, lmp := s.dropSlot.lmp } := by
  unfold State.dropSlot
  split
  · rfl
  · dsimp only
    split <;> rfl

@[simp] theorem State.dropSlot_pwr : s.dropSlot.pwr = s.pwr := by rw [s.dropSlot_eq]
@[simp] theorem State.dropSlot_plan : s.dropSlot.plan = s.plan := by rw [s.dropSlot_eq]
@[simp] theorem State.dropSlot_smp : s.dropSlot.smp = s.smp := by rw [s.dropSlot_eq]

theorem State.dropSlot_regsKept : s.regsKept s.dropSlot [A.LMP_STAT, A.LMP_CNT] := by
  unfold State.dropSlot
  split
  · exact State.regsKept.refl s _
  · have hslot := (State.regsKept.refl s [A.LMP_STAT, A.LMP_CNT])
    dsimp only
    split
    · exact (State.regsKept.setB (t := { s with lmp := _ }) hslot _ _ (by decide)).bump _ (by decide)
    · exact State.regsKept.setB (t := { s with lmp := _ }) hslot _ _ (by decide)

theorem State.dropSlot_slot : s.dropSlot.lmp.slot = none := by
  unfold State.dropSlot
  split
  · assumption
  · dsimp only
    split <;> rfl

theorem State.dropSlot_lossHard : s.dropSlot.lmp.lossHard = s.lmp.lossHard := by
  unfold State.dropSlot
  split
  · rfl
  · dsimp only
    split <;> rfl

variable {s} in
theorem State.lampState_of_hardHeld (h : s.hardHeld = true) : s.lampState = s.setF F.LMP_STAT_STATE 3 := by
  simp [State.lampState, h]

variable {s} in
/-- The hard blank of the supply-loss sequence leaves the lamp engine in state 3 (R255, R407). -/
theorem State.hardBlank_of_lossHard (h : s.lmp.lossHard = true) :
    s.hardBlank = (s.dropSlot.raise F.LMP_EVT_HARD).setF F.LMP_STAT_STATE 3 := by
  have hheld : (s.dropSlot.raise F.LMP_EVT_HARD).hardHeld = true := by
    simp [State.hardHeld, s.dropSlot_lossHard, h]
  exact State.lampState_of_hardHeld hheld

/-- The registers in which the first steps of the sequence show. -/
def lossRegs : List Nat :=
  [A.LMP_STAT, A.LMP_CNT, A.LMP_EVT, A.RED_STAT, A.RED_EVT, A.LAN_DPLINK 0, A.LAN_DPLINK 1, A.LAN_DPLINK 2, A.LAN_DPLINK 3]

/-- The device with the request for the hard blank and with the watchdog stopped. -/
def State.lossRequested : State :=
  { s with lmp := { s.lmp with lossHard := true }, pwr := { s.pwr with phase := .lossSave, wdtArmed := false } }

/-- The device hard-blanked and clamped. -/
def State.lossClamped : State := s.lossRequested.hardBlank.clampOutputs

theorem State.lossClamped_eq : s.lossClamped =
    ((s.lossRequested.dropSlot.raise F.LMP_EVT_HARD).setF F.LMP_STAT_STATE 3).clampOutputs :=
  congrArg State.clampOutputs (State.hardBlank_of_lossHard rfl)

/-- The registers of the failed duty with cause 5 (R334). -/
def State.lossFailed : State := ((s.setF F.RED_STAT_DUTY 3).setF F.RED_STAT_CAUSE 5).raise F.RED_EVT_FAILED

theorem State.lossEvents_eq :
    s.lossEvents = if s.lossClamped.paired then s.lossClamped.lossFailed else s.lossClamped := rfl

@[simp] theorem State.lossFailed_smp : s.lossFailed.smp = s.smp := rfl

theorem State.getF_lossFailed : s.lossFailed.getF F.RED_STAT_DUTY = 3 ∧ s.lossFailed.getF F.RED_STAT_CAUSE = 5 ∧
    s.lossFailed.getF F.RED_EVT_FAILED = 1 := by
  simp (disch := decide) [State.lossFailed, State.raise, State.getF_setF_apart, State.getF_setF_self, F.RED_STAT_DUTY,
    F.RED_STAT_CAUSE, F.RED_EVT_FAILED]

@[simp] theorem State.clampOutputs_pwr : s.clampOutputs.pwr = { s.pwr with txIdle := true } := rfl
@[simp] theorem State.clampOutputs_plan : s.clampOutputs.plan = s.plan := rfl
@[simp] theorem State.clampOutputs_smp : s.clampOutputs.smp = s.smp := rfl
@[simp] theorem State.clampOutputs_lmp : s.clampOutputs.lmp = s.lmp := rfl
@[simp] theorem State.clampOutputs_duty : s.clampOutputs.rail.duty = [] := rfl

theorem State.clampOutputs_regsKept :
    s.regsKept s.clampOutputs [A.RED_STAT, A.LAN_DPLINK 0, A.LAN_DPLINK 1, A.LAN_DPLINK 2, A.LAN_DPLINK 3] := by
  refine ((((State.regsKept.setB (t := { s with pwr := _, rail := _, red := _ }) ?_ F.RED_STAT_ILK_OUT false (by decide)).setF
    (F.LAN_DPLINK_HPD 0) 0 (by decide)).setF (F.LAN_DPLINK_HPD 1) 0 (by decide)).setF (F.LAN_DPLINK_HPD 2) 0 (by decide)).setF
    (F.LAN_DPLINK_HPD 3) 0 (by decide)
  exact State.regsKept.refl s _

theorem State.getF_clampOutputs_ilkOut : s.clampOutputs.getF F.RED_STAT_ILK_OUT = 0 := by
  simp (disch := decide) only [State.clampOutputs, State.forEach, List.foldl_cons, List.foldl_nil, State.setB,
    State.getF_setF_apart, State.getF_setF_self]
  rfl

theorem State.getF_clampOutputs_hpd {n : Nat} (hn : n < 4) : s.clampOutputs.getF (F.LAN_DPLINK_HPD n) = 0 := by
  have hall : ∀ i : Fin 4, s.clampOutputs.getF (F.LAN_DPLINK_HPD i) = 0 := by
    intro i
    fin_cases i <;> simp (disch := decide) [State.clampOutputs, State.forEach, State.getF_setF_apart, State.getF_setF_self]
  exact hall ⟨n, hn⟩


theorem State.lossClamped_regsKept : s.regsKept s.lossClamped lossRegs := by
  have hslot : s.regsKept s.lossRequested.dropSlot [A.LMP_STAT, A.LMP_CNT] := s.lossRequested.dropSlot_regsKept
  rw [s.lossClamped_eq]
  exact (((hslot.mono (by decide)).raise F.LMP_EVT_HARD (by decide)).setF F.LMP_STAT_STATE 3 (by decide)).trans
    ((State.clampOutputs_regsKept _).mono (by decide))

/-- The clamps do not touch the lamp engine. -/
theorem State.getF_clampOutputs_lmpState : s.clampOutputs.getF F.LMP_STAT_STATE = s.getF F.LMP_STAT_STATE :=
  s.clampOutputs_regsKept.getF_eq _ (by decide)

theorem State.lossClamped_pwr :
    s.lossClamped.pwr = { s.pwr with phase := .lossSave, wdtArmed := false, txIdle := true } := by
  simp [s.lossClamped_eq, State.lossRequested]

theorem State.lossClamped_plan : s.lossClamped.plan = s.plan := by simp [s.lossClamped_eq, State.lossRequested]

theorem State.lossClamped_smp : s.lossClamped.smp = s.smp := by simp [s.lossClamped_eq, State.lossRequested]

theorem State.lossClamped_lossBegun : s.lossClamped.lossBegun := by
  refine ⟨by rw [s.lossClamped_pwr], by rw [s.lossClamped_pwr], by rw [s.lossClamped_pwr], ?_, ?_,
    State.clampOutputs_duty _, State.getF_clampOutputs_ilkOut _, fun n hn => State.getF_clampOutputs_hpd _ hn⟩
  · simp [s.lossClamped_eq, State.dropSlot_slot]
  · rw [s.lossClamped_eq, State.getF_clampOutputs_lmpState, State.getF_setF_self _ _ _ (by decide)]
    rfl

variable {s} in
/-- The first steps of the sequence stay taken when a field apart from theirs is written. -/
theorem State.lossBegun.setF (h : s.lossBegun) (f : Fld) (v : Nat) (hlmp : f.apart F.LMP_STAT_STATE = true)
    (hilk : f.apart F.RED_STAT_ILK_OUT = true) (hhpd : ∀ n : Fin 4, f.apart (F.LAN_DPLINK_HPD n) = true) :
    (s.setF f v).lossBegun := by
  obtain ⟨hphase, hwdt, hidle, hslot, hstate, hduty, hout, hdp⟩ := h
  refine ⟨hphase, hwdt, hidle, hslot, ?_, hduty, ?_, fun n hn => ?_⟩
  · rw [State.getF_setF_apart _ _ _ _ hlmp (by decide), hstate]
  · rw [State.getF_setF_apart _ _ _ _ hilk (by decide), hout]
  · rw [State.getF_setF_apart _ _ _ _ (hhpd ⟨n, hn⟩) (show 9 ≤ 32 by decide), hdp n hn]

theorem State.lossEvents_lossBegun : s.lossEvents.lossBegun := by
  have h := s.lossClamped_lossBegun
  rw [s.lossEvents_eq]
  split
  · exact ((h.setF _ _ (by decide) (by decide) (by decide)).setF _ _ (by decide) (by decide) (by decide)).setF _ _
      (by decide) (by decide) (by decide)
  · exact h

theorem State.lossEvents_regsKept : s.regsKept s.lossEvents lossRegs := by
  have h := s.lossClamped_regsKept
  rw [s.lossEvents_eq]
  exact (((h.setF F.RED_STAT_DUTY 3 (by decide)).setF F.RED_STAT_CAUSE 5 (by decide)).raise F.RED_EVT_FAILED (by decide)).ite h

theorem State.lossEvents_smp : s.lossEvents.smp = s.smp := by
  rw [s.lossEvents_eq]
  split
  · exact s.lossClamped.lossFailed_smp.trans s.lossClamped_smp
  · exact s.lossClamped_smp

variable {s} in
/-- A Head of a pair enters the failed duty with cause 5 (R334, R407). -/
theorem State.lossEvents_failed (h : s.paired = true) : s.lossEvents.getF F.RED_STAT_DUTY = 3 ∧
    s.lossEvents.getF F.RED_STAT_CAUSE = 5 ∧ s.lossEvents.getF F.RED_EVT_FAILED = 1 := by
  have hkept := s.lossClamped_regsKept
  have hpaired : s.lossClamped.paired = true := (State.paired_congr s.lossClamped_plan (hkept.flag_eq _ (by decide))
    (hkept.flag_eq _ (by decide)) (hkept.flag_eq _ (by decide))).trans h
  rw [s.lossEvents_eq, if_pos hpaired]
  exact s.lossClamped.getF_lossFailed

/-! ### The save of the sequence and its loss record (R407, R415, R418) -/

theorem State.saveBegun_startSave (kind : SaveKind) : (s.startSave kind).saveBegun kind :=
  ⟨rfl, State.getF_setF_self _ _ _ (by decide)⟩

variable {s} in
theorem State.lossBegun.startSave (h : s.lossBegun) (kind : SaveKind) : (s.startSave kind).lossBegun :=
  State.lossBegun.setF (s := { s with smp := _ }) h F.SMP_STAT_STATE 3 (by decide) (by decide) (by decide)

/-- The device with the records filled that the save of the sequence takes. -/
def State.lossFilled : State := ((s.fillLoss 1).fillSys).fillUpd

theorem State.lossFilled_eq : s.lossFilled = { s with smp := s.lossFilled.smp } := by
  unfold State.lossFilled State.fillUpd
  split <;> rfl

theorem State.lossFilled_sumpKept : s.sumpKept s.lossFilled := by
  unfold State.lossFilled State.fillUpd
  split <;> exact ⟨rfl, rfl, rfl, rfl⟩

theorem State.lossFilled_loss : s.lossFilled.smp.loss = (s.fillLoss 1).smp.loss := by
  unfold State.lossFilled State.fillUpd
  split <;> rfl

theorem State.lossFilled_regs : s.lossFilled.regs = s.regs := by rw [s.lossFilled_eq]

theorem State.paired_lossFilled : s.lossFilled.paired = s.paired := by rw [s.lossFilled_eq]; rfl

theorem State.startLoss_lossBegun : s.startLoss.lossBegun := s.lossFilled.lossEvents_lossBegun.startSave .loss

theorem State.startLoss_saveBegun : s.startLoss.saveBegun .loss := s.lossFilled.lossEvents.saveBegun_startSave .loss

theorem State.startLoss_smp : s.startLoss.smp =
    { s.lossFilled.smp with save := some { kind := .loss, rows := saveRows s.lossFilled.smp } } := by
  rw [← s.lossFilled.lossEvents_smp]
  rfl

theorem State.startLoss_sumpKept : s.sumpKept s.startLoss := by
  unfold State.sumpKept
  rw [s.startLoss_smp]
  exact s.lossFilled_sumpKept

/-- The loss record of the sequence: cause 1, and one save more than the last record counts (R418). -/
theorem State.startLoss_loss : s.startLoss.smp.loss.cause = 1 ∧ s.startLoss.smp.loss.saves = s.smp.lossSaved.saves + 1 := by
  rw [s.startLoss_smp]
  dsimp only
  rw [s.lossFilled_loss]
  exact ⟨rfl, rfl⟩

theorem State.startLoss_regsKept : s.regsKept s.startLoss (A.SMP_STAT :: lossRegs) := by
  have hfill : s.regsKept s.lossFilled (A.SMP_STAT :: lossRegs) := (State.regsKept.refl s _).congr s.lossFilled_regs
  have hevents := hfill.trans (s.lossFilled.lossEvents_regsKept.mono (by simp +contextual))
  exact State.regsKept.setF (t := { s.lossFilled.lossEvents with smp := _ }) hevents F.SMP_STAT_STATE 3 (by decide)

variable {s} in
theorem State.startLoss_failed (h : s.paired = true) : s.startLoss.getF F.RED_STAT_DUTY = 3 ∧
    s.startLoss.getF F.RED_STAT_CAUSE = 5 ∧ s.startLoss.getF F.RED_EVT_FAILED = 1 := by
  have hevents := State.lossEvents_failed (s.paired_lossFilled.trans h)
  have hsave : s.lossFilled.lossEvents.regsKept s.startLoss [A.SMP_STAT] :=
    State.regsKept.setF (t := { s.lossFilled.lossEvents with smp := _ }) (State.regsKept.refl _ _) F.SMP_STAT_STATE 3 (by decide)
  rw [hsave.getF_eq _ (by decide), hsave.getF_eq _ (by decide), hsave.getF_eq _ (by decide)]
  exact hevents

end

/-! ### The commands of the monitors -/

/-- A needed supply lost before release (R37). -/
theorem supplyLeavesRange_before_release (k : Supply) (s : State) (hpor : s.pwr.phase ≠ .por)
    (hloss : s.pwr.phase ≠ .lossSave) (hneed : s.needsSupply k = true) (hsave : s.saving = false) (hrel : s.released = false) :
    ∃ t, exec (.supplyLeavesRange k) s = .next t ∧ s.poweredOff t ∧ s.sumpKept t ∧ t.getF ⟨A.SUP_STAT, k.bit, 1⟩ = 0 := by
  refine ⟨(s.dipped k).enterPor, ?_, (s.dipped k).enterPor_poweredOff, (s.dipped k).enterPor_sumpKept,
    State.getF_enterPor_supply _ (s.getF_dipped_supply k)⟩
  rw [exec_supplyLeavesRange hpor, State.supplyLost_needed (by simpa) (by simpa) (by simpa) (by simpa)]
  simp [hrel]

/-- A needed supply lost after release (R406, R407, R418). -/
theorem supplyLeavesRange_after_release (k : Supply) (s : State) (hpor : s.pwr.phase ≠ .por) (hloss : s.pwr.phase ≠ .lossSave)
    (hneed : s.needsSupply k = true) (hsave : s.saving = false) (hrel : s.released = true) :
    ∃ t, exec (.supplyLeavesRange k) s = .next t ∧ t.lossBegun ∧ t.saveBegun .loss ∧ s.sumpKept t ∧
      t.smp.loss.cause = 1 ∧ t.smp.loss.saves = s.smp.lossSaved.saves + 1 ∧ t.getF ⟨A.SUP_STAT, k.bit, 1⟩ = 0 ∧
      t.bit F.SUP_EVT_DIP k.bit = true ∧
      (s.paired = true → t.getF F.RED_STAT_DUTY = 3 ∧ t.getF F.RED_STAT_CAUSE = 5 ∧ t.getF F.RED_EVT_FAILED = 1) := by
  have hkept := (s.dipped k).startLoss_regsKept
  obtain ⟨hcause, hsaves⟩ := (s.dipped k).startLoss_loss
  refine ⟨(s.dipped k).startLoss, ?_, (s.dipped k).startLoss_lossBegun, (s.dipped k).startLoss_saveBegun,
    (s.dipped k).startLoss_sumpKept, hcause, hsaves, ?_, ?_, fun h => State.startLoss_failed ((s.paired_dipped k).trans h)⟩
  · rw [exec_supplyLeavesRange hpor, State.supplyLost_needed (by simpa) (by simpa) (by simpa) (by simpa)]
    simp [hrel]
  · exact (hkept.getF_eq _ (show A.SUP_STAT ∉ A.SMP_STAT :: lossRegs by decide)).trans (s.getF_dipped_supply k)
  · exact (hkept.bit_eq _ _ (by decide)).trans (s.bit_dipped k)

/-- A further dip during the supply-loss sequence (R408). -/
theorem supplyLeavesRange_during_loss (k : Supply) (s : State) (hphase : s.pwr.phase = .lossSave)
    (hneed : s.needsSupply k = true) (hsave : s.lossSaving = true) :
    ∃ t, exec (.supplyLeavesRange k) s = .next t ∧ t = { s with regs := t.regs, smp := t.smp } ∧
      s.regsKept t [A.SUP_STAT, A.SUP_EVT] ∧ t.getF ⟨A.SUP_STAT, k.bit, 1⟩ = 0 ∧ t.bit F.SUP_EVT_DIP k.bit = true ∧
      t.smp = s.smp.setLoss { s.smp.loss with dip := t.getF F.SUP_EVT_DIP } := by
  have hlost : (s.dipped k).supplyLost k = (s.dipped k).lossDip := State.supplyLost_lossSave hphase (by simpa)
  have hdip := State.lossDip_of_lossSaving (s := s.dipped k) hsave
  refine ⟨_, (exec_supplyLeavesRange (by simp [hphase])).trans (congrArg Host.Outcome.next (hlost.trans hdip)), rfl,
    s.dipped_regsKept k, s.getF_dipped_supply k, s.bit_dipped k, rfl⟩

/-- A supply that the role does not need (R32). -/
theorem supplyLeavesRange_notNeeded (k : Supply) (s : State) (hpor : s.pwr.phase ≠ .por) (hneed : s.needsSupply k = false) :
    ∃ t, exec (.supplyLeavesRange k) s = .next t ∧ s.onlyRegs t [A.SUP_STAT, A.SUP_EVT] ∧
      t.getF ⟨A.SUP_STAT, k.bit, 1⟩ = 0 ∧ t.bit F.SUP_EVT_DIP k.bit = true := by
  refine ⟨s.dipped k, ?_, s.dipped_onlyRegs k, s.getF_dipped_supply k, s.bit_dipped k⟩
  rw [exec_supplyLeavesRange hpor, State.supplyLost_notNeeded (by simpa)]

/-- A supply back in range (R32, R418). -/
theorem supplyReturns_shown (k : Supply) (s : State) :
    ∃ t, exec (.supplyReturns k) s = .next t ∧ t = { s with regs := t.regs, smp := t.smp } ∧ s.regsKept t [A.SUP_STAT] ∧
      t.getF ⟨A.SUP_STAT, k.bit, 1⟩ = 1 ∧
      t.smp = if s.lossSaving then s.smp.setLoss { s.smp.loss with flags := s.smp.loss.flags ||| 4 } else s.smp := by
  refine ⟨(s.setSupply k true).when s.lossSaving (fun t => t.lossFlag 2), rfl, ?_⟩
  cases hloss : s.lossSaving with
  | false => exact ⟨rfl, s.setSupply_regsKept k true, s.getF_setSupply_self k true, rfl⟩
  | true =>
    have hflag : (s.setSupply k true).lossFlag 2 = { s.setSupply k true with
        smp := s.smp.setLoss { s.smp.loss with flags := s.smp.loss.flags ||| 4 } } :=
      if_pos (State.saving_of_lossSaving (s := s.setSupply k true) hloss)
    rw [State.when, if_pos rfl, hflag]
    exact ⟨rfl, s.setSupply_regsKept k true, s.getF_setSupply_self k true, rfl⟩

/-! ### `PORST_N` (R54, R408) and CKEEP (R34, R410) -/

/-- The state with the pin's level low. -/
def State.porstFallen (s : State) : State := { s with pwr := { s.pwr with porstLow := true } }

theorem exec_porstNLow_long {ns : Nat} {s : State} (hns : 1000 ≤ ns) : exec (.porstNLow ns) s = .next (if s.saving then
      { s.porstFallen.lossFlag 1 with pwr := { s.porstFallen.pwr with porAfterRow := true } } else s.porstFallen.enterPor) := by
  show execPorstNLow ns s = _
  rw [execPorstNLow, if_pos (Or.inl hns)]
  exact (apply_ite Host.Outcome.next _ _ _).symm

/-- `PORST_N` low for 1 µs or more resets the device at once with no save running (R54). -/
theorem porstNLow_idle (ns : Nat) (s : State) (hns : 1000 ≤ ns) (hsave : s.saving = false) :
    ∃ t, exec (.porstNLow ns) s = .next t ∧ s.poweredOff t ∧ s.sumpKept t ∧ t.pwr.porstLow = true := by
  refine ⟨s.porstFallen.enterPor, ?_, s.porstFallen.enterPor_poweredOff, s.porstFallen.enterPor_sumpKept, rfl⟩
  simp [exec_porstNLow_long hns, hsave]

/-- While a save runs, the reset waits for the row in progress (R54, R408). -/
theorem porstNLow_saving (ns : Nat) (s : State) (hns : 1000 ≤ ns) (hsave : s.saving = true) :
    ∃ t, exec (.porstNLow ns) s = .next t ∧ t.pwr.porAfterRow = true ∧ t.pwr.porstLow = true ∧
      t.pwr.phase = s.pwr.phase ∧ t.smp = s.smp.setLoss { s.smp.loss with flags := s.smp.loss.flags ||| 2 } ∧
      t = { s with pwr := t.pwr, smp := t.smp } := by
  have hflag : s.porstFallen.lossFlag 1 = { s.porstFallen with
      smp := s.smp.setLoss { s.smp.loss with flags := s.smp.loss.flags ||| 2 } } := if_pos hsave
  rw [exec_porstNLow_long hns, if_pos hsave, hflag]
  exact ⟨_, rfl, rfl, rfl, rfl, rfl, rfl⟩

theorem exec_porstNLow_glitch (ns : Nat) (s : State) (hns : ns < 100) : exec (.porstNLow ns) s = .next s :=
  if_neg (by omega)

/-- CKEEP below 4,500 mV (R34, R410). That its event is set after release alone is the model's reading (log entry 39). -/
theorem ckeepLow_shown (mv : Nat) (s : State) (hmv : mv < 4500) :
    ∃ t, exec (.ckeepLow mv) s = .next t ∧ s.onlyRegs t [A.SUP_STAT, A.SUP_EVT] ∧ t.getF F.SUP_STAT_CKEEP_OK = 0 ∧
      t.getF F.SUP_STAT_CKEEP_MV = mv ∧
      t.getF F.SUP_EVT_CKEEP_LOW = (if s.released = true then 1 else s.getF F.SUP_EVT_CKEEP_LOW) := by
  have hlow : s.onlyRegs ((s.setF F.SUP_STAT_CKEEP_OK 0).setF F.SUP_STAT_CKEEP_MV mv) [A.SUP_STAT] :=
    ((State.onlyRegs.refl s _).setF _ _ (by decide)).setF _ _ (by decide)
  have hrel : ((s.setF F.SUP_STAT_CKEEP_OK 0).setF F.SUP_STAT_CKEEP_MV mv).released = s.released :=
    hlow.2.flag_eq F.BOOT_STAT_RELEASED (by decide)
  have hboth := hlow.mono (m := [A.SUP_STAT, A.SUP_EVT]) (by simp)
  have hval : mv < 8192 := by omega
  refine ⟨_, if_neg (by omega), hboth.when _ (hboth.raise _ (by decide)), ?_⟩
  rw [hrel]
  cases s.released <;>
    simp (disch := decide) [State.when, State.raise, State.getF_setF_apart, State.getF_setF_self, F.SUP_STAT_CKEEP_OK,
      F.SUP_STAT_CKEEP_MV, F.SUP_EVT_CKEEP_LOW, hval]

/-- CKEEP at or above 4,500 mV (R34). -/
theorem ckeepCharged_shown (mv : Nat) (s : State) (hmv : 4500 ≤ mv) :
    ∃ t, exec (.ckeepCharged mv) s = .next t ∧ s.onlyRegs t [A.SUP_STAT] ∧ t.getF F.SUP_STAT_CKEEP_OK = 1 ∧
      t.getF F.SUP_STAT_CKEEP_MV = min mv 8191 := by
  refine ⟨_, if_neg (by omega), ((State.onlyRegs.refl s _).raise F.SUP_STAT_CKEEP_OK (by decide)).setF F.SUP_STAT_CKEEP_MV
    (min mv 8191) (by decide), ?_, ?_⟩
  · rw [State.getF_setF_apart _ _ _ _ (by decide) (by decide), State.getF_raise_self _ _ (by decide) (by decide)]
  · rw [State.getF_setF_self _ _ _ (by decide)]
    exact Nat.mod_eq_of_lt (by show min mv 8191 < 8192; omega)

/-! ### The end of power-on reset (R31, R34) -/

/-- Power-on reset ends once nothing holds it: the strap is sampled and SYSPLL enabled. -/
theorem powerOnResetEnd_released (head : Bool) (s : State) (hphase : s.pwr.phase = .por) (hheld : s.porHeld = false) :
    ∃ t, exec (.powerOnResetEnd head) s = .next t ∧ t = { s with regs := t.regs, pwr := t.pwr } ∧
      s.regsKept t [A.SUP_STAT] ∧ t.getF F.SUP_STAT_ROLE = head.toNat ∧
      t.pwr = { s.pwr with phase := .sysPll, porEnd := s.now } := by
  refine ⟨_, if_pos ⟨hphase, hheld⟩, rfl, ?_, ?_, rfl⟩
  · exact State.regsKept.setB (t := { s with pwr := _ }) (State.regsKept.refl s _) F.SUP_STAT_ROLE head (by decide)
  · refine (State.getF_setF_self _ _ _ (by decide)).trans ?_
    cases head <;> rfl

theorem State.porHeld_eq_false {s : State} (hsup : s.getW A.SUP_STAT &&& 0x1BF = 0x1BF) (hpin : s.pwr.porstLow = false) :
    s.porHeld = false := by
  rw [State.porHeld, hsup, hpin]
  rfl

/-! ### The statement -/

/-- Settles O13: each clause is the rule of its command, the supply's split by release and by whether the device needs it. That
CKEEP sets its event after release alone is the model's reading (log entry 39). -/
theorem suppliesPinAndHoldUpCapacitor : Obligations.SuppliesPinAndHoldUpCapacitor := by
  unfold Obligations.SuppliesPinAndHoldUpCapacitor
  refine ⟨⟨supplyLeavesRange_before_release, supplyLeavesRange_after_release, supplyLeavesRange_during_loss,
    supplyLeavesRange_notNeeded, supplyReturns_shown⟩, porstNLow_idle, porstNLow_saving, exec_porstNLow_glitch,
    fun s => ⟨_, rfl, rfl, rfl⟩, ckeepLow_shown, ckeepCharged_shown, fun head s hphase hsup hpin => ?_⟩
  exact powerOnResetEnd_released head s hphase (State.porHeld_eq_false hsup hpin)

end Sys2Proof.Machine
end

section
/-!
PROOFS. Chain ports under commands of the link (chapter 06): a slice that waits for its slot and a late packet (R132), and the
recovery probe (R140).
-/

namespace Sys2Proof.Machine

/-! ### What an operation does not touch -/

section
variable {α β : Type} (s : State)

/-- What each step over a list keeps, the whole keeps. -/
theorem State.forEach_same (g : State → β) (l : List α) {f : α → State → State} (h : ∀ x t, g (f x t) = g t) :
    g (s.forEach l f) = g s := by
  unfold State.forEach
  induction l generalizing s with
  | nil => rfl
  | cons x l ih => rw [List.foldl_cons, ih, h]

theorem State.when_same (g : State → β) (c : Bool) {f : State → State} (h : g (f s) = g s) : g (s.when c f) = g s := by
  cases c
  · rfl
  · exact h

end

/-! ### The ports' part of the link -/

section
variable (s : State) (n : Nat)

@[simp] theorem State.port_setPort_self (p : PortX) : (s.setPort n p).port n = p := tabGet_tabPut_self _ _ _ _

variable {s} in
theorem State.port_congr {t : State} (h : t.lnk.ports = s.lnk.ports) : t.port n = s.port n := by
  rw [State.port, h, State.port]

theorem State.lnk_ite (c : Prop) [Decidable c] (s t : State) : (if c then s else t).lnk = if c then s.lnk else t.lnk := by
  split <;> rfl

theorem State.mbxEmpty_lnk (k : Nat) : (s.mbxEmpty k).lnk = s.lnk := by
  unfold State.mbxEmpty
  split <;> rfl

theorem State.chanReset_lnk (who : Initiator) (k : Nat) : (s.chanReset who k).lnk = s.lnk := by
  unfold State.chanReset
  simp only [State.lnk_ite, State.lockFree, State.raise_lnk, State.setF_lnk, State.mbxEmpty_lnk, ite_self]

theorem State.mbxReset_lnk (who : Initiator) : (s.mbxReset who).lnk = s.lnk :=
  s.forEach_same State.lnk (List.range 16) fun k t => t.chanReset_lnk who k

theorem State.latchLink_lnk (l : Nat) : (s.latchLink l).lnk = s.lnk := by
  have hlatch (i : HealthItem) (ok : Bool) (t : State) : (t.latchHealth i ok).lnk = t.lnk := rfl
  unfold State.latchLink
  simp only [State.lnk_ite, List.foldl_cons, List.foldl_nil, hlatch, ite_self]

theorem State.latchPort_lnk : (s.latchPort n).lnk = s.lnk := by
  unfold State.latchPort
  split
  · exact s.latchLink_lnk _
  · rfl

theorem State.port_setF (f : Fld) (v : Nat) : (s.setF f v).port n = s.port n := rfl

theorem State.port_raiseBit (f : Fld) (i : Nat) : (s.raiseBit f i).port n = s.port n := rfl

theorem State.port_extraStatus : ({ s with lnk := { s.lnk with extraStatus := true } } : State).port n = s.port n := rfl

/-- The probe and the rate that outlast it stay through a restriping (R116). -/
theorem State.port_restripe (old : Nat) : ((s.restripe n old).port n).probing = (s.port n).probing ∧
    ((s.restripe n old).port n).slow = (s.port n).slow := by simp [State.restripe]

/-- A port without a lane in its RXMASK has forgotten its partner, and a probe that runs goes on (R115, R140). -/
theorem State.port_setMasks_zero (tx : Nat) : ((s.setMasks n 0 tx).port n).probing = (s.port n).probing ∧
    ((s.setMasks n 0 tx).port n).slow = false := by
  unfold State.setMasks
  extract_lets oldSt oldTx tx1 rec_ st s1 s2 s3 s4 s5 s6 s7
  have h1 : s1.port n = s.port n := by simp only [s1, State.port_setF]
  have h2 : s2.port n = s1.port n := s1.when_same (fun t => t.port n) _ (s1.port_raiseBit n _ _)
  have h3 : s3.port n = (s2.port n).forget := by
    show (State.setPort ((s2.setF (F.LNK_PSTAT_PRXMASK n) 0).setF (F.LNK_PSTAT_SKEW n) 0) n _).port n = _
    rw [State.port_setPort_self]
  have h4 : s4.port n = s3.port n := s3.when_same (fun t => t.port n) _ (s3.port_raiseBit n _ _)
  have h5 : s5.port n = s4.port n := s4.when_same (fun t => t.port n) _ (s4.port_raiseBit n _ _)
  have h6 : s6.port n = s5.port n := s5.when_same (fun t => t.port n) _ (s5.port_extraStatus n)
  have h7 : s7.port n = s6.port n :=
    s6.when_same (fun t => t.port n) _ (State.port_congr n (congrArg LnkState.ports (s6.mbxReset_lnk .service)))
  have hforgot : s7.port n = (s.port n).forget := by rw [h7, h6, h5, h4, h3, h2, h1]
  obtain ⟨hprobe, hslow⟩ := s7.port_restripe n oldTx
  rw [State.port_congr n (congrArg LnkState.ports ((s7.restripe n oldTx).latchPort_lnk n)), hprobe, hslow, hforgot]
  exact ⟨rfl, rfl⟩

theorem State.acquire_lnk (m : Nat) : (s.acquire m).lnk = s.lnk := rfl

/-- The lanes of a port acquire again: its RXMASK empties, and a probe that runs goes on (R140). -/
theorem State.port_reacquire : ((s.reacquire n).port n).probing = (s.port n).probing ∧
    ((s.reacquire n).port n).slow = false := by
  have hlanes : (s.forEach (unitLanes n) fun m t => if 2 ≤ t.getF (F.LAN_STATE m) then t.acquire m else t).lnk = s.lnk :=
    s.forEach_same State.lnk _ fun m t => by rw [State.lnk_ite, t.acquire_lnk, ite_self]
  obtain ⟨hprobe, hslow⟩ := State.port_setMasks_zero
    (s.forEach (unitLanes n) fun m t => if 2 ≤ t.getF (F.LAN_STATE m) then t.acquire m else t) n 0
  exact ⟨hprobe.trans (congrArg PortX.probing (State.port_congr n (congrArg LnkState.ports hlanes))), hslow⟩

end

/-! ### The recovery probe (R140) -/

/-- The probe begins on a port that sees a signal and has no lane Locked: the port runs at 1.25 Gbaud. -/
theorem recoveryProbeStart_runs (n : Fin 8) (s : State) (hon : s.unitOn n = true)
    (hsig : (unitLanes n).any (fun m => decide (2 ≤ s.getF (F.LAN_STATE m))) = true)
    (hlock : (unitLanes n).any (fun m => s.getF (F.LAN_STATE m) == 5) = false) (hrec : s.recovering = false)
    (hslow : (s.port n).slow = false) :
    ∃ t, exec (.recoveryProbeStart n) s = .next t ∧ (t.port n).probing = true ∧ t.portRate n = 0 := by
  have hcond : (s.unitOn n && (unitLanes n).any (fun m => decide (2 ≤ s.getF (F.LAN_STATE m))) &&
      !(unitLanes n).any (fun m => s.getF (F.LAN_STATE m) == 5) && !s.recovering && !(s.port n).slow) = true := by
    rw [hon, hsig, hlock, hrec, hslow]
    rfl
  have hprobe := ((s.setPort n { s.port n with probing := true }).port_reacquire n).1
  rw [State.port_setPort_self] at hprobe
  refine ⟨_, if_pos hcond, hprobe, if_pos ?_⟩
  rw [hprobe, Bool.or_true, Bool.true_or]

/-- The probe ends where the partner does not show RECOV: the port goes back to its plan rate. -/
theorem State.probeEnd_of_not_recov {s : State} {n : Nat} (h : s.flag (F.LNK_PSTAT_PRECOV n) = false) :
    s.probeEnd n = (s.setPort n { s.port n with probing := false }).reacquire n := by
  rw [State.probeEnd, h, Bool.and_false]
  exact if_neg Bool.false_ne_true

theorem recoveryProbeEnd_ends (n : Fin 8) (s : State) (hprobing : (s.port n).probing = true)
    (hrecov : s.flag (F.LNK_PSTAT_PRECOV n) = false) :
    ∃ t, exec (.recoveryProbeEnd n) s = .next t ∧ (t.port n).probing = false := by
  obtain ⟨hprobe, hslow⟩ := (s.setPort n { s.port n with probing := false }).port_reacquire n
  rw [State.port_setPort_self] at hprobe
  rw [← State.probeEnd_of_not_recov hrecov] at hprobe hslow
  have hpass : ¬((s.probeEnd n).port n).slow = true := by simp [hslow]
  exact ⟨s.probeEnd n, (if_pos hprobing).trans (congrArg Host.Outcome.next (if_neg hpass)), hprobe⟩

/-! ### Packets that wait at a port (R132) -/

section
variable {s : State} {n : Nat}

/-- A slot of a slice that the Head sends puts the slice in its port's queue. -/
def State.sliceQueued (s : State) (e : SchedEntry) : State :=
  let p : OutPkt := {
    ports := [e.port], hdr := s.sliceHdr e (s.facetImage e.facet), body := .slice e.facet e.dst e.slice, due := s.now }
  s.setPort e.port { s.port e.port with wait := (s.port e.port).wait ++ [p] }

theorem State.slotDue_slice {e : SchedEntry} (htyp : e.typ = 1) (hmute : s.mute e.port = false)
    (hheld : s.sliceHeld e.port e.facet = false) : s.slotDue e = s.sliceQueued e := by
  have hgoes : ¬(s.mute e.port || s.sliceHeld e.port e.facet) = true := by simp [hmute, hheld]
  rw [State.slotDue, if_pos htyp]
  exact if_neg hgoes

/-- Nothing begins on a port that is not free. -/
theorem State.pumpPort_of_busy (h : s.portFree n = false) : s.pumpPort n = s := by
  unfold State.pumpPort
  split
  · rfl
  · exact if_pos (by rw [h]; rfl)

/-- Whether a port is free does not turn on what waits there. -/
theorem State.portFree_sliceQueued (e : SchedEntry) : (s.sliceQueued e).portFree e.port = s.portFree e.port := by
  rw [State.portFree, State.queueEmpty, State.sliceQueued, State.port_setPort_self]
  rfl

theorem State.wait_sliceQueued (e : SchedEntry) :
    ((s.sliceQueued e).port e.port).wait.length = (s.port e.port).wait.length + 1 := by
  rw [State.sliceQueued, State.port_setPort_self]
  exact List.length_append

theorem scheduledPacketDue_slice (e : SchedEntry) (s : State) (hhead : s.isHead = true) (hrel : s.released = true)
    (hport : e.port < 8) (hvar : e.variant = s.getF F.GOV_STAT_VARIANT) (htyp : e.typ = 1) (hmute : s.mute e.port = false)
    (hheld : s.sliceHeld e.port e.facet = false) (hbusy : s.portFree e.port = false) :
    ∃ t, exec (.scheduledPacketDue e) s = .next t ∧ (t.port e.port).wait.length = (s.port e.port).wait.length + 1 := by
  have hcond : (s.isHead && s.released && decide (e.port < 8) && e.variant == s.getF F.GOV_STAT_VARIANT) = true := by
    simp [hhead, hrel, hport, hvar]
  have hwaits : (s.slotDue e).pumpPort e.port = s.sliceQueued e := by
    rw [State.slotDue_slice htyp hmute hheld, State.pumpPort_of_busy (by rw [State.portFree_sliceQueued, hbusy])]
  exact ⟨s.sliceQueued e, (if_pos hcond).trans (congrArg Host.Outcome.next hwaits), State.wait_sliceQueued e⟩

/-- The state with the oldest waiting packet of a port discarded as late and counted. -/
def State.lateDropped (s : State) (n : Nat) (rest : List OutPkt) : State :=
  ((s.setPort n { s.port n with wait := rest }).bump F.LNK_TXSTAT_LATE).raise F.LNK_EVT_LATE

theorem State.port_lateDropped (rest : List OutPkt) : (s.lateDropped n rest).port n = { s.port n with wait := rest } := by
  rw [State.lateDropped, State.raise, State.port_setF, State.bump, State.bumpBy, State.port_setF, State.port_setPort_self]

theorem State.port_sliceGone (f tile k : Nat) (image : Word) : (s.sliceGone f tile k image).port n = s.port n := rfl

theorem State.sliceGone_regsKept (f tile k : Nat) (image : Word) : s.regsKept (s.sliceGone f tile k image) [A.ENC_STAT] :=
  State.regsKept.setF (t := { s with enc := _ }) (State.regsKept.refl s _) F.ENC_STAT_JOBS _ (by decide)

theorem exec_txPacketLate_cons {n : Fin 8} {p : OutPkt} {rest : List OutPkt} (h : (s.port n).wait = p :: rest) :
    exec (.txPacketLate n) s = .next (match p.body with
      | .slice f t k => (s.lateDropped n rest).sliceGone f t k p.hdr.image
      | _ => s.lateDropped n rest) := by
  show execTxPacketLate n s = _
  unfold execTxPacketLate
  split
  · next hnil => exact absurd (h.symm.trans hnil) (List.cons_ne_nil p rest)
  · next q rest' hcons =>
    obtain ⟨rfl, rfl⟩ := List.cons.inj (h.symm.trans hcons)
    rfl

/-- A late packet leaves its queue, with its count and its event; a slice's job is told. -/
theorem txPacketLate_counted (n : Fin 8) (p : OutPkt) (rest : List OutPkt) (s : State) (h : (s.port n).wait = p :: rest) :
    ∃ t, exec (.txPacketLate n) s = .next t ∧ (t.port n).wait = rest ∧
      t.getF F.LNK_TXSTAT_LATE = min (s.getF F.LNK_TXSTAT_LATE + 1) 65535 ∧ t.getF F.LNK_EVT_LATE = 1 := by
  have hwait : ((s.lateDropped n rest).port n).wait = rest := congrArg PortX.wait (State.port_lateDropped rest)
  have hcount : (s.lateDropped n rest).getF F.LNK_TXSTAT_LATE = min (s.getF F.LNK_TXSTAT_LATE + 1) 65535 := by
    rw [State.lateDropped, State.raise, State.getF_setF_apart _ _ _ _ (by decide) (by decide),
      State.getF_bump_self _ _ (by decide)]
    rfl
  have hevent : (s.lateDropped n rest).getF F.LNK_EVT_LATE = 1 := State.getF_raise_self _ _ (by decide) (by decide)
  refine ⟨_, exec_txPacketLate_cons h, ?_⟩
  split
  · next f t k _ =>
    have hkept := State.sliceGone_regsKept (s := s.lateDropped n rest) f t k p.hdr.image
    exact ⟨(congrArg PortX.wait (State.port_sliceGone f t k p.hdr.image)).trans hwait,
      (hkept.getF_eq _ (by decide)).trans hcount, (hkept.getF_eq _ (by decide)).trans hevent⟩
  · exact ⟨hwait, hcount, hevent⟩

end

end Sys2Proof.Machine
end

section
/-!
PROOFS. The set-point sources of the rail controller (chapter 13: R291 to R293): the target, the duty of `AUXPWM` and its loss,
the headroom of a line and the dark set-point.
-/

namespace Sys2Proof.Machine

section
variable (s : State)

/-- A one-bit field that is not 0 is 1. -/
theorem State.getF_eq_one_of_flag {s : State} {f : Fld} (hw : f.width = 1) (h : s.flag f = true) : s.getF f = 1 := by
  have hlt := s.getF_lt f
  have hne : s.getF f ≠ 0 := by simpa [State.flag] using h
  rw [hw] at hlt
  omega

theorem State.setTarget_rail (mv : Int) : (s.setTarget mv).rail = s.rail :=
  State.when_same _ State.rail _ (State.setF_rail _ _ _)

/-- The target is held within its limits (R291). -/
theorem State.getF_setTarget (mv : Int) :
    (s.setTarget mv).getF F.RAIL_SP_TARGET = (clampI mv s.plan.rail.spMin s.plan.rail.spMax).toNat % 2 ^ 13 :=
  (State.getF_when_raise_apart _ _ _ _ (by decide) (by decide)).trans (State.getF_setF_self _ _ _ (by decide))

theorem State.traceTrigger_lineHr (cause : Nat) : (s.traceTrigger cause).rail.lineHr = s.rail.lineHr := by
  unfold State.traceTrigger
  dsimp only
  split <;> rfl

/-- Once the auxiliary source is lost, AUX_LOST stands (R293). -/
theorem State.getF_auxLose : s.auxLose.getF F.RAIL_STAT_AUX_LOST = 1 := by
  unfold State.auxLose
  split
  · next h => exact State.getF_eq_one_of_flag rfl h
  · rw [State.raise, State.getF_setF_apart _ _ _ _ (by decide) (by decide), State.getF_raise_self _ _ (by decide) (by decide)]

end

/-- A period of `AUXPWM` in range counts as good (R293). -/
theorem auxpwmPeriodEnd_good (high period : Nat) (s : State) (hsrc : s.getF F.RAIL_STAT_SRC = 2)
    (hlost : s.flag F.RAIL_STAT_AUX_LOST = false) (hlo : 4000 ≤ period) (hhi : period ≤ 800000) :
    ∃ t, exec (.auxpwmPeriodEnd high period) s = .next t ∧ t.rail.auxGood = s.rail.auxGood + 1 := by
  have hrange : within 4000 800000 period = true := by simp [within, hlo, hhi]
  have hcount : ({ s with rail := { s.rail with auxGood := s.rail.auxGood + 1 } } : State).flag F.RAIL_STAT_AUX_LOST = false := hlost
  refine ⟨({ s with rail := { s.rail with auxGood := s.rail.auxGood + 1 } } : State).setTarget
    ((s.plan.rail.auxOffset + roundOpen (min high period * s.plan.rail.auxSpan) period : Nat)), ?_,
    congrArg RailState.auxGood (State.setTarget_rail _ _)⟩
  show execAuxpwmPeriodEnd high period s = _
  simp [execAuxpwmPeriodEnd, hsrc, hrange, hcount]

/-- The loss of `AUXPWM` while it is the source (R293). -/
theorem auxLost_shown (s : State) (hsrc : s.getF F.RAIL_STAT_SRC = 2) :
    ∃ t, exec .auxLost s = .next t ∧ t.getF F.RAIL_STAT_AUX_LOST = 1 :=
  ⟨_, if_pos hsrc, State.getF_auxLose _⟩

/-- A line's headroom value is kept (R292). -/
theorem headroomValue_kept (c : BitVec 8) (s : State) :
    ∃ t, exec (.headroomValue c) s = .next t ∧ t.rail.lineHr = some c.toNat :=
  ⟨_, rfl, State.when_same _ (fun t => t.rail.lineHr) _ (State.traceTrigger_lineHr _ 4)⟩

/-- Darkness moves the set-point to the plan's dark one where headroom is the source (R292). -/
theorem headroomDarkTimeout_moves (s : State) (hrun : s.running = true) (hsrc : s.getF F.RAIL_STAT_SRC = 0) :
    ∃ t, exec .headroomDarkTimeout s = .next t ∧
      t.getF F.RAIL_SP_TARGET = (clampI s.plan.rail.hrDarkMv s.plan.rail.spMin s.plan.rail.spMax).toNat % 2 ^ 13 := by
  have hcond : (s.running && s.getF F.RAIL_STAT_SRC == 0) = true := by simp [hrun, hsrc]
  exact ⟨_, if_pos hcond, State.getF_setTarget _ _⟩

end Sys2Proof.Machine
end

section
/-!
PROOFS. The heartbeats of a pair of Heads (chapter 15): the one that an owner sends (R322, R330), the first that is heard of the
partner and the partner's loss (R323), and unequal epochs (R337).
-/

namespace Sys2Proof.Machine

/-! ### A HEART sent (R322, R330) -/

section
variable (s : State) (n : Nat)

/-- The key of a chain under an epoch as a header carries it. -/
theorem State.chainKey_keyEp (c : Nat) : s.chainKey c (BitVec.ofNat 6 s.curEp).toNat = s.chainKey c s.curEp := by
  simp [State.chainKey]

/-- The lanes of a port carry what is sent; the outputs do not change with it. -/
theorem State.putLine_out (l : List (Nat × List LineChar)) : (s.putLine n l).out = s.out :=
  s.forEach_same State.out l fun _ _ => rfl

variable {s n}

/-- A packet that can leave by a port is put on the outputs. -/
theorem State.putOnPort_out {h : Hdr} (b : Body) (hcan : s.canPut n h = true) :
    (s.putOnPort n h b).out.length = s.out.length + 1 := by
  rw [State.putOnPort, if_pos hcan, State.sendLine, State.putLine_out]
  rfl

/-- A protected packet under the key epoch in force can leave by a port on which a HEART can (R322). -/
theorem State.canPut_of_mem_heartPorts {h : Hdr} (hn : n ∈ s.heartPorts) (hhop : h.hop = false)
    (hep : h.keyEp = BitVec.ofNat 6 s.curEp) : s.canPut n h = true := by
  obtain ⟨-, hport⟩ := List.mem_filter.1 hn
  obtain ⟨⟨hup, hsend⟩, hkey⟩ : (s.portUp n = true ∧ s.canSend n = true) ∧ (s.chainKey (s.chainOf n) s.curEp).isSome = true := by
    simpa using hport
  have htx : (s.txKey n h).isSome = true := by
    rw [State.txKey, hhop, hep, s.chainKey_keyEp]
    exact hkey
  simp [State.canPut, hsend, hup, htx]

theorem State.canPut_nextSeq (kind : Nat) (h : Hdr) : (s.nextSeq kind).2.canPut n h = s.canPut n h := rfl

theorem State.putOnPort_plan (h : Hdr) (b : Body) : (s.putOnPort n h b).plan = s.plan := by
  unfold State.putOnPort
  split
  · exact State.forEach_same _ State.plan _ fun _ _ => rfl
  · rfl

theorem State.putOnPort_now (h : Hdr) (b : Body) : (s.putOnPort n h b).now = s.now :=
  congrArg (fun k => k.2.1) (s.putOnPort_kept n h b)

/-- A HEART for one port as it leaves, under the next SEQ of its stream (R128). -/
theorem State.sendOwn_heart {p : OutPkt} {m : HeartMsg} (hports : p.ports = [n]) (hhop : p.hdr.hop = false)
    (hbody : p.body = .heart m) : s.sendOwn p = (s.nextSeq (dstKind p.hdr.dst)).2.putOnPort n
      { p.hdr with seq := BitVec.ofNat 32 (s.nextSeq (dstKind p.hdr.dst)).1, keyEp := BitVec.ofNat 6 s.curEp } (.heart m) := by
  rw [State.sendOwn, hhop, if_neg Bool.false_ne_true, hports, hbody]
  rfl

/-- An owner's HEART on its one shared port leaves, and renews the lease (R330). -/
theorem State.sendHeart_owner (hquiet : s.sec.quiet = false) (hwait : s.sec.pairWait = false) (hports : s.heartPorts = [n]) :
    (s.sendHeart 2).red.leaseAt = s.now + s.plan.red.leaseUs * 1000 ∧ (s.sendHeart 2).out.length = s.out.length + 1 := by
  have hsends : ¬(s.sec.quiet || s.sec.pairWait || s.heartPorts.isEmpty) = true := by simp [hquiet, hwait, hports]
  rw [State.sendHeart, if_neg hsends]
  dsimp only
  rw [if_pos rfl, State.sendOwn_heart (n := n) hports rfl rfl]
  refine ⟨?_, ?_⟩
  · dsimp only
    rw [State.putOnPort_now, State.putOnPort_plan]
    rfl
  · refine (State.putOnPort_out _ ?_).trans rfl
    rw [State.canPut_nextSeq]
    exact State.canPut_of_mem_heartPorts (by rw [hports]; exact List.mem_singleton_self n) rfl rfl

end

theorem State.isHead_of_paired {s : State} (h : s.paired = true) : s.isHead = true := by
  rw [State.paired, Bool.and_assoc] at h
  exact (Bool.and_eq_true_iff.1 h).1

/-- An owner that can send on its one shared port renews its lease with its HEART (R330). -/
theorem heartPeriod_owner (q : Nat) (s : State) (hpair : s.paired = true) (hduty : s.duty = 2) (hquiet : s.sec.quiet = false)
    (hwait : s.sec.pairWait = false) (hports : s.heartPorts = [q]) :
    ∃ t, exec .heartPeriod s = .next t ∧ t.red.leaseAt = s.now + s.plan.red.leaseUs * 1000 ∧ t.out.length = s.out.length + 1 := by
  have hcond : (s.paired && s.duty != 3) = true := by simp [hpair, hduty]
  have hexec : exec .heartPeriod s = .next (s.sendHeart 2) := (if_pos hcond).trans (by rw [hduty])
  exact ⟨s.sendHeart 2, hexec, State.sendHeart_owner hquiet hwait hports⟩

/-! ### The partner heard and lost (R323) -/

section
variable (s : State) (f : Fld)

/-- What READY becomes leaves a field apart from it. -/
theorem State.getF_readyEval_apart (hready : F.RED_STAT_READY.apart f = true) (hf : f.lo + f.width ≤ 32) :
    s.readyEval.getF f = s.getF f := State.getF_setF_apart _ _ _ _ hready hf

/-- A duty entered leaves a field apart from DUTY, `ILK_OUT` and READY. -/
theorem State.getF_setDuty_apart (d : Nat) (hduty : F.RED_STAT_DUTY.apart f = true)
    (hilk : F.RED_STAT_ILK_OUT.apart f = true) (hready : F.RED_STAT_READY.apart f = true) (hf : f.lo + f.width ≤ 32) :
    (s.setDuty d).getF f = s.getF f := by
  have hentered := State.getF_setF_apart s _ f d hduty hf
  unfold State.setDuty
  rw [State.getF_readyEval_apart _ _ hready hf]
  split
  · exact hentered
  · exact (State.getF_setF_apart _ _ _ _ hilk hf).trans hentered

variable {s} in
theorem State.getF_ite {c : Prop} [Decidable c] {t u : State} (ht : t.getF f = s.getF f) (hu : u.getF f = s.getF f) :
    (if c then t else u).getF f = s.getF f := by
  split
  · exact ht
  · exact hu

theorem State.getF_toStandby_apart (hduty : F.RED_STAT_DUTY.apart f = true) (hilk : F.RED_STAT_ILK_OUT.apart f = true)
    (hready : F.RED_STAT_READY.apart f = true) (hevt : F.RED_EVT_STANDBY.apart f = true) (hf : f.lo + f.width ≤ 32) :
    s.toStandby.getF f = s.getF f := by
  unfold State.toStandby
  exact State.getF_ite f ((State.getF_setF_apart _ _ _ _ hevt hf).trans (s.getF_setDuty_apart f 1 hduty hilk hready hf)) rfl

/-- Signatures that differ show in the events and counts alone (R338). -/
theorem State.sigFacet_regsKept (m : HeartMsg) (k : Nat) : s.regsKept (s.sigFacet m k) [A.RED_EVT, A.RED_CNT] := by
  have hkept := State.regsKept.refl s [A.RED_EVT, A.RED_CNT]
  unfold State.sigFacet
  split
  · exact hkept
  · dsimp only
    split
    · refine State.regsKept.ite ?_ ?_ <;> exact hkept.congr rfl
    · refine State.regsKept.ite ?_ (hkept.congr rfl)
      exact (State.regsKept.raise (hkept.congr rfl) F.RED_EVT_SIG_DIFF (by decide)).bump F.RED_CNT_SIG_DIFF (by decide)

variable {s} in
theorem State.regsKept.forEach {α : Type} {t : State} {l : List Nat} (h : s.regsKept t l) (xs : List α)
    {g : α → State → State} (hg : ∀ (x : α) (u : State), u.regsKept (g x u) l) : s.regsKept (t.forEach xs g) l := by
  unfold State.forEach
  induction xs generalizing t with
  | nil => exact h
  | cons x xs ih => exact ih (h.trans (hg x t))

theorem State.sigCompare_regsKept (m : HeartMsg) : s.regsKept (s.sigCompare m) [A.RED_EVT, A.RED_CNT] := by
  unfold State.sigCompare
  split
  · refine State.regsKept.forEach ?_ _ fun k u => u.sigFacet_regsKept m k
    exact (State.regsKept.refl s _).congr rfl
  · exact State.regsKept.refl s _

theorem State.getF_latchHealth (i : HealthItem) (ok : Bool) : (s.latchHealth i ok).getF f = s.getF f := rfl

theorem State.copyAbort_regsKept : s.regsKept s.copyAbort [A.RED_EVT, A.RED_CNT] := by
  have hkept := State.regsKept.refl s [A.RED_EVT, A.RED_CNT]
  unfold State.copyAbort
  split
  · exact hkept
  · exact (State.regsKept.bump (hkept.congr rfl) F.RED_CNT_COPY_ABORT (by decide)).raise F.RED_EVT_COPY_ABORT
      (by decide)

variable {s}

/-- The first HEART of the partner is heard at once. -/
theorem State.peerHear_first (hpeer : s.flag F.RED_STAT_PEER = false) (hlost : s.red.lostOnce = false) :
    s.peerHear.getF F.RED_STAT_PEER = 1 ∧ s.peerHear.getF F.RED_STAT_PAIRED = 1 := by
  have hheard : s.peerHear = ((({ s with red := { s.red with back := s.red.back + 1 } } : State).raise F.RED_STAT_PEER).raise
      F.RED_STAT_PAIRED).latchHealth .partner true := by
    simp [State.peerHear, hpeer, hlost, State.when]
  rw [hheard, State.getF_latchHealth, State.getF_latchHealth]
  refine ⟨?_, ?_⟩
  · refine (State.getF_setF_apart _ F.RED_STAT_PAIRED F.RED_STAT_PEER 1 (by decide) (by decide)).trans ?_
    exact State.getF_raise_self _ _ (by decide) (by decide)
  · exact State.getF_raise_self _ F.RED_STAT_PAIRED (by decide) (by decide)

/-- After a HEART that is no resignation, PEER and PAIRED are as its hearing leaves them. -/
theorem State.getF_afterHear (m : HeartMsg) (hstat : f.addr = A.RED_STAT) (hduty : F.RED_STAT_DUTY.apart f = true)
    (hilk : F.RED_STAT_ILK_OUT.apart f = true) (hready : F.RED_STAT_READY.apart f = true) (hf : f.lo + f.width ≤ 32) :
    (s.sigCompare m).readyEval.toStandby.getF f = s.getF f := by
  have hevt : F.RED_EVT_STANDBY.apart f = true := by rw [Fld.apart, hstat]; rfl
  rw [State.getF_toStandby_apart _ _ hduty hilk hready hevt hf, State.getF_readyEval_apart _ _ hready hf,
    (s.sigCompare_regsKept m).getF_eq f (by rw [hstat]; decide)]

/-- The registers and the count of hearings of a Head that has lost its partner. -/
def State.peerGone (s : State) : State :=
  (((({ s with red := { s.red with back := 0, lostOnce := true } } : State).setF F.RED_STAT_PEER 0).setF
    F.RED_STAT_PAIRED 0).raise F.RED_EVT_PEER_LOST).bump F.RED_CNT_PEER_LOSS

theorem State.peerLose_of_peer (h : s.flag F.RED_STAT_PEER = true) :
    s.peerLose = ((s.peerGone.latchHealth .partner false).copyAbort).readyEval := if_pos h

theorem State.getF_peerGone : s.peerGone.getF F.RED_STAT_PEER = 0 := by
  simp (disch := decide) only [State.peerGone, State.raise, State.bump, State.bumpBy, State.getF_setF_apart, State.getF_setF_self]
  rfl

theorem State.getF_peerLose (h : s.flag F.RED_STAT_PEER = true) : s.peerLose.getF F.RED_STAT_PEER = 0 := by
  rw [State.peerLose_of_peer h, State.getF_readyEval_apart _ _ (by decide) (by decide),
    (State.copyAbort_regsKept _).getF_eq _ (by decide), State.getF_latchHealth, State.getF_peerGone]

end

/-- The state in which a HEART of the partner is the last one received. -/
def State.heartTaken (s : State) (m : HeartMsg) : State :=
  { s with red := { s.red with pairSeen := true, peerHeart := some m } }

/-- The first HEART of the partner, of this pair and no resignation, pairs the Heads. -/
theorem heartReceived_first (m : HeartMsg) (s : State) (hlive : s.pairLive = true) (hend : m.endB ≠ s.plan.red.endB)
    (hpair : m.pair = s.plan.wall.pairId) (hduty : m.duty ≠ 3) (hpeer : s.flag F.RED_STAT_PEER = false)
    (hlost : s.red.lostOnce = false) :
    ∃ t, exec (.heartReceived m) s = .next t ∧ t.getF F.RED_STAT_PEER = 1 ∧ t.getF F.RED_STAT_PAIRED = 1 := by
  have hpaired : s.paired = true := by
    rw [State.pairLive, Bool.and_assoc] at hlive
    exact (Bool.and_eq_true_iff.1 hlive).1
  have hat : s.heartAtHead m = ((s.heartTaken m).peerHear.sigCompare m).readyEval.toStandby := by
    simp [State.heartAtHead, State.heartTaken, hlive, hend, hpair, hduty]
  obtain ⟨hone, hboth⟩ := State.peerHear_first (s := s.heartTaken m) hpeer hlost
  refine ⟨s.heartAtHead m, if_pos (State.isHead_of_paired hpaired), ?_, ?_⟩
  · rw [hat, State.getF_afterHear _ m rfl (by decide) (by decide) (by decide) (by decide), hone]
  · rw [hat, State.getF_afterHear _ m rfl (by decide) (by decide) (by decide) (by decide), hboth]

/-- A partner that is not heard in time is lost. -/
theorem peerMissTimeout_loses (s : State) (hpair : s.paired = true) (hpeer : s.flag F.RED_STAT_PEER = true) :
    ∃ t, exec (.peerMissTimeout (!s.plan.red.endB)) s = .next t ∧ t.getF F.RED_STAT_PEER = 0 := by
  have hother : (s.paired && (!s.plan.red.endB) != s.plan.red.endB) = true := by simp [hpair]
  exact ⟨s.peerLose, (if_pos (State.isHead_of_paired hpair)).trans (if_pos hother), State.getF_peerLose hpeer⟩

/-- Unequal epochs set EPOCH_DIFF (R337). -/
theorem epochDiffTimeout_sets (m : HeartMsg) (s : State) (hpair : s.paired = true) (hheart : s.red.peerHeart = some m)
    (hepoch : m.epoch ≠ s.getW A.CFG_EPOCH) :
    ∃ t, exec .epochDiffTimeout s = .next t ∧ t.getF F.RED_EVT_EPOCH_DIFF = 1 := by
  have hexec : execEpochDiffTimeout s = .next (s.raise F.RED_EVT_EPOCH_DIFF) := by
    simp [execEpochDiffTimeout, hheart, hpair, hepoch]
  exact ⟨_, hexec, State.getF_raise_self _ _ (by decide) (by decide)⟩

end Sys2Proof.Machine
end

section
/-!
PROOFS. Where the monitors of chapter 02 and the timers and reports of chapters 01, 06, 13 and 15 complete: the commands' own
theorems, brought together.
-/

namespace Sys2Proof.Machine

/-- Settles O60: a clause for each command, from what the proofs about its chapter say of it; those of chapter 02 follow from the
clauses of O13, those of chapter 01 from the clauses of O31. -/
theorem monitorsTimersAndReportsComplete : Obligations.MonitorsTimersAndReportsComplete := by
  unfold Obligations.MonitorsTimersAndReportsComplete
  refine ⟨⟨fun k s hpor hneed => ?_, fun k s => ?_, fun ns s hns hsave => ?_, fun s => rfl, fun mv s hmv => ?_,
      fun mv s hmv => ?_, fun head s hphase hheld => ?_⟩,
    ⟨scheduledPacketDue_slice, txPacketLate_counted, recoveryProbeStart_runs, recoveryProbeEnd_ends⟩,
    ⟨fun s => exec_startGraceExpiry_released, fun i at0 rest s h => ?_, fun id s hhead => ?_,
      fun v first image s hsel himage hahead => ?_⟩,
    ⟨auxpwmPeriodEnd_good, auxLost_shown, headroomValue_kept, headroomDarkTimeout_moves⟩,
    heartPeriod_owner, heartReceived_first, peerMissTimeout_loses, epochDiffTimeout_sets⟩
  · obtain ⟨t, hexec, -, hbit, hdip⟩ := supplyLeavesRange_notNeeded k s hpor hneed
    exact ⟨t, hexec, hbit, hdip⟩
  · obtain ⟨t, hexec, -, -, hbit, -⟩ := supplyReturns_shown k s
    exact ⟨t, hexec, hbit⟩
  · obtain ⟨t, hexec, hoff, -, hlow⟩ := porstNLow_idle ns s hns hsave
    exact ⟨t, hexec, hlow, hoff.1⟩
  · obtain ⟨t, hexec, -, hok, hmv, -⟩ := ckeepLow_shown mv s hmv
    exact ⟨t, hexec, hok, hmv⟩
  · obtain ⟨t, hexec, -, hok, hmv⟩ := ckeepCharged_shown mv s hmv
    exact ⟨t, hexec, hok, hmv⟩
  · obtain ⟨t, hexec, -, -, hrole, hpwr⟩ := powerOnResetEnd_released head s hphase hheld
    exact ⟨t, hexec, congrArg PwrState.phase hpwr, hrole⟩
  · obtain ⟨t, hexec, hheld, -⟩ := recoverHoldExpiry_healthy i at0 rest s h
    exact ⟨t, hexec, hheld⟩
  · obtain ⟨t, hexec, habsent, -⟩ := statusTimeout_head id s hhead
    exact ⟨t, hexec, habsent⟩
  · obtain ⟨t, hexec, hpending, hvalid, -⟩ := announceReceived_ahead v first image s hsel himage hahead
    exact ⟨t, hexec, hpending, hvalid⟩

end Sys2Proof.Machine
end

section
/-!
PROOFS. The reset registers (chapter 03): who may write them, and what the key of `RST_CTL` guards (R55).
-/

namespace Sys2Proof.Machine

/-! ### Who may write them -/

section
variable {s : State} {a : Nat}

/-- The reset registers take writes from the keeper alone. -/
theorem writeDenied_resetRegister (who : Initiator) (h : a = A.RST_CTL ∨ a = A.RST_WDT) :
    writeDenied who a = decide (who ≠ .keeper) := by
  rcases h with rfl | rfl <;> cases who <;> decide

theorem State.mayWrite_keeper_resetRegister (hrun : s.running = true) (h : a = A.RST_CTL ∨ a = A.RST_WDT) :
    s.mayWrite .keeper a := by
  refine ⟨hrun, writeDenied_resetRegister .keeper h, fun hhead => ?_⟩
  have hboth : headOnlyReg a = false := by rcases h with rfl | rfl <;> decide
  exact absurd hhead (by simp [hboth])

/-- A command's write by a denied initiator is a bus error. -/
theorem State.guarded_of_denied {who : Initiator} (f : State → State) (hrun : s.running = true)
    (hden : writeDenied who a = true) : s.guarded who a f = s.busFault who true (BitVec.ofNat 32 a) 0 := by
  simp [State.guarded, hrun, hden]

/-- The same write through the bus. -/
theorem exec_registerWrite_of_denied {who : Initiator} {a : Word} (v : Word) (hrun : s.running = true)
    (hreg : isRegAddr a.toNat = true) (halign : a.toNat % 4 = 0) (hden : writeDenied who a.toNat = true) :
    exec (.registerWrite who a .b32 v) s = .next (s.busFault who true a 0) := by
  rw [exec_registerWrite_running who a .b32 v hrun]
  simp [State.access, hreg, halign, State.busWrite, hden]

end

/-! ### The words that the request commands write -/

/-- The word of a request for a device reset. -/
def deviceResetWord (key : BitVec 16) : Word := F.RST_CTL_DEVICE.put (F.RST_CTL_KEY.put 0 key.toNat) 1

/-- The word of a request for the reset of application cores. -/
def coreResetWord (key : BitVec 16) (a0 a1 : Bool) : Word :=
  F.RST_CTL_A1.put (F.RST_CTL_A0.put (F.RST_CTL_KEY.put 0 key.toNat) a0.toNat) a1.toNat

section
variable (key : BitVec 16) (a0 a1 : Bool)

/-- A field as wide as the key holds any key. -/
theorem Fld.of_put_key (f : Fld) (h : f.lo + f.width ≤ 32) (hw : f.width = 16) (w : Word) :
    f.of (f.put w key.toNat) = key.toNat := by
  rw [Fld.of_put_self f h, hw, Nat.mod_eq_of_lt key.isLt]

@[simp] theorem key_deviceResetWord : F.RST_CTL_KEY.of (deviceResetWord key) = key.toNat := by
  rw [deviceResetWord, Fld.of_put_other _ _ (by decide) (by decide), Fld.of_put_key _ _ (by decide) rfl]

@[simp] theorem device_deviceResetWord : F.RST_CTL_DEVICE.of (deviceResetWord key) = 1 :=
  Fld.of_put_self _ (by decide) _ _

@[simp] theorem key_coreResetWord : F.RST_CTL_KEY.of (coreResetWord key a0 a1) = key.toNat := by
  rw [coreResetWord, Fld.of_put_other _ _ (by decide) (by decide), Fld.of_put_other _ _ (by decide) (by decide),
    Fld.of_put_key _ _ (by decide) rfl]

@[simp] theorem device_coreResetWord : F.RST_CTL_DEVICE.of (coreResetWord key a0 a1) = 0 := by
  rw [coreResetWord, Fld.of_put_other _ _ (by decide) (by decide), Fld.of_put_other _ _ (by decide) (by decide),
    Fld.of_put_other _ _ (by decide) (by decide)]
  decide

@[simp] theorem a0_coreResetWord : F.RST_CTL_A0.of (coreResetWord key a0 a1) = a0.toNat := by
  rw [coreResetWord, Fld.of_put_other _ _ (by decide) (by decide), Fld.of_put_self _ (by decide)]
  cases a0 <;> rfl

@[simp] theorem a1_coreResetWord : F.RST_CTL_A1.of (coreResetWord key a0 a1) = a1.toNat := by
  rw [coreResetWord, Fld.of_put_self _ (by decide)]
  cases a1 <;> rfl

end

/-! ### The key -/

theorem toNat_ne_resetKey {key : BitVec 16} (h : key ≠ 0xD5E7) : key.toNat ≠ 0xD5E7 :=
  fun e => h (BitVec.eq_of_toNat_eq e)

section
variable (s : State) {w : Word}

theorem State.rstCtlWrite_of_badKey (h : F.RST_CTL_KEY.of w ≠ 0xD5E7) : s.rstCtlWrite w = s := if_pos h

/-- With the key, a request for a device reset absorbs those for cores (R54). -/
theorem State.rstCtlWrite_device (hkey : F.RST_CTL_KEY.of w = 0xD5E7) (hdev : F.RST_CTL_DEVICE.of w ≠ 0) :
    s.rstCtlWrite w = s.requestReset 3 := by
  rw [State.rstCtlWrite, if_neg (by simp [hkey]), if_pos hdev]

theorem State.rstCtlWrite_cores (hkey : F.RST_CTL_KEY.of w = 0xD5E7) (hdev : F.RST_CTL_DEVICE.of w = 0) :
    s.rstCtlWrite w = (s.when (F.RST_CTL_A0.of w != 0) fun t => t.coreReset false).when (F.RST_CTL_A1.of w != 0)
      fun t => t.coreReset true := by
  rw [State.rstCtlWrite, if_neg (by simp [hkey]), if_neg (by simp [hdev])]

theorem State.busAnswer_busOk (d : Word) : s.busAnswer (s.busOk d) d := rfl

end

section
variable {s : State} (key : BitVec 16) (a0 a1 : Bool)

theorem exec_deviceResetRequest_keeper (hrun : s.running = true) :
    exec (.deviceResetRequest .keeper key) s = .next ((s.busOk 0).rstCtlWrite (deviceResetWord key)) :=
  congrArg Host.Outcome.next (State.guarded_of_mayWrite _ (State.mayWrite_keeper_resetRegister hrun (Or.inl rfl)))

theorem exec_coreResetRequest_keeper (hrun : s.running = true) :
    exec (.coreResetRequest .keeper key a0 a1) s = .next ((s.busOk 0).rstCtlWrite (coreResetWord key a0 a1)) :=
  congrArg Host.Outcome.next (State.guarded_of_mayWrite _ (State.mayWrite_keeper_resetRegister hrun (Or.inl rfl)))

/-- The keeper's write of `RST_CTL` by the bus is the write that its request commands make. -/
theorem exec_registerWrite_rstCtl (v : Word) (hrun : s.running = true) :
    exec (.registerWrite .keeper 0x40030004 .b32 v) s = .next ((s.busOk 0).rstCtlWrite v) := by
  have hmay : s.mayWrite .keeper (0x40030004 : Word).toNat := State.mayWrite_keeper_resetRegister hrun (Or.inl rfl)
  rw [exec_registerWrite_of_mayWrite v hmay (by decide) (by decide) (by decide)]
  rfl

end

/-! ### The statement -/

/-- Settles O15: whoever is not the keeper is denied on both routes, and without the key `RST_CTL` takes nothing over. -/
theorem resetRegistersNeedKeeperAndKey : Obligations.ResetRegistersNeedKeeperAndKey := by
  unfold Obligations.ResetRegistersNeedKeeperAndKey
  have hdenied {who : Initiator} (hwho : who ≠ .keeper) {a : Nat} (ha : a = A.RST_CTL ∨ a = A.RST_WDT) :
      writeDenied who a = true := (writeDenied_resetRegister who ha).trans (decide_eq_true hwho)
  refine ⟨fun who key a0 a1 s hrun hwho => ?_, fun who a v s hrun hwho ha => ?_, fun key a0 a1 s hrun hkey => ?_,
    fun v s hrun hkey => ?_⟩
  · have hctl (f : State → State) := State.guarded_of_denied f hrun (hdenied hwho (Or.inl rfl))
    have hwdt (f : State → State) := State.guarded_of_denied f hrun (hdenied hwho (Or.inr rfl))
    have herror (a : Word) := s.busFault_busError who true a 0 (by decide)
    exact ⟨⟨_, congrArg Host.Outcome.next (hctl _), herror _⟩, ⟨_, congrArg Host.Outcome.next (hctl _), herror _⟩,
      ⟨_, congrArg Host.Outcome.next (hwdt _), herror _⟩⟩
  · have hreg : a.toNat = A.RST_CTL ∨ a.toNat = A.RST_WDT := ha.imp (congrArg BitVec.toNat) (congrArg BitVec.toNat)
    obtain ⟨haddr, halign⟩ : isRegAddr a.toNat = true ∧ a.toNat % 4 = 0 := by rcases hreg with h | h <;> rw [h] <;> decide
    exact ⟨_, exec_registerWrite_of_denied v hrun haddr halign (hdenied hwho hreg),
      s.busFault_busError who true a 0 (by decide)⟩
  · have hbad := toNat_ne_resetKey hkey
    refine ⟨⟨_, exec_deviceResetRequest_keeper key hrun, ?_⟩, ⟨_, exec_coreResetRequest_keeper key a0 a1 hrun, ?_⟩⟩ <;>
      rw [State.rstCtlWrite_of_badKey _ (by simpa using hbad)] <;> exact s.busAnswer_busOk 0
  · refine ⟨_, exec_registerWrite_rstCtl v hrun, ?_⟩
    rw [State.rstCtlWrite_of_badKey _ hkey]
    exact s.busAnswer_busOk 0

end Sys2Proof.Machine
end

section
/-!
PROOFS. Device resets (chapter 03): each request records its cause and begins the reset save, or is absorbed by the save that
runs (R54, R418); the watchdog's kick (R53).
-/

namespace Sys2Proof.Machine

/-! ### The causes of a device reset (R54) -/

section
variable (s : State) (cause : Nat)

theorem State.resetCause_onlyRegs : s.onlyRegs (s.resetCause cause) [A.RST_CAUSE] := by
  have h := State.onlyRegs.refl s [A.RST_CAUSE]
  unfold State.resetCause
  split
  · exact (h.raise _ (by decide)).bump _ (by decide)
  · exact h.raise _ (by decide)
  · exact h.raise _ (by decide)

theorem State.getF_resetCause_wdt : (s.resetCause 2).getF F.RST_CAUSE_WDT = 1 ∧
    (s.resetCause 2).getF F.RST_CAUSE_WDT_COUNT = min (s.getF F.RST_CAUSE_WDT_COUNT + 1) 15 := by
  constructor
  · exact (State.getF_setF_apart _ _ _ _ (by decide) (by decide)).trans (s.getF_raise_self _ (by decide) (by decide))
  · refine (State.getF_bump_self _ _ (by decide)).trans ?_
    rw [State.raise, State.getF_setF_apart _ _ _ _ (by decide) (by decide)]
    rfl

theorem State.getF_resetCause_soft : (s.resetCause 3).getF F.RST_CAUSE_SOFT = 1 :=
  s.getF_raise_self _ (by decide) (by decide)

theorem State.getF_resetCause_sysclk : (s.resetCause 4).getF F.RST_CAUSE_SYSCLK = 1 :=
  s.getF_raise_self _ (by decide) (by decide)

theorem State.resetCause_smp : (s.resetCause cause).smp = s.smp := by rw [(s.resetCause_onlyRegs cause).1]

theorem State.saving_resetCause : (s.resetCause cause).saving = s.saving := by
  rw [State.saving, s.resetCause_smp, State.saving]

theorem State.resetCause_pwr : (s.resetCause cause).pwr = s.pwr := by rw [(s.resetCause_onlyRegs cause).1]

/-! ### The reset save and its records (R418) -/

/-- The device with the records filled that a save of this cause takes. -/
def State.saveFilled : State := ((s.fillLoss cause).fillSys).fillUpd

theorem State.saveFilled_eq : s.saveFilled cause = { s with smp := (s.saveFilled cause).smp } := by
  unfold State.saveFilled State.fillUpd
  split <;> rfl

theorem State.saveFilled_sumpKept : s.sumpKept (s.saveFilled cause) := by
  unfold State.saveFilled State.fillUpd
  split <;> exact ⟨rfl, rfl, rfl, rfl⟩

/-- The loss record of the save: its cause, and one save more than the last record counts. -/
theorem State.saveFilled_loss : (s.saveFilled cause).smp.loss.cause = cause ∧
    (s.saveFilled cause).smp.loss.saves = s.smp.lossSaved.saves + 1 := by
  unfold State.saveFilled State.fillUpd
  split <;> exact ⟨rfl, rfl⟩

/-- The reset save begun, its records filled. -/
def State.resetSaved : State := (s.saveFilled cause).startSave (.reset false)

theorem State.resetSaved_eq : s.resetSaved cause =
    { s with regs := (s.resetSaved cause).regs, smp := (s.resetSaved cause).smp } := by
  have hsave : s.resetSaved cause =
      { s.saveFilled cause with regs := (s.resetSaved cause).regs, smp := (s.resetSaved cause).smp } := rfl
  rw [s.saveFilled_eq] at hsave
  exact hsave

theorem State.resetSaved_pwr : (s.resetSaved cause).pwr = s.pwr := by rw [s.resetSaved_eq]
theorem State.resetSaved_bus : (s.resetSaved cause).bus = s.bus := by rw [s.resetSaved_eq]

theorem State.resetSaved_regsKept : s.regsKept (s.resetSaved cause) [A.SMP_STAT] := by
  have hfill : (s.saveFilled cause).regs = s.regs := by rw [s.saveFilled_eq]
  exact State.regsKept.setF (t := { s.saveFilled cause with smp := _ }) ((State.regsKept.refl s _).congr hfill)
    F.SMP_STAT_STATE 3 (by decide)

theorem State.resetSaved_begun : s.resetSaveBegun (s.resetSaved cause) cause [] := by
  obtain ⟨hcause, hsaves⟩ := s.saveFilled_loss cause
  refine ⟨State.saveBegun_startSave _ _, s.saveFilled_sumpKept cause, hcause, hsaves, ?_,
    (s.resetSaved_regsKept cause).mono (by simp)⟩
  rw [s.resetSaved_bus, s.resetSaved_pwr]
  exact s.resetSaved_eq cause

variable {s} in
/-- Registers changed before the save begins belong to its frame. -/
theorem State.resetSaveBegun.after_regs {r t : State} {l : List Nat} {cause : Nat} (h : r.resetSaveBegun t cause [])
    (hr : s.onlyRegs r (A.RST_CAUSE :: A.SMP_STAT :: l)) : s.resetSaveBegun t cause l := by
  obtain ⟨hsave, hsump, hcause, hsaves, heq, hkept⟩ := h
  obtain ⟨hreq, hrkept⟩ := hr
  have hsmp : r.smp = s.smp := by rw [hreq]
  refine ⟨hsave, ?_, hcause, by rw [hsaves, hsmp], ?_, hrkept.trans (hkept.mono (by simp))⟩
  · rwa [State.sumpKept, ← hsmp]
  · rw [hreq] at heq
    exact heq

end

/-! ### A request begins the save or is absorbed -/

section
variable {s : State} (cause : Nat)

theorem State.requestReset_idle (hsave : s.saving = false) (hpor : s.pwr.phase ≠ .por) :
    s.requestReset cause = (s.resetCause cause).resetSaved cause :=
  if_neg (by simp [s.saving_resetCause, s.resetCause_pwr, hsave, hpor])

theorem State.requestReset_saving (hsave : s.saving = true) : s.requestReset cause = s.resetCause cause :=
  if_pos (by simp [s.saving_resetCause, hsave])

/-- With no save running, a request begins the reset save and leaves the rest of the device (log entry 33). -/
theorem State.requestReset_begun (hsave : s.saving = false) (hpor : s.pwr.phase ≠ .por) :
    s.resetSaveBegun (s.requestReset cause) cause [] ∧ (s.requestReset cause).pwr = s.pwr ∧
      (s.requestReset cause).bus = s.bus ∧ (s.resetCause cause).regsKept (s.requestReset cause) [A.SMP_STAT] := by
  have hcause := s.resetCause_onlyRegs cause
  rw [State.requestReset_idle cause hsave hpor]
  refine ⟨((s.resetCause cause).resetSaved_begun cause).after_regs (hcause.mono (by simp)), ?_, ?_,
    (s.resetCause cause).resetSaved_regsKept cause⟩
  · rw [State.resetSaved_pwr, hcause.1]
  · rw [State.resetSaved_bus, hcause.1]

end

/-! ### The commands -/

theorem State.running_phase {s : State} (h : s.running = true) : s.pwr.phase = .run := by
  simpa using (Bool.and_eq_true_iff.1 h).1

theorem State.running_sysLock {s : State} (h : s.running = true) : s.flag F.CLK_STAT_SYS_LOCK = true :=
  (Bool.and_eq_true_iff.1 h).2

theorem State.running_phase_ne_por {s : State} (h : s.running = true) : s.pwr.phase ≠ .por := by simp [s.running_phase h]

/-- The state with the watchdog disarmed by its expiry. -/
def State.wdtExpired (s : State) : State := { s with pwr := { s.pwr with wdtArmed := false } }

theorem exec_watchdogExpiry_armed {s : State} (harm : s.pwr.wdtArmed = true) (hkick : s.keeperKicks = false) :
    exec .watchdogExpiry s = .next (s.wdtExpired.requestReset 2) := if_pos (by simp [harm, hkick])

/-- The watchdog runs out with no save running. -/
theorem watchdogExpiry_idle (s : State) (harm : s.pwr.wdtArmed = true) (hkick : s.keeperKicks = false)
    (hsave : s.saving = false) (hpor : s.pwr.phase ≠ .por) :
    ∃ t, exec .watchdogExpiry s = .next t ∧ s.resetSaveBegun t 2 [] ∧ t.bus = s.bus ∧
      t.pwr = { s.pwr with wdtArmed := false } ∧
      t.getF F.RST_CAUSE_WDT = 1 ∧ t.getF F.RST_CAUSE_WDT_COUNT = min (s.getF F.RST_CAUSE_WDT_COUNT + 1) 15 := by
  obtain ⟨hbegun, hpwr, hbus, hstat⟩ := State.requestReset_begun (s := s.wdtExpired) 2 hsave hpor
  obtain ⟨hwdt, hcount⟩ := s.wdtExpired.getF_resetCause_wdt
  exact ⟨_, exec_watchdogExpiry_armed harm hkick, hbegun, hbus, hpwr, (hstat.getF_eq _ (by decide)).trans hwdt,
    (hstat.getF_eq _ (by decide)).trans hcount⟩

/-- The watchdog runs out beside a save. -/
theorem watchdogExpiry_saving (s : State) (harm : s.pwr.wdtArmed = true) (hkick : s.keeperKicks = false)
    (hsave : s.saving = true) :
    ∃ t, exec .watchdogExpiry s = .next t ∧ t = { s with regs := t.regs, pwr := t.pwr } ∧ s.regsKept t [A.RST_CAUSE] ∧
      t.pwr = { s.pwr with wdtArmed := false } ∧ t.getF F.RST_CAUSE_WDT = 1 := by
  obtain ⟨heq, hkept⟩ := s.wdtExpired.resetCause_onlyRegs 2
  refine ⟨s.wdtExpired.resetCause 2, ?_, heq, hkept, congrArg State.pwr heq, s.wdtExpired.getF_resetCause_wdt.1⟩
  rw [exec_watchdogExpiry_armed harm hkick, State.requestReset_saving (s := s.wdtExpired) 2 hsave]

theorem exec_watchdogExpiry_kicked (s : State) (hkick : s.keeperKicks = true) : exec .watchdogExpiry s = .next s :=
  if_neg (by simp [hkick])

theorem exec_deviceResetRequest_key {s : State} (hrun : s.running = true) :
    exec (.deviceResetRequest .keeper 0xD5E7) s = .next ((s.busOk 0).requestReset 3) := by
  rw [exec_deviceResetRequest_keeper _ hrun, State.rstCtlWrite_device _ (by simp) (by simp)]

/-- The keeper's device reset with no save running. -/
theorem deviceResetRequest_idle (s : State) (hrun : s.running = true) (hsave : s.saving = false) :
    ∃ t, exec (.deviceResetRequest .keeper 0xD5E7) s = .next t ∧ s.resetSaveBegun t 3 [] ∧ t.pwr = s.pwr ∧
      t.bus = ⟨0, false⟩ ∧ t.getF F.RST_CAUSE_SOFT = 1 := by
  obtain ⟨hbegun, hpwr, hbus, hstat⟩ := State.requestReset_begun (s := s.busOk 0) 3 hsave (State.running_phase_ne_por hrun)
  exact ⟨_, exec_deviceResetRequest_key hrun, hbegun, hpwr, hbus,
    (hstat.getF_eq _ (by decide)).trans (s.busOk 0).getF_resetCause_soft⟩

/-- The keeper's device reset beside a save. -/
theorem deviceResetRequest_saving (s : State) (hrun : s.running = true) (hsave : s.saving = true) :
    ∃ t, exec (.deviceResetRequest .keeper 0xD5E7) s = .next t ∧ s.onlyBus t [A.RST_CAUSE] ∧ t.bus = ⟨0, false⟩ ∧
      t.getF F.RST_CAUSE_SOFT = 1 := by
  refine ⟨(s.busOk 0).resetCause 3, ?_, (State.onlyBus.ok s _ 0).raise _ (by decide), rfl,
    (s.busOk 0).getF_resetCause_soft⟩
  rw [exec_deviceResetRequest_key hrun, State.requestReset_saving (s := s.busOk 0) 3 hsave]

/-- SYSPLL loses lock with no save running. -/
theorem syspllUnlock_idle (s : State) (hrun : s.running = true) (hsave : s.saving = false) :
    ∃ t, exec .syspllUnlock s = .next t ∧ s.resetSaveBegun t 4 [A.CLK_STAT] ∧ t.pwr = s.pwr ∧ t.bus = s.bus ∧
      t.getF F.RST_CAUSE_SYSCLK = 1 ∧ t.getF F.CLK_STAT_SYS_LOCK = 0 ∧ t.running = false := by
  have hpor := State.running_phase_ne_por hrun
  have hclk : s.onlyRegs (s.setF F.CLK_STAT_SYS_LOCK 0) [A.CLK_STAT] :=
    (State.onlyRegs.refl s _).setF _ _ (by decide)
  obtain ⟨hbegun, hpwr, hbus, hstat⟩ :=
    State.requestReset_begun (s := s.setF F.CLK_STAT_SYS_LOCK 0) 4 hsave hpor
  have hlock : ((s.setF F.CLK_STAT_SYS_LOCK 0).requestReset 4).getF F.CLK_STAT_SYS_LOCK = 0 := by
    rw [hstat.getF_eq _ (by decide), (State.resetCause_onlyRegs _ _).2.getF_eq _ (by decide),
      State.getF_setF_self _ _ _ (by decide), Nat.zero_mod]
  refine ⟨_, if_pos (State.running_sysLock hrun), hbegun.after_regs (hclk.mono (by simp)), hpwr, hbus,
    (hstat.getF_eq _ (by decide)).trans (State.getF_resetCause_sysclk _), hlock, ?_⟩
  simp [State.running, State.flag, hlock]

/-- The keeper's kick: the key restarts the count, another value does nothing (R53). -/
theorem watchdogKick_keeper (key : BitVec 16) (s : State) (hrun : s.running = true) (harm : s.pwr.wdtArmed = true) :
    ∃ t, exec (.watchdogKick .keeper key) s = .next t ∧ t = { s with bus := ⟨0, false⟩, pwr := t.pwr } ∧
      t.pwr = (if key = 0xC0DE then { s.pwr with wdtAt := s.now } else s.pwr) := by
  have hkick : F.RST_WDT_KICK.of (F.RST_WDT_KICK.put 0 key.toNat) = 0xC0DE ∧ s.pwr.wdtArmed = true ↔ key = 0xC0DE := by
    rw [Fld.of_put_key _ _ (by decide) rfl, BitVec.toNat_eq]
    simp [harm]
  refine ⟨_, congrArg Host.Outcome.next
    (State.guarded_of_mayWrite _ (State.mayWrite_keeper_resetRegister hrun (Or.inr rfl))), ?_⟩
  simp only [State.rstWdtWrite, State.busOk_pwr, hkick]
  split <;> exact ⟨rfl, rfl⟩

/-! ### The statement -/

/-- Settles O16: the three requests, each with a save running and without where the statement says both, the kicked watchdog, the
kick and the test reset. That the device goes on until the save ends is the model's reading (log entry 33). -/
theorem resetsAreRequested : Obligations.ResetsAreRequested := by
  unfold Obligations.ResetsAreRequested
  exact ⟨watchdogExpiry_idle, watchdogExpiry_saving, exec_watchdogExpiry_kicked, deviceResetRequest_idle,
    deviceResetRequest_saving, syspllUnlock_idle, watchdogKick_keeper, fun _ => rfl⟩

end Sys2Proof.Machine
end

section
/-!
PROOFS. The reset of application cores (chapters 03 and 16): what becomes of a channel and its lock at the reset of an initiator
(R362), told of the channel's words alone, and that nothing outside the mailbox block changes (R51).
-/

namespace Sys2Proof.Machine

/-! ### A channel at the reset of its users (R362) -/

/-- What the reset of an initiator looks at and changes in a channel: its receiver, and its words CST and LOCK. -/
structure ChanView where
  receiver : Nat
  cst : Word
  lock : Word

/-- That of a channel of the device. -/
def State.chanView (s : State) (n : Nat) : ChanView :=
  ⟨s.getF (F.MBX_CCFG_RECEIVER n), s.getW (A.MBX_CST n), s.getW (A.MBX_LOCK n)⟩

namespace ChanView

variable (v : ChanView) (c : Nat)

/-! The fields lie at the same place in every channel's words. -/

def full : Nat := (F.MBX_CST_FULL 0).of v.cst
def taken : Nat := (F.MBX_CST_TAKEN 0).of v.cst
def lost : Nat := (F.MBX_CST_LOST 0).of v.cst
def sndrst : Nat := (F.MBX_CST_SNDRST 0).of v.cst
def lastsnd : Nat := (F.MBX_CST_LASTSND 0).of v.cst
def held : Nat := (F.MBX_LOCK_HELD 0).of v.lock
def holder : Nat := (F.MBX_LOCK_HOLDER 0).of v.lock

/-- The word CST of a full channel whose receiver is reset. -/
def emptiedCst : Word :=
  (F.MBX_CST_LOST 0).put ((F.MBX_CST_SNDRST 0).put ((F.MBX_CST_TAKEN 0).put ((F.MBX_CST_FULL 0).put v.cst 0) 1) 0) 1

/-- The channel after the reset of the initiator with a code. -/
def reset : ChanView where
  receiver := v.receiver
  cst :=
    if v.full = 0 then v.cst
    else if v.receiver = c then v.emptiedCst
    else if v.lastsnd = c then (F.MBX_CST_SNDRST 0).put v.cst 1
    else v.cst
  lock := if v.held ≠ 0 ∧ v.holder = c then (F.MBX_LOCK_HELD 0).put v.lock 0 else v.lock

/-- The word of a reset receiver is gone: the channel is empty and shows it (R362). -/
def Emptied : Prop := v.full = 0 ∧ v.lost = 1 ∧ v.taken = 1

/-- The word of a reset sender waits, and the channel shows that its sender was reset (R362). -/
def Marked : Prop := v.full = 1 ∧ v.sndrst = 1

end ChanView

/-! ### The view of a channel of the device -/

section
variable (s : State) (n : Nat)

theorem State.receiver_chanView : (s.chanView n).receiver = s.getF (F.MBX_CCFG_RECEIVER n) := rfl
theorem State.full_chanView : (s.chanView n).full = s.getF (F.MBX_CST_FULL n) := rfl
theorem State.lastsnd_chanView : (s.chanView n).lastsnd = s.getF (F.MBX_CST_LASTSND n) := rfl
theorem State.held_chanView : (s.chanView n).held = s.getF (F.MBX_LOCK_HELD n) := rfl
theorem State.holder_chanView : (s.chanView n).holder = s.getF (F.MBX_LOCK_HOLDER n) := rfl

theorem State.emptied_chanView : (s.chanView n).Emptied ↔ s.getF (F.MBX_CST_FULL n) = 0 ∧
    s.getF (F.MBX_CST_LOST n) = 1 ∧ s.getF (F.MBX_CST_TAKEN n) = 1 := Iff.rfl

theorem State.marked_chanView : (s.chanView n).Marked ↔ s.getF (F.MBX_CST_FULL n) = 1 ∧
    s.getF (F.MBX_CST_SNDRST n) = 1 := Iff.rfl

variable {s n}

theorem State.full_chanView_of_flag (h : s.flag (F.MBX_CST_FULL n) = true) : (s.chanView n).full = 1 :=
  (s.full_chanView n).trans (State.getF_eq_one_of_flag rfl h)

theorem State.held_chanView_of_flag (h : s.flag (F.MBX_LOCK_HELD n) = true) : (s.chanView n).held = 1 :=
  (s.held_chanView n).trans (State.getF_eq_one_of_flag rfl h)

/-- A channel's view turns on its own three registers. -/
theorem State.regsKept.chanView_eq {t : State} {l : List Nat} (h : s.regsKept t l) (hcst : A.MBX_CST n ∉ l)
    (hlock : A.MBX_LOCK n ∉ l) (hcfg : A.MBX_CCFG n ∉ l) : t.chanView n = s.chanView n := by
  rw [State.chanView, h _ hcst, h _ hlock, h.getF_eq (F.MBX_CCFG_RECEIVER n) hcfg, State.chanView]

end

/-! ### A channel of the device at the reset of an initiator -/

section
variable (s : State) (who : Initiator) (n : Nat)

/-- The channel's part of the reset, before its lock is looked at. -/
def State.chanLeft : State :=
  if s.flag (F.MBX_CST_FULL n) then
    if s.isReceiver who n then (s.mbxEmpty n).raise (F.MBX_CST_LOST n)
    else if s.getF (F.MBX_CST_LASTSND n) = who.code then s.raise (F.MBX_CST_SNDRST n)
    else s
  else s

theorem State.chanReset_eq : s.chanReset who n =
    if (s.chanLeft who n).flag (F.MBX_LOCK_HELD n) && (s.chanLeft who n).getF (F.MBX_LOCK_HOLDER n) == who.code then
      (s.chanLeft who n).lockFree n
    else s.chanLeft who n := rfl

theorem State.chanLeft_onlyRegs : s.onlyRegs (s.chanLeft who n) [A.MBX_CST n] := by
  have hself := State.onlyRegs.refl s [A.MBX_CST n]
  have hcst : A.MBX_CST n ∈ [A.MBX_CST n] := List.mem_singleton_self _
  have hempty : s.onlyRegs (s.mbxEmpty n) [A.MBX_CST n] :=
    (((hself.setF (F.MBX_CST_FULL n) 0 hcst).raise (F.MBX_CST_TAKEN n) hcst).setF (F.MBX_CST_SNDRST n) 0 hcst).ite hself
  exact ((hempty.raise (F.MBX_CST_LOST n) hcst).ite ((hself.raise (F.MBX_CST_SNDRST n) hcst).ite hself)).ite hself

theorem State.getW_chanLeft : (s.chanLeft who n).getW (A.MBX_CST n) = ((s.chanView n).reset who.code).cst := by
  have hfull : s.flag (F.MBX_CST_FULL n) = ((s.chanView n).full != 0) := rfl
  have hrecv : s.isReceiver who n = ((s.chanView n).receiver == who.code) := rfl
  have hlast : s.getF (F.MBX_CST_LASTSND n) = (s.chanView n).lastsnd := rfl
  simp only [State.chanLeft, ChanView.reset, hfull, hrecv, hlast, bne_iff_ne, ne_eq, beq_iff_eq, ite_not]
  split
  · rfl
  · next hne =>
    split
    · have hput (u : State) (f : Fld) (v : Nat) (h : f.addr = A.MBX_CST n) :
          (u.setF f v).getW (A.MBX_CST n) = f.put (u.getW (A.MBX_CST n)) v := h ▸ u.getW_setF_self f v
      have hempty : s.mbxEmpty n = ((s.setF (F.MBX_CST_FULL n) 0).raise (F.MBX_CST_TAKEN n)).setF (F.MBX_CST_SNDRST n) 0 :=
        if_pos (by simp [hfull, hne])
      rw [hempty, State.raise, hput _ _ _ rfl, hput _ _ _ rfl, State.raise, hput _ _ _ rfl, hput _ _ _ rfl]
      rfl
    · split
      · exact State.getW_setF_self s (F.MBX_CST_SNDRST n) 1
      · rfl

theorem State.chanLeft_regsKept_chanReset : (s.chanLeft who n).regsKept (s.chanReset who n) [A.MBX_LOCK n] := by
  have hself := State.regsKept.refl (s.chanLeft who n) [A.MBX_LOCK n]
  rw [s.chanReset_eq]
  exact (hself.setF (F.MBX_LOCK_HELD n) 0 (List.mem_singleton_self _)).ite hself

theorem State.chanReset_onlyRegs : s.onlyRegs (s.chanReset who n) [A.MBX_CST n, A.MBX_LOCK n] := by
  have hleft : s.onlyRegs (s.chanLeft who n) [A.MBX_CST n, A.MBX_LOCK n] := (s.chanLeft_onlyRegs who n).mono (by simp)
  have hlock : A.MBX_LOCK n ∈ [A.MBX_CST n, A.MBX_LOCK n] := by simp
  rw [s.chanReset_eq]
  exact (hleft.setF (F.MBX_LOCK_HELD n) 0 hlock).ite hleft

theorem State.getW_lock_chanReset : (s.chanReset who n).getW (A.MBX_LOCK n) = ((s.chanView n).reset who.code).lock := by
  obtain ⟨-, hleft⟩ := s.chanLeft_onlyRegs who n
  have hlock : A.MBX_LOCK n ∉ [A.MBX_CST n] := by simp [A.MBX_CST, A.MBX_LOCK]
  have hheld : (s.chanLeft who n).flag (F.MBX_LOCK_HELD n) = ((s.chanView n).held != 0) :=
    hleft.flag_eq (F.MBX_LOCK_HELD n) hlock
  have hholder : (s.chanLeft who n).getF (F.MBX_LOCK_HOLDER n) = (s.chanView n).holder :=
    hleft.getF_eq (F.MBX_LOCK_HOLDER n) hlock
  have hword : (s.chanLeft who n).getW (A.MBX_LOCK n) = (s.chanView n).lock := hleft _ hlock
  simp only [s.chanReset_eq, hheld, hholder, ChanView.reset, Bool.and_eq_true, bne_iff_ne, beq_iff_eq]
  split
  · exact (State.getW_setF_self _ (F.MBX_LOCK_HELD n) 0).trans (congrArg (fun w => (F.MBX_LOCK_HELD 0).put w 0) hword)
  · exact hword

/-- The reset of an initiator does to a channel of the device what it does to the channel's view. -/
theorem State.chanView_chanReset_self : (s.chanReset who n).chanView n = (s.chanView n).reset who.code := by
  have hcst : A.MBX_CST n ∉ [A.MBX_LOCK n] := by simp [A.MBX_CST, A.MBX_LOCK]
  have hcfg : A.MBX_CCFG n ∉ [A.MBX_CST n, A.MBX_LOCK n] := by simp [A.MBX_CST, A.MBX_LOCK, A.MBX_CCFG]
  rw [State.chanView, ChanView.mk.injEq]
  exact ⟨(s.chanReset_onlyRegs who n).2.getF_eq (F.MBX_CCFG_RECEIVER n) hcfg,
    (s.chanLeft_regsKept_chanReset who n _ hcst).trans (s.getW_chanLeft who n), s.getW_lock_chanReset who n⟩

theorem State.chanView_chanReset_ne {k : Nat} (h : k ≠ n) : (s.chanReset who k).chanView n = s.chanView n := by
  refine (s.chanReset_onlyRegs who k).2.chanView_eq ?_ ?_ ?_ <;> simp [A.MBX_CST, A.MBX_LOCK, A.MBX_CCFG] <;> omega

end

/-! ### All channels at the reset of an initiator (R362) -/

section
variable {s t u : State} {l : List Nat}

theorem State.onlyRegs.trans (h : s.onlyRegs t l) (k : t.onlyRegs u l) : s.onlyRegs u l := by
  obtain ⟨ht, htkept⟩ := h
  obtain ⟨hu, hukept⟩ := k
  refine ⟨?_, htkept.trans hukept⟩
  rw [ht] at hu
  exact hu

theorem State.onlyRegs.forEach {α : Type} (h : s.onlyRegs t l) (xs : List α) {f : α → State → State}
    (hf : ∀ x ∈ xs, ∀ u : State, u.onlyRegs (f x u) l) : s.onlyRegs (t.forEach xs f) l := by
  unfold State.forEach
  induction xs generalizing t with
  | nil => exact h
  | cons x xs ih =>
    exact ih (h.trans (hf x List.mem_cons_self t)) fun y hy => hf y (List.mem_cons_of_mem x hy)

variable {β : Type} (g : State → β)

/-- What no step over a list changes, the whole leaves. -/
theorem State.forEach_same_of_mem {α : Type} {xs : List α} {f : α → State → State} (h : ∀ x ∈ xs, ∀ u, g (f x u) = g u) :
    g (s.forEach xs f) = g s := by
  unfold State.forEach
  induction xs generalizing s with
  | nil => rfl
  | cons x xs ih =>
    rw [List.foldl_cons, ih fun y hy => h y (List.mem_cons_of_mem x hy), h x List.mem_cons_self]

/-- What the step at one place of a list alone changes is changed once. -/
theorem State.forEach_once {xs : List Nat} {f : Nat → State → State} {n : Nat} (φ : β → β) (hn : n ∈ xs) (hxs : xs.Nodup)
    (hself : ∀ u, g (f n u) = φ (g u)) (hother : ∀ k u, k ≠ n → g (f k u) = g u) : g (s.forEach xs f) = φ (g s) := by
  induction xs generalizing s with
  | nil => exact absurd hn List.not_mem_nil
  | cons x xs ih =>
    obtain ⟨hx, hrest⟩ := List.nodup_cons.1 hxs
    show g ((f x s).forEach xs f) = φ (g s)
    by_cases hxn : x = n
    · subst hxn
      rw [State.forEach_same_of_mem g fun k hk u => hother k u fun e => hx (e ▸ hk), hself]
    · rw [ih ((List.mem_cons.1 hn).resolve_left (Ne.symm hxn)) hrest, hother x s hxn]

end

/-- The registers that the reset of an initiator writes. -/
def mbxResetRegs : List Nat := A.MBX_DBMASK :: (List.range 16).flatMap fun n => [A.MBX_CST n, A.MBX_LOCK n]

theorem blockOf_mbxResetRegs : ∀ a ∈ mbxResetRegs, blockOf a = 6 := by decide

theorem mbxData_notMem_mbxResetRegs : ∀ n < 16, A.MBX_DATA n ∉ mbxResetRegs := by decide

section
variable (s : State) (who : Initiator)

theorem State.mbxReset_onlyRegs : s.onlyRegs (s.mbxReset who) mbxResetRegs := by
  have hchans := (State.onlyRegs.refl s mbxResetRegs).forEach (List.range 16) (f := fun n t => t.chanReset who n)
    fun n hn u => (u.chanReset_onlyRegs who n).mono fun a ha =>
      List.mem_cons_of_mem _ (List.mem_flatMap.2 ⟨n, hn, ha⟩)
  exact hchans.setW A.MBX_DBMASK _ List.mem_cons_self

theorem State.chanView_mbxReset {n : Nat} (hn : n < 16) : (s.mbxReset who).chanView n = (s.chanView n).reset who.code := by
  have hmask (u : State) : (u.bellMask who 0).chanView n = u.chanView n := by
    have hkept : u.regsKept (u.bellMask who 0) [A.MBX_DBMASK] :=
      (State.regsKept.refl u _).setW _ _ (List.mem_singleton_self _)
    refine hkept.chanView_eq ?_ ?_ ?_ <;> simp [A.MBX_CST, A.MBX_LOCK, A.MBX_CCFG, A.MBX_DBMASK] <;> omega
  rw [State.mbxReset, hmask]
  exact State.forEach_once (fun u => u.chanView n) (fun v => v.reset who.code) (List.mem_range.2 hn) List.nodup_range
    (fun u => u.chanView_chanReset_self who n) fun k u hk => u.chanView_chanReset_ne who n hk

end

/-! ### A channel's view at one reset and at several -/

namespace ChanView

/-- The channel after the resets of several initiators, first to last. -/
def resets (v : ChanView) (l : List Nat) : ChanView := l.foldl ChanView.reset v

variable {v : ChanView} {c : Nat} {l : List Nat}

theorem reset_cst_of_empty (h : v.full = 0) : (v.reset c).cst = v.cst := if_pos h

theorem reset_emptied_of_receiver (h : v.full ≠ 0) (hc : v.receiver = c) : (v.reset c).Emptied := by
  have hcst : (v.reset c).cst = v.emptiedCst := (if_neg h).trans (if_pos hc)
  unfold Emptied full lost taken
  rw [hcst, emptiedCst]
  simp (disch := decide) only [Fld.of_put_self, Fld.of_put_other]
  decide

theorem Emptied.reset (h : v.Emptied) : (v.reset c).Emptied := by
  obtain ⟨hfull, hlost, htaken⟩ := h
  unfold Emptied full lost taken
  rw [reset_cst_of_empty hfull]
  exact ⟨hfull, hlost, htaken⟩

/-- The reset of another than the receiver marks the word of its last sender, and leaves it. -/
theorem reset_of_receiver_ne (hc : v.receiver ≠ c) : (v.reset c).full = v.full ∧ (v.reset c).lastsnd = v.lastsnd ∧
    (v.full ≠ 0 → v.sndrst = 1 ∨ v.lastsnd = c → (v.reset c).sndrst = 1) := by
  have hcst : (v.reset c).cst = if v.full ≠ 0 ∧ v.lastsnd = c then (F.MBX_CST_SNDRST 0).put v.cst 1 else v.cst := by
    by_cases hf : v.full = 0 <;> simp [ChanView.reset, hf, hc]
  unfold full lastsnd sndrst at *
  rw [hcst]
  split
  · simp (disch := decide) only [Fld.of_put_self, Fld.of_put_other]
    exact ⟨trivial, trivial, fun _ _ => rfl⟩
  · next hmark => exact ⟨rfl, rfl, fun hf h => h.resolve_right fun hl => hmark ⟨hf, hl⟩⟩

theorem resets_emptied (hf : v.full ≠ 0) (hl : v.receiver ∈ l) : (v.resets l).Emptied := by
  have hkept (u : ChanView) (m : List Nat) (hu : u.Emptied) : (u.resets m).Emptied :=
    List.foldlRecOn m ChanView.reset hu fun _ hw _ _ => hw.reset
  induction l generalizing v with
  | nil => exact absurd hl List.not_mem_nil
  | cons c l ih =>
    by_cases hc : v.receiver = c
    · exact hkept _ l (reset_emptied_of_receiver hf hc)
    · exact ih ((reset_of_receiver_ne hc).1 ▸ hf) ((List.mem_cons.1 hl).resolve_left hc)

theorem resets_marked (hf : v.full = 1) (hr : v.receiver ∉ l) (hl : v.sndrst = 1 ∨ v.lastsnd ∈ l) :
    (v.resets l).Marked := by
  induction l generalizing v with
  | nil => exact ⟨hf, hl.resolve_right List.not_mem_nil⟩
  | cons c l ih =>
    rw [List.mem_cons, not_or] at hr
    obtain ⟨hc, hrest⟩ := hr
    obtain ⟨hfull, hlast, hmark⟩ := reset_of_receiver_ne hc
    refine ih (hfull.trans hf) hrest ?_
    rw [hlast]
    rcases hl with hs | hl
    · exact Or.inl (hmark (by simp [hf]) (Or.inl hs))
    · exact (List.mem_cons.1 hl).imp (fun e => hmark (by simp [hf]) (Or.inr e)) id

theorem reset_lock_of_holder_ne (h : v.holder ≠ c) : (v.reset c).lock = v.lock := if_neg fun hc => h hc.2

theorem reset_held_of_holder (h : v.held = 0 ∨ v.holder = c) : (v.reset c).held = 0 := by
  have hlock : (v.reset c).lock = if v.held ≠ 0 ∧ v.holder = c then (F.MBX_LOCK_HELD 0).put v.lock 0 else v.lock := rfl
  unfold held at *
  rw [hlock]
  split
  · exact Fld.of_put_self _ (by decide) _ _
  · next hfree => exact not_not.1 fun hh => hfree ⟨hh, h.resolve_left hh⟩

/-- The locks of initiators that are reset are free afterwards (R362). -/
theorem resets_held (hl : v.held = 0 ∨ v.holder ∈ l) : (v.resets l).held = 0 := by
  induction l generalizing v with
  | nil => exact hl.resolve_right List.not_mem_nil
  | cons c l ih =>
    by_cases hc : v.held = 0 ∨ v.holder = c
    · exact ih (Or.inl (reset_held_of_holder hc))
    · obtain ⟨hheld, hne⟩ := not_or.1 hc
      have hlock := reset_lock_of_holder_ne hne
      refine ih (Or.inr ?_)
      rw [holder, hlock]
      exact (List.mem_cons.1 (hl.resolve_left hheld)).resolve_left hne

theorem resets_lock (hl : v.holder ∉ l) : (v.resets l).lock = v.lock := by
  induction l generalizing v with
  | nil => rfl
  | cons c l ih =>
    rw [List.mem_cons, not_or] at hl
    obtain ⟨hc, hrest⟩ := hl
    have hlock := reset_lock_of_holder_ne hc
    refine (ih ?_).trans hlock
    rwa [holder, hlock]

end ChanView

/-! ### The command -/

/-- The cores that a request names. -/
def coresNamed (a0 a1 : Bool) : List Initiator := (if a0 then [.a0] else []) ++ if a1 then [.a1] else []

theorem mem_code_coresNamed {a0 a1 : Bool} {c : Nat} :
    c ∈ (coresNamed a0 a1).map Initiator.code ↔ (a0 && c == 1 || a1 && c == 2) = true := by
  cases a0 <;> cases a1 <;> simp [coresNamed, Initiator.code]

section
variable {s : State} (l : List Initiator)

/-- The resets of several initiators, first to last. -/
def State.mbxResets (s : State) (l : List Initiator) : State := s.forEach l fun who t => t.mbxReset who

theorem State.mbxResets_onlyRegs : s.onlyRegs (s.mbxResets l) mbxResetRegs :=
  (State.onlyRegs.refl s _).forEach l fun who _ u => u.mbxReset_onlyRegs who

theorem State.chanView_mbxResets {n : Nat} (hn : n < 16) :
    (s.mbxResets l).chanView n = (s.chanView n).resets (l.map Initiator.code) := by
  induction l generalizing s with
  | nil => rfl
  | cons who l ih =>
    refine (ih (s := s.mbxReset who)).trans ?_
    rw [s.chanView_mbxReset who hn]
    rfl

theorem State.mbxResets_append (m : List Initiator) : s.mbxResets (l ++ m) = (s.mbxResets l).mbxResets m :=
  List.foldl_append

/-- A core that runs and is named starts again, which its mailboxes alone show. -/
theorem State.when_coreReset (named a1 : Bool) (h : s.getF (if a1 then F.CORE_STAT_A1 else F.CORE_STAT_A0) ≠ 0) :
    s.when (named.toNat != 0) (fun t => t.coreReset a1) =
      s.mbxResets (if named then [if a1 then .a1 else .a0] else []) := by
  cases named
  · rfl
  · exact if_neg h

/-- The keyed request for cores that run. -/
theorem State.rstCtlWrite_coreResetWord (a0 a1 : Bool) (h0 : s.getF F.CORE_STAT_A0 ≠ 0) (h1 : s.getF F.CORE_STAT_A1 ≠ 0) :
    s.rstCtlWrite (coreResetWord 0xD5E7 a0 a1) = s.mbxResets (coresNamed a0 a1) := by
  have hfirst : s.when (a0.toNat != 0) (fun t => t.coreReset false) = s.mbxResets (if a0 then [.a0] else []) :=
    State.when_coreReset a0 false h0
  have hstill : (s.mbxResets (if a0 then [.a0] else [])).getF F.CORE_STAT_A1 ≠ 0 := by
    rwa [(State.mbxResets_onlyRegs _).2.getF_eq _ (by decide)]
  rw [State.rstCtlWrite_cores _ (by simp) (by simp), a0_coreResetWord, a1_coreResetWord, hfirst, coresNamed,
    State.mbxResets_append]
  exact State.when_coreReset a1 true hstill

end

/-! ### The statement -/

/-- Settles O17: both cores' resets at a channel are resets of its view, and write no register outside the mailbox block. That
CORE_STAT stays as it was over the reset is the model's reading (log entry 35). -/
theorem coreResetAndPendingMessages : Obligations.CoreResetAndPendingMessages := by
  unfold Obligations.CoreResetAndPendingMessages
  intro a0 a1 s hrun h0 h1 hit
  have hhit (c : Nat) : c ∈ (coresNamed a0 a1).map Initiator.code ↔ hit c = true := mem_code_coresNamed
  have hmiss {c : Nat} (h : hit c = false) : c ∉ (coresNamed a0 a1).map Initiator.code := by simp [hhit, h]
  obtain ⟨heq, hkept⟩ := State.mbxResets_onlyRegs (s := s.busOk 0) (coresNamed a0 a1)
  have hview {n : Nat} (hn : n < 16) : ((s.busOk 0).mbxResets (coresNamed a0 a1)).chanView n =
      (s.chanView n).resets ((coresNamed a0 a1).map Initiator.code) := State.chanView_mbxResets _ hn
  refine ⟨(s.busOk 0).mbxResets (coresNamed a0 a1), ?_, heq, fun a ha => hkept a fun hm => ha (blockOf_mbxResetRegs a hm),
    fun n hn hfull hr => ?_, fun n hn hfull hr hl => ?_, fun n hn hheld hl => ?_, fun n hn hheld hl => ?_⟩
  · exact (exec_coreResetRequest_keeper _ a0 a1 hrun).trans
      (congrArg Host.Outcome.next (State.rstCtlWrite_coreResetWord (s := s.busOk 0) a0 a1 h0 h1))
  · rw [← State.receiver_chanView] at hr
    rw [← State.emptied_chanView, hview hn]
    exact ChanView.resets_emptied (by simp [State.full_chanView_of_flag hfull]) ((hhit _).2 hr)
  · rw [← State.receiver_chanView] at hr
    rw [← State.lastsnd_chanView] at hl
    have hmarked := ChanView.resets_marked (State.full_chanView_of_flag hfull) (hmiss hr) (Or.inr ((hhit _).2 hl))
    rw [← hview hn, State.marked_chanView] at hmarked
    obtain ⟨hfull, hsndrst⟩ := hmarked
    exact ⟨hfull, hsndrst, hkept _ (mbxData_notMem_mbxResetRegs n hn)⟩
  · rw [← State.holder_chanView] at hl
    rw [← State.held_chanView, hview hn]
    exact ChanView.resets_held (Or.inr ((hhit _).2 hl))
  · rw [← State.holder_chanView] at hl
    rw [← State.held_chanView, hview hn, ChanView.held, ChanView.resets_lock (hmiss hl)]
    exact State.held_chanView_of_flag hheld

end Sys2Proof.Machine
end

section
/-!
PROOFS. The clocks (chapter 03): SYSPLL at the start (R50, R53), and what shows that a PLL has lost lock (R45).
-/

namespace Sys2Proof.Machine

/-! ### SYSPLL at the start (R50) -/

/-- The device with the keeper out of reset: TIME runs and the watchdog is armed at 2,000 ms (R50, R53). -/
def State.keeperStarted (s : State) : State :=
  { s with
    pwr := { s.pwr with phase := .run, txIdle := false, wdtArmed := true, wdtMs := 2000, wdtAt := s.now }
    tim := { s.tim with running := true, startAt := s.now } }

theorem syspllLock_starts (s : State) (hphase : s.pwr.phase = .sysPll) :
    ∃ t, exec .syspllLock s = .next t ∧ t = { s with regs := t.regs, pwr := t.pwr, tim := t.tim } ∧
      s.regsKept t [A.CLK_STAT, A.RST_CAUSE] ∧ t.running = true ∧ t.getF F.RST_CAUSE_NOREF = 0 ∧ t.tim.running = true ∧
      t.pwr.wdtArmed = true ∧ t.pwr.wdtMs = 2000 ∧ t.pwr.wdtAt = s.now := by
  have hkept : s.keeperStarted.regsKept ((s.keeperStarted.raise F.CLK_STAT_SYS_LOCK).setF F.RST_CAUSE_NOREF 0)
      [A.CLK_STAT, A.RST_CAUSE] :=
    ((State.regsKept.refl _ _).raise _ (by decide)).setF _ _ (by decide)
  have hlock : ((s.keeperStarted.raise F.CLK_STAT_SYS_LOCK).setF F.RST_CAUSE_NOREF 0).getF F.CLK_STAT_SYS_LOCK = 1 := by
    rw [State.getF_setF_apart _ _ _ _ (by decide) (by decide), State.getF_raise_self _ _ (by decide) (by decide)]
  have hrun : ((s.keeperStarted.raise F.CLK_STAT_SYS_LOCK).setF F.RST_CAUSE_NOREF 0).running = true := by
    rw [State.running, State.flag, hlock]
    rfl
  exact ⟨_, if_pos hphase, rfl, hkept, hrun, State.getF_setF_self _ _ _ (by decide), rfl, rfl, rfl, rfl⟩

theorem syspllLockTimeout_waits (s : State) (hphase : s.pwr.phase = .sysPll) :
    ∃ t, exec .syspllLockTimeout s = .next t ∧ t = { s with regs := t.regs, pwr := t.pwr } ∧ s.regsKept t [A.RST_CAUSE] ∧
      t.pwr = { s.pwr with phase := .noRef } ∧ t.getF F.RST_CAUSE_NOREF = 1 :=
  ⟨_, if_pos hphase, rfl, State.regsKept.raise (t := { s with pwr := _ }) (State.regsKept.refl s _) _ (by decide), rfl,
    State.getF_raise_self _ _ (by decide) (by decide)⟩

theorem refclkRetry_tries (s : State) (hphase : s.pwr.phase = .noRef) :
    ∃ t, exec .refclkRetry s = .next t ∧ t = { s with pwr := t.pwr } ∧ t.pwr = { s.pwr with phase := .sysPll } :=
  ⟨_, if_pos hphase, rfl, rfl⟩

/-! ### Lock lost and found again (R45) -/

/-- A bit of a field stays where another register is written. -/
theorem State.bit_setF_apart (s : State) (f g : Fld) (v i : Nat) (h : f.apart g = true) (hg : g.lo + g.width ≤ 32) :
    (s.setF f v).bit g i = s.bit g i :=
  congrArg (Nat.testBit · i) (s.getF_setF_apart f g v h hg)

theorem portPllUnlock_shown (n : Fin 8) (s : State) (hlock : s.bit F.CLK_STAT_PORT_LOCK n = true) :
    ∃ t, exec (.portPllUnlock n) s = .next t ∧ s.onlyRegs t [A.CLK_STAT, A.CLK_EVT] ∧
      t.bit F.CLK_STAT_PORT_LOCK n = false ∧ t.bit F.CLK_EVT_PORT_UNLOCK n = true := by
  refine ⟨_, if_pos hlock, ((State.onlyRegs.refl s _).putBit _ _ _ (by decide)).raiseBit _ _ (by decide), ?_,
    State.bit_raiseBit_self _ _ _ (by decide) n.isLt⟩
  rw [State.raiseBit, State.bit_setF_apart _ _ _ _ _ (by decide) (by decide),
    State.bit_putBit_self _ _ _ _ (by decide) n.isLt]

/-- The registers after an unlock: a lock bit of `CLK_STAT` cleared and its event set. -/
theorem State.unlock_onlyRegs (s : State) {lock evt : Fld} (hlock : lock.addr = A.CLK_STAT) (hevt : evt.addr = A.CLK_EVT) :
    s.onlyRegs ((s.setF lock 0).raise evt) [A.CLK_STAT, A.CLK_EVT] :=
  ((State.onlyRegs.refl s _).setF _ _ (by simp [hlock])).raise _ (by simp [hevt])

theorem State.getF_unlock (s : State) {lock evt : Fld} (hlock : lock.addr = A.CLK_STAT) (hevt : evt.addr = A.CLK_EVT)
    (hl : lock.lo + lock.width ≤ 32) (he : evt.lo + evt.width ≤ 32) (h1 : 0 < evt.width) :
    ((s.setF lock 0).raise evt).getF lock = 0 ∧ ((s.setF lock 0).raise evt).getF evt = 1 := by
  have hapart : evt.apart lock = true := by rw [Fld.apart, hlock, hevt]; rfl
  refine ⟨?_, State.getF_raise_self _ _ he h1⟩
  rw [State.raise, State.getF_setF_apart _ _ _ _ hapart hl, State.getF_setF_self _ _ _ hl, Nat.zero_mod]

/-- The lamps' part of a lost VPLL: a soft blank at the next line boundary where a slot runs. -/
theorem vpllUnlock_blanks (s : State) (hlock : s.flag F.CLK_STAT_VID_LOCK = true) :
    ∃ t, exec .vpllUnlock s = .next t ∧ t = { s with regs := t.regs, lmp := t.lmp } ∧
      s.regsKept t [A.CLK_STAT, A.CLK_EVT] ∧ t.getF F.CLK_STAT_VID_LOCK = 0 ∧ t.getF F.CLK_EVT_VID_UNLOCK = 1 ∧
      t.lmp = { s.lmp with vidDark := true, softPend := s.lmp.slot.isSome } := by
  obtain ⟨hstat, hevt⟩ := s.getF_unlock (lock := F.CLK_STAT_VID_LOCK) (evt := F.CLK_EVT_VID_UNLOCK) rfl rfl (by decide)
    (by decide) (by decide)
  exact ⟨_, if_pos hlock, rfl, (s.unlock_onlyRegs rfl rfl).2, hstat, hevt, rfl⟩

theorem vpllRelock_relights (s : State) (hrun : s.running = true) :
    ∃ t, exec .vpllRelock s = .next t ∧ t = { s with regs := t.regs, lmp := t.lmp } ∧ s.regsKept t [A.CLK_STAT] ∧
      t.getF F.CLK_STAT_VID_LOCK = 1 ∧ t.lmp = { s.lmp with vidDark := false } :=
  ⟨_, if_pos hrun, rfl, (State.regsKept.refl s _).raise F.CLK_STAT_VID_LOCK (by decide),
    s.getF_raise_self F.CLK_STAT_VID_LOCK (by decide) (by decide), rfl⟩

theorem State.failHead_tile {s : State} (cause : Nat) (h : s.isHead = false) : s.failHead cause = s := if_pos (by simp [h])

/-- On a Tile nothing depends on the MPLL but its own bits. -/
theorem mpllUnlock_tile (s : State) (htile : s.isHead = false) (hlock : s.flag F.CLK_STAT_MEM_LOCK = true) :
    ∃ t, exec .mpllUnlock s = .next t ∧ s.onlyRegs t [A.CLK_STAT, A.CLK_EVT] ∧
      t.getF F.CLK_STAT_MEM_LOCK = 0 ∧ t.getF F.CLK_EVT_MEM_UNLOCK = 1 := by
  have honly := s.unlock_onlyRegs (lock := F.CLK_STAT_MEM_LOCK) (evt := F.CLK_EVT_MEM_UNLOCK) rfl rfl
  have hstill : ((s.setF F.CLK_STAT_MEM_LOCK 0).raise F.CLK_EVT_MEM_UNLOCK).isHead = false := by
    rw [State.isHead, honly.2.flag_eq F.SUP_STAT_ROLE (by decide), honly.2.flag_eq F.BOOT_STAT_ROLE_PLAN (by decide)]
    exact htile
  refine ⟨(s.setF F.CLK_STAT_MEM_LOCK 0).raise F.CLK_EVT_MEM_UNLOCK, ?_, honly,
    s.getF_unlock rfl rfl (by decide) (by decide) (by decide)⟩
  exact (if_pos hlock).trans (congrArg Host.Outcome.next (State.failHead_tile 1 hstill))

/-! ### The statement -/

/-- Settles O14: a clause for each command of the start and of a PLL. -/
theorem clocksStartAndAreLost : Obligations.ClocksStartAndAreLost := by
  unfold Obligations.ClocksStartAndAreLost
  exact ⟨syspllLock_starts, syspllLockTimeout_waits, refclkRetry_tries, portPllUnlock_shown, vpllUnlock_blanks,
    vpllRelock_relights, mpllUnlock_tile⟩

end Sys2Proof.Machine
end

section
/-!
PROOFS. What a step leaves of the fuse array and the key array (chapter 04, R58): every command but four leaves them, with the
queue and the time, as they were; the four that may blow a fuse only add to what is blown.
-/

namespace Sys2Proof.Machine

/-! ### What the outcome of a command has kept -/

/-- The queue, the time, the fuse array and the key array of the next state; nothing where there is none. -/
def keptOf : Res → Option (List Instr × Nat × Fuses × KeyArray)
  | .next t => some t.kept
  | _ => none

@[simp] theorem keptOf_next (t : State) : keptOf (.next t) = some t.kept := rfl

@[simp] theorem keptOf_ite (c : Prop) [Decidable c] (a b : Res) :
    keptOf (if c then a else b) = if c then keptOf a else keptOf b := by
  split <;> rfl

section
variable {s : State} {who : Initiator} {a : Nat} {f : State → State}

/-- A command that is a register access keeps what the access keeps. -/
theorem keptOf_guarded (hf : ∀ t : State, (f t).kept = t.kept) : keptOf (.next (s.guarded who a f)) = some s.kept :=
  congrArg some (s.guarded_kept who a f hf)

theorem keptOf_mbxGuard {write : Bool} {w : Word} (hf : ∀ t : State, (f t).kept = t.kept) :
    keptOf (.next (s.mbxGuard who write a w f)) = some s.kept :=
  congrArg some (s.mbxGuard_kept who write a w f hf)

end

/-! ### Commands whose effect turns on what the state holds -/

theorem execSvcPllUnlock_keeps (s : State) : keptOf (execSvcPllUnlock s) = some s.kept := by
  unfold execSvcPllUnlock
  split
  · extract_lets s1
    have h1 : s1.kept = s.kept := by simp [s1]
    split <;> simp [h1]
  · simp

theorem execShutterEdge_keeps (j : Fin 2) (level : Bool) (s : State) :
    keptOf (execShutterEdge j level s) = some s.kept := by
  simp only [execShutterEdge]
  split
  · simp
  · split
    · simp
    · split <;> simp

theorem execProbeStep_keeps (windowLeft preloadIn : Nat) (blanked : Bool) (samples : List LampSample) (s : State) :
    keptOf (execProbeStep windowLeft preloadIn blanked samples s) = some s.kept := by
  unfold execProbeStep
  extract_lets line active s1
  have h1 : s1.kept = s.kept := by simp [s1]
  split
  · simp
  · split
    · simp [h1]
    · extract_lets targets s0 s2 l s3 c s4
      have h2 : s2.kept = s.kept := by simp [s2, s0, h1]
      have h4 : s4.kept = s.kept := by simp [s4, s3, h2]
      split
      · simp [h2]
      · split <;> simp [h4]

theorem execManagementFrame_keeps (frame : Option SessionFrame) (op : MgmtOp) (s : State) :
    keptOf (execManagementFrame frame op s) = some s.kept := by
  unfold execManagementFrame
  split
  · simp
  · split
    · simp
    · split <;> simp

theorem execUpdateNeedTimer_keeps (s : State) : keptOf (execUpdateNeedTimer s) = some s.kept := by
  unfold execUpdateNeedTimer
  split
  · split
    · split <;> simp
    · simp
  · simp

theorem execGraceExpiry_keeps (s : State) : keptOf (execGraceExpiry s) = some s.kept := by
  unfold execGraceExpiry
  split
  · simp
  · simp [-State.getF_mk]

theorem execIlkInChange_keeps (outBall low : Bool) (s : State) :
    keptOf (execIlkInChange outBall low s) = some s.kept := by
  unfold execIlkInChange
  extract_lets p s1 s2
  have h1 : s1.kept = s.kept := by simp [s1]
  have h2 : s2.kept = s.kept := by simp [s2, h1]
  simp [h1, h2]

/-! ### Every command -/

/-- The commands that may blow a fuse: the start and the Tile's position, which may go on with a confirmation (R404), a lifecycle
command (R383) and the row that completes a confirmation (R403). -/
def blowsFuses : Instr → Bool
  | .firmwareAndPlanLoad _ | .positionSectionLoaded | .lifecycleCommand .. | .sumpRowWritten _ => true
  | _ => false

/-- Any other command leaves the queue, the time, the fuse array and the key array: its operations do, chapter by chapter
(Laws/Kept). -/
theorem exec_keeps {c : Instr} (h : blowsFuses c = false) (s : State) : keptOf (exec c s) = some s.kept := by
  cases c with
  | registerWrite | coreMemoryAccess => simp [exec, execRegisterWrite, execCoreMemoryAccess]
  | svcPllUnlock => exact execSvcPllUnlock_keeps ..
  | supplyLeavesRange | supplyReturns | porstNLow | porstNHigh | ckeepLow | powerOnResetEnd | syspllLock |
    syspllLockTimeout | refclkRetry | syspllUnlock | mpllUnlock | portPllUnlock | vpllUnlock | vpllRelock =>
    simp [exec, execSupplyLeavesRange, execSupplyReturns, execPorstNLow, execPorstNHigh, execCkeepLow,
      execPowerOnResetEnd, execSyspllLock, execSyspllLockTimeout, execRefclkRetry, execSyspllUnlock, execMpllUnlock,
      execPortPllUnlock, execVpllUnlock, execVpllRelock]
  | watchdogKick => exact keptOf_guarded fun t => t.rstWdtWrite_kept ..
  | deviceResetRequest | coreResetRequest => exact keptOf_guarded fun t => t.rstCtlWrite_kept ..
  | watchdogExpiry | testReset => simp [exec, execWatchdogExpiry, execTestReset]
  | recoverHoldExpiry =>
    simp only [exec, execRecoverHoldExpiry]
    split <;> simp
  | commitRequest | commitCancel | commitRevert => exact keptOf_guarded fun t => t.cfgCommitWrite_kept ..
  | fuseSensingDone | sumpFillDone | memoryBringUp | memoryHoldRetry | startGraceExpiry | imageBoundary =>
    simp [exec, execFuseSensingDone, execSumpFillDone, execMemoryBringUp, execMemoryHoldRetry, execStartGraceExpiry,
      execImageBoundary]
  | laneStop | laneStart => exact keptOf_guarded fun t => t.laneCtlWrite_kept ..
  | laneSignalDetect | laneCdrLock | laneCommaAlign | laneQualified | codeViolation | laneSignalLost |
    misalignedComma | dpAuxTransaction | svcLinkUp | svcFrameReceived =>
    simp [exec, execLaneSignalDetect, execLaneCdrLock, execLaneCommaAlign, execLaneQualified, execCodeViolation,
      execLaneSignalLost, execMisalignedComma, execDpAuxTransaction, execSvcLinkUp, execSvcFrameReceived]
  | markerReceived =>
    simp only [exec, execMarkerReceived]
    split <;> simp
  | txPacketLate =>
    simp only [exec, execTxPacketLate]
    split
    · simp
    · split <;> simp
  | laneMarkerDue | packetStartReceived | packetReceived | scheduledPacketDue | upstreamWindow | enumPeriod |
    enumReceived | joinPeriod | joinReceived | assignReceived | conflictQuietExpiry | statusPeriod | statusReceived |
    statusTimeout | recoveryProbeStart | recoveryProbeEnd | ctrlReceived | announceReceived | mgmtRelayed =>
    simp [exec, execLaneMarkerDue, execPacketStartReceived, execPacketReceived, execScheduledPacketDue,
      execUpstreamWindow, execEnumPeriod, execEnumReceived, execJoinPeriod, execJoinReceived, execAssignReceived,
      execConflictQuietExpiry, execStatusPeriod, execStatusReceived, execStatusTimeout, execRecoveryProbeStart,
      execRecoveryProbeEnd, execCtrlReceived, execAnnounceReceived, execMgmtRelayed]
  | storeComplete =>
    simp only [exec, execStoreComplete]
    split <;> simp
  | captureStop | captureStart => exact keptOf_guarded fun t => t.ingCtlWrite_kept ..
  | shutterEdge => exact execShutterEdge_keeps ..
  | sourceFrameStart | genlockInstantMissing | shutterLost | readUnderrun | memSelfRefreshEntry =>
    simp [exec, execSourceFrameStart, execGenlockInstantMissing, execShutterLost, execReadUnderrun,
      execMemSelfRefreshEntry]
  | bufferRetire | memSelfRefreshExit | layerHoldExpiry =>
    simp only [exec, execBufferRetire, execMemSelfRefreshExit, execLayerHoldExpiry]
    split <;> simp
  | genlockInstant =>
    simp only [exec, execGenlockInstant]
    split
    · simp
    · split <;> simp
  | coefWrite => exact keptOf_guarded fun t => t.coefPut_kept ..
  | compStop | compStart | flowReq => exact keptOf_guarded fun t => t.cmpCtlWrite_kept ..
  | flowSettleExpiry | flowRebuildDone | geodeCommand | geodeRelayReceived | ownBufferComplete =>
    simp [exec, execFlowSettleExpiry, execFlowRebuildDone, execGeodeCommand, execGeodeRelayReceived,
      execOwnBufferComplete]
  | sliceDecoded | encodeJobReady | encodeJobDone | encodeJobSkip | lineStart | slotEnd =>
    simp only [exec, execSliceDecoded, execEncodeJobReady, execEncodeJobDone, execEncodeJobSkip, execLineStart,
      execSlotEnd]
    split <;> simp
  | lampStop | lampStart | hardBlankRequest | hardBlankClear => exact keptOf_guarded fun t => t.lmpCtlWrite_kept ..
  | slotPreloadStart | irefMeasurement | lampUnmeasuredTimeout =>
    simp [exec, execSlotPreloadStart, execIrefMeasurement, execLampUnmeasuredTimeout]
  | faultMapClear => exact keptOf_guarded State.fmapClear_kept
  | probeRequest => exact keptOf_guarded fun t => t.probeRequest_kept ..
  | probeStep => exact execProbeStep_keeps ..
  | matrixAddressWrite => exact keptOf_guarded fun t => t.maddrWrite_kept ..
  | matrixWordWrite => exact keptOf_guarded fun t => t.mdataWrite_kept ..
  | bankSeal => exact keptOf_guarded fun t => t.sealBank_kept ..
  | factorySetLoad => exact keptOf_guarded fun t => t.loadSet_kept ..
  | probePeriodExpiry | bankSealDone | factorySetLoadDone =>
    simp [exec, execProbePeriodExpiry, execBankSealDone, execFactorySetLoadDone]
  | railClearFault | railStop | railStart | rcClr => exact keptOf_guarded fun t => t.railCtlWrite_kept ..
  | traceArm | traceForce => exact keptOf_guarded fun t => t.railTctlWrite_kept ..
  | railTurn | phaseCurrentLimit | auxpwmPeriodEnd | auxLost | headroomValue | headroomDarkTimeout |
    followingErrorTrip | railFaultRetry | railRetriesReset =>
    simp [exec, execRailTurn, execPhaseCurrentLimit, execAuxpwmPeriodEnd, execAuxLost, execHeadroomValue,
      execHeadroomDarkTimeout, execFollowingErrorTrip, execRailFaultRetry, execRailRetriesReset]
  | traceDataRead =>
    simp only [exec, execTraceDataRead]
    split <;> simp
  | timeCapture => exact keptOf_guarded State.timeCapture_kept
  | timeBaseWrap | dreqPeriod | dreqReceived | drespReceived | drespTimeout | syncReceived | syncSourceTimeout |
    frameBoundary | settleExpiry | ptpMessageReceived | ptpAnnounceTimeout =>
    simp [exec, execTimeBaseWrap, execDreqPeriod, execDreqReceived, execDrespReceived, execDrespTimeout,
      execSyncReceived, execSyncSourceTimeout, execFrameBoundary, execSettleExpiry, execPtpMessageReceived,
      execPtpAnnounceTimeout]
  | ilkClaimSettle =>
    simp only [exec, execIlkClaimSettle]
    split <;> simp
  | fwAlive | failRequest | yieldRequest => exact keptOf_guarded fun t => t.redCtlWrite_kept ..
  | heartPeriod | heartReceived | peerMissTimeout | verdictPeriod | verdictReceived | wardenMissTimeout |
    ilkLeaseExpiry | refclkStopDetected | ilkOrphanExpiry | fwAliveTimeout | yieldExpiry | copyPeriod | copyTimeout |
    holdExpiry =>
    simp [exec, execHeartPeriod, execHeartReceived, execPeerMissTimeout, execVerdictPeriod, execVerdictReceived,
      execWardenMissTimeout, execIlkLeaseExpiry, execRefclkStopDetected, execIlkOrphanExpiry, execFwAliveTimeout,
      execYieldExpiry, execCopyPeriod, execCopyTimeout, execHoldExpiry]
  | epochDiffTimeout =>
    simp only [exec, execEpochDiffTimeout]
    split <;> simp
  | copyPartReceived =>
    simp only [exec, execCopyPartReceived]
    split
    · simp
    · split <;> simp
  | mailboxDataWrite => exact keptOf_mbxGuard fun t => t.mbxPost_kept ..
  | mailboxTake => exact keptOf_mbxGuard fun t => t.mbxTake_kept ..
  | lockRead => exact keptOf_mbxGuard fun t => t.lockRead_kept ..
  | lockRelease | lockForce => exact keptOf_mbxGuard fun t => t.lockWrite_kept ..
  | doorbellRing => exact keptOf_mbxGuard fun t => t.bellRing_kept ..
  | doorbellClear => exact keptOf_mbxGuard fun t => t.bellClear_kept ..
  | lockTimeout => simp [exec, execLockTimeout]
  | rekeyRequest => exact keptOf_guarded State.rekeyStart_kept
  | managementFrame => exact execManagementFrame_keeps ..
  | keyZeroise => exact keptOf_guarded State.zeroise_kept
  | entropyRetry | keyxReceived | keyxStepTimeout | rekeyTimer | keyLostDetect | sessionSetup =>
    simp [exec, execEntropyRetry, execKeyxReceived, execKeyxStepTimeout, execRekeyTimer, execKeyLostDetect,
      execSessionSetup]
  | debugUnlock | blockProgrammed =>
    simp only [exec, execDebugUnlock, execBlockProgrammed]
    split <;> simp
  | updateNeedTimer => exact execUpdateNeedTimer_keeps ..
  | updateConfirm => exact keptOf_guarded State.confirm_kept
  | updateFallback => exact keptOf_guarded State.fallBackAsked_kept
  | updateManifestReceived | spareEraseDone | updateDataReceived | updatePrepareExpiry | updateNeedReceived |
    spareVerify | updateActivate | updateAbort | confirmTimeout =>
    simp [exec, execUpdateManifestReceived, execSpareEraseDone, execUpdateDataReceived, execUpdatePrepareExpiry,
      execUpdateNeedReceived, execSpareVerify, execUpdateActivate, execUpdateAbort, execConfirmTimeout]
  | spareVerifyDone =>
    simp only [exec, execSpareVerifyDone]
    split <;> simp
  | recordWrite => exact keptOf_guarded fun t => t.recordWrite_kept ..
  | faultPost => exact keptOf_guarded fun t => t.faultPost_kept ..
  | sensorMeasureRequest => exact keptOf_guarded fun t => t.thmCtlWrite_kept ..
  | graceExpiry => exact execGraceExpiry_keeps ..
  | sensorConversionStart | sensorConversionDone | sensorTimeout | demandRecoverStep | tripHoldExpiry =>
    simp [exec, execSensorConversionStart, execSensorConversionDone, execSensorTimeout, execDemandRecoverStep,
      execTripHoldExpiry]
  | faultDrain =>
    simp only [exec, execFaultDrain]
    split <;> simp
  | ilkInChange => exact execIlkInChange_keeps ..
  | cdrFrequencyLockLost | dpAlignmentLost | ckeepCharged =>
    simp [exec, execCdrFrequencyLockLost, execDpAlignmentLost, execCkeepCharged]
  | activationWriteDone =>
    simp only [exec, execActivationWriteDone]
    split <;> simp
  | firmwareAndPlanLoad | positionSectionLoaded | lifecycleCommand | sumpRowWritten =>
    exact absurd h (by simp [blowsFuses])

/-! ### Commands that may blow a fuse -/

theorem State.Grows.of_keptOf {s : State} {r : Res} (h : keptOf r = some s.kept) : ∃ t, r = .next t ∧ s.Grows t := by
  cases r with
  | next t => exact ⟨t, rfl, .of_kept (Option.some.inj h)⟩
  | fault | refused => exact absurd h (by simp [keptOf])

section
variable (s : State)

theorem execFirmwareAndPlanLoad_grows (fitted : Option Nvm) :
    ∃ t, execFirmwareAndPlanLoad fitted s = .next t ∧ s.Grows t := by
  unfold execFirmwareAndPlanLoad
  split
  · extract_lets s1
    have h1 : s.Grows s1 := .of_kept (by cases fitted <;> rfl)
    exact ⟨_, rfl, .ite (fun _ => h1.trans s1.startBanks_grows) (fun _ => h1.trans (.of_kept (s1.bootStop_kept _)))⟩
  · exact ⟨s, rfl, .refl s⟩

theorem execPositionSectionLoaded_grows : ∃ t, execPositionSectionLoaded s = .next t ∧ s.Grows t := by
  unfold execPositionSectionLoaded
  split
  · exact ⟨_, rfl, s.positionTake_grows⟩
  · exact ⟨s, rfl, .refl s⟩

theorem execLifecycleCommand_grows (bit : Fin 3) (c : SignedCmd) :
    ∃ t, execLifecycleCommand bit c s = .next t ∧ s.Grows t := by
  unfold execLifecycleCommand
  split
  · exact ⟨_, rfl, s.blowLife_grows _ _⟩
  · exact ⟨s, rfl, .refl s⟩

theorem execSumpRowWritten_grows (ckeepMv : Nat) : ∃ t, execSumpRowWritten ckeepMv s = .next t ∧ s.Grows t :=
  ⟨_, rfl, (State.Grows.of_kept (s.rowWritten_kept ckeepMv)).when State.confirmed_grows⟩

/-- Every command answers a next state in which no fuse is unblown. -/
theorem exec_grows (c : Instr) : ∃ t, exec c s = .next t ∧ s.Grows t := by
  cases hc : blowsFuses c with
  | false => exact State.Grows.of_keptOf (exec_keeps hc s)
  | true =>
    cases c with
    | firmwareAndPlanLoad fitted => exact execFirmwareAndPlanLoad_grows s fitted
    | positionSectionLoaded => exact execPositionSectionLoaded_grows s
    | lifecycleCommand bit c => exact execLifecycleCommand_grows s bit c
    | sumpRowWritten mv => exact execSumpRowWritten_grows s mv
    | _ => exact absurd hc (by simp [blowsFuses])

/-! ### The passing of time -/

theorem State.tick_kept : s.tick.kept = (s.pending, s.now + 1, s.fuses, s.kar) := by
  unfold State.tick
  simp

end

/-! ### The statement -/

/-- Settles O5: a waiting command grows the fuse array of the state with the queue's rest, and a tick changes the time alone. -/
theorem everyStepKeepsBlownFuses : Obligations.EveryStepKeepsBlownFuses := by
  unfold Obligations.EveryStepKeepsBlownFuses
  intro s t hstep
  unfold step at hstep
  split at hstep
  · obtain rfl := Host.Outcome.next.inj hstep
    have htick := s.tick_kept
    simp only [State.kept, Prod.mk.injEq] at htick
    obtain ⟨-, -, hfuses, hkar⟩ := htick
    exact ⟨hfuses ▸ Fuses.within_refl _, hkar⟩
  · next c rest _ =>
    obtain ⟨u, hexec, -, -, hkar, hfuses⟩ := exec_grows { s with pending := rest } c
    obtain rfl := Host.Outcome.next.inj (hexec.symm.trans hstep)
    exact ⟨hfuses, hkar⟩

end Sys2Proof.Machine
end

section
/-!
PROOFS. A write to an idle-only field of a block that is not idle (chapter 04, R75, R76, R86): what the rates' shared storage
leaves of the register written (R88), and what the report of the write leaves.
-/

namespace Sys2Proof.Machine

/-! ### The rates' shared storage (R88) -/

section
variable {s : State} {n r : Nat}

/-- A field that gets the value it holds leaves its register. -/
theorem State.getW_setF_same {f : Fld} (h : s.getF f = r) : (s.setF f r).getW f.addr = s.getW f.addr := by
  rw [State.getW_setF_self, ← h]
  exact f.put_of_self _

/-- A register that keeps its word under each update of a list keeps it under all of them. -/
theorem State.getW_forEach_same {α : Type} {a : Nat} {w : Word} {l : List α} {f : α → State → State} (hs : s.getW a = w)
    (hf : ∀ x ∈ l, ∀ t : State, t.getW a = w → (f x t).getW a = w) : (s.forEach l f).getW a = w := by
  induction l generalizing s with
  | nil => exact hs
  | cons x l ih =>
    exact ih (hf x (by simp) s hs) fun y hy => hf y (by simp [hy])

/-- A lane's register keeps its word where its port takes the lane's own rate. -/
theorem State.getW_setPortRate_lane {m : Nat} (hm : m < 32) (h : s.getF (F.LAN_CFG_RATE m) = r) :
    (s.setPortRate n r).getW (A.LAN_CFG m) = s.getW (A.LAN_CFG m) := by
  have hport : A.LAN_CFG m ≠ (F.LNK_PCFG_RATE n).addr := by
    simp only [A.LAN_CFG, F.LNK_PCFG_RATE]; omega
  refine State.getW_forEach_same (s.getW_setF_ne _ _ hport) fun k _ t ht => ?_
  by_cases hk : 4 * n + k = m
  · subst hk
    exact (State.getW_setF_same (by rw [State.getF, ← h]; exact congrArg (F.LAN_CFG_RATE _).of ht)).trans ht
  · rw [t.getW_setF_ne _ _ (by simp only [A.LAN_CFG, F.LAN_CFG_RATE]; omega), ht]

/-- A port's register keeps its word where the port takes its own rate. -/
theorem State.getW_setPortRate_port (hn : n < 8) (h : s.getF (F.LNK_PCFG_RATE n) = r) :
    (s.setPortRate n r).getW (A.LNK_PCFG n) = s.getW (A.LNK_PCFG n) := by
  refine State.getW_forEach_same (State.getW_setF_same h) fun k hk t ht => ?_
  have hk4 : k < 4 := by simp at hk; omega
  rw [t.getW_setF_ne _ _ (by simp only [A.LNK_PCFG, F.LAN_CFG_RATE]; omega), ht]

end

/-! ### What follows a write by the access codes -/

/-- What follows a write leaves the register that was written. -/
theorem State.getW_afterWrite_self (s old : State) {a : Nat} (hlog : a ≠ A.DEC_ERRLOG) :
    (s.afterWrite old a).getW a = s.getW a := by
  unfold State.afterWrite
  split
  · next m hrun =>
    obtain ⟨hm, rfl⟩ := runIndex_eq_some hrun
    exact State.getW_setPortRate_lane hm rfl
  · split
    · next n hrun =>
      obtain ⟨hn, rfl⟩ := runIndex_eq_some hrun
      exact State.getW_setPortRate_port hn rfl
    · split
      · split <;> rfl
      · simp [hlog]

theorem State.afterWrite_bus (s old : State) (a : Nat) : (s.afterWrite old a).bus = s.bus := by
  have hrate (n r : Nat) : (s.setPortRate n r).bus = s.bus := State.forEach_same _ State.bus _ fun _ _ => rfl
  unfold State.afterWrite
  split
  · exact hrate _ _
  · split
    · exact hrate _ _
    · split <;> split <;> rfl

/-- Outside the rates and a receiver's configuration nothing follows the write. -/
theorem State.afterWrite_of_no_run (s old : State) {a : Nat} (hlan : runIndex (A.LAN_CFG 0) 4 32 a = none)
    (hlnk : runIndex (A.LNK_PCFG 0) 4 8 a = none) (hing : runIndex (A.ING_SCFG 0) 4 4 a = none) (hlog : a ≠ A.DEC_ERRLOG) :
    s.afterWrite old a = s := by
  simp [State.afterWrite, hlan, hlnk, hing, hlog]

/-! ### The report of a write to a block that is not idle (R86) -/

/-- The index under which a block is reported: both halves of the correction's registers are block 17. -/
def reportedBlock (a : Nat) : Nat := if blockOf a = 18 then 17 else blockOf a

section
variable {s : State} {who : Initiator} {a : Nat} {r : RegSpec}

theorem reportedBlock_lt (h : writeDenied who a = false) : reportedBlock a < 256 := by
  have hb : blockOf a < 26 := by
    by_contra hge
    simp [writeDenied, Nat.le_of_not_lt hge] at h
  unfold reportedBlock
  split <;> omega

theorem State.busyWrite_reports (s : State) {b : Nat} (hb : b < 256) :
    (s.busyWrite b).getF F.CFG_EVT_BUSYWR = 1 ∧ (s.busyWrite b).getF F.CFG_STAT_BUSY_BLK = b := by
  constructor
  · exact (State.getF_setF_apart _ _ _ _ (by decide) (by decide)).trans (s.getF_raise_self _ (by decide) (by decide))
  · exact (State.getF_setF_self _ _ _ (by decide)).trans (Nat.mod_eq_of_lt hb)

theorem State.busyWrite_onlyRegs (s : State) (b : Nat) : s.onlyRegs (s.busyWrite b) [A.CFG_STAT, A.CFG_EVT] :=
  ((State.onlyRegs.refl s _).raise _ (by decide)).setF _ _ (by decide)

/-- Neither the registers of the report nor the error log hold an idle-only field. -/
theorem ne_of_idle_ne_zero (h : specOf a = some r) (hidle : r.idle ≠ 0) :
    a ≠ A.CFG_STAT ∧ a ≠ A.CFG_EVT ∧ a ≠ A.DEC_ERRLOG := by
  have hfree (b : Nat) (hb : (specOf b).map RegSpec.idle = some 0) : a ≠ b := by
    rintro rfl
    exact hidle (by simpa [h] using hb)
  exact ⟨hfree _ (by decide), hfree _ (by decide), hfree _ (by decide)⟩

theorem State.idle_ne_zero_of_closedAt (h : s.closedAt r a ≠ 0) : r.idle ≠ 0 := fun hidle => h (if_pos hidle)

/-- The register after a write that leaves the closed bits. -/
def State.closedWrite (s : State) (r : RegSpec) (a : Nat) (w : Word) : State :=
  s.setW a (r.after (r.openBits s.released a (s.closedAt r a)) (s.getW a) w)

/-- A write to a register with closed bits is followed by its report. -/
theorem State.codeWrite_of_closed (w : Word) (h : specOf a = some r) (hc : s.closedAt r a ≠ 0) :
    s.codeWrite a w = ((s.closedWrite r a w).afterWrite s a).busyWrite (reportedBlock a) := by
  have hne : (s.closedAt r a != 0) = true := bne_iff_ne.2 hc
  simp only [State.codeWrite, h, hne]
  rfl

/-- A closed bit stays unless it is W1C and written 1. -/
theorem State.getLsbD_closedWrite (w : Word) {i : Nat} (hi : i < 32) (hc : (s.closedAt r a).getLsbD i = true) :
    ((s.closedWrite r a w).getW a).getLsbD i = ((s.getW a).getLsbD i && !(w.getLsbD i && r.w1c.testBit i)) := by
  have hshut : (r.openBits s.released a (s.closedAt r a)).getLsbD i = false := by
    rw [RegSpec.getLsbD_openBits _ _ _ _ hi, hc]
    simp
  rw [State.closedWrite, State.getW_setW_self, RegSpec.getLsbD_after _ _ _ _ hi, hshut]
  rfl

end

/-! ### The statement -/

/-- Settles O10: the write goes by the access codes with the idle-only bits closed, what follows it leaves its register, and the
report takes `CFG_STAT` and `CFG_EVT` alone. -/
theorem idleOnlyBitsStayWhileBlockRuns : Obligations.IdleOnlyBitsStayWhileBlockRuns := by
  unfold Obligations.IdleOnlyBitsStayWhileBlockRuns
  intro who a v r s hm hr ha hmbx hstage hspec hctl hclosed
  obtain ⟨hstat, hevt, hlog⟩ := ne_of_idle_ne_zero hspec (State.idle_ne_zero_of_closedAt hclosed)
  refine ⟨_, exec_registerWrite_of_mayWrite v hm hr ha hmbx, ?_⟩
  rw [State.regWrite_eq_codeWrite _ who v hstage hctl hmbx, State.codeWrite_of_closed (s := s.busOk 0) v hspec hclosed]
  obtain ⟨hreport, hindex⟩ := State.busyWrite_reports (((s.busOk 0).closedWrite r a.toNat v).afterWrite (s.busOk 0) a.toNat)
    (reportedBlock_lt hm.2.1)
  refine ⟨State.afterWrite_bus _ _ _, fun i hi hc => ?_, hreport, hindex, fun hlan hlnk hing => ?_⟩
  · rw [(State.busyWrite_onlyRegs _ _).2 _ (by simp [hstat, hevt]), State.getW_afterWrite_self _ _ hlog]
    exact State.getLsbD_closedWrite (s := s.busOk 0) v hi hc
  · rw [State.afterWrite_of_no_run _ _ hlan hlnk hing hlog]
    exact (((State.onlyBus.ok s _ 0).setW _ _ (by simp)).raise F.CFG_EVT_BUSYWR (by simp [A.CFG_EVT, F.CFG_EVT_BUSYWR])).setF
      F.CFG_STAT_BUSY_BLK _ (by simp [A.CFG_STAT, F.CFG_STAT_BUSY_BLK])

end Sys2Proof.Machine
end

section
/-!
PROOFS. Commit requests (chapter 04): a request judged (R77 to R79, R82, R83, R449), its withdrawal (R81), REVERT and an
ambiguous write of `CFG_COMMIT` (R81).
-/

namespace Sys2Proof.Machine

/-! ### The staged registers (R77) -/

section
variable {α β : Type} [DecidableEq α]

/-- The keys that pass a test are the same after an update at a key that fails it. -/
theorem filter_keys_tabDrop {p : Nat → Bool} {k : Nat} (hk : p k = false) (l : List (Nat × β)) :
    ((tabDrop l k).map Prod.fst).filter p = (l.map Prod.fst).filter p := by
  induction l with
  | nil => rfl
  | cons x l ih =>
    obtain ⟨j, v⟩ := x
    by_cases hj : j = k
    · simpa [tabDrop, hj, hk] using ih
    · simp [tabDrop, hj, List.filter_cons, ih]

theorem filter_keys_mapInsert {p : Nat → Bool} {k : Nat} (hk : p k = false) (d : Nat → α) (v : α) (l : List (Nat × α)) :
    ((mapInsert d k v l).map Prod.fst).filter p = (l.map Prod.fst).filter p := by
  induction l with
  | nil => by_cases hv : v = d k <;> simp [mapInsert, hv, hk]
  | cons x l ih =>
    obtain ⟨j, w⟩ := x
    by_cases hj : k < j
    · by_cases hv : v = d k <;> simp [mapInsert, hj, hv, hk]
    · simp [mapInsert, hj, List.filter_cons, ih]

theorem filter_keys_mapPut {p : Nat → Bool} {k : Nat} (hk : p k = false) (d : Nat → α) (v : α) (l : List (Nat × α)) :
    ((mapPut d l k v).map Prod.fst).filter p = (l.map Prod.fst).filter p := by
  rw [mapPut, filter_keys_mapInsert hk, filter_keys_tabDrop hk]

theorem filter_dedup {γ : Type} [DecidableEq γ] (p : γ → Bool) (l : List γ) : l.dedup.filter p = (l.filter p).dedup := by
  induction l with
  | nil => rfl
  | cons x l ih =>
    by_cases hx : x ∈ l
    · rw [List.dedup_cons_of_mem hx, ih]
      by_cases hp : p x = true
      · rw [List.filter_cons_of_pos hp, List.dedup_cons_of_mem (List.mem_filter.2 ⟨hx, hp⟩)]
      · rw [List.filter_cons_of_neg hp]
    · rw [List.dedup_cons_of_notMem hx]
      by_cases hp : p x = true
      · rw [List.filter_cons_of_pos hp, List.filter_cons_of_pos hp, ih,
          List.dedup_cons_of_notMem fun h => hx (List.mem_filter.1 h).1]
      · rw [List.filter_cons_of_neg hp, List.filter_cons_of_neg hp, ih]

end

section
variable (s : State)

theorem State.stagedAddrs_eq : s.stagedAddrs = (((s.regs.map Prod.fst).filter (fun a => rwsMask a != 0)) ++
    ((s.active.map Prod.fst).filter (fun a => rwsMask a != 0))).dedup := by
  rw [State.stagedAddrs, filter_dedup, List.filter_append]

/-- A register without staged fields does not enter into what is staged. -/
theorem State.stagedAddrs_setW {a : Nat} (w : Word) (ha : rwsMask a = 0) : (s.setW a w).stagedAddrs = s.stagedAddrs := by
  rw [State.stagedAddrs_eq, State.stagedAddrs_eq]
  show (((mapPut resetOf s.regs a w).map Prod.fst).filter _ ++ _).dedup = _
  rw [filter_keys_mapPut (by simp [ha])]
  rfl

theorem State.dirtyRegs_setW {a : Nat} (w : Word) (ha : rwsMask a = 0) : (s.setW a w).dirtyRegs = s.dirtyRegs := by
  have hword {b : Nat} (hb : b ∈ s.stagedAddrs) : (s.setW a w).getW b = s.getW b := by
    refine s.getW_setW_ne w ?_
    rintro rfl
    rw [State.stagedAddrs, List.mem_filter] at hb
    simp [ha] at hb
  have hfilter : s.stagedAddrs.filter (fun b => ((s.setW a w).getW b &&& rwsMask b) != ((s.setW a w).actW b &&& rwsMask b)) =
      s.stagedAddrs.filter (fun b => (s.getW b &&& rwsMask b) != (s.actW b &&& rwsMask b)) :=
    List.filter_congr fun b hb => by rw [hword hb]; rfl
  rw [State.dirtyRegs, s.stagedAddrs_setW w ha, hfilter, State.dirtyRegs]
  exact List.map_congr_left fun b hb => by rw [hword (List.mem_of_mem_filter hb)]

theorem mem_dirtyRegs {a : Nat} {w : Word} :
    (a, w) ∈ s.dirtyRegs ↔ a ∈ s.stagedAddrs ∧ s.getW a &&& rwsMask a ≠ s.actW a &&& rwsMask a ∧ s.getW a = w := by
  simp [State.dirtyRegs, and_assoc]

/-- Outside the registers whose staging value differs from the active one, the staged fields hold their active values. -/
theorem State.mixStaged_of_clean {a : Nat} (h : ∀ w, (a, w) ∉ s.dirtyRegs) :
    mixStaged a (s.getW a) (s.actW a) = s.getW a := by
  have hsame : s.getW a &&& rwsMask a = s.actW a &&& rwsMask a := by
    by_contra hdiff
    have hmask : rwsMask a ≠ 0 := fun hzero => hdiff (by simp [hzero])
    by_cases hkey : a ∈ s.stagedAddrs
    · exact h _ ((mem_dirtyRegs s).2 ⟨hkey, hdiff, rfl⟩)
    · rw [State.stagedAddrs, List.mem_filter] at hkey
      simp only [List.mem_dedup, List.mem_append, List.mem_map, bne_iff_ne, ne_eq, hmask, not_false_eq_true, and_true,
        not_or, not_exists, not_and] at hkey
      obtain ⟨hregs, hact⟩ := hkey
      exact hdiff (by rw [State.getW, State.actW, tabGet_absent _ _ _ hregs, tabGet_absent _ _ _ hact])
  rw [mixStaged, ← hsame]
  ext i hi
  cases h : (s.getW a)[i] <;> simp [h]

end

/-! ### What a request is judged by (R79) -/

section
variable {s t : State}

/-- The blocks' checks turn on nothing of `CFG_STAT`. -/
theorem State.onlyBus.refusals_eq (h : s.onlyBus t [A.CFG_STAT]) (vals : List (Nat × Word)) :
    t.refusals vals = s.refusals vals := by
  obtain ⟨hrest, hkept⟩ := h
  have htaps (l b : Nat) : t.vtaps l b = s.vtaps l b := by
    rw [State.vtaps, hkept.getF_eq (F.CMP_COEFCFG_V l b) (by simp [F.CMP_COEFCFG_V, A.CFG_STAT]), State.vtaps]
  have hvalid (b : Bool) : t.flag (validFld b) = s.flag (validFld b) := hkept.flag_eq _ (by cases b <;> decide)
  generalize t.regs = regs at hrest
  generalize t.bus = bus at hrest
  subst hrest
  have hlayer (w : Nat → Word) (l : Nat) :
      State.layerRefusal { s with regs := regs, bus := bus } w l = s.layerRefusal w l := by
    simp only [State.layerRefusal, State.bankSums, htaps]
    rfl
  have hpend : State.pendW { s with regs := regs, bus := bus } vals = s.pendW vals := rfl
  simp only [State.refusals, State.cmpRefusal, hlayer, hpend, State.corrRefuses, hvalid]
  rfl

/-- The blocks that may be named are below 20. -/
theorem State.refusals_lt {vals : List (Nat × Word)} {b : Nat} (h : b ∈ s.refusals vals) : b < 20 := by
  have hone {c : Prop} [Decidable c] {n : Nat} (hn : n < 20) (hb : b ∈ if c then [n] else []) : b < 20 := by
    split at hb
    · simpa [List.mem_singleton.1 hb] using hn
    · simp at hb
  simp only [State.refusals, List.mem_append] at h
  rcases h with ((((h | h) | h) | h) | h) | h <;> exact hone (by decide) h

end

/-! ### Requests -/

/-- The word of a request. -/
def commitGoWord (mode1 : Bool) : Word := F.CFG_COMMIT_MODE.put (F.CFG_COMMIT_GO.put 0 1) mode1.toNat

/-- The state in which a request is judged: the access answered, its source recorded (R83). -/
def State.requested (s : State) (who : Initiator) : State := (s.busOk 0).setB F.CFG_STAT_SRC (who == .service)

section
variable {s : State} {who : Initiator} {mode1 : Bool}

theorem exec_commitRequest (hm : s.mayWrite who A.CFG_COMMIT) :
    exec (.commitRequest who mode1) s = .next ((s.requested who).commitGo mode1) := by
  have hgo : (s.busOk 0).cfgCommitWrite who (commitGoWord mode1) = (s.requested who).commitGo mode1 := by cases mode1 <;> rfl
  exact congrArg Host.Outcome.next ((State.guarded_of_mayWrite _ hm).trans hgo)

theorem State.requested_onlyBus : s.onlyBus (s.requested who) [A.CFG_STAT] :=
  (State.onlyBus.ok s _ 0).setB _ _ (by decide)

theorem State.getF_requested_src : (s.requested who).getF F.CFG_STAT_SRC = (who == .service).toNat := by
  rw [State.requested, State.setB, State.getF_setF_self _ _ _ (by decide)]
  cases who <;> rfl

theorem State.dirtyRegs_requested : (s.requested who).dirtyRegs = s.dirtyRegs :=
  State.dirtyRegs_setW (s.busOk 0) _ (by decide)

theorem State.refusals_requested (vals : List (Nat × Word)) : (s.requested who).refusals vals = s.refusals vals :=
  State.requested_onlyBus.refusals_eq vals

theorem State.getW_requested_target : (s.requested who).getW A.CFG_TARGET = s.getW A.CFG_TARGET :=
  State.requested_onlyBus.2 _ (by decide)

theorem State.released_requested : (s.requested who).released = s.released :=
  State.requested_onlyBus.2.flag_eq F.BOOT_STAT_RELEASED (by decide)

theorem State.isHead_requested : (s.requested who).isHead = s.isHead := by
  rw [State.isHead, State.requested_onlyBus.2.flag_eq F.SUP_STAT_ROLE (by decide),
    State.requested_onlyBus.2.flag_eq F.BOOT_STAT_ROLE_PLAN (by decide), State.isHead]

/-- The target of a request (R78). -/
def State.commitTarget (s : State) (mode1 : Bool) : Option Word := if mode1 then some (s.getW A.CFG_TARGET) else none

/-- A request of a paired Head in MODE 0 for a block of the composition path (R449). -/
def State.commitUnpaired (s : State) (mode1 : Bool) : Bool :=
  s.isHead && s.plan.wall.pairId != 0 && !mode1 && touches s.dirtyRegs [10, 11, 12, 14]

/-- What a request that is accepted makes pending (R77). -/
def State.commitPending (s : State) (mode1 : Bool) : PendingCommit :=
  { vals := s.dirtyRegs, target := s.commitTarget mode1, latched := s.now, deferred := mode1 && s.tim.image.isNone }

/-- A request accepted: what it staged is pending, with RESULT 8 (R77). -/
def State.commitLatch (s : State) (p : PendingCommit) : State :=
  (({ s with cfg := { s.cfg with pending := some p } }).raise F.CFG_STAT_PENDING).setF F.CFG_STAT_RESULT 8

/-- The judgement of a request, in the order of its checks. -/
theorem State.commitGo_requested : (s.requested who).commitGo mode1 =
    if s.released = false then (s.requested who).commitRefuse 6
    else if s.cfg.pending.isSome then (s.requested who).commitRefuse 4
    else if s.lateNow (s.commitTarget mode1) then (s.requested who).commitRefuse 3
    else if s.commitUnpaired mode1 then (s.requested who).commitRefuse 5
    else match s.refusals s.dirtyRegs with
      | b :: _ => (s.requested who).commitBad s.dirtyRegs b
      | [] => (s.requested who).commitLatch (s.commitPending mode1) := by
  simp only [State.commitGo, State.released_requested, State.isHead_requested, State.dirtyRegs_requested,
    State.getW_requested_target, State.refusals_requested, Bool.not_eq_true']
  rfl

/-! Each outcome of the judgement. -/

theorem State.commitGo_unreleased (hrel : s.released = false) :
    (s.requested who).commitGo mode1 = (s.requested who).commitRefuse 6 := by
  simp [State.commitGo_requested, hrel]

section
variable (hrel : s.released = true)
include hrel

theorem State.commitGo_pending (hp : s.cfg.pending ≠ none) :
    (s.requested who).commitGo mode1 = (s.requested who).commitRefuse 4 := by
  simp [State.commitGo_requested, hrel, Option.isSome_iff_ne_none.2 hp]

variable (hp : s.cfg.pending = none)
include hp

theorem State.commitGo_late (hlate : s.lateNow (s.commitTarget mode1) = true) :
    (s.requested who).commitGo mode1 = (s.requested who).commitRefuse 3 := by
  simp [State.commitGo_requested, hrel, hp, hlate]

variable (hlate : s.lateNow (s.commitTarget mode1) = false)
include hlate

theorem State.commitGo_unpaired (hpair : s.commitUnpaired mode1 = true) :
    (s.requested who).commitGo mode1 = (s.requested who).commitRefuse 5 := by
  simp [State.commitGo_requested, hrel, hp, hlate, hpair]

variable (hpair : s.commitUnpaired mode1 = false)
include hpair

theorem State.commitGo_inconsistent {b : Nat} {l : List Nat} (hbad : s.refusals s.dirtyRegs = b :: l) :
    (s.requested who).commitGo mode1 = (s.requested who).commitBad s.dirtyRegs b := by
  simp [State.commitGo_requested, hrel, hp, hlate, hpair, hbad]

theorem State.commitGo_consistent (hok : s.refusals s.dirtyRegs = []) :
    (s.requested who).commitGo mode1 = (s.requested who).commitLatch (s.commitPending mode1) := by
  simp [State.commitGo_requested, hrel, hp, hlate, hpair, hok]

end

end

/-! ### Refusals -/

section
variable {s : State} {who : Initiator}

/-- A refused request: RESULT and REFUSED are set, its source is recorded, and nothing else changes but `CFG_STAT` and
`CFG_EVT`. -/
theorem State.commitRefuse_requested {result : Nat} (hr : result < 16) :
    ((s.requested who).commitRefuse result).bus = ⟨0, false⟩ ∧
      s.onlyBus ((s.requested who).commitRefuse result) [A.CFG_STAT, A.CFG_EVT] ∧
      ((s.requested who).commitRefuse result).getF F.CFG_STAT_RESULT = result ∧
      ((s.requested who).commitRefuse result).getF F.CFG_EVT_REFUSED = 1 ∧
      ((s.requested who).commitRefuse result).getF F.CFG_STAT_SRC = (who == .service).toNat := by
  refine ⟨rfl, ?_, ?_, State.getF_raise_self _ _ (by decide) (by decide), ?_⟩
  · exact (((State.onlyBus.ok s _ 0).setB F.CFG_STAT_SRC _ (by decide)).setF _ _ (by decide)).raise _ (by decide)
  · simp (disch := decide) only [State.commitRefuse, State.raise, State.getF_setF_apart, State.getF_setF_self]
    exact Nat.mod_eq_of_lt hr
  · simp (disch := decide) only [State.commitRefuse, State.raise, State.getF_setF_apart]
    exact State.getF_requested_src

/-- A request refused for a block other than composition names the block. -/
theorem State.commitBad_requested {vals : List (Nat × Word)} {b : Nat} (hb : b < 256) (hne : b ≠ 12) :
    ((s.requested who).commitBad vals b).bus = ⟨0, false⟩ ∧
      s.onlyBus ((s.requested who).commitBad vals b) [A.CFG_STAT, A.CFG_EVT] ∧
      ((s.requested who).commitBad vals b).getF F.CFG_STAT_RESULT = 2 ∧
      ((s.requested who).commitBad vals b).getF F.CFG_EVT_REFUSED = 1 ∧
      ((s.requested who).commitBad vals b).getF F.CFG_STAT_SRC = (who == .service).toNat ∧
      ((s.requested who).commitBad vals b).getF F.CFG_STAT_BLOCK = b := by
  have hbad : (s.requested who).commitBad vals b = ((s.requested who).setF F.CFG_STAT_BLOCK b).commitRefuse 2 := if_neg hne
  rw [hbad]
  refine ⟨rfl, ?_, ?_, State.getF_raise_self _ _ (by decide) (by decide), ?_, ?_⟩
  · exact ((((State.onlyBus.ok s _ 0).setB F.CFG_STAT_SRC _ (by decide)).setF _ _ (by decide)).setF _ _ (by decide)).raise _
      (by decide)
  · simp (disch := decide) only [State.commitRefuse, State.raise, State.getF_setF_apart, State.getF_setF_self]
    rfl
  · simp (disch := decide) only [State.commitRefuse, State.raise, State.getF_setF_apart]
    exact State.getF_requested_src
  · simp (disch := decide) only [State.commitRefuse, State.raise, State.getF_setF_apart, State.getF_setF_self]
    exact Nat.mod_eq_of_lt hb

/-- A request accepted: beside what is pending, `CFG_STAT` alone changes. -/
theorem State.commitLatch_requested (p : PendingCommit) :
    (s.requested who).commitLatch p = { s with
        regs := ((s.requested who).commitLatch p).regs, bus := ⟨0, false⟩, cfg := { s.cfg with pending := some p } } ∧
      s.regsKept ((s.requested who).commitLatch p) [A.CFG_STAT] ∧
      ((s.requested who).commitLatch p).getF F.CFG_STAT_RESULT = 8 ∧
      ((s.requested who).commitLatch p).getF F.CFG_STAT_PENDING = 1 ∧
      ((s.requested who).commitLatch p).getF F.CFG_STAT_SRC = (who == .service).toNat := by
  refine ⟨rfl, ?_, State.getF_setF_self _ _ _ (by decide), ?_, ?_⟩
  · have hreq : s.regsKept { s.requested who with cfg := { s.cfg with pending := some p } } [A.CFG_STAT] :=
      State.requested_onlyBus.2.congr rfl
    exact (hreq.raise _ (by decide)).setF _ _ (by decide)
  · simp (disch := decide) only [State.commitLatch, State.raise, State.getF_setF_apart, State.getF_setF_self]
    rfl
  · simp (disch := decide) only [State.commitLatch, State.raise, State.getF_setF_apart]
    exact State.getF_requested_src

end

/-! ### CANCEL and REVERT (R81) -/

section
variable {s : State} {who : Initiator}

theorem exec_commitCancel (hm : s.mayWrite who A.CFG_COMMIT) : exec (.commitCancel who) s = .next (s.busOk 0).commitCancel :=
  congrArg Host.Outcome.next (State.guarded_of_mayWrite _ hm)

theorem exec_commitRevert (hm : s.mayWrite who A.CFG_COMMIT) : exec (.commitRevert who) s = .next (s.busOk 0).commitRevert :=
  congrArg Host.Outcome.next (State.guarded_of_mayWrite _ hm)

/-- A cancelled commit that counts as withdrawn is settled with RESULT 7; the staging values stay. -/
theorem State.cancelSettle_withdrawn {p : PendingCommit} (hp : s.cfg.pending = some p) (hw : p.withdrawn s.now = true) :
    s.cancelSettle = (({ s with cfg := { s.cfg with pending := none } }).setF F.CFG_STAT_PENDING 0).commitRefuse 7 := by
  simp [State.cancelSettle, hp, hw]

theorem State.getF_cancelSettle_withdrawn {p : PendingCommit} (hp : s.cfg.pending = some p) (hw : p.withdrawn s.now = true) :
    s.cancelSettle.getF F.CFG_STAT_RESULT = 7 ∧ s.cancelSettle.getF F.CFG_STAT_PENDING = 0 ∧
      s.cancelSettle.getF F.CFG_EVT_REFUSED = 1 := by
  rw [State.cancelSettle_withdrawn hp hw]
  refine ⟨?_, ?_, State.getF_raise_self _ _ (by decide) (by decide)⟩ <;>
    simp (disch := decide) only [State.commitRefuse, State.raise, State.getF_setF_apart, State.getF_setF_self] <;> rfl

/-- The staged fields of the listed registers set back to their active values. -/
def State.setBack (s : State) (l : List (Nat × Word)) : State :=
  s.forEach l fun p t => t.setW p.1 (mixStaged p.1 p.2 (t.actW p.1))

theorem State.setBack_regs (l : List (Nat × Word)) : s.setBack l = { s with regs := (s.setBack l).regs } := by
  induction l generalizing s with
  | nil => rfl
  | cons p l ih => exact ih (s := s.setW p.1 (mixStaged p.1 p.2 (s.actW p.1)))

/-- A register of the list, listed with the word `g` gives it, takes its active value; every other one stays. -/
theorem State.getW_setBack {g : Nat → Word} {l : List (Nat × Word)} (hl : ∀ p ∈ l, p.2 = g p.1) (a : Nat) :
    (s.setBack l).getW a = if a ∈ l.map Prod.fst then mixStaged a (g a) (s.actW a) else s.getW a := by
  induction l generalizing s with
  | nil => rfl
  | cons p l ih =>
    obtain ⟨hp, hrest⟩ := List.forall_mem_cons.1 hl
    have hstep := ih (s := s.setW p.1 (mixStaged p.1 p.2 (s.actW p.1))) hrest
    refine hstep.trans ?_
    by_cases ha : a ∈ l.map Prod.fst
    · simp [ha]
    · by_cases hpa : a = p.1
      · subst hpa
        rw [if_neg ha, if_pos (by simp), State.getW_setW_self, hp]
      · rw [if_neg ha, if_neg (by simpa [hpa] using ha), State.getW_setW_ne _ _ hpa]

/-- REVERT sets every staged field to its active value. -/
theorem State.getW_setBack_dirtyRegs (a : Nat) :
    (s.setBack s.dirtyRegs).getW a = mixStaged a (s.getW a) (s.actW a) := by
  rw [State.getW_setBack (g := s.getW) fun p hp => ((mem_dirtyRegs s).1 hp).2.2.symm]
  split
  · rfl
  · next h =>
    exact (s.mixStaged_of_clean fun w hw => h (List.mem_map.2 ⟨(a, w), hw, rfl⟩)).symm

theorem State.commitRevert_of_none (h : s.cfg.pending = none) : s.commitRevert = s.setBack s.dirtyRegs := if_neg (by simp [h])

end

/-! ### A write of more than one request (R81) -/

section
variable {s : State} {who : Initiator} {v : Word}

/-- A write of `CFG_COMMIT` with more than one of GO, CANCEL and REVERT is refused with RESULT 9. -/
theorem State.cfgCommitWrite_ambiguous
    (hv : 1 < F.CFG_COMMIT_GO.of v + F.CFG_COMMIT_CANCEL.of v + F.CFG_COMMIT_REVERT.of v) :
    (s.busOk 0).cfgCommitWrite who v = (s.requested who).commitRefuse 9 := by
  have hgo : F.CFG_COMMIT_GO.of v < 2 := Fld.of_lt _ _
  have hcancel : F.CFG_COMMIT_CANCEL.of v < 2 := Fld.of_lt _ _
  have hrevert : F.CFG_COMMIT_REVERT.of v < 2 := Fld.of_lt _ _
  refine if_pos ?_
  simp only [Bool.or_eq_true, Bool.and_eq_true, bne_iff_ne]
  omega

theorem exec_registerWrite_commit (hm : s.mayWrite who A.CFG_COMMIT) :
    exec (.registerWrite who (BitVec.ofNat 32 A.CFG_COMMIT) .b32 v) s = .next ((s.busOk 0).cfgCommitWrite who v) := by
  have hmay : s.mayWrite who (BitVec.ofNat 32 A.CFG_COMMIT).toNat := hm
  rw [exec_registerWrite_of_mayWrite v hmay (by decide) (by decide) (by decide)]
  rfl

end

/-! ### The statement -/

/-- Settles O20: a request is judged by its checks in order; CANCEL, REVERT and an ambiguous write are what `CFG_COMMIT` makes of
them. That a request takes the target of that time, and that a CANCEL counts only when 2 µs old, is the model's reading (log
entry 21). -/
theorem commitRequestsAreJudgedAndWithdrawn : Obligations.CommitRequestsAreJudgedAndWithdrawn := by
  unfold Obligations.CommitRequestsAreJudgedAndWithdrawn
  refine ⟨fun who mode1 s hm => ?_, fun who p s hm hp => ?_, fun p s hp hw => ?_, fun who s hm hp => ?_,
    fun who s hm hp => ?_, fun who s hm hp => ?_, fun who v s hm hv => ?_⟩
  · intro target unpaired refused
    have hexec {t : State} (h : (s.requested who).commitGo mode1 = t) : exec (.commitRequest who mode1) s = .next t :=
      (exec_commitRequest hm).trans (congrArg _ h)
    have hrefused {r : Nat} (hr : r < 16) (h : (s.requested who).commitGo mode1 = (s.requested who).commitRefuse r) :
        refused r := ⟨_, hexec h, State.commitRefuse_requested hr⟩
    refine ⟨fun hrel hp hlate hpair hok => ?_, fun hrel => hrefused (by decide) (State.commitGo_unreleased hrel),
      fun hrel hp => hrefused (by decide) (State.commitGo_pending hrel hp),
      fun hrel hp hlate => hrefused (by decide) (State.commitGo_late hrel hp hlate),
      fun hrel hp hlate hpair => hrefused (by decide) (State.commitGo_unpaired hrel hp hlate hpair),
      fun b l hrel hp hlate hpair hbad hne => ?_⟩
    · obtain ⟨heq, hkept, hresult, hpend, hsrc⟩ :=
        State.commitLatch_requested (s := s) (who := who) (s.commitPending mode1)
      exact ⟨_, hexec (State.commitGo_consistent hrel hp hlate hpair hok), heq, hkept, hresult, hpend, hsrc, rfl⟩
    · have hgo := hexec (State.commitGo_inconsistent hrel hp hlate hpair hbad)
      have hb : b < 20 := State.refusals_lt (hbad ▸ List.mem_cons_self)
      obtain ⟨hbus, honly, hresult, hset, hsrc, hblock⟩ :=
        State.commitBad_requested (s := s) (who := who) (vals := s.dirtyRegs) (by omega) hne
      exact ⟨⟨_, hgo, hbus, honly, hresult, hset, hsrc⟩, _, hgo, hblock⟩
  · refine ⟨_, exec_commitCancel hm, ?_⟩
    have hcancel : (s.busOk 0).commitCancel = { s.busOk 0 with cfg := { s.cfg with pending := some { p with
        cancelAt := some (p.cancelAt.getD s.now) } } } := by
      simp [State.commitCancel, State.busOk, hp]
    rw [hcancel]
    exact ⟨rfl, rfl⟩
  · exact ⟨by rw [State.cancelSettle_withdrawn hp hw]; rfl, State.getF_cancelSettle_withdrawn hp hw⟩
  · refine ⟨_, exec_commitCancel hm, ?_⟩
    have hcancel : (s.busOk 0).commitCancel = s.busOk 0 := by simp [State.commitCancel, State.busOk, hp]
    rw [hcancel]
    exact s.busAnswer_busOk 0
  · refine ⟨_, exec_commitRevert hm, ?_⟩
    rw [State.commitRevert_of_none (s := s.busOk 0) hp]
    exact ⟨(s.busOk 0).setBack_regs _, fun a => State.getW_setBack_dirtyRegs (s := s.busOk 0) a⟩
  · refine ⟨_, exec_commitRevert hm, ?_⟩
    have hrevert : (s.busOk 0).commitRevert = s.busOk 0 := if_pos (Option.isSome_iff_ne_none.2 hp)
    rw [hrevert]
    exact s.busAnswer_busOk 0
  · refine ⟨_, (exec_registerWrite_commit hm).trans (congrArg _ (State.cfgCommitWrite_ambiguous hv)), ?_⟩
    exact State.commitRefuse_requested (by decide)

end Sys2Proof.Machine
end

section
/-!
PROOFS. Boundaries: the commit at an image boundary (chapter 04: R78, R80, R81), the facet shown (R150), and the numbering of
frames on a Head and on a Tile (chapter 14: R312, R314, R315).
-/

namespace Sys2Proof.Machine

/-! ### What boundaries are stated about -/

/-- What boundaries are stated about: the time, the active values, the pending commit, the frame count, the plan, the
partner's heartbeat, and the words of the listed registers. -/
def State.view (s : State) (l : List Nat) :
    Nat × List (Nat × Word) × CommitState × TimState × Plan × Option HeartMsg × List Word :=
  (s.now, s.active, s.cfg, s.tim, s.plan, s.red.peerHeart, l.map s.getW)

/-- A field of none of the listed registers. -/
def Fld.quiet (f : Fld) (l : List Nat) : Prop := f.addr ∉ l

section
variable (s : State) {l : List Nat}

@[simp] theorem State.view_fold :
    (s.now, s.active, s.cfg, s.tim, s.plan, s.red.peerHeart, l.map s.getW) = s.view l := by
  rw [State.view]

@[simp] theorem State.mk_view (p n fr b ac fu sh ka nv pl pw bo cf go la ln i c ge d e lm co ra ti re cr se up sm th o) :
    (State.mk p n fr b s.regs ac fu sh ka nv pl pw bo cf go la ln i c ge d e lm co ra ti re cr se up sm th o).view l =
      (n, ac, cf, ti, pl, re.peerHeart, l.map s.getW) := by
  rw [State.view]; rfl

@[simp] theorem State.ite_view (c : Prop) [Decidable c] (a b : State) :
    (if c then a else b).view l = if c then a.view l else b.view l := by
  split <;> rfl

@[simp] theorem State.when_view (c : Bool) (f : State → State) (h : ∀ t : State, (f t).view l = t.view l) :
    (s.when c f).view l = s.view l := by cases c <;> simp [State.when, h]

@[simp] theorem State.forEach_view {α : Type} (xs : List α) (f : α → State → State) (h : ∀ x t, (f x t).view l = t.view l) :
    (s.forEach xs f).view l = s.view l := State.forEach_same s (State.view · l) xs h

theorem State.map_getW_setW {a : Nat} (w : Word) (h : a ∉ l) : l.map (s.setW a w).getW = l.map s.getW :=
  List.map_congr_left fun _ hb => s.getW_setW_ne w fun hba => h (hba ▸ hb)

variable {f : Fld}

@[simp] theorem State.map_getW_setF (h : f.quiet l) (v : Nat) :
    l.map (s.setF f v).getW = l.map s.getW := s.map_getW_setW _ h
@[simp] theorem State.map_getW_setB (h : f.quiet l) (v : Bool) :
    l.map (s.setB f v).getW = l.map s.getW := s.map_getW_setW _ h
@[simp] theorem State.map_getW_raise (h : f.quiet l) : l.map (s.raise f).getW = l.map s.getW := s.map_getW_setW _ h
@[simp] theorem State.map_getW_raiseBit (h : f.quiet l) (i : Nat) :
    l.map (s.raiseBit f i).getW = l.map s.getW := s.map_getW_setW _ h
@[simp] theorem State.map_getW_bumpBy (h : f.quiet l) (n : Nat) :
    l.map (s.bumpBy f n).getW = l.map s.getW := s.map_getW_setW _ h
@[simp] theorem State.map_getW_bump (h : f.quiet l) : l.map (s.bump f).getW = l.map s.getW := s.map_getW_setW _ h
@[simp] theorem State.setF_view (h : f.quiet l) (v : Nat) : (s.setF f v).view l = s.view l := by
  rw [State.view, s.map_getW_setF h]; rfl
@[simp] theorem State.setB_view (h : f.quiet l) (b : Bool) : (s.setB f b).view l = s.view l := s.setF_view h _
@[simp] theorem State.raise_view (h : f.quiet l) : (s.raise f).view l = s.view l := s.setF_view h _
@[simp] theorem State.raiseBit_view (h : f.quiet l) (i : Nat) : (s.raiseBit f i).view l = s.view l := s.setF_view h _
@[simp] theorem State.putBit_view (h : f.quiet l) (i : Nat) (b : Bool) :
    (s.putBit f i b).view l = s.view l := s.setF_view h _
@[simp] theorem State.bumpBy_view (h : f.quiet l) (n : Nat) : (s.bumpBy f n).view l = s.view l := s.setF_view h _
@[simp] theorem State.bump_view (h : f.quiet l) : (s.bump f).view l = s.view l := s.setF_view h _

end

theorem State.view_eq_iff {s t : State} {l : List Nat} : s.view l = t.view l ↔
    s.now = t.now ∧ s.active = t.active ∧ s.cfg = t.cfg ∧ s.tim = t.tim ∧ s.plan = t.plan ∧
      s.red.peerHeart = t.red.peerHeart ∧ ∀ a ∈ l, s.getW a = t.getW a := by
  simp only [State.view, Prod.mk.injEq, List.map_inj_left]

theorem State.view_sub {s t : State} {l m : List Nat} (h : s.view l = t.view l) (hm : ∀ a ∈ m, a ∈ l) :
    s.view m = t.view m := by
  obtain ⟨h1, h2, h3, h4, h5, h6, h7⟩ := State.view_eq_iff.1 h
  exact State.view_eq_iff.2 ⟨h1, h2, h3, h4, h5, h6, fun a ha => h7 a (hm a ha)⟩

theorem State.getW_of_view {s t : State} {l : List Nat} (h : s.view l = t.view l) {a : Nat} (ha : a ∈ l) :
    s.getW a = t.getW a := by
  obtain ⟨-, -, -, -, -, -, hwords⟩ := State.view_eq_iff.1 h
  exact hwords a ha

theorem State.getF_of_view {s t : State} {l : List Nat} (h : s.view l = t.view l) {f : Fld} (hf : f.addr ∈ l) :
    s.getF f = t.getF f := congrArg f.of (State.getW_of_view h hf)

/-! ### What the blocks do at an image boundary leaves them -/

/-- The registers that an image boundary writes of its own: those of the commit, and the facet shown. -/
def boundaryRegs : List Nat := [A.CFG_STAT, A.CFG_EPOCH, A.CFG_EVT, A.SCN_STAT]

/-! The fields that the blocks write at an image boundary lie in other registers. -/

@[simp] theorem quiet_boundaryRegs_image :
    F.CMP_EVT_FLOW_ABANDON.quiet boundaryRegs ∧ F.CMP_EVT_FLOW_CACHED.quiet boundaryRegs ∧
    F.CMP_EVT_FLOW_LIVE.quiet boundaryRegs ∧ F.CMP_EVT_HOLD_FILL.quiet boundaryRegs ∧
    F.CMP_FLOW_ABANDONED.quiet boundaryRegs ∧ F.CMP_STAT_FLOW.quiet boundaryRegs ∧
    F.CMP_STAT_STATE.quiet boundaryRegs ∧ F.DEC_CNT0_CONCEAL.quiet boundaryRegs ∧
    F.DEC_CNT2_GEODE_FAIL.quiet boundaryRegs ∧ F.DEC_CNT2_MISSING.quiet boundaryRegs ∧
    F.DEC_EVT_CONCEAL.quiet boundaryRegs ∧ F.DEC_EVT_FIRST_LIT.quiet boundaryRegs ∧
    F.DEC_EVT_GEODE_FAIL.quiet boundaryRegs ∧ F.DEC_STAT_LIT.quiet boundaryRegs := by
  unfold Fld.quiet
  decide

@[simp] theorem quiet_boundaryRegs_coding :
    F.CORR_EVT_STALE.quiet boundaryRegs ∧ F.CORR_LSTALE_LAYER.quiet boundaryRegs ∧
    F.ENC_EVT_CONV.quiet boundaryRegs ∧ F.ENC_STAT_CONV.quiet boundaryRegs ∧ F.ENC_STAT_JOBS.quiet boundaryRegs ∧
    F.GEO_EVT_APPLIED.quiet boundaryRegs ∧ F.GEO_EVT_PATTERN.quiet boundaryRegs ∧
    F.GEO_STAT_ACTIVE.quiet boundaryRegs ∧ F.GEO_STAT_SHOW.quiet boundaryRegs ∧
    F.SMP_STAT_STATE.quiet boundaryRegs := by
  unfold Fld.quiet
  decide

@[simp] theorem quiet_boundaryRegs_governor :
    F.GOV_EVT_CHANGED.quiet boundaryRegs ∧ F.GOV_EVT_RECDIFF.quiet boundaryRegs ∧
    F.GOV_EVT_RECOVERED.quiet boundaryRegs ∧ F.GOV_EVT_UNCOV.quiet boundaryRegs ∧
    F.GOV_OWN_VARIANT.quiet boundaryRegs ∧ F.GOV_STAT_PENDING.quiet boundaryRegs ∧
    F.GOV_STAT_PEND_VALID.quiet boundaryRegs ∧ F.GOV_STAT_RECDIFF.quiet boundaryRegs ∧
    F.GOV_STAT_SWITCHES.quiet boundaryRegs ∧ F.GOV_STAT_UNCOVERED.quiet boundaryRegs ∧
    F.GOV_STAT_VARIANT.quiet boundaryRegs := by
  unfold Fld.quiet
  decide

@[simp] theorem quiet_boundaryRegs_redundancy :
    F.RAIL_TCTL_CAUSE.quiet boundaryRegs ∧ F.RAIL_TCTL_TSTATE.quiet boundaryRegs ∧
    F.RED_COPY_EPOCH.quiet boundaryRegs ∧ F.RED_EVT_COPY_DONE.quiet boundaryRegs ∧
    F.RED_EVT_HOLD_EXPIRED.quiet boundaryRegs ∧ F.RED_EVT_STANDBY.quiet boundaryRegs ∧
    F.RED_STAT_DUTY.quiet boundaryRegs ∧ F.RED_STAT_ILK_OUT.quiet boundaryRegs ∧
    F.RED_STAT_READY.quiet boundaryRegs ∧ F.RED_TSTAT_EXPIRED.quiet boundaryRegs ∧
    F.RED_TSTAT_HOLDING.quiet boundaryRegs := by
  unfold Fld.quiet
  decide

@[simp] theorem quiet_boundaryRegs_keys :
    F.RST_CAUSE_SOFT.quiet boundaryRegs ∧ F.RST_CAUSE_SYSCLK.quiet boundaryRegs ∧
    F.RST_CAUSE_WDT.quiet boundaryRegs ∧ F.RST_CAUSE_WDT_COUNT.quiet boundaryRegs ∧
    F.SEC_CNT1_REKEYS.quiet boundaryRegs ∧ F.SEC_EVT_REKEY_DONE.quiet boundaryRegs ∧
    F.SEC_KEYEP_CUR.quiet boundaryRegs ∧ F.SEC_KEYEP_NEXT.quiet boundaryRegs ∧
    F.SEC_KEYEP_NEXT_VALID.quiet boundaryRegs ∧ F.SEC_STAT_CHAINKEY.quiet boundaryRegs ∧
    F.SEC_SWITCH_IMAGE.quiet boundaryRegs := by
  unfold Fld.quiet
  decide

@[simp] theorem quiet_boundaryRegs_run (n : Nat) :
    (F.SCN_LSTAT_FLIPS n).quiet boundaryRegs ∧ (F.SCN_SIG_CRC n).quiet boundaryRegs ∧
    (F.DEC_BUF_UNCLEAN n).quiet boundaryRegs ∧ (F.DEC_BUF_LITNOW n).quiet boundaryRegs ∧
    (F.DEC_STAT_LITBUF n).quiet boundaryRegs ∧ (F.ENC_SIG_CRC n).quiet boundaryRegs ∧
    (F.CORR_DSIG_SIG n).quiet boundaryRegs ∧ (F.GEO_STAT_FSHOWf n).quiet boundaryRegs := by
  refine ⟨?_, ?_, ?_, ?_, ?_, ?_, ?_, ?_⟩ <;>
  simp [Fld.quiet, boundaryRegs, A.CFG_STAT, A.CFG_EPOCH, A.CFG_EVT, A.SCN_STAT, F.SCN_LSTAT_FLIPS, F.SCN_SIG_CRC,
    F.DEC_BUF_UNCLEAN, F.DEC_BUF_LITNOW, F.DEC_STAT_LITBUF, F.ENC_SIG_CRC, F.CORR_DSIG_SIG, F.GEO_STAT_FSHOWf] <;> omega

@[simp] theorem State.draw_view (s : State) {rs : List Nat} : s.draw.2.view rs = s.view rs := by
  simp [State.draw]

@[simp] theorem State.emit_view (s : State) (e : Emission) {rs : List Nat} : (s.emit e).view rs = s.view rs := by
  simp [State.emit]

@[simp] theorem State.setPort_view (s : State) (n : Nat) (p : PortX) {rs : List Nat} :
    (s.setPort n p).view rs = s.view rs := by
  simp [State.setPort]

@[simp] theorem State.queueOwn_view (s : State) (p : OutPkt) {rs : List Nat} :
    (s.queueOwn p).view rs = s.view rs := by
  simp [State.queueOwn]

@[simp] theorem State.fillLoss_view (s : State) (cause : Nat) {rs : List Nat} :
    (s.fillLoss cause).view rs = s.view rs := by
  simp [State.fillLoss]

@[simp] theorem State.startSave_view (s : State) (kind : SaveKind) :
    (s.startSave kind).view boundaryRegs = s.view boundaryRegs := by
  simp [State.startSave]

@[simp] theorem State.fillSys_view (s : State) {rs : List Nat} : s.fillSys.view rs = s.view rs := by
  simp [State.fillSys]

@[simp] theorem State.fillUpd_view (s : State) {rs : List Nat} : s.fillUpd.view rs = s.view rs := by
  simp [State.fillUpd]

@[simp] theorem State.resetCause_view (s : State) (cause : Nat) :
    (s.resetCause cause).view boundaryRegs = s.view boundaryRegs := by
  unfold State.resetCause
  split <;> simp

@[simp] theorem State.requestReset_view (s : State) (cause : Nat) :
    (s.requestReset cause).view boundaryRegs = s.view boundaryRegs := by
  simp [State.requestReset]

@[simp] theorem State.setSrc_view (s : State) (n : Nat) (x : SrcX) {rs : List Nat} :
    (s.setSrc n x).view rs = s.view rs := by
  simp [State.setSrc]

@[simp] theorem State.setLane_view (s : State) (m : Nat) (x : LaneX) {rs : List Nat} :
    (s.setLane m x).view rs = s.view rs := by
  simp [State.setLane]

@[simp] theorem State.nextSeq_view (s : State) (kind : Nat) {rs : List Nat} :
    (s.nextSeq kind).2.view rs = s.view rs := by
  simp [State.nextSeq]

@[simp] theorem State.putLine_view (s : State) (n : Nat) (l : List (Nat × List LineChar)) {rs : List Nat} :
    (s.putLine n l).view rs = s.view rs := by
  simp [State.putLine]

@[simp] theorem State.sendLine_view (s : State) (n : Nat) (e : Emission) {rs : List Nat} :
    (s.sendLine n e).view rs = s.view rs := by
  simp [State.sendLine]

@[simp] theorem State.putOnPort_view (s : State) (n : Nat) (h : Hdr) (b : Body) {rs : List Nat} :
    (s.putOnPort n h b).view rs = s.view rs := by
  simp [State.putOnPort]

@[simp] theorem State.sendHop_view (s : State) (n : Nat) (h : Hdr) (b : Body) {rs : List Nat} :
    (s.sendHop n h b).view rs = s.view rs := by
  simp [State.sendHop]

@[simp] theorem State.fillBody_view (s : State) (b : Body) {rs : List Nat} :
    (s.fillBody b).2.view rs = s.view rs := by
  unfold State.fillBody
  split <;> simp

@[simp] theorem State.sendOwn_view (s : State) (p : OutPkt) {rs : List Nat} : (s.sendOwn p).view rs = s.view rs := by
  simp [State.sendOwn]

@[simp] theorem flushList_view (s : State) (n : Nat) {rs : List Nat} : (flushList s n).view rs = s.view rs := by
  induction n generalizing s with
  | zero => rfl
  | succ k ih =>
    unfold flushList
    split
    · rfl
    · split <;> simp [ih]

@[simp] theorem State.flushEarly_view (s : State) {rs : List Nat} : s.flushEarly.view rs = s.view rs := by
  simp [State.flushEarly]

@[simp] theorem State.postOwn_view (s : State) (p : OutPkt) {rs : List Nat} : (s.postOwn p).view rs = s.view rs := by
  simp [State.postOwn]

@[simp] theorem State.setUncovered_view (s : State) (u : Bool) :
    (s.setUncovered u).view boundaryRegs = s.view boundaryRegs := by
  simp [State.setUncovered]

@[simp] theorem State.applyVariant_view (s : State) (v : Nat) (image : Word) :
    (s.applyVariant v image).view boundaryRegs = s.view boundaryRegs := by
  simp [State.applyVariant]

@[simp] theorem State.applyPending_view (s : State) (image : Word) :
    (s.applyPending image).view boundaryRegs = s.view boundaryRegs := by
  simp [State.applyPending]

@[simp] theorem State.announce_view (s : State) (v : Nat) (first : Word) (uncov : Bool) :
    (s.announce v first uncov).view boundaryRegs = s.view boundaryRegs := by
  simp [State.announce]

@[simp] theorem State.govBoundary_view (s : State) (image : Word) :
    (s.govBoundary image).view boundaryRegs = s.view boundaryRegs := by
  simp [State.govBoundary]

@[simp] theorem State.latchStore_view (s : State) (n : Nat) {rs : List Nat} :
    (s.latchStore n).view rs = s.view rs := by
  simp [State.latchStore]

@[simp] theorem State.flipLayer_view (s : State) (l old : Nat) :
    (s.flipLayer l old).view boundaryRegs = s.view boundaryRegs := by
  simp [State.flipLayer]

@[simp] theorem State.setDecBuf_view (s : State) (i : Nat) (b : DecBuf) :
    (s.setDecBuf i b).view boundaryRegs = s.view boundaryRegs := by
  simp [State.setDecBuf]

@[simp] theorem State.setLit_view (s : State) (f i : Nat) :
    (s.setLit f i).view boundaryRegs = s.view boundaryRegs := by
  simp [State.setLit]

@[simp] theorem State.setFacetImg_view (s : State) (image : Word) (f : Nat) (x : FacetImg) {rs : List Nat} :
    (s.setFacetImg image f x).view rs = s.view rs := by
  simp [State.setFacetImg]

@[simp] theorem State.geodeFail_view (s : State) (h : Hdr) :
    (s.geodeFail h).view boundaryRegs = s.view boundaryRegs := by
  simp [State.geodeFail]

@[simp] theorem State.setShow_view (s : State) (f v : Nat) :
    (s.setShow f v).view boundaryRegs = s.view boundaryRegs := by
  simp [State.setShow]

@[simp] theorem State.showPattern_view (s : State) (f : Nat) :
    (s.showPattern f).view boundaryRegs = s.view boundaryRegs := by
  simp [State.showPattern]

@[simp] theorem State.countMissing_view (s : State) (f n : Nat) (conceal : Bool) :
    (s.countMissing f n conceal).view boundaryRegs = s.view boundaryRegs := by
  simp [State.countMissing]

@[simp] theorem State.firstLit_view (s : State) (f : Nat) (clean : Bool) :
    (s.firstLit f clean).view boundaryRegs = s.view boundaryRegs := by
  simp [State.firstLit]

@[simp] theorem State.lightBuf_view (s : State) (f i : Nat) (image : Word) :
    (s.lightBuf f i image).view boundaryRegs = s.view boundaryRegs := by
  simp [State.lightBuf]

@[simp] theorem State.markHanded_view (s : State) (f : Nat) (image : Word) {rs : List Nat} :
    (s.markHanded f image).view rs = s.view rs := by
  simp [State.markHanded]

@[simp] theorem State.setWasGeode_view (s : State) (f : Nat) (b : Bool) {rs : List Nat} :
    (s.setWasGeode f b).view rs = s.view rs := by
  simp [State.setWasGeode]

@[simp] theorem State.handNone_view (s : State) (f : Nat) (x : FacetImg) :
    (s.handNone f x).view boundaryRegs = s.view boundaryRegs := by
  simp [State.handNone]

@[simp] theorem State.handSome_view (s : State) (f d : Nat) (image : Word) (x : FacetImg) :
    (s.handSome f d image x).view boundaryRegs = s.view boundaryRegs := by
  simp [State.handSome]

@[simp] theorem State.tileHandOver_view (s : State) (f : Nat) (image : Word) :
    (s.tileHandOver f image).1.view boundaryRegs = s.view boundaryRegs := by
  unfold State.tileHandOver
  dsimp only
  split <;> simp

@[simp] theorem State.headHandOver_view (s : State) (f : Nat) (image : Word) :
    (s.headHandOver f image).1.view boundaryRegs = s.view boundaryRegs := by
  unfold State.headHandOver
  dsimp only
  split <;> simp

@[simp] theorem State.handOver_view (s : State) (f : Nat) (image : Word) :
    (s.handOver f image).1.view boundaryRegs = s.view boundaryRegs := by
  unfold State.handOver
  split <;> simp

@[simp] theorem State.setInflight_view (s : State) (l : List (BlockJob × Nat)) :
    (s.setInflight l).view boundaryRegs = s.view boundaryRegs := by
  simp [State.setInflight]

@[simp] theorem State.jobsExpire_view (s : State) (f : Nat) (image : Word) :
    (s.jobsExpire f image).view boundaryRegs = s.view boundaryRegs := by
  simp [State.jobsExpire]

@[simp] theorem State.encBoundary_view (s : State) (f : Nat) (image : Word) :
    (s.encBoundary f image).view boundaryRegs = s.view boundaryRegs := by
  unfold State.encBoundary
  dsimp only
  split
  · split
    · split
      · simp
      · split <;> simp
    · simp
  · simp

@[simp] theorem State.dripChanged_view (s : State) (f : Nat) (image : Word) {rs : List Nat} :
    (s.dripChanged f image).view rs = s.view rs := by
  simp [State.dripChanged]

@[simp] theorem State.holdLayer_view (s : State) (v stamp : Nat) :
    (s.holdLayer v stamp).view boundaryRegs = s.view boundaryRegs := by
  unfold State.holdLayer
  split
  · split
    · simp
    · split <;> simp
  · rfl

@[simp] theorem State.flowAbandon_view (s : State) : s.flowAbandon.view boundaryRegs = s.view boundaryRegs := by
  simp [State.flowAbandon]

@[simp] theorem State.flowLive_view (s : State) : s.flowLive.view boundaryRegs = s.view boundaryRegs := by
  simp [State.flowLive]

@[simp] theorem State.flowBoundary_view (s : State) : s.flowBoundary.view boundaryRegs = s.view boundaryRegs := by
  unfold State.flowBoundary
  split <;> simp

@[simp] theorem State.cmpBoundary_view (s : State) : s.cmpBoundary.view boundaryRegs = s.view boundaryRegs := by
  simp [State.cmpBoundary]

@[simp] theorem State.post_view (s : State) (p : OutPkt) {rs : List Nat} : (s.post p).view rs = s.view rs := by
  simp [State.post]

@[simp] theorem State.sendSync_view (s : State) (n : Nat) (m : SyncMsg) {rs : List Nat} :
    (s.sendSync n m).view rs = s.view rs := by
  simp [State.sendSync]

@[simp] theorem State.headSync_view (s : State) {rs : List Nat} : s.headSync.view rs = s.view rs := by
  simp [State.headSync]

@[simp] theorem State.setKeys_view (s : State) (l : List ((Nat × Nat) × Key)) :
    (s.setKeys l).view boundaryRegs = s.view boundaryRegs := by
  simp [State.setKeys]

@[simp] theorem State.addKey_view (s : State) (c ep : Nat) (k : Key) :
    (s.addKey c ep k).view boundaryRegs = s.view boundaryRegs := by
  simp [State.addKey]

@[simp] theorem State.dropEpoch_view (s : State) (ep : Nat) :
    (s.dropEpoch ep).view boundaryRegs = s.view boundaryRegs := by
  simp [State.dropEpoch]

@[simp] theorem State.drawChains_view (s : State) (ep : Nat) (l : List Nat) :
    (s.drawChains ep l).view boundaryRegs = s.view boundaryRegs := by
  simp [State.drawChains]

@[simp] theorem State.rekeyStart_view (s : State) : s.rekeyStart.view boundaryRegs = s.view boundaryRegs := by
  simp [State.rekeyStart]

@[simp] theorem State.postKeyx_view (s : State) (ports : List Nat) (dst : BitVec 10) (m : KeyxMsg) {rs : List Nat} :
    (s.postKeyx ports dst m).view rs = s.view rs := by
  simp [State.postKeyx]

@[simp] theorem State.setRoster_view (s : State) (l : List RosterEntry) {rs : List Nat} :
    (s.setRoster l).view rs = s.view rs := by
  simp [State.setRoster]

@[simp] theorem State.sendKey_view (s : State) (r : RosterEntry) (ep : Nat) {rs : List Nat} :
    (s.sendKey r ep).view rs = s.view rs := by
  unfold State.sendKey
  split <;> simp

@[simp] theorem State.rekeyDone_view (s : State) : s.rekeyDone.view boundaryRegs = s.view boundaryRegs := by
  simp [State.rekeyDone]

@[simp] theorem State.rekeyDeliver_view (s : State) {rs : List Nat} : s.rekeyDeliver.view rs = s.view rs := by
  simp [State.rekeyDeliver]

@[simp] theorem State.keySwitch_view (s : State) (image : Word) :
    (s.keySwitch image).view boundaryRegs = s.view boundaryRegs := by
  simp [State.keySwitch]

@[simp] theorem State.keyErase_view (s : State) (image : Word) :
    (s.keyErase image).view boundaryRegs = s.view boundaryRegs := by
  simp [State.keyErase]

@[simp] theorem State.keyBoundary_view (s : State) (image : Word) :
    (s.keyBoundary image).view boundaryRegs = s.view boundaryRegs := by
  simp [State.keyBoundary]

@[simp] theorem State.readyEval_view (s : State) : s.readyEval.view boundaryRegs = s.view boundaryRegs := by
  simp [State.readyEval]

@[simp] theorem State.setDuty_view (s : State) (d : Nat) : (s.setDuty d).view boundaryRegs = s.view boundaryRegs := by
  simp [State.setDuty]

@[simp] theorem State.toStandby_view (s : State) : s.toStandby.view boundaryRegs = s.view boundaryRegs := by
  simp [State.toStandby]

@[simp] theorem State.copySend_view (s : State) {rs : List Nat} : s.copySend.view rs = s.view rs := by
  simp [State.copySend]

@[simp] theorem State.copyChanged_view (s : State) {rs : List Nat} : s.copyChanged.view rs = s.view rs := by
  unfold State.copyChanged
  split <;> simp

@[simp] theorem State.copyTake_view (s : State) (p : CopyRecords) :
    (s.copyTake p).view boundaryRegs = s.view boundaryRegs := by
  unfold State.copyTake
  extract_lets none_ s1 e s2 s3
  have h2 : s2.view boundaryRegs = s.view boundaryRegs := by simp [s2, s1]
  have h3 : s3.view boundaryRegs = s.view boundaryRegs := by simp [s3, h2]
  split
  · split <;> simp [h3]
  · exact h3

@[simp] theorem State.copyBoundary_view (s : State) : s.copyBoundary.view boundaryRegs = s.view boundaryRegs := by
  unfold State.copyBoundary
  split
  · rfl
  · dsimp only
    split <;> simp

@[simp] theorem State.holdExpire_view (s : State) (f : Nat) :
    (s.holdExpire f).view boundaryRegs = s.view boundaryRegs := by
  unfold State.holdExpire
  dsimp only
  split <;> simp

@[simp] theorem State.holdAfter_view (s : State) (f : Nat) (got clean : Bool) :
    (s.holdAfter f got clean).view boundaryRegs = s.view boundaryRegs := by
  simp [State.holdAfter]

@[simp] theorem State.geodeBoundary_view (s : State) (image : Word) :
    (s.geodeBoundary image).view boundaryRegs = s.view boundaryRegs := by
  simp [State.geodeBoundary]

@[simp] theorem State.traceTrigger_view (s : State) (cause : Nat) :
    (s.traceTrigger cause).view boundaryRegs = s.view boundaryRegs := by
  simp [State.traceTrigger]

@[simp] theorem State.railCommitted_view (s : State) (changed : List Nat) :
    (s.railCommitted changed).view boundaryRegs = s.view boundaryRegs := by
  simp [State.railCommitted]

@[simp] theorem State.recordDsig_view (s : State) (f : Nat) :
    (s.recordDsig f).view boundaryRegs = s.view boundaryRegs := by
  simp [State.recordDsig]

@[simp] theorem State.layerSig_view (s : State) (f l : Nat) (bytes : List Byte) :
    (s.layerSig f l bytes).view boundaryRegs = s.view boundaryRegs := by
  simp [State.layerSig]

@[simp] theorem State.scanSigs_view (s : State) (f : Nat) (fetched : List Burst) :
    (s.scanSigs f fetched).view boundaryRegs = s.view boundaryRegs := by
  simp [State.scanSigs]

@[simp] theorem State.updBoundary_view (s : State) : s.updBoundary.view boundaryRegs = s.view boundaryRegs := by
  unfold State.updBoundary
  split <;> simp

@[simp] theorem State.takeNewest_view (s : State) (n : Nat) {rs : List Nat} :
    (s.takeNewest n).view rs = s.view rs := by
  simp [State.takeNewest]

@[simp] theorem State.afterCommit_view (s : State) (old : State) (changed : List Nat) (image : Word) :
    (s.afterCommit old changed image).view boundaryRegs = s.view boundaryRegs := by
  simp [State.afterCommit]

@[simp] theorem State.boundaryHand_view (s : State) (f : Nat) (image : Word) :
    (s.boundaryHand f image).view boundaryRegs = s.view boundaryRegs := by
  unfold State.boundaryHand
  simp

/-! ### The commit of a boundary (R78, R80, R81) -/

section
variable (s : State) (image : Word)

theorem State.getW_commitRefuse_ne (r : Nat) {a : Nat} (hstat : a ≠ A.CFG_STAT) (hevt : a ≠ A.CFG_EVT) :
    (s.commitRefuse r).getW a = s.getW a := by
  rw [State.commitRefuse, State.raise, State.getW_setF_ne _ _ _ hevt, State.getW_setF_ne _ _ _ hstat]

/-- The pending values made active. -/
def State.setActive (s : State) (vals : List (Nat × Word)) : State :=
  s.forEach vals fun v t => t.setActW v.1 (mixStaged v.1 (t.actW v.1) v.2)

theorem State.setActive_active (vals : List (Nat × Word)) : s.setActive vals = { s with active := (s.setActive vals).active } := by
  induction vals generalizing s with
  | nil => rfl
  | cons v l ih => exact ih (s.setActW v.1 (mixStaged v.1 (s.actW v.1) v.2))

theorem State.actW_setActive {vals : List (Nat × Word)} (h : (vals.map Prod.fst).Nodup) (a : Nat) :
    (s.setActive vals).actW a = s.pendW vals a := by
  induction vals generalizing s with
  | nil => rfl
  | cons v l ih =>
    obtain ⟨hv, hl⟩ := List.nodup_cons.1 h
    refine (ih (s.setActW v.1 (mixStaged v.1 (s.actW v.1) v.2)) hl).trans ?_
    by_cases ha : a = v.1
    · subst ha
      have hnone : l.find? (fun p => p.1 == v.1) = none :=
        List.find?_eq_none.2 fun p hp hpv => hv (List.mem_map.2 ⟨p, hp, by simpa using hpv⟩)
      simp [State.pendW, hnone, State.actW_setActW_self]
    · simp [State.pendW, Ne.symm ha, State.actW_setActW_ne _ _ ha]

/-- The pending commit taken off. -/
def State.commitTaken (s : State) : State := ({ s with cfg := { s.cfg with pending := none } }).setF F.CFG_STAT_PENDING 0

/-- A deferred request that is found late at its boundary (R78). -/
def PendingCommit.late (p : PendingCommit) (image : Word) : Bool :=
  p.deferred && (match p.target with | some t => decide (diff32 t image ≤ 0) | none => false)

theorem State.cancelSettle_standing {p : PendingCommit} (hp : s.cfg.pending = some p) (hw : p.withdrawn s.now = false) :
    s.cancelSettle = s := by
  simp [State.cancelSettle, hp, hw]

variable {s}

theorem State.commitBoundary_none (h : s.cfg.pending = none) : s.commitBoundary image = (s, []) := by
  have hs : s.cancelSettle = s := by simp [State.cancelSettle, h]
  simp [State.commitBoundary, hs, h]

theorem State.commitBoundary_withdrawn {p : PendingCommit} (hp : s.cfg.pending = some p) (hw : p.withdrawn s.now = true) :
    s.commitBoundary image = (s.cancelSettle, []) := by
  have hnone : s.cancelSettle.cfg.pending = none := by simp only [State.cancelSettle, hp, hw]; rfl
  simp [State.commitBoundary, hnone]

theorem State.commitBoundary_some {p : PendingCommit} (hp : s.cfg.pending = some p) (hw : p.withdrawn s.now = false) :
    s.commitBoundary image =
      if p.late image then (s.commitTaken.commitRefuse 3, [])
      else if p.due s.now image then ((s.commitTaken.commitApply p).setF F.CFG_STAT_RESULT 1, p.vals.map Prod.fst)
      else ({ s with cfg := { s.cfg with pending := some { p with deferred := false } } }, []) := by
  simp only [State.commitBoundary, s.cancelSettle_standing hp hw, hp]
  rfl

theorem State.setActive_congr (vals : List (Nat × Word)) : (s.setActive vals).regs = s.regs ∧ (s.setActive vals).tim = s.tim ∧
    (s.setActive vals).cfg = s.cfg := by
  rw [s.setActive_active]
  exact ⟨rfl, rfl, rfl⟩

theorem State.commitApply_eq (p : PendingCommit) : s.commitApply p =
    ((s.setActive p.vals).setW A.CFG_EPOCH (s.getW A.CFG_EPOCH + 1)).raise F.CFG_EVT_APPLIED := by
  rw [← State.getW_congr (s.setActive_congr p.vals).1]
  rfl

theorem State.commitBoundary_keeps : (s.commitBoundary image).1.tim = s.tim ∧
    s.regsKept (s.commitBoundary image).1 [A.CFG_STAT, A.CFG_EPOCH, A.CFG_EVT] := by
  have hrefl := State.regsKept.refl s [A.CFG_STAT, A.CFG_EPOCH, A.CFG_EVT]
  have htaken : s.regsKept s.commitTaken [A.CFG_STAT, A.CFG_EPOCH, A.CFG_EVT] :=
    (hrefl.congr rfl).setF F.CFG_STAT_PENDING 0 (by decide)
  have hrefused {t : State} (ht : s.regsKept t [A.CFG_STAT, A.CFG_EPOCH, A.CFG_EVT]) (r : Nat) :
      s.regsKept (t.commitRefuse r) [A.CFG_STAT, A.CFG_EPOCH, A.CFG_EVT] :=
    (ht.setF _ _ (by decide)).raise _ (by decide)
  cases hp : s.cfg.pending with
  | none =>
    rw [State.commitBoundary_none image hp]
    exact ⟨rfl, hrefl⟩
  | some p =>
    by_cases hw : p.withdrawn s.now = true
    · rw [State.commitBoundary_withdrawn image hp hw, State.cancelSettle_withdrawn hp hw]
      exact ⟨rfl, hrefused htaken 7⟩
    · rw [State.commitBoundary_some image hp (by simpa using hw)]
      split
      · exact ⟨rfl, hrefused htaken 3⟩
      · split
        · rw [State.commitApply_eq]
          obtain ⟨hregs, htim, _⟩ := s.commitTaken.setActive_congr p.vals
          exact ⟨htim, (((htaken.congr hregs).setW _ _ (by decide)).raise _ (by decide)).setF _ _ (by decide)⟩
        · exact ⟨rfl, hrefl⟩

theorem State.commitBoundary_due {p : PendingCommit} (hp : s.cfg.pending = some p) (hw : p.withdrawn s.now = false)
    (hlate : p.late image = false) (hdue : p.due s.now image = true) (hkeys : (p.vals.map Prod.fst).Nodup) :
    let t := (s.commitBoundary image).1
    (∀ a, t.actW a = s.pendW p.vals a) ∧ t.getW A.CFG_EPOCH = s.getW A.CFG_EPOCH + 1 ∧ t.getF F.CFG_STAT_RESULT = 1 ∧
      t.getF F.CFG_STAT_PENDING = 0 ∧ t.getF F.CFG_EVT_APPLIED = 1 ∧ t.cfg = {} := by
  intro t
  obtain ⟨hregs, htim, hcfg⟩ := s.commitTaken.setActive_congr p.vals
  have ht : t = (((s.commitTaken.setActive p.vals).setW A.CFG_EPOCH (s.commitTaken.getW A.CFG_EPOCH + 1)).raise
      F.CFG_EVT_APPLIED).setF F.CFG_STAT_RESULT 1 := by
    simp only [t, State.commitBoundary_some image hp hw, hlate, hdue, State.commitApply_eq, if_true]
    rfl
  rw [ht]
  refine ⟨fun a => s.commitTaken.actW_setActive hkeys a, ?_, State.getF_setF_self _ _ _ (by decide), ?_, ?_, ?_⟩
  · rw [State.getW_setF_ne _ _ _ (by decide), State.raise, State.getW_setF_ne _ _ _ (by decide), State.getW_setW_self,
      State.commitTaken, State.getW_setF_ne _ _ _ (by decide)]
    rfl
  · have hpend : (s.commitTaken.setActive p.vals).getF F.CFG_STAT_PENDING = 0 := by
      rw [State.getF, State.getW_congr hregs]
      exact State.getF_setF_self _ _ _ (by decide)
    simp (disch := decide) only [State.raise, State.getF_setF_apart]
    rw [State.getF, State.getW_setW_ne _ _ (by decide)]
    exact hpend
  · simp (disch := decide) only [State.raise, State.getF_setF_apart, State.getF_setF_self]
    rfl
  · exact hcfg

theorem State.commitBoundary_late {p : PendingCommit} (hp : s.cfg.pending = some p) (hw : p.withdrawn s.now = false)
    (hlate : p.late image = true) :
    let t := (s.commitBoundary image).1
    t.active = s.active ∧ t.getW A.CFG_EPOCH = s.getW A.CFG_EPOCH ∧ t.getF F.CFG_STAT_RESULT = 3 ∧ t.getF F.CFG_EVT_REFUSED = 1 ∧
      t.getF F.CFG_STAT_PENDING = 0 ∧ t.cfg.pending = none := by
  intro t
  have ht : t = s.commitTaken.commitRefuse 3 := by
    simp only [t, State.commitBoundary_some image hp hw, hlate, if_true]
  rw [ht]
  refine ⟨rfl, ?_, ?_, State.getF_raise_self _ _ (by decide) (by decide), ?_, rfl⟩
  · rw [State.getW_commitRefuse_ne _ _ (by decide) (by decide), State.commitTaken, State.getW_setF_ne _ _ _ (by decide)]
    rfl
  · simp (disch := decide) only [State.commitRefuse, State.raise, State.getF_setF_apart, State.getF_setF_self]
    rfl
  · simp (disch := decide) only [State.commitRefuse, State.commitTaken, State.raise, State.getF_setF_apart, State.getF_setF_self]
    rfl

theorem State.commitBoundary_waits {p : PendingCommit} (hp : s.cfg.pending = some p) (hw : p.withdrawn s.now = false)
    (hd : p.deferred = false) (hdue : p.due s.now image = false) : (s.commitBoundary image).1 = s := by
  have hlate : p.late image = false := by simp [PendingCommit.late, hd]
  rw [State.commitBoundary_some image hp hw, hlate, hdue]
  have hsame : { p with deferred := false } = p := by rw [← hd]
  have hpend : ({ s.cfg with pending := some p } : CommitState) = s.cfg := by rw [← hp]
  simp only [hsame, hpend]
  rfl
end

/-! ### Image boundaries -/

section
variable (f : Nat) (image : Word) (x : List Burst) (s : State)

/-- The state with a new current image. -/
def State.atImage : State := { s with tim := { s.tim with image := some image } }

/-- The state in which a boundary makes the commit: on a Head, scan-out has begun the image. -/
def State.boundaryStart : State :=
  if s.isHead then (s.atImage image).when s.memRuns fun t => (t.scanSigs ((f + t.facets - 1) % t.facets) x).scanBegin f
  else s.atImage image

/-- What a boundary does after the commit. -/
def State.boundaryRest (last : Word) : State :=
  let s2 := ((s.govBoundary image).keyBoundary image).copyBoundary
  let s3 := (s2.geodeBoundary image).boundaryHand f last
  let s4 := if s3.isHead then (s3.encBoundary f last).readyEval else s3
  { s4 with lnk := { s4.lnk with snap := s4.statusNow } }.copyChanged.headSync.updBoundary

theorem State.boundaryRest_view (last : Word) : (s.boundaryRest f image last).view boundaryRegs = s.view boundaryRegs := by
  unfold State.boundaryRest
  extract_lets s2 s3 s4
  have h3 : s3.view boundaryRegs = s.view boundaryRegs := by simp [s3, s2]
  have h4 : s4.view boundaryRegs = s3.view boundaryRegs := by
    simp only [s4]
    split <;> simp
  rw [← h3, ← h4]
  simp

theorem State.imageBegins_view :
    (s.imageBegins f image x).view boundaryRegs = ((s.boundaryStart f image x).commitBoundary image).1.view boundaryRegs := by
  have hrest : s.imageBegins f image x =
      (if s.isHead then (s.atImage image).headBoundary f image x else (s.atImage image).boundaryCommit image).boundaryRest f image
        (image - BitVec.ofNat 32 s.facets) := rfl
  rw [hrest, State.boundaryRest_view, State.boundaryStart]
  split
  · simp [State.headBoundary, State.boundaryCommit]
    rfl
  · simp [State.boundaryCommit]

/-- The registers of a commit. -/
def commitRegs : List Nat := [A.CFG_STAT, A.CFG_EPOCH, A.CFG_EVT]

theorem State.boundaryStart_view : (s.boundaryStart f image x).view commitRegs = (s.atImage image).view commitRegs := by
  have hbegin (t : State) : (t.scanBegin f).view commitRegs = t.view commitRegs := by
    rw [State.scanBegin, State.setF_view _ (by unfold Fld.quiet; decide)]
    rfl
  unfold State.boundaryStart
  split
  · refine State.when_view _ _ _ fun t => (hbegin _).trans ?_
    exact State.view_sub (t.scanSigs_view _ x) (by decide)
  · rfl

theorem State.getF_boundaryStart_facet (hf : f < 4) (hh : s.isHead = true) (hm : s.memRuns = true) :
    (s.boundaryStart f image x).getF F.SCN_STAT_FACET = f := by
  rw [State.boundaryStart, if_pos hh, State.when, if_pos hm, State.scanBegin, State.getF_setF_self _ _ _ (by decide)]
  exact Nat.mod_eq_of_lt hf

end

section
variable {f : Fin 4} {x : List Burst} {s : State}

/-- What `IMAGE_BOUNDARY` does to the frame count, the active values and the registers of a commit is what the commit does, in a
state that has them as they were and the new image's number. -/
theorem exec_imageBoundary_commit (hk : s.boundaryKnown = true) (hf : f.val < s.facets) :
    ∃ t r : State, exec (.imageBoundary f x) s = .next t ∧
      t.view boundaryRegs = (r.commitBoundary (s.imageOf f)).1.view boundaryRegs ∧
      r.view commitRegs = (s.atImage (s.imageOf f)).view commitRegs ∧
      (s.isHead = true → s.memRuns = true → r.getF F.SCN_STAT_FACET = f) := by
  refine ⟨_, s.boundaryStart f (s.imageOf f) x, if_pos ?_, s.imageBegins_view f _ x, s.boundaryStart_view f _ x,
    s.getF_boundaryStart_facet f _ x f.isLt⟩
  simp [hk, hf]

/-- The state before the commit has the active values, the pending commit and its registers as they were. -/
theorem State.view_atImage {r : State} {image : Word} (h : r.view commitRegs = (s.atImage image).view commitRegs) :
    r.now = s.now ∧ r.active = s.active ∧ r.cfg = s.cfg ∧ r.tim = { s.tim with image := some image } ∧
      ∀ a ∈ commitRegs, r.getW a = s.getW a := by
  obtain ⟨hnow, hact, hcfg, htim, _, _, hreg⟩ := State.view_eq_iff.1 h
  exact ⟨hnow, hact, hcfg, htim, hreg⟩

variable (hk : s.boundaryKnown = true) (hf : f.val < s.facets)
include hk hf

theorem exec_imageBoundary_image : ∃ t, exec (.imageBoundary f x) s = .next t ∧ t.tim.image = some (s.imageOf f) ∧
    (s.isHead = true → s.memRuns = true → t.getF F.SCN_STAT_FACET = f.val) := by
  obtain ⟨t, r, hexec, ht, hr, hfacet⟩ := exec_imageBoundary_commit (x := x) hk hf
  obtain ⟨-, -, -, htim, -⟩ := State.view_eq_iff.1 ht
  obtain ⟨-, -, -, hrtim, -⟩ := State.view_atImage hr
  obtain ⟨hctim, hkept⟩ := r.commitBoundary_keeps (s.imageOf f)
  refine ⟨t, hexec, by rw [htim, hctim, hrtim], fun hh hm => ?_⟩
  rw [State.getF_of_view ht (by decide), hkept.getF_eq _ (by decide), hfacet hh hm]

theorem exec_imageBoundary_none (hcfg : s.cfg = {}) : ∃ t, exec (.imageBoundary f x) s = .next t ∧ t.active = s.active ∧
    t.getW A.CFG_EPOCH = s.getW A.CFG_EPOCH ∧ t.getW A.CFG_STAT = s.getW A.CFG_STAT ∧
    t.getW A.CFG_EVT = s.getW A.CFG_EVT ∧ t.cfg = {} := by
  obtain ⟨t, r, hexec, ht, hr, -⟩ := exec_imageBoundary_commit (x := x) hk hf
  obtain ⟨-, hract, hrcfg, -, hrw⟩ := State.view_atImage hr
  rw [State.commitBoundary_none _ (by rw [hrcfg, hcfg])] at ht
  obtain ⟨-, hact, htcfg, -, -, -, hw⟩ := State.view_eq_iff.1 ht
  exact ⟨t, hexec, hact.trans hract, by rw [hw _ (by decide), hrw _ (by decide)], by rw [hw _ (by decide), hrw _ (by decide)],
    by rw [hw _ (by decide), hrw _ (by decide)], by rw [htcfg, hrcfg, hcfg]⟩

variable {p : PendingCommit} (hp : s.cfg.pending = some p)
include hp

theorem exec_imageBoundary_withdrawn (hw : p.withdrawn s.now = true) :
    ∃ t, exec (.imageBoundary f x) s = .next t ∧ t.active = s.active ∧ t.getW A.CFG_EPOCH = s.getW A.CFG_EPOCH ∧
      t.getF F.CFG_STAT_RESULT = 7 ∧ t.getF F.CFG_STAT_PENDING = 0 ∧ t.cfg.pending = none := by
  obtain ⟨t, r, hexec, ht, hr, -⟩ := exec_imageBoundary_commit (x := x) hk hf
  obtain ⟨hrnow, hract, hrcfg, -, hrw⟩ := State.view_atImage hr
  rw [← hrcfg] at hp
  rw [← hrnow] at hw
  rw [State.commitBoundary_withdrawn _ hp hw] at ht
  obtain ⟨hresult, hpend, -⟩ := State.getF_cancelSettle_withdrawn hp hw
  have hsettle := State.cancelSettle_withdrawn hp hw
  obtain ⟨-, hact, htcfg, -, -, -, htw⟩ := State.view_eq_iff.1 ht
  refine ⟨t, hexec, ?_, ?_, by rw [State.getF_of_view ht (by decide), hresult],
    by rw [State.getF_of_view ht (by decide), hpend], ?_⟩
  · rw [hact, hsettle, ← hract]
    rfl
  · rw [htw _ (by decide), hsettle, State.getW_commitRefuse_ne _ _ (by decide) (by decide), ← hrw _ (by decide)]
    exact State.getW_setF_ne _ _ _ (by decide)
  · rw [htcfg, hsettle]
    rfl

variable (hw : p.withdrawn s.now = false)
include hw

theorem exec_imageBoundary_due (hd : p.deferred = false) (hdue : p.due s.now (s.imageOf f) = true)
    (hkeys : (p.vals.map Prod.fst).Nodup) : ∃ t, exec (.imageBoundary f x) s = .next t ∧ (∀ a, t.actW a = s.pendW p.vals a) ∧
      t.getW A.CFG_EPOCH = s.getW A.CFG_EPOCH + 1 ∧ t.getF F.CFG_STAT_RESULT = 1 ∧ t.getF F.CFG_STAT_PENDING = 0 ∧
      t.getF F.CFG_EVT_APPLIED = 1 ∧ t.cfg = {} := by
  obtain ⟨t, r, hexec, ht, hr, -⟩ := exec_imageBoundary_commit (x := x) hk hf
  obtain ⟨hrnow, hract, hrcfg, -, hrw⟩ := State.view_atImage hr
  rw [← hrcfg] at hp
  rw [← hrnow] at hw hdue
  obtain ⟨hactive, hepoch, hresult, hpend, happlied, hcfg⟩ :=
    State.commitBoundary_due _ hp hw (by simp [PendingCommit.late, hd]) hdue hkeys
  obtain ⟨-, htact, htcfg, -, -, -, htw⟩ := State.view_eq_iff.1 ht
  refine ⟨t, hexec, fun a => ?_, by rw [htw _ (by decide), hepoch, hrw _ (by decide)],
    by rw [State.getF_of_view ht (by decide), hresult], by rw [State.getF_of_view ht (by decide), hpend],
    by rw [State.getF_of_view ht (by decide), happlied], by rw [htcfg, hcfg]⟩
  rw [State.actW, htact]
  refine (hactive a).trans ?_
  simp only [State.pendW, State.actW, hract]

theorem exec_imageBoundary_waits (hd : p.deferred = false) (hdue : p.due s.now (s.imageOf f) = false) :
    ∃ t, exec (.imageBoundary f x) s = .next t ∧ t.active = s.active ∧ t.getW A.CFG_EPOCH = s.getW A.CFG_EPOCH ∧
      t.getW A.CFG_STAT = s.getW A.CFG_STAT ∧ t.cfg.pending = some p := by
  obtain ⟨t, r, hexec, ht, hr, -⟩ := exec_imageBoundary_commit (x := x) hk hf
  obtain ⟨hrnow, hract, hrcfg, -, hrw⟩ := State.view_atImage hr
  rw [← hrcfg] at hp
  rw [← hrnow] at hw hdue
  rw [State.commitBoundary_waits _ hp hw hd hdue] at ht
  obtain ⟨-, htact, htcfg, -, -, -, htw⟩ := State.view_eq_iff.1 ht
  exact ⟨t, hexec, htact.trans hract, by rw [htw _ (by decide), hrw _ (by decide)],
    by rw [htw _ (by decide), hrw _ (by decide)], by rw [htcfg, hp]⟩

theorem exec_imageBoundary_late (hlate : p.late (s.imageOf f) = true) :
    ∃ t, exec (.imageBoundary f x) s = .next t ∧ t.active = s.active ∧ t.getW A.CFG_EPOCH = s.getW A.CFG_EPOCH ∧
      t.getF F.CFG_STAT_RESULT = 3 ∧ t.getF F.CFG_EVT_REFUSED = 1 ∧ t.getF F.CFG_STAT_PENDING = 0 ∧ t.cfg.pending = none := by
  obtain ⟨t, r, hexec, ht, hr, -⟩ := exec_imageBoundary_commit (x := x) hk hf
  obtain ⟨hrnow, hract, hrcfg, -, hrw⟩ := State.view_atImage hr
  rw [← hrcfg] at hp
  rw [← hrnow] at hw
  obtain ⟨hactive, hepoch, hresult, hrefused, hpend, hcfg⟩ := State.commitBoundary_late _ hp hw hlate
  obtain ⟨-, htact, htcfg, -, -, -, htw⟩ := State.view_eq_iff.1 ht
  exact ⟨t, hexec, by rw [htact, hactive, hract], by rw [htw _ (by decide), hepoch, hrw _ (by decide)],
    by rw [State.getF_of_view ht (by decide), hresult], by rw [State.getF_of_view ht (by decide), hrefused],
    by rw [State.getF_of_view ht (by decide), hpend], by rw [htcfg, hcfg]⟩

end

/-! ### What ends with a frame leaves the frame count -/

/-- The registers of the frame count and of the facet offsets, and those that say whether a partner's count is followed. -/
def frameRegs : List Nat :=
  [A.TIM_FRAME, A.TIM_CNT, A.TIM_EVT, A.RED_STAT, A.SUP_STAT, A.BOOT_STAT, A.SEC_STAT] ++ (List.range 4).map A.SCN_FOFS

theorem quiet_frameRegs_of_lt {n : Nat} (hn : n < 8) : (F.LNK_PSTAT_SUSPECT n).quiet frameRegs ∧
    (F.ENC_ENG_LOAD n).quiet frameRegs ∧ (F.ENC_ENG_TILES n).quiet frameRegs := by
  unfold Fld.quiet
  revert n
  decide

theorem quiet_frameRegs_hr {b : Nat} (hb : b < 4) : (F.CORR_HR_MIN b).quiet frameRegs := by
  unfold Fld.quiet
  revert b
  decide

@[simp] theorem quiet_frameRegs : F.SCN_MEMSR_RESID.quiet frameRegs ∧ F.SCN_MEMSR_ENTRIES.quiet frameRegs ∧
    F.RAIL_HR_FRAME_MIN.quiet frameRegs ∧ F.RAIL_SP_TARGET.quiet frameRegs ∧ F.RAIL_EVT_SP_LIMIT.quiet frameRegs ∧
    F.CLK_STAT_VID_STEER.quiet frameRegs ∧ F.CLK_EVT_HOLDOVER.quiet frameRegs ∧ F.CLK_STAT_VID_OFFS.quiet frameRegs ∧
    F.CLK_STAT_VID_LIMIT.quiet frameRegs ∧ F.TIM_FB_NS.quiet frameRegs ∧ F.SCN_EVT_SHUT_CLAMP.quiet frameRegs := by
  unfold Fld.quiet
  decide

section
variable (s : State)

@[simp] theorem State.suspectFrame_view {n : Nat} (hn : n < 8) : (s.suspectFrame n).view frameRegs = s.view frameRegs := by
  have hquiet := (quiet_frameRegs_of_lt hn).1
  unfold State.suspectFrame
  simp [hquiet]

theorem State.lt_of_mem_portList {n : Nat} (hn : n ∈ s.portList) : n < 8 := by
  unfold State.portList at hn
  split at hn
  · exact List.mem_range.1 hn
  · simp at hn
    omega

@[simp] theorem State.srFrame_view : s.srFrame.view frameRegs = s.view frameRegs := by
  unfold State.srFrame
  simp

@[simp] theorem State.encTiles_view : s.encTiles.view frameRegs = s.view frameRegs :=
  State.forEach_same_of_mem (State.view · frameRegs) fun _ he u =>
    u.setF_view (quiet_frameRegs_of_lt (List.mem_range.1 he)).2.2 _

@[simp] theorem State.encFrame_view : s.encFrame.view frameRegs = s.view frameRegs := by
  unfold State.encFrame
  simp only [State.encTiles_view, State.mk_view]
  exact State.forEach_same_of_mem (State.view · frameRegs) fun _ he u =>
    u.setF_view (quiet_frameRegs_of_lt (List.mem_range.1 he)).2.1 _

@[simp] theorem State.redFrame_view {l : List Nat} : s.redFrame.view l = s.view l := by
  unfold State.redFrame
  simp

@[simp] theorem State.corrFrame_view : s.corrFrame.view frameRegs = s.view frameRegs := by
  unfold State.corrFrame
  simp only [State.mk_view]
  refine State.forEach_same_of_mem (State.view · frameRegs) fun _ hb u => u.setF_view (quiet_frameRegs_hr ?_) _
  simp at hb
  omega

@[simp] theorem State.setTarget_view (mv : Int) : (s.setTarget mv).view frameRegs = s.view frameRegs := by
  unfold State.setTarget
  simp

@[simp] theorem State.railFrame_view : s.railFrame.view frameRegs = s.view frameRegs := by
  unfold State.railFrame
  dsimp only
  split
  · split <;> simp
  · simp

theorem State.frameEnds_view : s.frameEnds.view frameRegs = s.view frameRegs := by
  unfold State.frameEnds
  extract_lets s1 s2
  have h1 : s1.view frameRegs = s.view frameRegs :=
    State.forEach_same_of_mem (State.view · frameRegs) fun _ hn u => u.suspectFrame_view (s.lt_of_mem_portList hn)
  have h2 : s2.view frameRegs = s1.view frameRegs := by simp [s2]
  rw [State.railFrame_view, State.corrFrame_view, h2, h1]

@[simp] theorem State.vpllSteer_view (need : Int) : (s.vpllSteer need).view frameRegs = s.view frameRegs := by
  unfold State.vpllSteer
  split
  · rfl
  · split <;> simp

@[simp] theorem State.frameSync_view {l : List Nat} : s.frameSync.view l = s.view l := by
  unfold State.frameSync
  simp

@[simp] theorem State.shutFrame_view {l : List Nat} : s.shutFrame.view l = s.view l :=
  s.forEach_same (State.view · l) _ fun _ _ => State.mk_view ..

theorem State.paceFrame_keeps : s.paceFrame.tim = { s.tim with nextLines := (s.paceAll s.tim.nextLines).1 } ∧
    s.regsKept s.paceFrame [A.SCN_EVT] := by
  unfold State.paceFrame State.when
  have hrefl := State.regsKept.refl s [A.SCN_EVT]
  dsimp only
  split
  · exact ⟨rfl, (hrefl.congr rfl).raise _ (by decide)⟩
  · exact ⟨rfl, hrefl.congr rfl⟩

variable {s} in
theorem State.frameFromPeer_of_view {t : State} (h : t.view frameRegs = s.view frameRegs) : t.frameFromPeer = s.frameFromPeer := by
  have hget {f : Fld} (hf : f.addr ∈ frameRegs) : t.getF f = s.getF f := State.getF_of_view h hf
  obtain ⟨-, -, -, -, hplan, hheart, -⟩ := State.view_eq_iff.1 h
  simp only [State.frameFromPeer, State.pairLive, State.paired, State.isHead, State.duty, State.flag, hheart, hplan,
    hget (f := F.RED_STAT_DUTY) (by decide), hget (f := F.RED_STAT_PEER) (by decide), hget (f := F.SUP_STAT_ROLE) (by decide),
    hget (f := F.RED_STAT_PAIR_REFUSED) (by decide), hget (f := F.BOOT_STAT_ROLE_PLAN) (by decide),
    hget (f := F.SEC_STAT_DEBUG) (by decide)]

theorem State.nextFrame_own (h : s.frameFromPeer = false) : s.nextFrame = s.getW A.TIM_FRAME + 1 := by
  unfold State.nextFrame
  unfold State.frameFromPeer at h
  split
  · next m hm =>
    rw [hm] at h
    exact if_neg (by simpa using h)
  · rfl

theorem State.frameCorrect_own (h : s.frameFromPeer = false) : s.frameCorrect (s.getW A.TIM_FRAME + 1) = s := by
  have hd : diff32 (s.getW A.TIM_FRAME + 1) (s.getW A.TIM_FRAME + 1) = 0 := by simp [diff32, toSigned]
  rw [State.frameCorrect, hd, if_pos rfl, h, Bool.or_false]

/-! ### Frame boundaries (R314, R315) -/

/-- A field as wide as its register is the register. -/
theorem Fld.put_whole {f : Fld} (hlo : f.lo = 0) (hwidth : f.width = 32) (w x : Word) : f.put w x.toNat = x := by
  apply BitVec.eq_of_getLsbD_eq
  intro i hi
  rw [Fld.getLsbD_put _ _ _ _ hi, hlo, hwidth, if_pos (by omega)]
  simp [BitVec.getLsbD]

section
variable (frame : Word) (fb period : Nat) (ofs : List Nat)

theorem State.getW_setFrame_self : (s.setFrame frame fb period ofs).getW A.TIM_FRAME = frame := by
  unfold State.setFrame
  extract_lets _ _ s1
  rw [State.getW_setF_ne _ _ _ (by decide)]
  exact (State.getW_setF_self s1 F.TIM_FRAME_FRAME _).trans (Fld.put_whole rfl rfl _ frame)

theorem State.getW_setFrame_ne {a : Nat} (hframe : a ≠ A.TIM_FRAME) (hfb : a ≠ A.TIM_FB) :
    (s.setFrame frame fb period ofs).getW a = s.getW a := by
  unfold State.setFrame
  rw [State.getW_setF_ne _ _ _ hfb, State.getW_setF_ne _ _ _ hframe]
  rfl
end

theorem State.ofsOf_congr {s t : State} (hplan : t.plan = s.plan) (hperiod : t.tim.period = s.tim.period) (l : List Nat) :
    t.ofsOf l = s.ofsOf l := by
  have hfacets : t.facets = s.facets := by rw [State.facets, hplan, State.facets]
  have hline (n : Nat) : t.lineOfs n = s.lineOfs n := by simp only [State.lineOfs, hfacets, hplan, hperiod]
  simp only [State.ofsOf, hfacets, hline]

theorem State.facets_le : s.facets ≤ 4 := by
  unfold State.facets
  omega

/-- The facet offsets of a frame shown in `SCN_FOFS`. -/
def State.showOffsets (s : State) (l : List Nat) : State :=
  s.forEach (List.range s.facets) fun f t => t.setF (F.SCN_FOFS_LINES f) (nth l f 0)

theorem State.showOffsets_tim (l : List Nat) : (s.showOffsets l).tim = s.tim :=
  s.forEach_same (State.tim ·) _ fun _ _ => rfl

theorem State.getW_showOffsets_frame (l : List Nat) : (s.showOffsets l).getW A.TIM_FRAME = s.getW A.TIM_FRAME := by
  refine State.forEach_same_of_mem (State.getW · A.TIM_FRAME) fun f hf u => u.getW_setF_ne _ _ ?_
  have hlt : f < 4 := (List.mem_range.1 hf).trans_le s.facets_le
  clear hf
  revert f
  decide

theorem State.getF_showOffsets {f : Nat} (l : List Nat) (hf : f < s.facets) :
    (s.showOffsets l).getF (F.SCN_FOFS_LINES f) = nth l f 0 % 2 ^ 16 := by
  have hwidth : (F.SCN_FOFS_LINES f).lo + (F.SCN_FOFS_LINES f).width ≤ 32 := by simp [F.SCN_FOFS_LINES]
  refine State.forEach_once (State.getF · (F.SCN_FOFS_LINES f)) (fun _ => nth l f 0 % 2 ^ 16) (List.mem_range.2 hf)
    List.nodup_range (fun u => u.getF_setF_self _ _ hwidth) fun k u hk => u.getF_setF_apart _ _ _ ?_ hwidth
  simpa [Fld.apart, F.SCN_FOFS_LINES] using hk

/-- A Head that counts for itself. -/
theorem State.headFrame_own (h : s.frameFromPeer = false) :
    let t := s.headFrame
    t.getW A.TIM_FRAME = s.getW A.TIM_FRAME + 1 ∧ t.tim.ofs = s.ofsOf s.tim.nextLines ∧ t.tim.period = s.tim.period ∧
      t.tim.fb = (s.getW A.TIM_FRAME + 1).toNat * s.framePeriod % 2 ^ 40 ∧
      ∀ f, f < s.facets → t.getF (F.SCN_FOFS_LINES f) = nth s.tim.nextLines f 0 % 2 ^ 16 := by
  intro t
  let u := s.setFrame (s.getW A.TIM_FRAME + 1) ((s.getW A.TIM_FRAME + 1).toNat * s.framePeriod % 2 ^ 40) s.tim.period
    (s.ofsOf s.tim.nextLines)
  have ht : t = (u.showOffsets s.tim.nextLines).shutFrame.paceFrame := by
    simp only [t, State.headFrame, s.nextFrame_own h, s.frameCorrect_own h]
    rfl
  obtain ⟨htim, hkept⟩ := (u.showOffsets s.tim.nextLines).shutFrame.paceFrame_keeps
  obtain ⟨-, -, -, hshut, -⟩ := State.view_eq_iff.1 ((u.showOffsets s.tim.nextLines).shutFrame_view (l := []))
  have hword {a : Nat} (ha : a ≠ A.SCN_EVT) : t.getW a = (u.showOffsets s.tim.nextLines).getW a := by
    rw [ht, hkept a (by simpa using ha)]
    exact State.getW_of_view ((u.showOffsets s.tim.nextLines).shutFrame_view (l := [a])) List.mem_cons_self
  have hframe : (u.showOffsets s.tim.nextLines).shutFrame.tim = u.tim := by
    rw [hshut, State.showOffsets_tim]
  rw [hframe] at htim
  refine ⟨?_, by rw [ht, htim]; rfl, by rw [ht, htim]; rfl, by rw [ht, htim]; rfl, fun f hf => ?_⟩
  · rw [hword (by decide), State.getW_showOffsets_frame]
    exact s.getW_setFrame_self ..
  · have hlt : f < 4 := hf.trans_le s.facets_le
    rw [State.getF, hword ?_]
    · exact u.getF_showOffsets _ hf
    · clear hf
      revert f
      decide

/-- A Tile that has heard the frame announced. -/
theorem State.tileFrame_fresh {m : SyncMsg} (hann : s.tim.ann = some m) (hfresh : s.tim.annFresh = true) :
    let t := s.tileFrame
    t.getW A.TIM_FRAME = m.frame ∧ t.tim.fb = m.fb ∧ t.tim.period = m.period ∧ t.tim.ofs = m.ofs ∧ t.tim.annFresh = false ∧
      t.getW A.TIM_CNT = s.getW A.TIM_CNT := by
  intro t
  have ht : t = ({ s with tim := { s.tim with annFresh := false } } : State).setFrame m.frame m.fb m.period m.ofs := by
    simp only [t, State.tileFrame, hann, hfresh, if_true]
  rw [ht]
  exact ⟨State.getW_setFrame_self .., rfl, rfl, rfl, rfl, State.getW_setFrame_ne _ _ _ _ _ (by decide) (by decide)⟩

/-- A Tile that has heard no announcement. -/
theorem State.tileFrame_missed {m : SyncMsg} (hann : s.tim.ann = some m) (hfresh : s.tim.annFresh = false) :
    let t := s.tileFrame
    t.getW A.TIM_FRAME = s.getW A.TIM_FRAME + 1 ∧ t.tim.fb = (s.tim.fb + s.framePeriod) % 2 ^ 40 ∧ t.tim.period = s.tim.period ∧
      t.tim.ofs = s.tim.ofs ∧
      t.getF F.TIM_CNT_ANN_MISS = min (s.getF F.TIM_CNT_ANN_MISS + 1) (2 ^ F.TIM_CNT_ANN_MISS.width - 1) ∧
      t.getF F.TIM_EVT_ANN_MISS = 1 := by
  intro t
  let u := (s.bump F.TIM_CNT_ANN_MISS).raise F.TIM_EVT_ANN_MISS
  have ht : t = u.setFrame (u.getW A.TIM_FRAME + 1) ((s.tim.fb + s.framePeriod) % 2 ^ 40) s.tim.period s.tim.ofs := by
    simp only [t, State.tileFrame, hann, hfresh]
    rfl
  have hframe : u.getW A.TIM_FRAME = s.getW A.TIM_FRAME :=
    ((s.bump F.TIM_CNT_ANN_MISS).getW_setF_ne _ _ (by decide)).trans (s.getW_setF_ne _ _ (by decide))
  have hmiss : u.getF F.TIM_CNT_ANN_MISS = min (s.getF F.TIM_CNT_ANN_MISS + 1) (2 ^ F.TIM_CNT_ANN_MISS.width - 1) :=
    (State.getF_setF_apart _ _ _ _ (by decide) (by decide)).trans (s.getF_bump_self _ (by decide))
  have hevt : u.getF F.TIM_EVT_ANN_MISS = 1 := State.getF_raise_self _ _ (by decide) (by decide)
  rw [ht, hframe]
  refine ⟨State.getW_setFrame_self .., rfl, rfl, rfl, ?_, ?_⟩
  · rw [State.getF, State.getW_setFrame_ne _ _ _ _ _ (by decide) (by decide), ← hmiss, State.getF]
  · rw [State.getF, State.getW_setFrame_ne _ _ _ _ _ (by decide) (by decide), ← hevt, State.getF]
end

section
variable {need : Int} {s : State} (hrun : s.running = true) (hload : s.boot.loaded = true) (htb : s.tim.running = true)
include hrun hload htb

theorem exec_frameBoundary_head (hh : s.isHead = true) (hpeer : s.frameFromPeer = false) :
    ∃ t, exec (.frameBoundary need) s = .next t ∧ t.getW A.TIM_FRAME = s.getW A.TIM_FRAME + 1 ∧
      t.tim.ofs = s.ofsOf s.tim.nextLines ∧ t.tim.period = s.tim.period ∧
      t.tim.fb = (s.getW A.TIM_FRAME + 1).toNat * s.framePeriod % 2 ^ 40 ∧
      ∀ f, f < s.facets → t.getF (F.SCN_FOFS_LINES f) = nth s.tim.nextLines f 0 % 2 ^ 16 := by
  have hexec : exec (.frameBoundary need) s = .next ((s.frameEnds.headFrame).vpllSteer need).frameSync := by
    show execFrameBoundary need s = _
    simp [execFrameBoundary, hrun, hload, htb, hh]
  have hends := s.frameEnds_view
  have hafter : ((s.frameEnds.headFrame).vpllSteer need).frameSync.view frameRegs =
      s.frameEnds.headFrame.view frameRegs := by simp
  obtain ⟨-, -, -, htim, hplan, -, hword⟩ := State.view_eq_iff.1 hends
  obtain ⟨-, -, -, hatim, -, -, haword⟩ := State.view_eq_iff.1 hafter
  obtain ⟨hframe, hofs, hperiod, hfb, hlines⟩ :=
    s.frameEnds.headFrame_own ((State.frameFromPeer_of_view hends).trans hpeer)
  refine ⟨_, hexec, by rw [haword _ (by decide), hframe, hword _ (by decide)], ?_, by rw [hatim, hperiod, htim], ?_,
    fun f hf => ?_⟩
  · rw [hatim, hofs, htim]
    exact State.ofsOf_congr hplan (by rw [htim]) _
  · rw [hatim, hfb, hword _ (by decide), State.framePeriod, htim, State.framePeriod]
  · have hlt : f < 4 := hf.trans_le s.facets_le
    have hmem : (F.SCN_FOFS_LINES f).addr ∈ frameRegs := by
      clear hf
      revert f
      decide
    rw [State.getF_of_view hafter hmem, hlines f (by simpa only [State.facets, hplan] using hf), htim]

section
variable (hh : s.isHead = false) (hlock : s.lmp.tb0Once = true) {m : SyncMsg} (hann : s.tim.ann = some m)
include hh hlock hann

theorem exec_frameBoundary_tile : exec (.frameBoundary need) s = .next ((s.frameEnds.tileFrame).vpllSteer need) := by
  show execFrameBoundary need s = _
  simp [execFrameBoundary, hrun, hload, htb, hh, hlock, hann]

theorem exec_frameBoundary_fresh (hfresh : s.tim.annFresh = true) :
    ∃ t, exec (.frameBoundary need) s = .next t ∧ t.getW A.TIM_FRAME = m.frame ∧ t.tim.fb = m.fb ∧ t.tim.period = m.period ∧
      t.tim.ofs = m.ofs ∧ t.tim.annFresh = false ∧ t.getW A.TIM_CNT = s.getW A.TIM_CNT := by
  obtain ⟨-, -, -, htim, -, -, hword⟩ := State.view_eq_iff.1 s.frameEnds_view
  obtain ⟨-, -, -, hatim, -, -, haword⟩ := State.view_eq_iff.1 (s.frameEnds.tileFrame.vpllSteer_view need)
  obtain ⟨hframe, hfb, hperiod, hofs, hused, hcnt⟩ := s.frameEnds.tileFrame_fresh (htim ▸ hann) (htim ▸ hfresh)
  refine ⟨_, exec_frameBoundary_tile hrun hload htb hh hlock hann, ?_⟩
  rw [hatim, haword _ (by decide), haword _ (by decide), ← hword A.TIM_CNT (by decide)]
  exact ⟨hframe, hfb, hperiod, hofs, hused, hcnt⟩

theorem exec_frameBoundary_missed (hfresh : s.tim.annFresh = false) :
    ∃ t, exec (.frameBoundary need) s = .next t ∧ t.getW A.TIM_FRAME = s.getW A.TIM_FRAME + 1 ∧
      t.tim.fb = (s.tim.fb + s.framePeriod) % 2 ^ 40 ∧ t.tim.period = s.tim.period ∧ t.tim.ofs = s.tim.ofs ∧
      t.getF F.TIM_CNT_ANN_MISS = min (s.getF F.TIM_CNT_ANN_MISS + 1) (2 ^ F.TIM_CNT_ANN_MISS.width - 1) ∧
      t.getF F.TIM_EVT_ANN_MISS = 1 := by
  have hends := s.frameEnds_view
  have hafter := s.frameEnds.tileFrame.vpllSteer_view need
  obtain ⟨-, -, -, htim, -, -, hword⟩ := State.view_eq_iff.1 hends
  obtain ⟨-, -, -, hatim, -, -, haword⟩ := State.view_eq_iff.1 hafter
  obtain ⟨hframe, hfb, hperiod, hofs, hmiss, hevt⟩ := s.frameEnds.tileFrame_missed (htim ▸ hann) (htim ▸ hfresh)
  rw [State.framePeriod, htim] at hfb
  rw [htim] at hperiod hofs
  rw [hword _ (by decide)] at hframe
  rw [State.getF_of_view hends (by decide)] at hmiss
  refine ⟨_, exec_frameBoundary_tile hrun hload htb hh hlock hann, ?_⟩
  rw [hatim, haword _ (by decide), State.getF_of_view hafter (by decide), State.getF_of_view hafter (by decide)]
  exact ⟨hframe, hfb, hperiod, hofs, hmiss, hevt⟩
end
end

/-! ### The statement -/

/-- Settles O30: an image boundary shows of the commit what the commit alone does, since what the blocks do around it leaves the
active values and the registers of a commit; a frame boundary shows what the count does, for the same reason. That a deferred
request that is late at its first boundary is refused there is the model's reading (log entry 21). -/
theorem boundariesApplyCommitsAndNumberFrames : Obligations.BoundariesApplyCommitsAndNumberFrames := by
  unfold Obligations.BoundariesApplyCommitsAndNumberFrames
  refine ⟨⟨fun f x s hk hf => exec_imageBoundary_image hk hf,
      fun f x p s hk hf hp hw hd hdue hkeys => exec_imageBoundary_due hk hf hp hw hd hdue hkeys,
      fun f x s hk hf hcfg => exec_imageBoundary_none hk hf hcfg,
      fun f x p s hk hf hp hw hd hdue => exec_imageBoundary_waits hk hf hp hw hd hdue,
      fun f x p g s hk hf hp hw hd hg hdiff => exec_imageBoundary_late hk hf hp hw (by simp [PendingCommit.late, hd, hg, hdiff]),
      fun f x p s hk hf hp hw => exec_imageBoundary_withdrawn hk hf hp hw⟩,
    fun need s hrun hload htb hh hpeer => exec_frameBoundary_head hrun hload htb hh hpeer,
    fun need m s hrun hload htb hh hlock hann hfresh => exec_frameBoundary_fresh hrun hload htb hh hlock hann hfresh,
    fun need m s hrun hload htb hh hlock hann hfresh => exec_frameBoundary_missed hrun hload htb hh hlock hann hfresh⟩

end Sys2Proof.Machine
end

section
/-!
PROOFS. The start (chapter 04): fuse sensing (R57, R58), the load of a bank (R59 to R71), the memory of a Head (R68, R72), the
position of a Tile (R66, R73), release (R74) and recovery mode (R67).
-/

namespace Sys2Proof.Machine

/-! ### What the start is stated about -/

/-- The registers that the start is stated about. -/
def startWords : List Nat := [A.BOOT_STAT, A.BOOT_FAULT, A.BOOT_PLAN, A.SUP_STAT, A.CFG_EPOCH, A.RST_CAUSE]

/-- The same as fields, each the whole word, with the lock of the MPLL. -/
def startFields : List Fld := startWords.map (fun a => ⟨a, 0, 32⟩) ++ [F.CLK_STAT_MEM_LOCK]

/-- What the start is stated about: what has been loaded, the plan, the NVM, the shadow registers, the watchdog's timeout, the
time of release, and those fields. -/
def State.startView (s : State) : BootState × Plan × Nvm × Fuses × Nat × Nat × List Nat :=
  (s.boot, s.plan, s.nvm, s.shadow, s.pwr.wdtMs, s.pwr.releaseAt, startFields.map s.getF)

/-- A field that shares no bit with those. -/
def Fld.aside (f : Fld) : Prop := ∀ g ∈ startFields, f.apart g = true

theorem Fld.aside_of_le {f : Fld} (h : 0x40050000 ≤ f.addr) : f.aside := by
  have hlow : ∀ g ∈ startFields, g.addr < 0x40050000 := by decide
  intro g hg
  have hne : f.addr ≠ g.addr := fun he => absurd (hlow g hg) (by omega)
  simp [Fld.apart, hne]

section
variable (s : State)

@[simp] theorem State.startView_fold :
    (s.boot, s.plan, s.nvm, s.shadow, s.pwr.wdtMs, s.pwr.releaseAt, startFields.map s.getF) = s.startView := by
  rw [State.startView]

@[simp] theorem State.mk_startView (p n fr b ac fu sh ka nv pl pw bo cf go la ln i c ge d e lm co ra ti re cr se up sm th o) :
    (State.mk p n fr b s.regs ac fu sh ka nv pl pw bo cf go la ln i c ge d e lm co ra ti re cr se up sm th o).startView =
      (bo, pl, nv, sh, pw.wdtMs, pw.releaseAt, startFields.map s.getF) := by
  rw [State.startView]; rfl

@[simp] theorem State.ite_startView (c : Prop) [Decidable c] (a b : State) :
    (if c then a else b).startView = if c then a.startView else b.startView := by
  split <;> rfl

@[simp] theorem State.when_startView (c : Bool) (f : State → State) (h : ∀ t : State, (f t).startView = t.startView) :
    (s.when c f).startView = s.startView := by cases c <;> simp [State.when, h]

@[simp] theorem State.forEach_startView {α : Type} (xs : List α) (f : α → State → State)
    (h : ∀ x t, (f x t).startView = t.startView) : (s.forEach xs f).startView = s.startView :=
  State.forEach_same s State.startView xs h

@[simp] theorem State.setActW_startView (a : Nat) (w : Word) : (s.setActW a w).startView = s.startView := by
  simp [State.setActW]

theorem State.map_getF_setW {a : Nat} (h : 0x40050000 ≤ a) (w : Word) :
    startFields.map (s.setW a w).getF = startFields.map s.getF := by
  have hlow : ∀ g ∈ startFields, g.addr < 0x40050000 := by decide
  refine List.map_congr_left fun g hg => ?_
  rw [State.getF, State.getW_setW_ne _ _ (by have := hlow g hg; omega), State.getF]

theorem State.setW_startView {a : Nat} (h : 0x40050000 ≤ a) (w : Word) : (s.setW a w).startView = s.startView := by
  rw [State.startView, s.map_getF_setW h]; rfl

variable {f : Fld}

@[simp] theorem State.map_getF_setF (h : f.aside) (v : Nat) : startFields.map (s.setF f v).getF = startFields.map s.getF := by
  have hwidth : ∀ g ∈ startFields, g.lo + g.width ≤ 32 := by decide
  exact List.map_congr_left fun g hg => s.getF_setF_apart f g v (h g hg) (hwidth g hg)

@[simp] theorem State.map_getF_setB (h : f.aside) (b : Bool) : startFields.map (s.setB f b).getF = startFields.map s.getF :=
  s.map_getF_setF h _

@[simp] theorem State.map_getF_raise (h : f.aside) : startFields.map (s.raise f).getF = startFields.map s.getF :=
  s.map_getF_setF h _

@[simp] theorem State.map_getF_bumpBy (h : f.aside) (n : Nat) :
    startFields.map (s.bumpBy f n).getF = startFields.map s.getF :=
  s.map_getF_setF h _

@[simp] theorem State.map_getF_bump (h : f.aside) : startFields.map (s.bump f).getF = startFields.map s.getF :=
  s.map_getF_setF h _

@[simp] theorem State.setF_startView (h : f.aside) (v : Nat) : (s.setF f v).startView = s.startView := by
  rw [State.startView, s.map_getF_setF h]; rfl

@[simp] theorem State.setB_startView (h : f.aside) (b : Bool) : (s.setB f b).startView = s.startView := s.setF_startView h _

@[simp] theorem State.raise_startView (h : f.aside) : (s.raise f).startView = s.startView := s.setF_startView h _

@[simp] theorem State.raiseBit_startView (h : f.aside) (i : Nat) : (s.raiseBit f i).startView = s.startView :=
  s.setF_startView h _

@[simp] theorem State.putBit_startView (h : f.aside) (i : Nat) (b : Bool) : (s.putBit f i b).startView = s.startView :=
  s.setF_startView h _

@[simp] theorem State.bumpBy_startView (h : f.aside) (n : Nat) : (s.bumpBy f n).startView = s.startView := s.setF_startView h _

@[simp] theorem State.bump_startView (h : f.aside) : (s.bump f).startView = s.startView := s.setF_startView h _

@[simp] theorem State.setBoth_startView (h : f.aside) (v : Nat) : (s.setBoth f v).startView = s.startView := by
  rw [State.setBoth, State.setActW_startView, s.setF_startView h]

end

/-! The fields that the operations of the start write beside them. -/

@[simp] theorem aside_clocks :
    F.CLK_EVT_HOLDOVER.aside ∧ F.CLK_STAT_PORT_LOCK.aside ∧ F.CLK_STAT_SVC_LOCK.aside ∧ F.CLK_STAT_VID_LOCK.aside ∧
    F.CLK_STAT_VID_STEER.aside := by
  unfold Fld.aside
  decide

@[simp] theorem aside_mailbox :
    F.CORE_STAT_A0.aside ∧ F.CORE_STAT_A1.aside ∧ F.GOV_HOLD_MS.aside ∧ F.MBX_DBTGT_TGT.aside := by
  unfold Fld.aside
  decide

@[simp] theorem aside_mailbox_run (n : Nat) :
    (F.CORE_ROUTE_IRQ n).aside ∧ (F.MBX_CCFG_LOCK_REQ n).aside ∧ (F.MBX_CCFG_RECEIVER n).aside ∧
    (F.MBX_CCFG_SENDERS n).aside ∧ (F.MBX_CST_FULL n).aside ∧ (F.MBX_CST_LOST n).aside ∧ (F.MBX_CST_SNDRST n).aside ∧
    (F.MBX_CST_TAKEN n).aside ∧ (F.MBX_LOCK_HELD n).aside := by
  and_intros <;> exact Fld.aside_of_le (Nat.le_add_right_of_le (by decide))

@[simp] theorem aside_link :
    F.LNK_EVT_DOWN.aside ∧ F.LNK_EVT_RESTRIPE.aside ∧ F.LNK_EVT_UP.aside := by
  unfold Fld.aside
  decide

@[simp] theorem aside_link_run (n : Nat) :
    (F.LAN_CFG_RATE n).aside ∧ (F.LAN_CFG_TABLE n).aside ∧ (F.LAN_DPLINK_ALIGNED n).aside ∧
    (F.LAN_DPLINK_HPD n).aside ∧ (F.LAN_DPLINK_LANES n).aside ∧ (F.LAN_DPLINK_TRAIN n).aside ∧
    (F.LAN_STATE n).aside ∧ (F.LNK_PCFG_FWD_EN n).aside ∧ (F.LNK_PCFG_RATE n).aside ∧ (F.LNK_PCFG_ROLE n).aside ∧
    (F.LNK_PSTAT_PRXMASK n).aside ∧ (F.LNK_PSTAT_RXMASK n).aside ∧ (F.LNK_PSTAT_SKEW n).aside ∧
    (F.LNK_PSTAT_STATE n).aside ∧ (F.LNK_PSTAT_TXMASK n).aside := by
  and_intros <;> exact Fld.aside_of_le (Nat.le_add_right_of_le (by decide))

@[simp] theorem aside_scan :
    F.ING_CTL_STOP.aside ∧ F.SCN_EVT_SRC_HOLD.aside ∧ F.SCN_STAT_GLK.aside := by
  unfold Fld.aside
  decide

@[simp] theorem aside_scan_run (n : Nat) :
    (F.ING_SCFG_DEPTH n).aside ∧ (F.ING_SCFG_FORMAT n).aside ∧ (F.ING_SCFG_LANES n).aside ∧
    (F.ING_SCFG_MAXRATE n).aside ∧ (F.ING_SSTAT_STATE n).aside ∧ (F.ING_WINPOS_X n).aside ∧
    (F.ING_WINPOS_Y n).aside ∧ (F.ING_WINSIZE_H n).aside ∧ (F.ING_WINSIZE_W n).aside ∧ (F.SCN_FOFS_LINES n).aside ∧
    (F.SCN_LBASE_ADDR n).aside := by
  and_intros <;> exact Fld.aside_of_le (Nat.le_add_right_of_le (by decide))

@[simp] theorem aside_image :
    F.CMP_CTL_STOP.aside ∧ F.CMP_EVT_STOP_GUARD.aside ∧ F.CMP_OUT_DEPTH.aside ∧ F.CMP_OUT_DITHER.aside ∧
    F.CMP_OUT_PRIM.aside ∧ F.CMP_OUT_TRANSFER.aside ∧ F.CMP_STAT_FLOW.aside ∧ F.CMP_STAT_STATE.aside ∧
    F.ENC_STAT_CONV.aside ∧ F.GEO_CNT_COUNTER.aside ∧ F.GEO_EVT_PAT_BAD.aside ∧ F.GEO_EVT_REJECT.aside ∧
    F.GEO_STAT_ACTIVE.aside ∧ F.GEO_STAT_PAT_COUNT.aside ∧ F.GEO_STAT_PAT_OK.aside := by
  unfold Fld.aside
  decide

@[simp] theorem aside_image_run (n : Nat) :
    (F.CMP_LCTL_ALPHA n).aside ∧ (F.CMP_LCTL_BANK n).aside ∧ (F.CMP_LEN_LAYERS n).aside ∧ (F.CMP_LPOS_X n).aside ∧
    (F.CMP_LPOS_Y n).aside ∧ (F.CMP_LSIZE_H n).aside ∧ (F.CMP_LSIZE_W n).aside ∧ (F.CMP_LSTEP_STEP_H n).aside ∧
    (F.CMP_LSTEP_STEP_V n).aside ∧ (F.ENC_ENG_TILES n).aside := by
  and_intros <;> exact Fld.aside_of_le (Nat.le_add_right_of_le (by decide))

@[simp] theorem aside_lamps :
    F.LMP_CNT_BLANKS.aside ∧ F.LMP_CTL_HARD.aside ∧ F.LMP_CTL_STOP.aside ∧ F.LMP_CUR_BLIMIT.aside ∧
    F.LMP_CUR_CURVE.aside ∧ F.LMP_CUR_GLOBAL.aside ∧ F.LMP_EVT_HARD.aside ∧ F.LMP_GREY_FRAME_TICKS.aside ∧
    F.LMP_LINECFG_BLANK.aside ∧ F.LMP_LINECFG_GATE_ON.aside ∧ F.LMP_LINECFG_WINDOW.aside ∧
    F.LMP_PLANECFG_DEPTH.aside ∧ F.LMP_PLANECFG_SEGLOG.aside ∧ F.LMP_PLANECFG_SHADE.aside ∧ F.LMP_STAT_INSLOT.aside ∧
    F.LMP_STAT_STATE.aside := by
  unfold Fld.aside
  decide

@[simp] theorem aside_lamps_run (n : Nat) :
    (F.LMP_CGRP_B n).aside ∧ (F.LMP_CGRP_G n).aside ∧ (F.LMP_CGRP_R n).aside ∧ (F.LMP_PORD_POS n).aside ∧
    (F.LMP_SLOT_DELAY n).aside ∧ (F.LMP_SPLACE_SEG n).aside := by
  and_intros <;> exact Fld.aside_of_le (Nat.le_add_right_of_le (by decide))

@[simp] theorem aside_correction :
    F.CORR_BANK_SEL.aside ∧ F.CORR_EVT_FACT_BAD.aside ∧ F.CORR_STAT_FACT_OK.aside ∧ F.CORR_STAT_FACT_SETS.aside ∧
    F.CORR_STAT_VALID_A.aside ∧ F.CORR_STAT_VALID_B.aside := by
  unfold Fld.aside
  decide

@[simp] theorem aside_correction_run (n : Nat) : (F.CORR_TRIM_T n).aside :=
  Fld.aside_of_le (Nat.le_add_right_of_le (by decide))

@[simp] theorem aside_rail :
    F.RAIL_CTL_STOP.aside ∧ F.RAIL_DLIM_DMAX.aside ∧ F.RAIL_DLIM_DMIN.aside ∧ F.RAIL_LAW_LAW.aside ∧
    F.RAIL_LAW_RC_EN.aside ∧ F.RAIL_LAW_SRC.aside ∧ F.RAIL_PWM_PERIOD.aside ∧ F.RAIL_PWM_PHASES.aside ∧
    F.RAIL_SPFIX_MV.aside ∧ F.RAIL_STAT_LATCHED.aside ∧ F.RAIL_STAT_RETRIES.aside ∧ F.RAIL_STAT_STATE.aside ∧
    F.RED_HOLD_MS.aside ∧ F.RED_STAT_DUTY.aside ∧ F.RED_STAT_END.aside ∧ F.RED_STAT_ILK_IN.aside ∧
    F.RED_STAT_WAS_OWNER.aside ∧ F.RED_TERM_TERM.aside ∧ F.SEC_EVT_EVAL_REFUSED.aside ∧ F.SEC_KEYEP_CUR.aside ∧
    F.SEC_STAT_CHAINKEY.aside ∧ F.SEC_STAT_DEBUG.aside ∧ F.SEC_STAT_EVAL.aside ∧ F.SEC_STAT_EVAL_LOCK.aside ∧
    F.SEC_STAT_LIFE.aside := by
  unfold Fld.aside
  decide

@[simp] theorem aside_rail_run (n : Nat) :
    (F.RAIL_COEF_COEF n).aside ∧ (F.SEC_SERIAL_SERIAL n).aside := by
  and_intros <;> exact Fld.aside_of_le (Nat.le_add_right_of_le (by decide))

@[simp] theorem aside_time :
    F.TIM_CTL_STOP.aside ∧ F.TIM_EVT_LOCK.aside ∧ F.TIM_EVT_LOST.aside ∧ F.TIM_FB_NS.aside ∧
    F.TIM_FRAME_FRAME.aside ∧ F.TIM_PTPSTAT_DOMAIN.aside ∧ F.TIM_STAT_SETTLED.aside := by
  unfold Fld.aside
  decide

@[simp] theorem aside_time_run (n : Nat) :
    (F.TIM_ASYM_ASYM n).aside ∧ (F.TIM_CFRAC_FRAC n).aside ∧ (F.TIM_CNS_NS n).aside ∧ (F.TIM_RATE_RATE n).aside := by
  and_intros <;> exact Fld.aside_of_le (Nat.le_add_right_of_le (by decide))

@[simp] theorem aside_update :
    F.THM_LIM_FLOOR.aside ∧ F.THM_LIM_HOT.aside ∧ F.THM_LIM_TRIP.aside ∧ F.THM_LIM_WARN.aside ∧
    F.UPD_EVT_FELL_BACK.aside ∧ F.UPD_EVT_TRIAL.aside ∧ F.UPD_PKGH_PKG.aside ∧ F.UPD_PKGL_PKG.aside ∧
    F.UPD_PROG_HAVE.aside ∧ F.UPD_PROG_TOTAL.aside ∧ F.UPD_STAT_FBCAUSE.aside ∧ F.UPD_STAT_LATE.aside ∧
    F.UPD_STAT_RUNBANK.aside ∧ F.UPD_STAT_SPARE.aside ∧ F.UPD_STAT_STARTS.aside ∧ F.UPD_STAT_TRIAL.aside ∧
    F.UPD_STAT_VCODE.aside := by
  unfold Fld.aside
  decide

@[simp] theorem aside_laneCtl : laneCtl.aside := Fld.aside_of_le (by decide)

@[simp] theorem aside_bits (n : Nat) : (F.TIM_SRC_SRC n).aside ∧ (F.TIM_STAT_TB n).aside ∧ (dripFld n).aside := by
  refine ⟨Fld.aside_of_le ?_, Fld.aside_of_le ?_, Fld.aside_of_le ?_⟩
  · simp [F.TIM_SRC_SRC]
  · simp [F.TIM_STAT_TB]
  · simp [dripFld, A.ENC_DRIP]

@[simp] theorem aside_pairs (l i : Nat) : (F.CMP_COEFCFG_V l i).aside ∧ (F.CMP_LCM_E l i).aside := by
  refine ⟨Fld.aside_of_le ?_, Fld.aside_of_le (Nat.le_add_right_of_le (Nat.le_add_right_of_le (by decide)))⟩
  simp [F.CMP_COEFCFG_V]

@[simp] theorem aside_dbring (n lo width : Nat) : (⟨A.MBX_DBRING n, lo, width⟩ : Fld).aside :=
  Fld.aside_of_le (Nat.le_add_right_of_le (by decide))

/-! ### What the operations of the start leave it -/

@[simp] theorem State.draw_startView (s : State) : s.draw.2.startView = s.startView := by
  simp [State.draw]

@[simp] theorem State.drawScalar_startView (s : State) : s.drawScalar.2.startView = s.startView := by
  simp [State.drawScalar]

@[simp] theorem State.choose_startView (s : State) (n : Nat) : (s.choose n).2.startView = s.startView := by
  simp [State.choose]

@[simp] theorem State.emit_startView (s : State) (e : Emission) : (s.emit e).startView = s.startView := by
  simp [State.emit]

@[simp] theorem State.setPort_startView (s : State) (n : Nat) (p : PortX) : (s.setPort n p).startView = s.startView := by
  simp [State.setPort]

@[simp] theorem State.queueOwn_startView (s : State) (p : OutPkt) : (s.queueOwn p).startView = s.startView := by
  simp [State.queueOwn]

@[simp] theorem State.latchHealth_startView (s : State) (i : HealthItem) (ok : Bool) :
    (s.latchHealth i ok).startView = s.startView := by
  simp [State.latchHealth]

@[simp] theorem State.latchLink_startView (s : State) (l : Nat) : (s.latchLink l).startView = s.startView := by
  simp [State.latchLink]

@[simp] theorem State.latchPort_startView (s : State) (n : Nat) : (s.latchPort n).startView = s.startView := by
  unfold State.latchPort
  split <;> simp

@[simp] theorem State.lampState_startView (s : State) : s.lampState.startView = s.startView := by
  simp [State.lampState]

@[simp] theorem State.dropSlot_startView (s : State) : s.dropSlot.startView = s.startView := by
  unfold State.dropSlot
  split <;> simp

@[simp] theorem State.softBlank_startView (s : State) : s.softBlank.startView = s.startView := by
  simp [State.softBlank]

@[simp] theorem State.hardBlank_startView (s : State) : s.hardBlank.startView = s.startView := by
  simp [State.hardBlank]

@[simp] theorem State.mbxEmpty_startView (s : State) (n : Nat) : (s.mbxEmpty n).startView = s.startView := by
  simp [State.mbxEmpty]

@[simp] theorem State.lockFree_startView (s : State) (n : Nat) : (s.lockFree n).startView = s.startView := by
  simp [State.lockFree]

@[simp] theorem State.bellMask_startView (s : State) (who : Initiator) (w : Word) :
    (s.bellMask who w).startView = s.startView :=
  s.setW_startView (by decide) _

@[simp] theorem State.chanReset_startView (s : State) (who : Initiator) (n : Nat) :
    (s.chanReset who n).startView = s.startView := by
  simp [State.chanReset]

@[simp] theorem State.mbxReset_startView (s : State) (who : Initiator) : (s.mbxReset who).startView = s.startView := by
  simp [State.mbxReset]

@[simp] theorem State.mbxLoad_startView (s : State) : s.mbxLoad.startView = s.startView := by
  simp [State.mbxLoad]

@[simp] theorem State.setTb_startView (s : State) (i : Nat) (x : TbX) : (s.setTb i x).startView = s.startView := by
  simp [State.setTb]

@[simp] theorem State.setRate_startView (s : State) (i : Nat) (r : Int) : (s.setRate i r).startView = s.startView := by
  simp [State.setRate]

@[simp] theorem State.settleEval_startView (s : State) : s.settleEval.startView = s.startView := by
  simp [State.settleEval]

@[simp] theorem State.tbTo_startView (s : State) (i v : Nat) : (s.tbTo i v).startView = s.startView := by
  have hheld (c : Bool) (t : State) :
      (t.when c fun w => (w.setF F.CLK_STAT_VID_STEER 0).raise F.CLK_EVT_HOLDOVER).startView = t.startView := by simp
  simp [State.tbTo, hheld]

@[simp] theorem State.timeCapture_startView (s : State) : s.timeCapture.startView = s.startView := by
  simp [State.timeCapture]

@[simp] theorem State.tbSelect_startView (s : State) (i : Nat) : (s.tbSelect i).startView = s.startView := by
  simp [State.tbSelect]

@[simp] theorem State.timCtlWrite_startView (s : State) (w : Word) : (s.timCtlWrite w).startView = s.startView := by
  simp [State.timCtlWrite]

@[simp] theorem State.restripe_startView (s : State) (n oldTx : Nat) : (s.restripe n oldTx).startView = s.startView := by
  simp [State.restripe]

@[simp] theorem State.setMasks_startView (s : State) (n rx tx : Nat) : (s.setMasks n rx tx).startView = s.startView := by
  simp [State.setMasks]

@[simp] theorem State.setSrc_startView (s : State) (n : Nat) (x : SrcX) : (s.setSrc n x).startView = s.startView := by
  simp [State.setSrc]

@[simp] theorem State.srcState_startView (s : State) (n v : Nat) : (s.srcState n v).startView = s.startView := by
  simp [State.srcState]

@[simp] theorem State.srcLost_startView (s : State) (n : Nat) : (s.srcLost n).startView = s.startView := by
  simp [State.srcLost]

@[simp] theorem State.setLane_startView (s : State) (m : Nat) (x : LaneX) : (s.setLane m x).startView = s.startView := by
  simp [State.setLane]

@[simp] theorem State.hpdEval_startView (s : State) (n : Nat) : (s.hpdEval n).startView = s.startView := by
  simp [State.hpdEval]

@[simp] theorem State.unitStop_startView (s : State) (u : Nat) : (s.unitStop u).startView = s.startView := by
  simp [State.unitStop]

@[simp] theorem State.unitStart_startView (s : State) (u : Nat) : (s.unitStart u).startView = s.startView := by
  have hlane (c : Bool) (m : Nat) (t : State) :
      (t.when c fun v => v.setF (F.LAN_STATE m) 1).startView = t.startView := by simp
  simp [State.unitStart, hlane]

@[simp] theorem State.laneControl_startView (s : State) (new : Nat) : (s.laneControl new).startView = s.startView := by
  simp [State.laneControl]

@[simp] theorem State.nextSeq_startView (s : State) (kind : Nat) : (s.nextSeq kind).2.startView = s.startView := by
  simp [State.nextSeq]

@[simp] theorem State.putLine_startView (s : State) (n : Nat) (l : List (Nat × List LineChar)) :
    (s.putLine n l).startView = s.startView := by
  simp [State.putLine]

@[simp] theorem State.sendLine_startView (s : State) (n : Nat) (e : Emission) :
    (s.sendLine n e).startView = s.startView := by
  simp [State.sendLine]

@[simp] theorem State.putOnPort_startView (s : State) (n : Nat) (h : Hdr) (b : Body) :
    (s.putOnPort n h b).startView = s.startView := by
  simp [State.putOnPort]

@[simp] theorem State.sendHop_startView (s : State) (n : Nat) (h : Hdr) (b : Body) :
    (s.sendHop n h b).startView = s.startView := by
  simp [State.sendHop]

@[simp] theorem State.fillBody_startView (s : State) (b : Body) : (s.fillBody b).2.startView = s.startView := by
  unfold State.fillBody
  split <;> simp

@[simp] theorem State.sendOwn_startView (s : State) (p : OutPkt) : (s.sendOwn p).startView = s.startView := by
  simp [State.sendOwn]

@[simp] theorem flushList_startView (s : State) (n : Nat) : (flushList s n).startView = s.startView := by
  induction n generalizing s with
  | zero => rfl
  | succ k ih =>
    unfold flushList
    split
    · rfl
    · split <;> simp [ih]

@[simp] theorem State.flushEarly_startView (s : State) : s.flushEarly.startView = s.startView := by
  simp [State.flushEarly]

@[simp] theorem State.postOwn_startView (s : State) (p : OutPkt) : (s.postOwn p).startView = s.startView := by
  simp [State.postOwn]

@[simp] theorem State.freshShare_startView (s : State) : s.freshShare.2.startView = s.startView := by
  simp [State.freshShare]

@[simp] theorem State.signed_startView (s : State) (body : List Byte) : (s.signed body).2.startView = s.startView := by
  simp [State.signed]

@[simp] theorem State.govRelease_startView (s : State) : s.govRelease.startView = s.startView := by
  simp [State.govRelease]

@[simp] theorem State.captureOff_startView (s : State) (n : Nat) : (s.captureOff n).startView = s.startView := by
  simp [State.captureOff]

@[simp] theorem State.captureOn_startView (s : State) (n : Nat) : (s.captureOn n).startView = s.startView := by
  simp [State.captureOn]

@[simp] theorem State.ingCtlWrite_startView (s : State) (new : Nat) : (s.ingCtlWrite new).startView = s.startView := by
  simp [State.ingCtlWrite]

@[simp] theorem State.ingestLoad_startView (s : State) : s.ingestLoad.startView = s.startView := by
  simp [State.ingestLoad]

@[simp] theorem State.encTiles_startView (s : State) : s.encTiles.startView = s.startView := by
  simp [State.encTiles]

@[simp] theorem State.encLoad_startView (s : State) : s.encLoad.startView = s.startView := by
  simp [State.encLoad]

@[simp] theorem State.encRelease_startView (s : State) : s.encRelease.startView = s.startView := by
  simp [State.encRelease]

@[simp] theorem State.cmpStop_startView (s : State) (v : Bool) : (s.cmpStop v).startView = s.startView := by
  simp [State.cmpStop]

@[simp] theorem State.layerLoad_startView (s : State) (l : Nat) : (s.layerLoad l).startView = s.startView := by
  simp [State.layerLoad]

@[simp] theorem State.compLoad_startView (s : State) : s.compLoad.startView = s.startView := by
  simp [State.compLoad]

@[simp] theorem State.post_startView (s : State) (p : OutPkt) : (s.post p).startView = s.startView := by
  simp [State.post]

@[simp] theorem State.headFrames_startView (s : State) : s.headFrames.startView = s.startView := by
  simp [State.headFrames]

@[simp] theorem State.timeSources_startView (s : State) : s.timeSources.startView = s.startView := by
  simp [State.timeSources]

@[simp] theorem State.timeLoad_startView (s : State) : s.timeLoad.startView = s.startView := by
  simp [State.timeLoad]

@[simp] theorem State.setKeys_startView (s : State) (l : List ((Nat × Nat) × Key)) :
    (s.setKeys l).startView = s.startView := by
  simp [State.setKeys]

@[simp] theorem State.addKey_startView (s : State) (c ep : Nat) (k : Key) :
    (s.addKey c ep k).startView = s.startView := by
  simp [State.addKey]

@[simp] theorem State.drawChains_startView (s : State) (ep : Nat) (l : List Nat) :
    (s.drawChains ep l).startView = s.startView := by
  simp [State.drawChains]

@[simp] theorem State.firstKeys_startView (s : State) : s.firstKeys.startView = s.startView := by
  simp [State.firstKeys]

@[simp] theorem State.postKeyx_startView (s : State) (ports : List Nat) (dst : BitVec 10) (m : KeyxMsg) :
    (s.postKeyx ports dst m).startView = s.startView := by
  simp [State.postKeyx]

@[simp] theorem State.redLoad_startView (s : State) : s.redLoad.startView = s.startView := by
  simp [State.redLoad]

@[simp] theorem State.offer_startView (s : State) (head pub peer : List Byte) (holds : Bool) :
    (s.offer head pub peer holds).2.startView = s.startView := by
  simp [State.offer]

@[simp] theorem State.pairSend_startView (s : State) (step : Nat) (dest : Serial) (peer : List Byte) :
    (s.pairSend step dest peer).startView = s.startView := by
  simp [State.pairSend]

@[simp] theorem State.pairOffer_startView (s : State) : s.pairOffer.startView = s.startView := by
  simp [State.pairOffer]

@[simp] theorem State.secLoad_startView (s : State) : s.secLoad.startView = s.startView := by
  simp [State.secLoad]

@[simp] theorem State.secRelease_startView (s : State) : s.secRelease.startView = s.startView := by
  simp [State.secRelease]

@[simp] theorem State.coresStart_startView (s : State) : s.coresStart.startView = s.startView := by
  simp [State.coresStart]

@[simp] theorem State.geodeRestore_startView (s : State) : s.geodeRestore.startView = s.startView := by
  simp [State.geodeRestore]

@[simp] theorem State.railSoft_startView (s : State) : s.railSoft.startView = s.startView := by
  simp [State.railSoft]

@[simp] theorem State.railCtlWrite_startView (s : State) (w : Word) : (s.railCtlWrite w).startView = s.startView := by
  simp [State.railCtlWrite]

@[simp] theorem State.railLoad_startView (s : State) : s.railLoad.startView = s.startView := by
  simp [State.railLoad]

@[simp] theorem State.lmpCtlWrite_startView (s : State) (w : Word) : (s.lmpCtlWrite w).startView = s.startView := by
  simp [State.lmpCtlWrite]

@[simp] theorem State.lampLoad_startView (s : State) : s.lampLoad.startView = s.startView := by
  have hadjust (t : State) (n : Nat) (w : Word) : (t.setW (A.LMP_CHADJ n) w).startView = t.startView :=
    t.setW_startView (Nat.le_add_right_of_le (by decide)) w
  simp [State.lampLoad, hadjust]

@[simp] theorem State.setMatrix_startView (s : State) (b : Bool) (m : MatrixSet) :
    (s.setMatrix b m).startView = s.startView := by
  simp [State.setMatrix]

@[simp] theorem State.trimLoad_startView (s : State) : s.trimLoad.startView = s.startView := by
  simp [State.trimLoad]

@[simp] theorem State.corrLoad_startView (s : State) : s.corrLoad.startView = s.startView := by
  simp [State.corrLoad]

@[simp] theorem State.progress_startView (s : State) : s.progress.startView = s.startView := by
  simp [State.progress]

@[simp] theorem State.setPkg_startView (s : State) (p : BitVec 64) : (s.setPkg p).startView = s.startView := by
  simp [State.setPkg]

@[simp] theorem State.thermLoad_startView (s : State) : s.thermLoad.startView = s.startView := by
  simp [State.thermLoad]

@[simp] theorem State.banksLoad_startView (s : State) : s.banksLoad.startView = s.startView := by
  simp [State.banksLoad]

@[simp] theorem State.factoryLoad_startView (s : State) : s.factoryLoad.startView = s.startView := by
  simp [State.factoryLoad]

@[simp] theorem State.patternLoad_startView (s : State) : s.patternLoad.startView = s.startView := by
  simp [State.patternLoad]

@[simp] theorem State.laneLoad_startView (s : State) : s.laneLoad.startView = s.startView := by
  have hrate (n r : Nat) (t : State) :
      (t.forEach [0, 1, 2, 3] fun k v => v.setF (F.LAN_CFG_RATE (4 * n + k)) r).startView = t.startView := by simp
  simp [State.laneLoad, hrate]

@[simp] theorem State.updLoad_startView (s : State) : s.updLoad.startView = s.startView := by
  simp [State.updLoad]

@[simp] theorem State.headLoad_startView (s : State) : s.headLoad.startView = s.startView := by
  simp [State.headLoad]

@[simp] theorem State.planLoad_startView (s : State) : s.planLoad.startView = s.startView := by
  simp [State.planLoad]

@[simp] theorem State.tilePorts_startView (s : State) : s.tilePorts.startView = s.startView := by
  simp [State.tilePorts]

@[simp] theorem State.noteRefused_startView (s : State) (b : Bool) (code : Nat) :
    (s.noteRefused b code).startView = s.startView := by
  simp [State.noteRefused]

/-! ### Two states with the same view -/

theorem Fld.of_whole (a : Nat) (w : Word) : (⟨a, 0, 32⟩ : Fld).of w = w.toNat := by
  simp [Fld.of, Nat.mod_eq_of_lt w.isLt]

theorem State.startView_eq_iff {s t : State} : s.startView = t.startView ↔ s.boot = t.boot ∧ s.plan = t.plan ∧ s.nvm = t.nvm ∧
    s.shadow = t.shadow ∧ s.pwr.wdtMs = t.pwr.wdtMs ∧ s.pwr.releaseAt = t.pwr.releaseAt ∧
    (∀ a ∈ startWords, s.getW a = t.getW a) ∧ s.getF F.CLK_STAT_MEM_LOCK = t.getF F.CLK_STAT_MEM_LOCK := by
  have hwhole (u : State) (a : Nat) : u.getF ⟨a, 0, 32⟩ = (u.getW a).toNat := Fld.of_whole a _
  simp only [State.startView, Prod.mk.injEq, List.map_inj_left, startFields, List.forall_mem_append, List.forall_mem_map,
    List.forall_mem_singleton, hwhole, BitVec.toNat_inj]

section
variable {s t : State}

theorem State.startView_getW (h : s.startView = t.startView) {a : Nat} (ha : a ∈ startWords) : s.getW a = t.getW a := by
  obtain ⟨-, -, -, -, -, -, hwords, -⟩ := State.startView_eq_iff.1 h
  exact hwords a ha

theorem State.startView_getF (h : s.startView = t.startView) {f : Fld} (hf : f.addr ∈ startWords) : s.getF f = t.getF f :=
  congrArg f.of (State.startView_getW h hf)

theorem State.startView_flag (h : s.startView = t.startView) {f : Fld} (hf : f.addr ∈ startWords) : s.flag f = t.flag f :=
  congrArg (· != 0) (State.startView_getF h hf)

theorem State.startView_isHead (h : s.startView = t.startView) : s.isHead = t.isHead := by
  rw [State.isHead, State.startView_flag h (by decide), State.startView_flag h (by decide), State.isHead]

theorem State.setF_startView_congr (h : s.startView = t.startView) {f : Fld} (hf : f.addr ∈ startWords) (v : Nat) :
    (s.setF f v).startView = (t.setF f v).startView := by
  obtain ⟨hboot, hplan, hnvm, hshadow, hwdt, hrel, hwords, hlock⟩ := State.startView_eq_iff.1 h
  refine State.startView_eq_iff.2 ⟨hboot, hplan, hnvm, hshadow, hwdt, hrel, fun a ha => ?_, ?_⟩
  · rw [State.setF, State.setF, State.getW_setW, State.getW_setW, hwords _ hf, hwords _ ha]
  · have hne : F.CLK_STAT_MEM_LOCK.addr ≠ f.addr := by
      intro he
      rw [← he] at hf
      revert hf
      decide
    rw [State.getF, State.getW_setF_ne _ _ _ hne, State.getF, State.getW_setF_ne _ _ _ hne]
    exact hlock

theorem State.boot_startView_congr (h : s.startView = t.startView) (g : BootState → BootState) :
    ({ s with boot := g s.boot } : State).startView = ({ t with boot := g t.boot } : State).startView := by
  obtain ⟨hboot, hrest⟩ := State.startView_eq_iff.1 h
  exact State.startView_eq_iff.2 ⟨congrArg g hboot, hrest⟩

end

/-! ### Recovery mode (R67) -/

section
variable (s : State)

theorem State.enterRecovery_startView : s.enterRecovery.startView =
    (((s.raise F.BOOT_STAT_RECOVERY).setF F.BOOT_STAT_STEP 7).setF F.BOOT_STAT_WAIT_HEAD 0).startView := by
  unfold State.enterRecovery
  extract_lets s1 s2 s3 s4
  have h2 : s2.startView = s.startView := by simp [s2, s1]
  have h3 : s3.startView = (((s.raise F.BOOT_STAT_RECOVERY).setF F.BOOT_STAT_STEP 7).setF F.BOOT_STAT_WAIT_HEAD 0).startView :=
    State.setF_startView_congr (State.setF_startView_congr (State.setF_startView_congr h2 (by decide) _) (by decide) _)
      (by decide) _
  have h4 : s4.startView = s3.startView := by simp [s4]
  simp [h4, h3]

/-- Recovery mode shows itself in `BOOT_STAT`, and leaves the other registers of the start and what has been loaded. -/
theorem State.enterRecovery_shows : s.enterRecovery.boot = s.boot ∧ s.enterRecovery.recovering = true ∧
    s.enterRecovery.getF F.BOOT_STAT_STEP = 7 ∧ s.enterRecovery.released = s.released ∧
    s.enterRecovery.getW A.BOOT_FAULT = s.getW A.BOOT_FAULT := by
  have h := s.enterRecovery_startView
  obtain ⟨hboot, -⟩ := State.startView_eq_iff.1 h
  refine ⟨hboot, ?_, ?_, ?_, ?_⟩
  · rw [State.recovering, State.startView_flag h (by decide), State.flag]
    simp (disch := decide) only [State.raise, State.getF_setF_apart, State.getF_setF_self]
    rfl
  · rw [State.startView_getF h (by decide)]
    simp (disch := decide) only [State.raise, State.getF_setF_apart, State.getF_setF_self]
    rfl
  · rw [State.released, State.startView_flag h (by decide), State.flag]
    simp (disch := decide) only [State.raise, State.getF_setF_apart]
    rfl
  · rw [State.startView_getW h (by decide)]
    simp (disch := decide) only [State.raise, State.getW_setF_ne]

theorem State.bootStop_shows {code : Nat} (hcode : code < 256) : (s.bootStop code).boot = s.boot ∧
    (s.bootStop code).recovering = true ∧ (s.bootStop code).getF F.BOOT_STAT_STEP = 7 ∧
    (s.bootStop code).getF F.BOOT_FAULT_FIRST = code := by
  obtain ⟨hboot, hrec, hstep, -, hfault⟩ := (s.setF F.BOOT_FAULT_FIRST code).enterRecovery_shows
  refine ⟨hboot, hrec, hstep, ?_⟩
  refine (congrArg F.BOOT_FAULT_FIRST.of hfault).trans ?_
  exact (State.getF_setF_self _ _ _ (by decide)).trans (Nat.mod_eq_of_lt hcode)

end

/-! ### Fuse sensing (R57, R58) -/

section
variable {s : State} {f : FuseSense}

theorem exec_fuseSensingDone (hpor : s.pwr.phase ≠ .por) (hdone : s.boot.fusesDone = false) :
    exec (.fuseSensingDone f) s = .next (s.sensed f) := by
  show execFuseSensingDone f s = _
  simp [execFuseSensingDone, hpor, hdone]

theorem State.secSense_startView (s : State) :
    s.secSense.startView = ({ s with boot := { s.boot with debugNext := false } } : State).startView := by
  unfold State.secSense
  extract_lets x s1 s2 debug s3 d
  have hd : d.2.startView = s.startView := by simp [d, s3, s2, s1]
  exact State.boot_startView_congr hd fun b => { b with debugNext := false }

/-- Fuses sensed without an uncorrectable word go into the shadow registers. -/
theorem State.sensed_correctable (hok : f.uncorrectable = false) : (s.sensed f).shadow = s.fuses ∧
    (s.sensed f).boot.fusesDone = true ∧ (s.sensed f).boot.fuseBad = false ∧ (s.sensed f).getF F.BOOT_STAT_STEP = 1 ∧
    (s.sensed f).getF F.BOOT_STAT_FUSE_CORR = min 15 f.corrected ∧
    (s.sensed f).getF F.BOOT_STAT_RECOVERY = s.getF F.BOOT_STAT_RECOVERY := by
  let u := ({ s with shadow := s.fuses, boot := { s.boot with fusesDone := true, fuseBad := false } } : State).setF
    F.BOOT_STAT_FUSE_CORR (min 15 f.corrected)
  have hsensed : s.sensed f = (u.trimLoad.secSense).setF F.BOOT_STAT_STEP 1 := by
    simp only [State.sensed, hok]
    rfl
  have hview : (s.sensed f).startView =
      (({ u with boot := { u.boot with debugNext := false } } : State).setF F.BOOT_STAT_STEP 1).startView := by
    rw [hsensed]
    refine State.setF_startView_congr (u.trimLoad.secSense_startView.trans ?_) (by decide) _
    exact State.boot_startView_congr u.trimLoad_startView fun b => { b with debugNext := false }
  obtain ⟨hboot, -, -, hshadow, -⟩ := State.startView_eq_iff.1 hview
  refine ⟨hshadow, congrArg BootState.fusesDone hboot, congrArg BootState.fuseBad hboot, ?_, ?_, ?_⟩
  · rw [State.startView_getF hview (by decide), State.getF_setF_self _ _ _ (by decide)]
    rfl
  · rw [State.startView_getF hview (by decide), State.getF_setF_apart _ _ _ _ (by decide) (by decide)]
    refine (State.getF_setF_self _ _ _ (by decide)).trans (Nat.mod_eq_of_lt ?_)
    exact (Nat.min_le_left ..).trans_lt (by decide)
  · rw [State.startView_getF hview (by decide), State.getF_setF_apart _ _ _ _ (by decide) (by decide)]
    exact State.getF_setF_apart _ _ _ _ (by decide) (by decide)

theorem State.fuses_sensed : (s.sensed f).fuses = s.fuses := congrArg (·.2.2.1) (s.sensed_kept f)

theorem State.sensed_uncorrectable (hbad : f.uncorrectable = true) : (s.sensed f).boot.fuseBad = true ∧
    (s.sensed f).getF F.BOOT_FAULT_FIRST = 1 ∧ (s.sensed f).recovering = true ∧ (s.sensed f).getF F.BOOT_STAT_STEP = 7 := by
  let u := ({ s with shadow := s.fuses, boot := { s.boot with fusesDone := true, fuseBad := true } } : State).setF
    F.BOOT_STAT_FUSE_CORR (min 15 f.corrected)
  have hsensed : s.sensed f = u.bootStop 1 := by
    simp only [State.sensed, hbad]
    rfl
  obtain ⟨hboot, hrec, hstep, hfault⟩ := u.bootStop_shows (code := 1) (by decide)
  rw [hsensed]
  exact ⟨congrArg BootState.fuseBad hboot, hfault, hrec, hstep⟩

end

/-! ### Release (R74) -/

section
variable (s : State)

theorem State.enginesStart_startView : s.enginesStart.startView = s.startView := by
  unfold State.enginesStart
  extract_lets s1 s2 s3
  have h3 : s3.startView = s.startView := by simp [s3, s2, s1]
  simp [h3]

/-- What release shows (R74). -/
def State.shownReleased : State :=
  let s1 : State := { s with pwr := { s.pwr with releaseAt := s.now } }
  let s2 := ((s1.raise F.BOOT_STAT_RELEASED).setF F.BOOT_STAT_STEP 4).setF F.RST_CAUSE_WDT_COUNT 0
  (s2.setF F.BOOT_STAT_START_MS (min 0xFFFF ((s2.now - s2.pwr.porEnd) / 1000000))).setF F.CFG_EPOCH_EPOCH 0

theorem State.release_startView : s.release.startView = s.shownReleased.startView := by
  have h : s.release = ((s.shownReleased.enginesStart).govRelease).secRelease := rfl
  rw [h, State.secRelease_startView, State.govRelease_startView, State.enginesStart_startView]

theorem State.release_shows : s.release.boot = s.boot ∧ s.release.released = true ∧ s.release.getF F.BOOT_STAT_STEP = 4 ∧
    s.release.getF F.RST_CAUSE_WDT_COUNT = 0 ∧ s.release.getW A.CFG_EPOCH = 0 ∧ s.release.pwr.releaseAt = s.now ∧
    s.release.getF F.BOOT_STAT_WAIT_HEAD = s.getF F.BOOT_STAT_WAIT_HEAD ∧
    s.release.getF F.CLK_STAT_MEM_LOCK = s.getF F.CLK_STAT_MEM_LOCK := by
  have h := s.release_startView
  obtain ⟨hboot, -, -, -, -, hat, -, hlock⟩ := State.startView_eq_iff.1 h
  have hrest : s.shownReleased.boot = s.boot ∧ s.shownReleased.pwr.releaseAt = s.now := by
    simp only [State.shownReleased, State.raise, State.setF_boot, State.setF_pwr, and_self]
  refine ⟨hboot.trans hrest.1, ?_, ?_, ?_, ?_, hat.trans hrest.2, ?_, ?_⟩
  · rw [State.released, State.startView_flag h (by decide), State.flag, State.shownReleased]
    simp (disch := decide) only [State.raise, State.getF_setF_apart, State.getF_setF_self]
    rfl
  · rw [State.startView_getF h (by decide), State.shownReleased]
    simp (disch := decide) only [State.getF_setF_apart, State.getF_setF_self]
    rfl
  · rw [State.startView_getF h (by decide), State.shownReleased]
    simp (disch := decide) only [State.getF_setF_apart, State.getF_setF_self]
    rfl
  · rw [State.startView_getW h (by decide), State.shownReleased]
    exact (State.getW_setF_self _ F.CFG_EPOCH_EPOCH 0).trans (Fld.put_whole rfl rfl _ 0)
  · rw [State.startView_getF h (by decide), State.shownReleased]
    simp (disch := decide) only [State.raise, State.getF_setF_apart]
    rfl
  · rw [hlock, State.shownReleased]
    simp (disch := decide) only [State.raise, State.getF_setF_apart]
    rfl

end

/-! ### The memory of a Head (R68, R72) -/

section
variable {s : State} {trained : Bool}

theorem exec_memoryBringUp (hdue : s.memoryDue = true) (hfault : s.boot.memFault = false) :
    exec (.memoryBringUp trained) s = .next (s.memoryUp trained) := by
  show execMemoryBringUp trained s = _
  simp [execMemoryBringUp, hdue, hfault]

theorem exec_memoryHoldRetry (hdue : s.memoryDue = true) (hfault : s.boot.memFault = true)
    (hvddq : s.flag F.SUP_STAT_VDDQ_OK = true) : exec (.memoryHoldRetry trained) s = .next (s.memoryUp trained) := by
  show execMemoryHoldRetry trained s = _
  simp [execMemoryHoldRetry, hdue, hfault, hvddq]

/-- The state with the MPLL locked (R72). -/
def State.mpllLocked (s : State) : State := s.raise F.CLK_STAT_MEM_LOCK

theorem State.vddq_mpllLocked : s.mpllLocked.flag F.SUP_STAT_VDDQ_OK = s.flag F.SUP_STAT_VDDQ_OK :=
  congrArg (· != 0) (s.getF_setF_apart F.CLK_STAT_MEM_LOCK _ 1 (by decide) (by decide))

/-- The memory brought up (R72): the keeper's kick at the end of a memory hold, the Head section's tables at their addresses. -/
def State.memoryReady (s : State) : State :=
  let s2 := s.mpllLocked.when s.boot.memFault fun t => { t with pwr := { t.pwr with wdtAt := t.now } }
  { s2 with
    boot := { s2.boot with memReady := true, memFault := false }
    core := { s2.core with mem := s2.boot.image.tables.foldl (fun m (p : Nat × Byte) => memPut m (lpddr p.1) p.2) s2.core.mem } }

theorem State.memoryUp_of_trained (hvddq : s.flag F.SUP_STAT_VDDQ_OK = true) :
    s.memoryUp true = s.memoryReady.banksLoad.release := by
  have hok : (s.raise F.CLK_STAT_MEM_LOCK).flag F.SUP_STAT_VDDQ_OK = true := s.vddq_mpllLocked.trans hvddq
  simp only [State.memoryUp, hok]
  rfl

theorem State.memoryReady_parts : s.memoryReady.boot = { s.boot with memReady := true, memFault := false } ∧
    s.memoryReady.now = s.now ∧ s.memoryReady.getF F.CLK_STAT_MEM_LOCK = 1 := by
  have hlock : s.mpllLocked.getF F.CLK_STAT_MEM_LOCK = 1 := State.getF_raise_self _ _ (by decide) (by decide)
  unfold State.memoryReady
  cases s.boot.memFault <;> exact ⟨rfl, rfl, hlock⟩

/-- A memory that trains leads to release. -/
theorem State.memoryUp_trained (hvddq : s.flag F.SUP_STAT_VDDQ_OK = true) :
    let t := s.memoryUp true
    t.released = true ∧ t.getF F.BOOT_STAT_STEP = 4 ∧ t.boot.memReady = true ∧ t.boot.memFault = false ∧
      t.getF F.CLK_STAT_MEM_LOCK = 1 ∧ t.getF F.RST_CAUSE_WDT_COUNT = 0 ∧ t.getW A.CFG_EPOCH = 0 ∧ t.pwr.releaseAt = s.now := by
  intro t
  obtain ⟨hrboot, hrnow, hrlock⟩ := s.memoryReady_parts
  obtain ⟨hbboot, -, -, -, -, -, -, hblock⟩ := State.startView_eq_iff.1 s.memoryReady.banksLoad_startView
  have hbnow : s.memoryReady.banksLoad.now = s.memoryReady.now := congrArg (·.2.1) s.memoryReady.banksLoad_kept
  obtain ⟨hboot, hrel, hstep, hcount, hepoch, hat, -, hlock⟩ := s.memoryReady.banksLoad.release_shows
  have ht : t = s.memoryReady.banksLoad.release := State.memoryUp_of_trained hvddq
  rw [hbboot, hrboot] at hboot
  rw [ht]
  exact ⟨hrel, hstep, by rw [hboot], by rw [hboot], by rw [hlock, hblock, hrlock], hcount, hepoch, by rw [hat, hbnow, hrnow]⟩

theorem State.memoryFault_first (halt : s.flag F.BOOT_STAT_ALT_BANK = false) (hfirst : s.getF F.BOOT_FAULT_FIRST = 0)
    (code : Nat) :
    s.memoryFault code = { s.setF F.BOOT_FAULT_FIRST code with boot := { s.boot with memFault := true } } := by
  simp only [State.memoryFault, halt, Bool.false_eq_true, if_false, hfirst, if_true]
  rfl

/-- A memory that cannot be brought up: its fault is recorded, and memory hold begins (R68). -/
theorem State.memoryUp_failed (halt : s.flag F.BOOT_STAT_ALT_BANK = false) (hfirst : s.getF F.BOOT_FAULT_FIRST = 0)
    (hbad : s.flag F.SUP_STAT_VDDQ_OK = false ∨ trained = false) :
    s.memoryUp trained = { s.mpllLocked.setF F.BOOT_FAULT_FIRST (if s.flag F.SUP_STAT_VDDQ_OK = true then 0x0F else 0x0E) with
      boot := { s.boot with memFault := true } } := by
  have halt' : (s.raise F.CLK_STAT_MEM_LOCK).flag F.BOOT_STAT_ALT_BANK = false :=
    (congrArg (· != 0) (s.getF_setF_apart F.CLK_STAT_MEM_LOCK _ 1 (by decide) (by decide))).trans halt
  have hfirst' : (s.raise F.CLK_STAT_MEM_LOCK).getF F.BOOT_FAULT_FIRST = 0 :=
    (s.getF_setF_apart F.CLK_STAT_MEM_LOCK _ 1 (by decide) (by decide)).trans hfirst
  have hvddq : (s.raise F.CLK_STAT_MEM_LOCK).flag F.SUP_STAT_VDDQ_OK = s.flag F.SUP_STAT_VDDQ_OK := s.vddq_mpllLocked
  have hfault (code : Nat) : (s.raise F.CLK_STAT_MEM_LOCK).memoryFault code =
      { s.mpllLocked.setF F.BOOT_FAULT_FIRST code with boot := { s.boot with memFault := true } } :=
    State.memoryFault_first halt' hfirst' code
  cases h : s.flag F.SUP_STAT_VDDQ_OK
  · simp only [State.memoryUp, hvddq, h, hfault]
    rfl
  · obtain rfl : trained = false := hbad.resolve_left (by simp [h])
    simp only [State.memoryUp, hvddq, h, hfault]
    rfl

theorem exec_memoryBringUp_failed (hdue : s.memoryDue = true) (hok : s.boot.memFault = false)
    (halt : s.flag F.BOOT_STAT_ALT_BANK = false) (hfirst : s.getF F.BOOT_FAULT_FIRST = 0)
    (hbad : s.flag F.SUP_STAT_VDDQ_OK = false ∨ trained = false) :
    ∃ t, exec (.memoryBringUp trained) s = .next t ∧ t = { s with regs := t.regs, boot := t.boot } ∧
      s.regsKept t [A.CLK_STAT, A.BOOT_FAULT] ∧ t.boot = { s.boot with memFault := true } ∧
      t.getF F.BOOT_FAULT_FIRST = if s.flag F.SUP_STAT_VDDQ_OK = true then 0x0F else 0x0E := by
  refine ⟨_, exec_memoryBringUp hdue hok, ?_⟩
  rw [State.memoryUp_failed halt hfirst hbad]
  have hraised : s.regsKept s.mpllLocked [A.CLK_STAT, A.BOOT_FAULT] :=
    (State.regsKept.refl s _).raise F.CLK_STAT_MEM_LOCK (by decide)
  refine ⟨rfl, (hraised.setF F.BOOT_FAULT_FIRST _ (by decide)).congr rfl, rfl, ?_⟩
  refine (State.getF_setF_self s.mpllLocked F.BOOT_FAULT_FIRST _ (by decide)).trans (Nat.mod_eq_of_lt ?_)
  split <;> decide

theorem exec_memoryHoldRetry_unsupplied (hvddq : s.flag F.SUP_STAT_VDDQ_OK = false) :
    exec (.memoryHoldRetry trained) s = .next s := by
  show execMemoryHoldRetry trained s = _
  simp [execMemoryHoldRetry, hvddq]

end

/-! ### The position of a Tile (R66, R73) -/

section
variable {s : State}

theorem exec_positionSectionLoaded (hrun : s.running = true) (hload : s.boot.loaded = true) (hh : s.isHead = false)
    (hwait : s.flag F.BOOT_STAT_WAIT_HEAD = true) (hid : s.flag F.LNK_ID_ASSIGNED = true)
    (hdiff : s.flag F.BOOT_STAT_PLAN_DIFF = false) (hsave : s.saving = false) :
    exec .positionSectionLoaded s = .next s.positionTake := by
  show execPositionSectionLoaded s = _
  simp [execPositionSectionLoaded, hrun, hload, hh, hwait, hid, hdiff, hsave]

/-- A section that is intact and in range puts the Tile into service (R73, R74). -/
theorem State.positionTake_ok {p : PositionSection} (hp : s.boot.image.positions.find? (fun x => x.head == s.lnk.headNumber &&
      x.chain == s.getF F.LNK_ID_CHAIN && x.pos == s.getF F.LNK_ID_POS) = some p)
    (hplace : s.boot.image.hasPlace s.lnk.headNumber (s.getF F.LNK_ID_CHAIN) (s.getF F.LNK_ID_POS) = true)
    (hok : s.boot.image.placeOk s.lnk.headNumber (s.getF F.LNK_ID_CHAIN) (s.getF F.LNK_ID_POS) = true)
    (hrange : positionOk s.plan.wall p = true) :
    let t := s.positionTake
    t.released = true ∧ t.getF F.BOOT_STAT_STEP = 4 ∧ t.getF F.BOOT_STAT_WAIT_HEAD = 0 ∧ t.boot.posLoaded = true ∧
      t.boot.position = p ∧ t.getW A.CFG_EPOCH = 0 := by
  intro t
  have hat : s.positionAt = p := by rw [State.positionAt, hp]; rfl
  have hfault : s.positionFault = 0 := by simp [State.positionFault, hplace, hok, hat, hrange]
  let u := ({ s with boot := { s.boot with posLoaded := true, position := p } } : State).setF F.BOOT_STAT_WAIT_HEAD 0
  have ht : t = u.release := by
    simp only [t, State.positionTake, hfault, hat, if_true]
    rfl
  obtain ⟨hboot, hrel, hstep, -, hepoch, -, hwait, -⟩ := u.release_shows
  rw [ht]
  exact ⟨hrel, hstep, hwait.trans (State.getF_setF_self _ _ _ (by decide)), congrArg BootState.posLoaded hboot,
    congrArg BootState.position hboot, hepoch⟩

/-- Without a section of its place the Tile gives the plan up; with the other bank tried, in recovery mode (R67, R73). -/
theorem State.positionTake_missing
    (hplace : s.boot.image.hasPlace s.lnk.headNumber (s.getF F.LNK_ID_CHAIN) (s.getF F.LNK_ID_POS) = false)
    (htrial : s.dirNow.trial = false) (halt : s.flag F.BOOT_STAT_ALT_BANK = true) :
    s.positionTake.getF F.BOOT_FAULT_SECOND = 0x11 ∧ s.positionTake.recovering = true ∧
      s.positionTake.released = s.released := by
  have hfault : s.positionFault = 0x11 := by simp [State.positionFault, hplace]
  have halt' : (s.setF F.LNK_ID_ASSIGNED 0).flag F.BOOT_STAT_ALT_BANK = true :=
    (congrArg (· != 0) (s.getF_setF_apart F.LNK_ID_ASSIGNED _ 0 (by decide) (by decide))).trans halt
  have htrial' : (s.setF F.LNK_ID_ASSIGNED 0).dirNow.trial = false := htrial
  have ht : s.positionTake = ((s.setF F.LNK_ID_ASSIGNED 0).setF F.BOOT_FAULT_SECOND 0x11).enterRecovery := by
    simp only [State.positionTake, hfault, State.bankFailed, halt', htrial']
    rfl
  obtain ⟨-, hrec, -, hrel, hword⟩ := ((s.setF F.LNK_ID_ASSIGNED 0).setF F.BOOT_FAULT_SECOND 0x11).enterRecovery_shows
  rw [ht]
  refine ⟨?_, hrec, hrel.trans ?_⟩
  · exact (congrArg F.BOOT_FAULT_SECOND.of hword).trans (State.getF_setF_self _ _ _ (by decide))
  · simp (disch := decide) only [State.released, State.flag, State.getF_setF_apart]

end

/-! ### The load of a bank (R59 to R71) -/

section
variable {s : State} {fitted : Option Nvm}

/-- The device with the NVM that the board is found to carry. -/
def State.fit (s : State) (fitted : Option Nvm) : State := { s with nvm := fitted.getD s.nvm }

section
variable (hrun : s.running = true) (hfuses : s.boot.fusesDone = true) (hsump : s.boot.sumpDone = true)
  (hgood : s.boot.fuseBad = false) (hload : s.boot.loaded = false) (hrec : s.recovering = false) (hsave : s.saving = false)
include hrun hfuses hsump hgood hload hrec hsave

theorem exec_firmwareAndPlanLoad : exec (.firmwareAndPlanLoad fitted) s =
    .next (if (s.fit fitted).nvm.present then (s.fit fitted).startBanks else (s.fit fitted).bootStop 0x10) := by
  show execFirmwareAndPlanLoad fitted s = _
  simp only [execFirmwareAndPlanLoad, hrun, hfuses, hsump, hgood, hload, hrec, hsave]
  cases fitted <;> rfl

theorem exec_firmwareAndPlanLoad_absent (hnvm : s.nvm.present = false) :
    ∃ t, exec (.firmwareAndPlanLoad none) s = .next t ∧ t.getF F.BOOT_FAULT_FIRST = 0x10 ∧ t.recovering = true ∧
      t.boot.loaded = false := by
  obtain ⟨hboot, hrec', -, hfault⟩ := s.bootStop_shows (code := 0x10) (by decide)
  refine ⟨s.bootStop 0x10, ?_, hfault, hrec', by rw [hboot, hload]⟩
  rw [exec_firmwareAndPlanLoad hrun hfuses hsump hgood hload hrec hsave]
  exact congrArg Host.Outcome.next (if_neg (by simpa [State.fit] using hnvm))

end

/-! What a bank is judged by (R63, R65, R66). -/

theorem State.bankFault_congr {t : State} (hshadow : t.shadow = s.shadow) (hnvm : t.nvm = s.nvm)
    (hrole : t.flag F.SUP_STAT_ROLE = s.flag F.SUP_STAT_ROLE) (b : Bool) : t.bankFault b = s.bankFault b := by
  have hparam (h : Bool) (fw : FwImage) (p : PlanImage) : t.paramFault h fw p = s.paramFault h fw p := by
    have heval : t.evalRefuses p.loaded = s.evalRefuses p.loaded := by rw [State.evalRefuses, hshadow, State.evalRefuses]
    rw [State.paramFault, heval, hshadow, State.paramFault]
  simp only [State.bankFault, hparam, hshadow, hnvm, hrole]

theorem State.paramFault_zero {h : Bool} {fw : FwImage} {p : PlanImage} (hok : s.paramFault h fw p = 0) :
    sysOk p.plan.sys = true := by
  by_contra hbad
  have hparams : paramsOk p.isHead p.loaded = false := by
    have hsys : sysOk p.loaded.sys = false := Bool.eq_false_iff.2 hbad
    simp [paramsOk, hsys]
  simp [State.paramFault, hparams] at hok

/-- A plan whose sections have their digests has those of its wall section. -/
theorem PlanImage.wallOk_of_sectionsOk {p : PlanImage} (hok : p.sectionsOk = true) :
    p.ownedOk (fun o => o == .wall) = true := by
  rw [PlanImage.sectionsOk, PlanImage.ownedOk, List.all_eq_true] at hok
  rw [PlanImage.ownedOk, List.all_eq_true]
  intro i hi
  specialize hok i hi
  revert hok
  cases p.table[i]? with
  | none => exact id
  | some e => cases he : (e.owner == SectionOwner.wall) <;> simp [PlanImage.roleOwner, he]

/-- A bank without a fault has passed the checks of its firmware and of its wall section. -/
theorem State.checks_of_bankFault {b : Bool} (hok : s.bankFault b = 0) :
    fwFault s.shadow (s.nvm.bank b).image.wallId (s.nvm.bank b).fw = 0 ∧ s.wallLoaded b = true := by
  rw [State.bankFault] at hok
  split at hok
  · next hfw => exact absurd hok hfw
  · next hfw =>
    split at hok
    · next hplan => exact absurd hok hplan
    · next hplan =>
      split at hok
      · exact absurd hok (by decide)
      · next hsections =>
        have hwall := PlanImage.wallOk_of_sectionsOk (p := (s.nvm.bank b).image) (by simpa using hsections)
        rw [not_not] at hfw hplan
        exact ⟨hfw, by simp [State.wallLoaded, hfw, hplan, hwall, State.paramFault_zero hok]⟩

/-- What the checks of a bank that passes them leave: its firmware in core memory, the plan's timeout. -/
theorem State.bankRead_ok {b : Bool} (hok : s.bankFault b = 0) :
    s.bankRead b = { s.fwLoad (s.nvm.bank b).fw with
      pwr := { s.pwr with wdtMs := (s.nvm.bank b).image.plan.sys.watchdogMs } } := by
  obtain ⟨hfw, hwall⟩ := State.checks_of_bankFault hok
  simp only [State.bankRead, hfw, hwall]
  rfl

theorem State.dirNow_congr {t : State} (h : t.nvm = s.nvm) : t.dirNow = s.dirNow := by rw [State.dirNow, h, State.dirNow]

/-! A bank put to use (R63, R69 to R71, R73). -/

/-- A bank put to use and shown, before its plan's registers are written (R63, R69). -/
def State.bankShown (s : State) (b : Bool) : State :=
  let k := s.nvm.bank b
  let s1 : State := { s with plan := k.image.loaded, boot := { s.boot with loaded := true, image := k.image, fw := k.fw } }
  let strap := s1.flag F.SUP_STAT_ROLE
  let s2 := ((s1.setB F.BOOT_STAT_ROLE_PLAN k.image.isHead).setB F.BOOT_STAT_ROLE_DIFF (strap && !k.image.isHead)).setB
    F.BOOT_STAT_BANK b
  (s2.setF F.BOOT_PLAN_SERIAL k.image.serial.toNat).setF F.BOOT_STAT_STEP 3

theorem State.bankShown_shows (s : State) (b : Bool) :
    (s.bankShown b).plan = (s.nvm.bank b).image.loaded ∧
    (s.bankShown b).boot = { s.boot with loaded := true, image := (s.nvm.bank b).image, fw := (s.nvm.bank b).fw } ∧
    (s.bankShown b).pwr = s.pwr ∧ (s.bankShown b).nvm = s.nvm ∧ (s.bankShown b).getF F.BOOT_STAT_STEP = 3 ∧
    (s.bankShown b).getF F.BOOT_STAT_ROLE_PLAN = (s.nvm.bank b).image.isHead.toNat ∧
    (s.bankShown b).getF F.BOOT_STAT_BANK = b.toNat ∧ (s.bankShown b).getW A.BOOT_PLAN = (s.nvm.bank b).image.serial ∧
    (s.bankShown b).released = s.released := by
  refine ⟨?_, ?_, ?_, ?_, ?_, ?_, ?_, ?_, ?_⟩
  · simp only [State.bankShown, State.setB, State.setF_plan]
  · simp only [State.bankShown, State.setB, State.setF_boot]
  · simp only [State.bankShown, State.setB, State.setF_pwr]
  · simp only [State.bankShown, State.setB, State.setF_nvm]
  · rw [State.bankShown, State.getF_setF_self _ _ _ (by decide)]
    rfl
  · simp (disch := decide) only [State.bankShown, State.setB, State.getF_setF_apart, State.getF_setF_self]
    cases (s.nvm.bank b).image.isHead <;> rfl
  · simp (disch := decide) only [State.bankShown, State.setB, State.getF_setF_apart, State.getF_setF_self]
    cases b <;> rfl
  · rw [State.bankShown, State.getW_setF_ne _ _ _ (by decide)]
    exact (State.getW_setF_self _ F.BOOT_PLAN_SERIAL _).trans (Fld.put_whole rfl rfl _ _)
  · simp (disch := decide) only [State.bankShown, State.released, State.flag, State.setB, State.getF_setF_apart]
    rfl

/-- The rollback counters' step changes the fuse array, its shadow and the directory, and puts no bank on trial (R404). -/
theorem State.rollbackCheck_parts (s : State) (htrial : s.dirNow.trial = false) :
    s.rollbackCheck = { s with fuses := s.rollbackCheck.fuses, shadow := s.rollbackCheck.shadow, nvm := s.rollbackCheck.nvm } ∧
      s.rollbackCheck.dirNow.trial = false := by
  unfold State.rollbackCheck
  rw [if_neg (by simp [htrial])]
  extract_lets s1 o below
  split
  · next hprev =>
    refine ⟨rfl, ?_⟩
    have hdir : s1.nvm.dir.isSome = true := by
      by_contra hnone
      have hempty : s1.dirNow = {} := by
        rw [State.dirNow, Option.not_isSome_iff_eq_none.1 hnone]
      rw [hempty] at hprev
      simp at hprev
    rw [State.dirNow_writeDir _ _ hdir]
    exact htrial
  · exact ⟨rfl, htrial⟩

/-- The state in which the registers of a bank put to use stand as its plan and the record say. -/
def State.bankLoaded (s : State) (b : Bool) : State := (((s.bankShown b).coresStart.planLoad).secLoad).updLoad

theorem State.bankLoaded_startView (s : State) (b : Bool) : (s.bankLoaded b).startView = (s.bankShown b).startView := by
  simp [State.bankLoaded]

theorem State.useBank_startView (s : State) (b : Bool) : (s.useBank b).startView =
    (if (s.bankLoaded b).rollbackCheck.isHead then (s.bankLoaded b).rollbackCheck
      else (s.bankLoaded b).rollbackCheck.raise F.BOOT_STAT_WAIT_HEAD).startView := by
  let s5 := (s.bankLoaded b).rollbackCheck
  let s6 := s5.laneControl (s5.getF laneCtl &&& 0xFFF)
  have hview : s6.startView = s5.startView := s5.laneControl_startView _
  have huse : s.useBank b = if s6.isHead then s6 else (s6.tilePorts).raise F.BOOT_STAT_WAIT_HEAD := rfl
  rw [huse, State.startView_isHead hview]
  split
  · exact hview
  · exact State.setF_startView_congr (s6.tilePorts_startView.trans hview) (by decide) _

/-- The registers of the start, and what has been loaded, once a bank has been put to use; a Tile waits for its Head. -/
theorem State.useBank_parts (s : State) (b : Bool) (htrial : s.dirNow.trial = false) :
    (s.useBank b).plan = (s.bankShown b).plan ∧ (s.useBank b).boot = (s.bankShown b).boot ∧
      (s.useBank b).pwr.wdtMs = (s.bankShown b).pwr.wdtMs ∧ (s.useBank b).dirNow.trial = false ∧
      (∀ f : Fld, f.addr ∈ startWords → F.BOOT_STAT_WAIT_HEAD.apart f = true → f.lo + f.width ≤ 32 →
        (s.useBank b).getF f = (s.bankShown b).getF f) ∧
      ((s.useBank b).isHead = false → (s.useBank b).getF F.BOOT_STAT_WAIT_HEAD = 1) := by
  have hloaded := s.bankLoaded_startView b
  obtain ⟨hlboot, hlplan, hlnvm, -, hlwdt, -, -, -⟩ := State.startView_eq_iff.1 hloaded
  obtain ⟨-, -, -, hsnvm, -⟩ := s.bankShown_shows b
  have hltrial : (s.bankLoaded b).dirNow.trial = false := by rw [State.dirNow_congr (hlnvm.trans hsnvm), htrial]
  obtain ⟨hchecked, hctrial⟩ := (s.bankLoaded b).rollbackCheck_parts hltrial
  have hview := s.useBank_startView b
  have hplan : (s.bankLoaded b).rollbackCheck.plan = (s.bankShown b).plan := by rw [hchecked, ← hlplan]
  have hboot : (s.bankLoaded b).rollbackCheck.boot = (s.bankShown b).boot := by rw [hchecked, ← hlboot]
  have hwdt : (s.bankLoaded b).rollbackCheck.pwr.wdtMs = (s.bankShown b).pwr.wdtMs := by rw [hchecked, ← hlwdt]
  have hfield {f : Fld} (hf : f.addr ∈ startWords) :
      (s.bankLoaded b).rollbackCheck.getF f = (s.bankShown b).getF f := by
    rw [← State.startView_getF hloaded hf, hchecked]
    rfl
  generalize (s.bankLoaded b).rollbackCheck = u at *
  by_cases hhead : u.isHead = true
  · rw [if_pos hhead] at hview
    obtain ⟨htboot, htplan, htnvm, -, htwdt, -⟩ := State.startView_eq_iff.1 hview
    refine ⟨htplan.trans hplan, htboot.trans hboot, htwdt.trans hwdt, ?_, fun f hf _ _ => ?_, fun hno => ?_⟩
    · rw [State.dirNow_congr htnvm, hctrial]
    · rw [State.startView_getF hview hf, hfield hf]
    · rw [State.startView_isHead hview, hhead] at hno
      exact absurd hno (by decide)
  · rw [if_neg hhead] at hview
    obtain ⟨htboot, htplan, htnvm, -, htwdt, -⟩ := State.startView_eq_iff.1 hview
    refine ⟨htplan.trans hplan, htboot.trans hboot, htwdt.trans hwdt, ?_, fun f hf hapart hwidth => ?_, fun _ => ?_⟩
    · rw [State.dirNow_congr (htnvm.trans (u.setF_nvm _ _)), hctrial]
    · rw [State.startView_getF hview hf, State.raise, State.getF_setF_apart _ _ _ _ hapart hwidth, hfield hf]
    · rw [State.startView_getF hview (by decide), State.getF_raise_self _ _ (by decide) (by decide)]

/-- The other field of the register of which `BOOT_PLAN` consists is none: the register is its serial. -/
theorem State.getW_bootPlan {t : State} (h : s.getF F.BOOT_PLAN_SERIAL = t.getF F.BOOT_PLAN_SERIAL) :
    s.getW A.BOOT_PLAN = t.getW A.BOOT_PLAN := by
  have hwhole (u : State) : u.getF F.BOOT_PLAN_SERIAL = (u.getW A.BOOT_PLAN).toNat := Fld.of_whole A.BOOT_PLAN _
  rw [hwhole, hwhole] at h
  exact BitVec.toNat_inj.1 h

/-- What a bank put to use shows. -/
theorem State.useBank_shows (s : State) (b : Bool) (htrial : s.dirNow.trial = false) :
    let k := s.nvm.bank b
    let t := s.useBank b
    t.plan = k.image.loaded ∧ t.boot = { s.boot with loaded := true, image := k.image, fw := k.fw } ∧
      t.pwr.wdtMs = s.pwr.wdtMs ∧ t.getF F.BOOT_STAT_STEP = 3 ∧ t.getF F.BOOT_STAT_ROLE_PLAN = k.image.isHead.toNat ∧
      t.getF F.BOOT_STAT_BANK = b.toNat ∧ t.getW A.BOOT_PLAN = k.image.serial ∧ t.released = s.released ∧
      (t.isHead = false → t.getF F.BOOT_STAT_WAIT_HEAD = 1) ∧ t.dirNow.trial = false := by
  intro k t
  obtain ⟨hplan, hboot, hpwr, -, hstep, hrole, hbank, hserial, hrel⟩ := s.bankShown_shows b
  obtain ⟨htplan, htboot, htwdt, httrial, htfield, htwait⟩ := s.useBank_parts b htrial
  refine ⟨htplan.trans hplan, htboot.trans hboot, htwdt.trans (by rw [hpwr]), ?_, ?_, ?_, ?_, ?_, htwait, httrial⟩
  · rw [htfield _ (by decide) (by decide) (by decide), hstep]
  · rw [htfield _ (by decide) (by decide) (by decide), hrole]
  · rw [htfield _ (by decide) (by decide) (by decide), hbank]
  · rw [State.getW_bootPlan (htfield _ (by decide) (by decide) (by decide)), hserial]
  · rw [State.released, State.flag, htfield _ (by decide) (by decide) (by decide)]
    exact hrel

/-! The bank that the directory names (R61, R67). -/

/-- The state in which the checks of a bank tried first leave the device. -/
def State.bankPicked (s : State) (b : Bool) : State := (s.setB F.BOOT_FAULT_FIRST_BANK b).bankRead b

theorem State.bankFault_noted (s : State) (v b : Bool) : (s.setB F.BOOT_FAULT_FIRST_BANK v).bankFault b = s.bankFault b := by
  have hrole : (s.setB F.BOOT_FAULT_FIRST_BANK v).flag F.SUP_STAT_ROLE = s.flag F.SUP_STAT_ROLE :=
    congrArg (· != 0) (s.getF_setF_apart F.BOOT_FAULT_FIRST_BANK F.SUP_STAT_ROLE _ (by decide) (by decide))
  exact State.bankFault_congr (s := s) (t := s.setB F.BOOT_FAULT_FIRST_BANK v) rfl rfl hrole b

theorem State.bankPicked_parts {b : Bool} (hok : s.bankFault b = 0) : (s.bankPicked b).nvm = s.nvm ∧
    (s.bankPicked b).boot = { s.boot with fw := (s.nvm.bank b).fw } ∧
    (s.bankPicked b).pwr.wdtMs = (s.nvm.bank b).image.plan.sys.watchdogMs ∧ (s.bankPicked b).released = s.released := by
  have hrel : (s.setB F.BOOT_FAULT_FIRST_BANK b).released = s.released :=
    congrArg (· != 0) (s.getF_setF_apart F.BOOT_FAULT_FIRST_BANK F.BOOT_STAT_RELEASED _ (by decide) (by decide))
  rw [State.bankPicked, State.bankRead_ok ((s.bankFault_noted b b).trans hok)]
  exact ⟨rfl, rfl, rfl, hrel⟩

theorem State.startBanks_untried {d : DirCopy} (hdir : s.nvm.dir.map (fun p => p.2) = some d) (htrial : d.trial = false)
    (hlim : d.wdlim = 0) : s.startBanks = (s.octal d.xclk.toNat).tryBank d.active := by
  obtain ⟨p, hp, rfl⟩ := Option.map_eq_some_iff.1 hdir
  have hzero : p.2.wdlim.toNat = 0 := by rw [hlim]; rfl
  simp [State.startBanks, hp, htrial, hzero]

/-- A bank not on trial, without a fault, is put to use. -/
theorem State.tryBank_ok {b : Bool} (hok : s.bankFault b = 0) (htrial : s.dirNow.trial = false) :
    s.tryBank b = (s.bankPicked b).useBank b := by
  have hpicked : (s.bankPicked b).dirNow.trial = false := by
    obtain ⟨hnvm, -⟩ := State.bankPicked_parts hok
    rw [State.dirNow_congr hnvm, htrial]
  obtain ⟨-, -, -, hused, -⟩ := (s.bankPicked b).useBank_parts b hpicked
  have hsettings : ((s.bankPicked b).useBank b).settingsBad = false := by rw [State.settingsBad, hused, Bool.false_and]
  have htry : s.tryBank b = (s.bankPicked b).takeBank b := by
    rw [State.tryBank, hok]
    rfl
  rw [htry, State.takeBank, hsettings]
  rfl

end

section
variable {s : State} {fitted : Option Nvm} {d : DirCopy}

/-- A bank that the directory names, not on trial and without a fault, is loaded (R61, R63, R69 to R71). -/
theorem State.startBanks_ok (hdir : s.nvm.dir.map (fun p => p.2) = some d) (htrial : d.trial = false) (hlim : d.wdlim = 0)
    (hok : s.bankFault d.active = 0) :
    let k := s.nvm.bank d.active
    let t := s.startBanks
    t.plan = k.image.loaded ∧ t.boot.loaded = true ∧ t.boot.image = k.image ∧ t.boot.fw = k.fw ∧
      t.pwr.wdtMs = k.image.plan.sys.watchdogMs ∧ t.getF F.BOOT_STAT_STEP = 3 ∧
      t.getF F.BOOT_STAT_ROLE_PLAN = k.image.isHead.toNat ∧ t.getF F.BOOT_STAT_BANK = d.active.toNat ∧
      t.getW A.BOOT_PLAN = k.image.serial ∧ t.boot.xspi = d.xclk.toNat ∧ t.released = s.released ∧
      (t.isHead = false → t.getF F.BOOT_STAT_WAIT_HEAD = 1) := by
  intro k t
  have hdirNow : s.dirNow.trial = false := by
    obtain ⟨p, hp, rfl⟩ := Option.map_eq_some_iff.1 hdir
    rw [State.dirNow, hp]
    exact htrial
  have hofault : (s.octal d.xclk.toNat).bankFault d.active = 0 :=
    (State.bankFault_congr (s := s) (t := s.octal d.xclk.toNat) rfl rfl rfl _).trans hok
  have ht : t = ((s.octal d.xclk.toNat).bankPicked d.active).useBank d.active :=
    (State.startBanks_untried hdir htrial hlim).trans (State.tryBank_ok hofault hdirNow)
  obtain ⟨hpnvm, hpboot, hpwdt, hprel⟩ := State.bankPicked_parts hofault
  generalize (s.octal d.xclk.toNat).bankPicked d.active = u at ht hpnvm hpboot hpwdt hprel
  have hutrial : u.dirNow.trial = false := by
    rw [State.dirNow_congr hpnvm]
    exact hdirNow
  obtain ⟨hplan, hboot, hwdt, hstep, hrole, hbank, hserial, hrel, hwait, -⟩ := u.useBank_shows d.active hutrial
  rw [hpboot] at hboot
  rw [hpnvm] at hplan hboot hrole hserial
  rw [ht]
  exact ⟨hplan, by rw [hboot], by rw [hboot]; rfl, by rw [hboot]; rfl, hwdt.trans hpwdt, hstep, hrole, hbank, hserial,
    by rw [hboot]; rfl, hrel.trans hprel, hwait⟩

end

/-! ### The statement -/

/-- Settles O19: each step of the start changes what the statement speaks of in its own few writes, and the loads, the lanes, the
engines and the keys that go with it leave that; what a loaded bank, recovery mode and release show is said once each. -/
theorem startLoadsABankBringsUpMemoryAndReleases : Obligations.StartLoadsABankBringsUpMemoryAndReleases := by
  unfold Obligations.StartLoadsABankBringsUpMemoryAndReleases
  refine ⟨⟨fun f s hpor hdone hok => ?_, fun f s hpor hdone hbad => ?_,
      fun fitted d s hrun hfuses hsump hgood hload hrec hsave hnvm hdir htrial hlim hfault => ?_,
      fun s hrun hfuses hsump hgood hload hrec hsave hnvm =>
        exec_firmwareAndPlanLoad_absent hrun hfuses hsump hgood hload hrec hsave hnvm⟩,
    fun s hdue hfault hvddq => ?_, fun s hdue hfault hvddq => ?_,
    fun trained s hdue hfault halt hfirst hbad => exec_memoryBringUp_failed hdue hfault halt hfirst hbad,
    fun trained s _ _ hvddq => exec_memoryHoldRetry_unsupplied hvddq,
    fun p s hrun hload hh hwait hid hdiff hsave hp hplace hok hrange =>
      ⟨_, exec_positionSectionLoaded hrun hload hh hwait hid hdiff hsave, State.positionTake_ok hp hplace hok hrange⟩,
    fun s hrun hload hh hwait hid hdiff hsave hplace htrial halt =>
      ⟨_, exec_positionSectionLoaded hrun hload hh hwait hid hdiff hsave, State.positionTake_missing hplace htrial halt⟩⟩
  · obtain ⟨hshadow, hsensed, hgood, hstep, hcorr, hrec⟩ := State.sensed_correctable (s := s) hok
    exact ⟨_, exec_fuseSensingDone hpor hdone, hshadow, State.fuses_sensed, hsensed, hgood, hstep, hcorr, hrec⟩
  · exact ⟨_, exec_fuseSensingDone hpor hdone, State.sensed_uncorrectable hbad⟩
  · intro k
    refine ⟨(s.fit fitted).startBanks, ?_, State.startBanks_ok (s := s.fit fitted) hdir htrial hlim hfault⟩
    rw [exec_firmwareAndPlanLoad hrun hfuses hsump hgood hload hrec hsave]
    exact congrArg Host.Outcome.next (if_pos hnvm)
  · obtain ⟨hrel, hstep, hready, -, hlock, hcount, hepoch, hat⟩ := State.memoryUp_trained hvddq
    exact ⟨_, exec_memoryBringUp hdue hfault, hrel, hstep, hready, hlock, hcount, hepoch, hat⟩
  · obtain ⟨hrel, -, hready, hheld, -⟩ := State.memoryUp_trained hvddq
    exact ⟨_, exec_memoryHoldRetry hdue hfault hvddq, hrel, hready, hheld⟩

end Sys2Proof.Machine
end

section
/-!
PROOFS. What the lanes are stated about (chapter 05): the registers of the lane block (R348), the lanes' own parts, and what the
operations of the other blocks leave of them.
-/

namespace Sys2Proof.Machine

/-! ### The lane block seen from the other blocks -/

/-- What the other blocks leave to the lane complex: its own part of the state, the outputs, the answer of the access, and the
words of its block, by their offset. -/
def State.laneView (s : State) : LanState × List Emission × BusReply × (Fin 0x10000 → Word) :=
  (s.lan, s.out, s.bus, fun off => s.getW (0x40080000 + off))

/-- An address outside the lane block. -/
def offLanes (a : Nat) : Prop := ∀ off : Fin 0x10000, a ≠ 0x40080000 + off

theorem offLanes_of_le {a : Nat} (h : 0x40090000 ≤ a) : offLanes a := fun off => by have := off.isLt; omega

theorem offLanes_of_lt {a : Nat} (h : a < 0x40080000) : offLanes a := fun off => by omega

section
variable (s : State)

theorem State.laneView_congr {t : State} (hlan : t.lan = s.lan) (hout : t.out = s.out) (hbus : t.bus = s.bus)
    (hregs : t.regs = s.regs) : t.laneView = s.laneView := by
  simp only [State.laneView, hlan, hout, hbus, State.getW_congr hregs]

theorem State.onlyRegs.laneView_eq {s t : State} {l : List Nat} (h : s.onlyRegs t l) (hl : ∀ a ∈ l, offLanes a) :
    t.laneView = s.laneView := by
  obtain ⟨heq, hkept⟩ := h
  have hword (off : Fin 0x10000) : t.getW (0x40080000 + off) = s.getW (0x40080000 + off) :=
    hkept _ fun hmem => hl _ hmem off rfl
  simp only [State.laneView, hword]
  rw [heq]

@[simp] theorem State.ite_laneView (c : Prop) [Decidable c] (a b : State) :
    (if c then a else b).laneView = if c then a.laneView else b.laneView := by
  split <;> rfl

@[simp] theorem State.when_laneView (c : Bool) (f : State → State) (h : ∀ t : State, (f t).laneView = t.laneView) :
    (s.when c f).laneView = s.laneView := s.when_same State.laneView c (h s)

section
variable {f : Fld} (h : offLanes f.addr)
include h

@[simp] theorem State.setF_laneView (v : Nat) : (s.setF f v).laneView = s.laneView :=
  ((State.onlyRegs.refl s [f.addr]).setF f v (by simp)).laneView_eq (by simpa using h)

@[simp] theorem State.setB_laneView (b : Bool) : (s.setB f b).laneView = s.laneView := s.setF_laneView h _
@[simp] theorem State.raise_laneView : (s.raise f).laneView = s.laneView := s.setF_laneView h _
@[simp] theorem State.raiseBit_laneView (i : Nat) : (s.raiseBit f i).laneView = s.laneView := s.setF_laneView h _
@[simp] theorem State.bump_laneView : (s.bump f).laneView = s.laneView := s.setF_laneView h _

end

/-! The fields that the link, ingest and the clocks write beside the lanes. -/

@[simp] theorem offLanes_events :
    offLanes F.LNK_EVT_RESTRIPE.addr ∧ offLanes F.LNK_EVT_DOWN.addr ∧ offLanes F.LNK_EVT_UP.addr ∧
    offLanes F.SCN_EVT_SRC_HOLD.addr := by
  and_intros <;> exact offLanes_of_le (by decide)

@[simp] theorem offLanes_run (n : Nat) :
    offLanes (F.LNK_PSTAT_STATE n).addr ∧ offLanes (F.LNK_PSTAT_RXMASK n).addr ∧ offLanes (F.LNK_PSTAT_PRXMASK n).addr ∧
    offLanes (F.LNK_PSTAT_TXMASK n).addr ∧ offLanes (F.LNK_PSTAT_SKEW n).addr ∧ offLanes (F.LNK_RXERR_FRAME n).addr ∧
    offLanes (F.ING_SSTAT_STATE n).addr := by
  and_intros <;> exact offLanes_of_le (Nat.le_add_right_of_le (by decide))

@[simp] theorem State.setPort_laneView (n : Nat) (p : PortX) : (s.setPort n p).laneView = s.laneView :=
  s.laneView_congr rfl rfl rfl rfl

@[simp] theorem State.setSrc_laneView (n : Nat) (x : SrcX) : (s.setSrc n x).laneView = s.laneView :=
  s.laneView_congr rfl rfl rfl rfl

@[simp] theorem State.latchHealth_laneView (i : HealthItem) (ok : Bool) : (s.latchHealth i ok).laneView = s.laneView :=
  s.laneView_congr rfl rfl rfl rfl

@[simp] theorem State.latchLink_laneView (l : Nat) : (s.latchLink l).laneView = s.laneView := by
  simp [State.latchLink]

@[simp] theorem State.latchPort_laneView (n : Nat) : (s.latchPort n).laneView = s.laneView := by
  unfold State.latchPort
  split <;> simp

@[simp] theorem State.mbxReset_laneView (who : Initiator) : (s.mbxReset who).laneView = s.laneView := by
  have hlow : ∀ a ∈ mbxResetRegs, a < 0x40080000 := by decide
  exact (s.mbxReset_onlyRegs who).laneView_eq fun a ha => offLanes_of_lt (hlow a ha)

@[simp] theorem State.restripe_laneView (n oldTx : Nat) : (s.restripe n oldTx).laneView = s.laneView :=
  s.laneView_congr rfl rfl rfl rfl

@[simp] theorem State.extraStatus_laneView : ({ s with lnk := { s.lnk with extraStatus := true } } : State).laneView = s.laneView :=
  s.laneView_congr rfl rfl rfl rfl

@[simp] theorem State.setMasks_laneView (n rx tx : Nat) : (s.setMasks n rx tx).laneView = s.laneView := by
  simp [State.setMasks]

@[simp] theorem State.dropLane_laneView (n k : Nat) : (s.dropLane n k).laneView = s.laneView := by
  simp [State.dropLane]

@[simp] theorem State.framingError_laneView (m : Nat) : (s.framingError m).laneView = s.laneView := by
  simp [State.framingError]

@[simp] theorem State.srcState_laneView (n v : Nat) : (s.srcState n v).laneView = s.laneView := by
  simp [State.srcState]

@[simp] theorem State.srcLost_laneView (n : Nat) : (s.srcLost n).laneView = s.laneView := by
  simp [State.srcLost]

end

section
variable {s t : State} (h : t.laneView = s.laneView)
include h

theorem State.lan_of_laneView : t.lan = s.lan := congrArg (·.1) h

theorem State.out_of_laneView : t.out = s.out := congrArg (·.2.1) h

theorem State.bus_of_laneView : t.bus = s.bus := congrArg (·.2.2.1) h

theorem State.getW_of_laneView {a : Nat} (hlo : 0x40080000 ≤ a) (hhi : a < 0x40090000) : t.getW a = s.getW a := by
  have hword := congrFun (congrArg (·.2.2.2) h) (⟨a - 0x40080000, by omega⟩ : Fin 0x10000)
  simpa [State.laneView, Nat.add_sub_cancel' hlo] using hword

end

end Sys2Proof.Machine
end

section
/-!
PROOFS. The lanes acquire, lock and lose lock (chapter 05: R91 to R97, R104, R105).
-/

namespace Sys2Proof.Machine

/-! ### Registers and fields of a lane -/

@[simp] theorem laneField_width (m : Nat) : (F.LAN_STATE m).width = 3 ∧ (F.LAN_POL_SUSPECT m).width = 1 ∧
    (F.LAN_EQ_LIMIT m).width = 1 ∧ (F.LAN_CFG_PEAK m).width = 4 ∧ (F.LAN_CFG_ADAPT m).width = 1 ∧
    (F.LAN_ERR_LOSS m).width = 8 ∧ (F.LAN_ERR_CV m).width = 16 := by and_intros <;> rfl

@[simp] theorem laneField_fits (m : Nat) : (F.LAN_STATE m).lo + 3 ≤ 32 ∧ (F.LAN_POL_SUSPECT m).lo < 32 ∧
    (F.LAN_EQ_LIMIT m).lo < 32 ∧ (F.LAN_CFG_PEAK m).lo + 4 ≤ 32 ∧ (F.LAN_CFG_ADAPT m).lo < 32 ∧
    (F.LAN_ERR_LOSS m).lo + 8 ≤ 32 ∧ (F.LAN_ERR_CV m).lo + 16 ≤ 32 := by
  simp [F.LAN_STATE, F.LAN_POL_SUSPECT, F.LAN_EQ_LIMIT, F.LAN_CFG_PEAK, F.LAN_CFG_ADAPT, F.LAN_ERR_LOSS, F.LAN_ERR_CV]
  omega

theorem Fld.apart_of_addr_ne {f g : Fld} (h : f.addr ≠ g.addr) : f.apart g = true := by simp [Fld.apart, h]

theorem laneState_addr_lt (m : Fin 49) : (F.LAN_STATE m).addr < A.LAN_CTL := by
  have := m.isLt
  simp only [F.LAN_STATE, A.LAN_CTL]
  omega

/-- The registers of the lane block from `LAN_CTL` on hold no lane's state. -/
theorem apart_laneState {f : Fld} (h : A.LAN_CTL ≤ f.addr) (m : Fin 49) : f.apart (F.LAN_STATE m) = true :=
  Fld.apart_of_addr_ne (Nat.ne_of_gt (Nat.lt_of_lt_of_le (laneState_addr_lt m) h))

theorem laneState_apart {f : Fld} (h : A.LAN_CTL ≤ f.addr) (m : Fin 49) : (F.LAN_STATE m).apart f = true :=
  Fld.apart_of_addr_ne (Nat.ne_of_lt (Nat.lt_of_lt_of_le (laneState_addr_lt m) h))

/-- A lane's state and its equaliser's limit lie in one register, below the lanes' other registers. -/
theorem eqLimit_apart {f : Fld} (h : A.LAN_CTL ≤ f.addr) (m : Fin 49) : (F.LAN_EQ_LIMIT m).apart f = true :=
  Fld.apart_of_addr_ne (Nat.ne_of_lt (Nat.lt_of_lt_of_le (laneState_addr_lt m) h))

theorem laneState_apart_laneState {m j : Nat} (h : j ≠ m) : (F.LAN_STATE m).apart (F.LAN_STATE j) = true := by
  simp only [Fld.apart, Bool.or_eq_true, bne_iff_ne, decide_eq_true_eq]
  simp only [F.LAN_STATE]
  omega

@[simp] theorem apart_laneState_event (m : Fin 49) : F.LAN_EVT_LOST.apart (F.LAN_STATE m) = true ∧
    F.LAN_EVT_REGAINED.apart (F.LAN_STATE m) = true ∧ F.LAN_EVT_DP_LOST.apart (F.LAN_STATE m) = true ∧
    F.LAN_EVT_SVC_LOST.apart (F.LAN_STATE m) = true ∧ F.LAN_EVT_EQ_LIMIT.apart (F.LAN_STATE m) = true := by
  and_intros <;> exact apart_laneState (by decide) m

@[simp] theorem apart_laneState_run (m : Fin 49) (j : Nat) : (F.LAN_CFG_PEAK j).apart (F.LAN_STATE m) = true ∧
    (F.LAN_CFG_ADAPT j).apart (F.LAN_STATE m) = true ∧ (F.LAN_ERR_LOSS j).apart (F.LAN_STATE m) = true ∧
    (F.LAN_ERR_CV j).apart (F.LAN_STATE m) = true := by
  and_intros <;> exact apart_laneState (Nat.le_add_right_of_le (by decide)) m

@[simp] theorem laneState_apart_run (m : Fin 49) (j : Nat) : (F.LAN_STATE m).apart (F.LAN_CFG_PEAK j) = true ∧
    (F.LAN_STATE m).apart (F.LAN_CFG_ADAPT j) = true ∧ (F.LAN_STATE m).apart (F.LAN_ERR_LOSS j) = true ∧
    (F.LAN_STATE m).apart (F.LAN_ERR_CV j) = true := by
  and_intros <;> exact laneState_apart (Nat.le_add_right_of_le (by decide)) m

@[simp] theorem eqLimit_apart_peak (m : Fin 49) (j : Nat) : (F.LAN_EQ_LIMIT m).apart (F.LAN_CFG_PEAK j) = true :=
  eqLimit_apart (Nat.le_add_right_of_le (by decide)) m

/-- The fields that a lane has in one register lie apart (R8). -/
@[simp] theorem laneField_apart (m : Nat) : (F.LAN_STATE m).apart (F.LAN_POL_SUSPECT m) = true ∧
    (F.LAN_POL_SUSPECT m).apart (F.LAN_STATE m) = true ∧ (F.LAN_EQ_LIMIT m).apart (F.LAN_STATE m) = true ∧
    (F.LAN_ERR_LOSS m).apart (F.LAN_ERR_CV m) = true ∧
    (F.LAN_CFG_PEAK m).apart (F.LAN_CFG_ADAPT m) = true ∧ (F.LAN_CFG_ADAPT m).apart (F.LAN_CFG_PEAK m) = true := by
  simp [Fld.apart, F.LAN_STATE, F.LAN_POL_SUSPECT, F.LAN_EQ_LIMIT, F.LAN_CFG_PEAK, F.LAN_CFG_ADAPT,
    F.LAN_ERR_LOSS, F.LAN_ERR_CV]

@[simp] theorem State.lane_setLane_self (s : State) (m : Nat) (x : LaneX) : (s.setLane m x).lane m = x :=
  tabGet_tabPut_self _ _ _ _

theorem State.lane_setLane_ne (s : State) {m j : Nat} (x : LaneX) (h : j ≠ m) : (s.setLane m x).lane j = s.lane j :=
  tabGet_tabPut_ne _ _ _ h

@[simp] theorem State.getF_setLane (s : State) (m : Nat) (x : LaneX) (f : Fld) : (s.setLane m x).getF f = s.getF f := rfl

@[simp] theorem State.getF_emit (s : State) (e : Emission) (f : Fld) : (s.emit e).getF f = s.getF f := rfl

/-! ### The advance of a lane (R94, R96) -/

section
variable (s : State) (m : Fin 49)

theorem State.acquire_onlyRegs : s.onlyRegs (s.acquire m) [(F.LAN_STATE m).addr, A.LAN_CFG m] := by
  have hcfg : A.LAN_CFG m ∈ [(F.LAN_STATE m).addr, A.LAN_CFG m] := by simp
  exact (((State.onlyRegs.refl s _).setF (F.LAN_STATE m) 2 List.mem_cons_self).setF (F.LAN_CFG_PEAK m) _ hcfg).setB
    (F.LAN_CFG_ADAPT m) _ hcfg

theorem State.getF_acquire : (s.acquire m).getF (F.LAN_STATE m) = 2 ∧
    (s.acquire m).getF (F.LAN_CFG_ADAPT m) = (s.adaptive m).toNat ∧ (s.acquire m).getF (F.LAN_CFG_PEAK m) = s.startPeak m % 16 := by
  have hbit (b : Bool) : b.toNat % 2 = b.toNat := by cases b <;> rfl
  simp [State.acquire, State.setB, State.getF_setF_apart, State.getF_setF_self, hbit]

theorem laneSignalDetect_acquires (h : s.getF (F.LAN_STATE m) = 1) :
    ∃ t, exec (.laneSignalDetect m) s = .next t ∧ s.onlyRegs t [(F.LAN_STATE m).addr, A.LAN_CFG m] ∧
      t.getF (F.LAN_STATE m) = 2 ∧ t.getF (F.LAN_CFG_ADAPT m) = (s.adaptive m).toNat ∧
      t.getF (F.LAN_CFG_PEAK m) =
        (if s.adaptive m then (if (s.lane m).lost then (s.lane m).frozen.getD 8 else 8)
          else (nth (s.boardOf m).lanes m {}).peak) % 16 :=
  ⟨s.acquire m, if_pos h, s.acquire_onlyRegs m, s.getF_acquire m⟩

end

/-- The equaliser's moves stay within its codes (R94). -/
theorem foldl_peakStep_lt {p : Nat} (h : p < 16) (moves : List Bool) : moves.foldl peakStep p < 16 := by
  induction moves generalizing p with
  | nil => exact h
  | cons up moves ih =>
    refine ih ?_
    cases up <;> simp only [peakStep] <;> grind

/-- An event raised under a condition changes its own register alone. -/
theorem State.when_raise_onlyRegs (s : State) (c : Bool) (f : Fld) : s.onlyRegs (s.when c fun t => t.raise f) [f.addr] :=
  (State.onlyRegs.refl s _).when c ((State.onlyRegs.refl s _).raise f (List.mem_singleton_self _))

section
variable (m : Fin 49) (s : State)

/-- The events lie in a register of their own. -/
theorem laneState_addr_notMem : A.LAN_EVT ∉ [(F.LAN_STATE m).addr] ∧
    (F.LAN_STATE m).addr ∉ [A.LAN_EVT] ∧ A.LAN_CFG m ∉ [A.LAN_EVT] := by
  have := m.isLt
  simp [F.LAN_STATE, A.LAN_CFG, A.LAN_EVT]
  omega

/-- The equaliser freezes at a code and the lane enters Align (R94, R96). -/
def State.alignAt (peak : Nat) : State :=
  let hold := if 32 ≤ m.val ∧ m.val < 48 then (s.lane m).frozen else some peak
  (((s.setF (F.LAN_STATE m) 3).setF (F.LAN_CFG_PEAK m) peak).setLane m { s.lane m with frozen := hold }).setB
    (F.LAN_EQ_LIMIT m) (peak == 0 || peak == 15)

theorem State.getF_alignAt (peak : Nat) : (s.alignAt m peak).getF (F.LAN_STATE m) = 3 ∧
    (s.alignAt m peak).getF (F.LAN_CFG_PEAK m) = peak % 16 ∧
    (s.alignAt m peak).getF (F.LAN_EQ_LIMIT m) = (peak == 0 || peak == 15).toNat := by
  have hbit (b : Bool) : b.toNat % 2 = b.toNat := by cases b <;> rfl
  simp [State.alignAt, State.setB, State.getF_setF_apart, State.getF_setF_self, hbit]

theorem State.alignAt_regsKept (peak : Nat) : s.regsKept (s.alignAt m peak) [(F.LAN_STATE m).addr, A.LAN_CFG m] := by
  have hcfg : A.LAN_CFG m ∈ [(F.LAN_STATE m).addr, A.LAN_CFG m] := by simp
  have hfields := ((State.regsKept.refl s _).setF (F.LAN_STATE m) 3 List.mem_cons_self).setF (F.LAN_CFG_PEAK m) peak hcfg
  exact (hfields.congr (u := State.setLane _ m _) rfl).setB (F.LAN_EQ_LIMIT m) _ List.mem_cons_self

theorem exec_laneCdrLock_adaptive (moves : List Bool) (h : s.getF (F.LAN_STATE m) = 2) (had : s.adaptive m = true) :
    let peak := moves.foldl peakStep (s.getF (F.LAN_CFG_PEAK m))
    exec (.laneCdrLock m moves) s =
      .next ((s.alignAt m peak).when (peak == 0 || peak == 15) fun t => t.raise F.LAN_EVT_EQ_LIMIT) :=
  (if_neg (not_not.2 h)).trans (if_pos had)

theorem laneCdrLock_adaptive (moves : List Bool) (h : s.getF (F.LAN_STATE m) = 2) (had : s.adaptive m = true) :
    let peak := moves.foldl peakStep (s.getF (F.LAN_CFG_PEAK m))
    ∃ t, exec (.laneCdrLock m moves) s = .next t ∧ t = { s with regs := t.regs, lan := t.lan } ∧
      s.regsKept t [(F.LAN_STATE m).addr, A.LAN_CFG m, A.LAN_EVT] ∧ t.getF (F.LAN_STATE m) = 3 ∧
      t.getF (F.LAN_CFG_PEAK m) = peak ∧ ((m.val < 32 ∨ m.val = 48) → (t.lane m).frozen = some peak) ∧
      t.getF (F.LAN_EQ_LIMIT m) = (peak == 0 || peak == 15).toNat := by
  intro peak
  have hpeak : peak < 16 := foldl_peakStep_lt (s.getF_lt (F.LAN_CFG_PEAK m)) moves
  obtain ⟨-, hstate, hcfg⟩ := laneState_addr_notMem m
  obtain ⟨hst, hpk, hlim⟩ := s.getF_alignAt m peak
  obtain ⟨heq, hkept⟩ := (s.alignAt m peak).when_raise_onlyRegs (peak == 0 || peak == 15) F.LAN_EVT_EQ_LIMIT
  refine ⟨_, exec_laneCdrLock_adaptive m s moves h had, ?_, ?_, (hkept.getF_eq _ hstate).trans hst,
    ((hkept.getF_eq _ hcfg).trans hpk).trans (Nat.mod_eq_of_lt hpeak), fun hm => ?_,
    (hkept.getF_eq (F.LAN_EQ_LIMIT m) hstate).trans hlim⟩
  · rw [heq]
    rfl
  · exact ((s.alignAt_regsKept m peak).mono (by simp)).trans (hkept.mono (by simp [F.LAN_EVT_EQ_LIMIT, A.LAN_EVT]))
  · have hchain : ¬(32 ≤ m.val ∧ m.val < 48) := by omega
    rw [heq]
    show ((s.alignAt m peak).lane m).frozen = some peak
    rw [State.alignAt, if_neg hchain]
    exact congrArg LaneX.frozen (State.lane_setLane_self _ _ _)

theorem laneCdrLock_fixed (moves : List Bool) (h : s.getF (F.LAN_STATE m) = 2) (had : s.adaptive m = false) :
    ∃ t, exec (.laneCdrLock m moves) s = .next t ∧ s.onlyRegs t [(F.LAN_STATE m).addr] ∧ t.getF (F.LAN_STATE m) = 3 :=
  ⟨s.setF (F.LAN_STATE m) 3, (if_neg (not_not.2 h)).trans (if_neg (by simp [had])),
    (State.onlyRegs.refl s _).setF _ _ (List.mem_singleton_self _), s.getF_setF_self _ _ (by simp)⟩

theorem laneCommaAlign_aligns (inverted : Bool) (h : s.getF (F.LAN_STATE m) = 3) :
    ∃ t, exec (.laneCommaAlign m inverted) s = .next t ∧ s.onlyRegs t [(F.LAN_STATE m).addr] ∧
      t.getF (F.LAN_STATE m) = (if inverted then 3 else 4) ∧ t.getF (F.LAN_POL_SUSPECT m) = inverted.toNat := by
  have hself := State.onlyRegs.refl s [(F.LAN_STATE m).addr]
  cases inverted with
  | true =>
    refine ⟨s.raise (F.LAN_POL_SUSPECT m), (if_neg (not_not.2 h)).trans rfl,
      hself.raise _ (List.mem_singleton_self _), ?_, s.getF_raise_self _ (by simp) (by simp)⟩
    simp [State.raise, State.getF_setF_apart, h]
  | false =>
    refine ⟨(s.setF (F.LAN_STATE m) 4).setF (F.LAN_POL_SUSPECT m) 0, (if_neg (not_not.2 h)).trans rfl,
      (hself.setF _ _ (List.mem_singleton_self _)).setF _ _ (List.mem_singleton_self _), ?_, ?_⟩ <;>
    simp [State.getF_setF_apart, State.getF_setF_self]

end

/-! ### A lane becomes Locked (R96, R105) -/

section
variable (m : Fin 49) (s : State)

/-- A qualified lane: Locked, with no loss and no violation on record. -/
def State.lockAt : State :=
  (s.setF (F.LAN_STATE m) 5).setLane m { s.lane m with lost := false, gaps := [], since := 0 }

/-- The same with the base page of the service lane sent (R105). -/
def State.lockAndNegotiate : State :=
  (s.lockAt m).when (m.val == 48 && s.svcNegotiates) fun t => t.emit (.svcPage svcAdvert)

theorem exec_laneQualified (h : s.getF (F.LAN_STATE m) = 4) : exec (.laneQualified m) s =
    .next ((s.lockAndNegotiate m).when ((s.lane m).lost && decide (m.val < 32)) fun t => t.raiseBit F.LAN_EVT_REGAINED (m.val / 4)) :=
  if_neg (not_not.2 h)

theorem State.lockAndNegotiate_eq : s.lockAndNegotiate m = { s.lockAt m with
    out := (if m.val = 48 ∧ s.svcNegotiates = true then [.svcPage svcAdvert] else []) ++ s.out } := by
  by_cases hsvc : m.val = 48 ∧ s.svcNegotiates = true
  · have hc : (m.val == 48 && s.svcNegotiates) = true := by simp [hsvc]
    rw [State.lockAndNegotiate, hc, if_pos hsvc]
    rfl
  · have hc : (m.val == 48 && s.svcNegotiates) = false := by simpa using hsvc
    rw [State.lockAndNegotiate, hc, if_neg hsvc]
    rfl

theorem laneQualified_locks (h : s.getF (F.LAN_STATE m) = 4) :
    ∃ t, exec (.laneQualified m) s = .next t ∧ t = { s with regs := t.regs, lan := t.lan, out := t.out } ∧
      s.regsKept t [(F.LAN_STATE m).addr, A.LAN_EVT] ∧ t.getF (F.LAN_STATE m) = 5 ∧ (t.lane m).lost = false ∧
      t.out = (if m.val = 48 ∧ s.svcNegotiates = true then [.svcPage svcAdvert] else []) ++ s.out ∧
      ((s.lane m).lost = true → m.val < 32 → t.bit F.LAN_EVT_REGAINED (m.val / 4) = true) ∧
      (((s.lane m).lost = false ∨ 32 ≤ m.val) → t.getW A.LAN_EVT = s.getW A.LAN_EVT) := by
  have hlock : s.lockAndNegotiate m = _ := s.lockAndNegotiate_eq m
  have hregs : (s.lockAndNegotiate m).regs = (s.setF (F.LAN_STATE m) 5).regs := by rw [hlock]; rfl
  have hstate : (s.lockAndNegotiate m).getF (F.LAN_STATE m) = 5 := by
    rw [State.getF, State.getW_congr hregs]
    exact s.getF_setF_self _ _ (by simp)
  have hkept : s.regsKept (s.lockAndNegotiate m) [(F.LAN_STATE m).addr] :=
    ((State.regsKept.refl s _).setF (F.LAN_STATE m) 5 (List.mem_singleton_self _)).congr hregs
  have hlost : ((s.lockAndNegotiate m).lane m).lost = false := by
    rw [hlock]
    exact congrArg LaneX.lost (State.lane_setLane_self _ _ _)
  have hout := congrArg State.out hlock
  have honly : s.lockAndNegotiate m = { s with
      regs := (s.lockAndNegotiate m).regs, lan := (s.lockAndNegotiate m).lan, out := (s.lockAndNegotiate m).out } := by
    rw [hlock]; rfl
  obtain ⟨hevt, hstaddr, -⟩ := laneState_addr_notMem m
  have hraised : (s.lockAndNegotiate m).onlyRegs ((s.lockAndNegotiate m).when ((s.lane m).lost && decide (m.val < 32))
      fun t => t.raiseBit F.LAN_EVT_REGAINED (m.val / 4)) [A.LAN_EVT] :=
    (State.onlyRegs.refl _ _).when _ ((State.onlyRegs.refl _ _).raiseBit _ _ (by decide))
  obtain ⟨heq, hrest⟩ := hraised
  refine ⟨_, exec_laneQualified m s h, ?_, (hkept.mono (by simp)).trans (hrest.mono (by simp)),
    (hrest.getF_eq _ hstaddr).trans hstate, ?_, ?_, fun hl hm => ?_, fun hno => ?_⟩
  · rw [heq, honly]
  · rw [heq]
    exact hlost
  · rw [heq]
    exact hout
  · have hc : ((s.lane m).lost && decide (m.val < 32)) = true := by simp [hl, hm]
    rw [hc]
    exact State.bit_raiseBit_self _ F.LAN_EVT_REGAINED _ (by decide) (by simp [F.LAN_EVT_REGAINED]; omega)
  · have hc : ((s.lane m).lost && decide (m.val < 32)) = false := by
      rcases hno with hl | hm
      · simp [hl]
      · simp [hm]
    rw [hc]
    exact hkept _ hevt

end

/-! ### Groups that a lane receives (R91, R92, R96) -/

section
variable (m : Fin 49) (s : State) (g : BitVec 10)

theorem State.laneGroup_off (h4 : s.getF (F.LAN_STATE m) ≠ 4) (h5 : s.getF (F.LAN_STATE m) ≠ 5) : s.laneGroup m g = s :=
  if_pos ⟨h4, h5⟩

theorem codeViolation_ignored (groups : List (BitVec 10)) (h4 : s.getF (F.LAN_STATE m) ≠ 4)
    (h5 : s.getF (F.LAN_STATE m) ≠ 5) : exec (.codeViolation m groups) s = .next s := by
  have hall : s.forEach groups (fun g t => t.laneGroup m g) = s := by
    induction groups with
    | nil => rfl
    | cons g groups ih =>
      exact (congrArg (fun t : State => t.forEach groups fun g t => t.laneGroup m g) (s.laneGroup_off m g h4 h5)).trans ih
  exact congrArg Host.Outcome.next hall

/-- The group decoded: the lane's running disparity and its place in the count of characters follow (R91). -/
def State.decoded : State :=
  s.setLane m { s.lane m with rd := some (decode10 (s.lane m).rd g.toNat).2, since := (s.lane m).since + 1 }

theorem State.lane_decoded : (s.decoded m g).lane m =
    { s.lane m with rd := some (decode10 (s.lane m).rd g.toNat).2, since := (s.lane m).since + 1 } :=
  State.lane_setLane_self _ _ _

theorem State.getF_decoded (f : Fld) : (s.decoded m g).getF f = s.getF f := rfl

/-- One group in Qualify passes nothing upward (R92, R96). -/
theorem State.laneGroup_qualify (h : s.getF (F.LAN_STATE m) = 4) (hd : (decode10 (s.lane m).rd g.toNat).1 = none) :
    s.laneGroup m g = (s.decoded m g).violation m ((s.lane m).since + 1) := by
  unfold State.laneGroup
  simp only [h, hd]
  rfl

/-- One group on a Locked lane that violates the code (R92). -/
theorem State.laneGroup_violated (h : s.getF (F.LAN_STATE m) = 5) (hd : (decode10 (s.lane m).rd g.toNat).1 = none) :
    s.laneGroup m g = ((s.decoded m g).emit (.char m none)).violation m ((s.lane m).since + 1) := by
  unfold State.laneGroup
  simp only [h, hd]
  rfl

theorem State.laneGroup_data {c : LineChar} (h : s.getF (F.LAN_STATE m) = 5) (hd : (decode10 (s.lane m).rd g.toNat).1 = some c)
    (hc : c.ctl = false) : s.laneGroup m g = (s.decoded m g).emit (.char m (some (false, c.byte))) := by
  unfold State.laneGroup
  simp only [h, hd, hc, Bool.false_eq_true, false_and, and_false, if_false, Option.map_some]
  rfl

omit g in
theorem State.violation_qualify (gap : Nat) (h : s.getF (F.LAN_STATE m) = 4) (hm : m.val < 48) : s.violation m gap =
    ((s.bump (F.LAN_ERR_CV m)).setF (F.LAN_STATE m) 3).setLane m
      { (s.bump (F.LAN_ERR_CV m)).lane m with since := 0, rd := none } := by
  unfold State.violation
  rw [if_pos hm, if_pos h]

theorem codeViolation_qualify (h : s.getF (F.LAN_STATE m) = 4) (hm : m.val < 48)
    (hd : (decode10 (s.lane m).rd g.toNat).1 = none) :
    ∃ t, exec (.codeViolation m [g]) s = .next t ∧ t = { s with regs := t.regs, lan := t.lan } ∧
      s.regsKept t [(F.LAN_STATE m).addr, A.LAN_ERR m] ∧
      t.getF (F.LAN_STATE m) = 3 ∧ t.getF (F.LAN_ERR_CV m) = min (s.getF (F.LAN_ERR_CV m) + 1) 65535 := by
  have hcv : A.LAN_ERR m ∈ [(F.LAN_STATE m).addr, A.LAN_ERR m] := by simp
  have hdecoded : s.regsKept (s.decoded m g) [(F.LAN_STATE m).addr, A.LAN_ERR m] := (State.regsKept.refl s _).congr rfl
  refine ⟨_, congrArg Host.Outcome.next ((s.laneGroup_qualify m g h hd).trans
    (State.violation_qualify m (s.decoded m g) _ h hm)), rfl,
    ((hdecoded.bump (F.LAN_ERR_CV m) hcv).setF (F.LAN_STATE m) 3 List.mem_cons_self).congr rfl, ?_, ?_⟩
  · rw [State.getF_setLane]
    exact State.getF_setF_self _ _ _ (by simp)
  · rw [State.getF_setLane, State.getF_setF_apart _ _ _ _ (by simp) (by simp), State.getF_bump_self _ _ (by simp),
      State.getF_decoded]
    simp

theorem codeViolation_data {c : LineChar} (h : s.getF (F.LAN_STATE m) = 5)
    (hd : (decode10 (s.lane m).rd g.toNat).1 = some c) (hc : c.ctl = false) :
    ∃ t, exec (.codeViolation m [g]) s = .next t ∧ t = { s with lan := t.lan, out := t.out } ∧
      t.out = .char m (some (false, c.byte)) :: s.out ∧ (t.lane m).rd = some (decode10 (s.lane m).rd g.toNat).2 ∧
      (t.lane m).since = (s.lane m).since + 1 := by
  have hlane := s.lane_decoded m g
  exact ⟨_, congrArg Host.Outcome.next (s.laneGroup_data m g h hd hc), rfl, rfl, congrArg LaneX.rd hlane, congrArg LaneX.since hlane⟩

end

/-! ### Loss of lock: what is lost and what is shown (R97) -/

/-- What a loss of lock is stated about beside its report: each lane's state, its count of losses and the mark of a loss, and the
receivers' training. -/
def State.lossView (s : State) : (Fin 49 → Nat × Nat × Bool) × List (Nat × DpX) :=
  (fun j => (s.getF (F.LAN_STATE j), s.getF (F.LAN_ERR_LOSS j), (s.lane j).lost), s.lan.dp)

theorem State.lossView_eq_iff {s t : State} : t.lossView = s.lossView ↔ (∀ j : Fin 49,
    t.getF (F.LAN_STATE j) = s.getF (F.LAN_STATE j) ∧ t.getF (F.LAN_ERR_LOSS j) = s.getF (F.LAN_ERR_LOSS j) ∧
      (t.lane j).lost = (s.lane j).lost) ∧ t.lan.dp = s.lan.dp := by
  simp only [State.lossView, Prod.mk.injEq, funext_iff]

/-- A field that is neither a lane's state nor its count of losses. -/
def Fld.besideLoss (f : Fld) : Prop := ∀ j : Fin 49, f.apart (F.LAN_STATE j) = true ∧ f.apart (F.LAN_ERR_LOSS j) = true

theorem Fld.besideLoss_of_lt {f : Fld} (hlo : A.LAN_CTL ≤ f.addr) (hhi : f.addr < A.LAN_ERR 0) : f.besideLoss := by
  refine fun j => ⟨apart_laneState hlo j, Fld.apart_of_addr_ne (Nat.ne_of_lt (Nat.lt_of_lt_of_le hhi ?_))⟩
  exact Nat.le_add_right_of_le (by decide)

theorem besideLoss_events : F.LAN_EVT_LOST.besideLoss ∧ F.LAN_EVT_DP_LOST.besideLoss ∧ F.LAN_EVT_SVC_LOST.besideLoss := by
  and_intros <;> exact Fld.besideLoss_of_lt (by decide) (by decide)

theorem besideLoss_dplink {n : Nat} (hn : n < 4) : (F.LAN_DPLINK_TRAIN n).besideLoss ∧ (F.LAN_DPLINK_ALIGNED n).besideLoss := by
  constructor <;> apply Fld.besideLoss_of_lt <;> simp [F.LAN_DPLINK_TRAIN, F.LAN_DPLINK_ALIGNED, A.LAN_CTL, A.LAN_ERR] <;> omega

theorem besideLoss_cv (m : Nat) : (F.LAN_ERR_CV m).besideLoss := by
  intro j
  refine ⟨by simp, ?_⟩
  simp only [Fld.apart, Bool.or_eq_true, bne_iff_ne, decide_eq_true_eq]
  exact Or.inl (Or.inr (Nat.le_refl 16))

section
variable {s t : State}

theorem State.lossView_setF {f : Fld} (h : f.besideLoss) (v : Nat) : (s.setF f v).lossView = s.lossView :=
  State.lossView_eq_iff.2 ⟨fun j => ⟨s.getF_setF_apart _ _ _ (h j).1 (by simp), s.getF_setF_apart _ _ _ (h j).2 (by simp), rfl⟩, rfl⟩

theorem State.lossView_setLane {m : Nat} {x : LaneX} (h : x.lost = (s.lane m).lost) : (s.setLane m x).lossView = s.lossView := by
  refine State.lossView_eq_iff.2 ⟨fun j => ⟨rfl, rfl, ?_⟩, rfl⟩
  by_cases hj : j.val = m
  · rw [hj, State.lane_setLane_self, h]
  · rw [s.lane_setLane_ne x hj]

theorem State.lossView_of_laneView (h : t.laneView = s.laneView) : t.lossView = s.lossView := by
  have hlan := State.lan_of_laneView h
  have hfield (f : Fld) (hlo : 0x40080000 ≤ f.addr) (hhi : f.addr < 0x40090000) : t.getF f = s.getF f :=
    congrArg f.of (State.getW_of_laneView h hlo hhi)
  refine State.lossView_eq_iff.2 ⟨fun j => ⟨hfield _ ?_ ?_, hfield _ ?_ ?_, ?_⟩, congrArg LanState.dp hlan⟩
  · exact Nat.le_add_right _ _
  · exact Nat.lt_trans (laneState_addr_lt j) (by decide)
  · exact Nat.le_add_right_of_le (by decide)
  · have := j.isLt
    simp only [F.LAN_ERR_LOSS]
    omega
  · rw [State.lane, hlan, State.lane]

end

/-! ### The report of a loss (R97, R104, R105) -/

section
variable (s : State) (n : Nat)

theorem State.getF_latchPort (f : Fld) : (s.latchPort n).getF f = s.getF f := by
  unfold State.latchPort State.latchLink
  split
  · exact State.getF_ite f rfl (by simp only [List.foldl_cons, List.foldl_nil, State.getF_latchHealth])
  · rfl

theorem State.getF_setPort (p : PortX) (f : Fld) : (s.setPort n p).getF f = s.getF f := rfl

theorem State.getF_extraStatus (f : Fld) :
    ({ s with lnk := { s.lnk with extraStatus := true } } : State).getF f = s.getF f := rfl

theorem State.getF_restripe (oldTx : Nat) (f : Fld) : (s.restripe n oldTx).getF f = s.getF f := rfl

/-- The reset of an initiator writes below the link's registers. -/
theorem State.getF_mbxReset (who : Initiator) {f : Fld} (h : 0x40070000 ≤ f.addr) : (s.mbxReset who).getF f = s.getF f := by
  have hlow : ∀ a ∈ mbxResetRegs, a < 0x40070000 := by decide
  exact (s.mbxReset_onlyRegs who).2.getF_eq f fun hmem => absurd (hlow _ hmem) (Nat.not_lt.2 h)

variable {n} (hn : n < 8)
include hn

theorem rxmask_apart_event : F.LNK_EVT_RESTRIPE.apart (F.LNK_PSTAT_RXMASK n) = true ∧
    F.LNK_EVT_DOWN.apart (F.LNK_PSTAT_RXMASK n) = true ∧ F.LNK_EVT_UP.apart (F.LNK_PSTAT_RXMASK n) = true := by
  and_intros <;> apply Fld.apart_of_addr_ne <;>
    simp only [F.LNK_EVT_RESTRIPE, F.LNK_EVT_DOWN, F.LNK_EVT_UP, F.LNK_PSTAT_RXMASK] <;> omega

/-- The RXMASK that a port is given is the one that it shows (R116). -/
theorem State.getF_setMasks_rxmask (rx tx : Nat) :
    (s.setMasks n rx tx).getF (F.LNK_PSTAT_RXMASK n) = rx % 16 := by
  obtain ⟨hrestripe, hdown, hup⟩ := rxmask_apart_event hn
  have happart : (F.LNK_PSTAT_STATE n).apart (F.LNK_PSTAT_RXMASK n) = true ∧
      (F.LNK_PSTAT_TXMASK n).apart (F.LNK_PSTAT_RXMASK n) = true ∧
      (F.LNK_PSTAT_PRXMASK n).apart (F.LNK_PSTAT_RXMASK n) = true ∧ (F.LNK_PSTAT_SKEW n).apart (F.LNK_PSTAT_RXMASK n) = true := by
    simp [Fld.apart, F.LNK_PSTAT_STATE, F.LNK_PSTAT_TXMASK, F.LNK_PSTAT_PRXMASK, F.LNK_PSTAT_SKEW, F.LNK_PSTAT_RXMASK]
  obtain ⟨hstate, htx, hprx, hskew⟩ := happart
  have hset (u : State) {f : Fld} (h : f.apart (F.LNK_PSTAT_RXMASK n) = true) (v : Nat) :
      (u.setF f v).getF (F.LNK_PSTAT_RXMASK n) = u.getF (F.LNK_PSTAT_RXMASK n) :=
    u.getF_setF_apart _ _ _ h (by simp [F.LNK_PSTAT_RXMASK])
  unfold State.setMasks
  extract_lets oldSt oldTx tx1 rec_ st s1 s2 s3 s4 s5 s6 s7
  have h1 : s1.getF (F.LNK_PSTAT_RXMASK n) = rx % 16 := by
    rw [hset _ hstate, hset _ htx, State.getF_setF_self _ _ _ (by simp [F.LNK_PSTAT_RXMASK])]
    rfl
  have hwhen (u : State) (c : Bool) {f : State → State}
      (h : ∀ v : State, (f v).getF (F.LNK_PSTAT_RXMASK n) = v.getF (F.LNK_PSTAT_RXMASK n)) :
      (u.when c f).getF (F.LNK_PSTAT_RXMASK n) = u.getF (F.LNK_PSTAT_RXMASK n) := u.when_same (State.getF · _) c (h u)
  have h2 : s2.getF (F.LNK_PSTAT_RXMASK n) = s1.getF (F.LNK_PSTAT_RXMASK n) := hwhen _ _ fun u => hset u hrestripe _
  have h3 : s3.getF (F.LNK_PSTAT_RXMASK n) = s2.getF (F.LNK_PSTAT_RXMASK n) := hwhen _ _ fun u => by
    rw [State.getF_setPort, hset _ hskew, hset _ hprx]
  have h4 : s4.getF (F.LNK_PSTAT_RXMASK n) = s3.getF (F.LNK_PSTAT_RXMASK n) := hwhen _ _ fun u => hset u hdown _
  have h5 : s5.getF (F.LNK_PSTAT_RXMASK n) = s4.getF (F.LNK_PSTAT_RXMASK n) := hwhen _ _ fun u => hset u hup _
  have h6 : s6.getF (F.LNK_PSTAT_RXMASK n) = s5.getF (F.LNK_PSTAT_RXMASK n) := hwhen _ _ fun u => u.getF_extraStatus _
  have h7 : s7.getF (F.LNK_PSTAT_RXMASK n) = s6.getF (F.LNK_PSTAT_RXMASK n) :=
    hwhen _ _ fun u => u.getF_mbxReset .service (Nat.le_add_right_of_le (by decide))
  rw [State.getF_latchPort, State.getF_restripe, h7, h6, h5, h4, h3, h2, h1]

/-- A lane that is dropped is out of its port's RXMASK (R97, R116). -/
theorem State.testBit_rxmask_dropLane {k : Nat} (hk : k < 4) :
    ((s.dropLane n k).getF (F.LNK_PSTAT_RXMASK n)).testBit k = false := by
  have hcleared : ∀ rx < 16, ∀ k < 4, rx.testBit k = true → ((rx - 2 ^ k) % 16).testBit k = false := by decide
  unfold State.dropLane
  extract_lets sk p s1 rx
  by_cases hrx : rx.testBit k = true
  · rw [if_pos hrx, s1.getF_setMasks_rxmask hn]
    exact hcleared rx (s.getF_lt (F.LNK_PSTAT_RXMASK n)) k hk hrx
  · have hskew : (F.LNK_PSTAT_SKEW n).apart (F.LNK_PSTAT_RXMASK n) = true := by
      simp [Fld.apart, F.LNK_PSTAT_SKEW, F.LNK_PSTAT_RXMASK]
    have hsame : s1.getF (F.LNK_PSTAT_RXMASK n) = rx :=
      State.getF_setF_apart _ _ _ _ hskew (by simp [F.LNK_PSTAT_RXMASK])
    rw [if_neg hrx, State.getF_latchPort, hsame]
    exact Bool.eq_false_iff.2 hrx

end

/-! ### Loss of a trained DisplayPort link (R104) -/

section
variable {s : State} {n : Nat} (hn : n < 4)

theorem State.lossView_emit (s : State) (e : Emission) : (s.emit e).lossView = s.lossView := rfl

theorem getF_dplink_event (s : State) (n i : Nat) (hn : n < 4) :
    (s.raiseBit F.LAN_EVT_DP_LOST i).getF (F.LAN_DPLINK_TRAIN n) = s.getF (F.LAN_DPLINK_TRAIN n) := by
  refine s.getF_setF_apart _ _ _ (Fld.apart_of_addr_ne ?_) (by simp [F.LAN_DPLINK_TRAIN])
  simp only [F.LAN_EVT_DP_LOST, F.LAN_DPLINK_TRAIN]
  omega

/-- What the loss shows on the receiver's own registers and its hot-plug line. -/
def State.dpDropped (s : State) (n : Nat) : State :=
  (((s.raiseBit F.LAN_EVT_DP_LOST n).setF (F.LAN_DPLINK_TRAIN n) 4).setF (F.LAN_DPLINK_ALIGNED n) 0).emit (.hpdPulse n)

include hn

theorem State.dpLost_trained (h : s.getF (F.LAN_DPLINK_TRAIN n) = 3) : s.dpLost n = (s.dpDropped n).srcLost n :=
  if_pos ((getF_dplink_event s n n hn).trans h)

theorem State.dpLost_untrained (h : s.getF (F.LAN_DPLINK_TRAIN n) ≠ 3) : s.dpLost n = s.raiseBit F.LAN_EVT_DP_LOST n :=
  if_neg fun ht => h ((getF_dplink_event s n n hn).symm.trans ht)

theorem State.dpDropped_shows : (s.dpDropped n).getF (F.LAN_DPLINK_TRAIN n) = 4 ∧
    (s.dpDropped n).getF (F.LAN_DPLINK_ALIGNED n) = 0 ∧ (s.dpDropped n).bit F.LAN_EVT_DP_LOST n = true := by
  have hfields : (F.LAN_DPLINK_ALIGNED n).apart (F.LAN_DPLINK_TRAIN n) = true ∧
      (F.LAN_DPLINK_TRAIN n).apart F.LAN_EVT_DP_LOST = true ∧ (F.LAN_DPLINK_ALIGNED n).apart F.LAN_EVT_DP_LOST = true := by
    refine ⟨?_, Fld.apart_of_addr_ne ?_, Fld.apart_of_addr_ne ?_⟩ <;>
      simp [Fld.apart, F.LAN_DPLINK_ALIGNED, F.LAN_DPLINK_TRAIN, F.LAN_EVT_DP_LOST] <;> omega
  obtain ⟨hal, htrain, haligned⟩ := hfields
  refine ⟨?_, ?_, ?_⟩
  · rw [State.dpDropped, State.getF_emit, State.getF_setF_apart _ _ _ _ hal (by simp [F.LAN_DPLINK_TRAIN]),
      State.getF_setF_self _ _ _ (by simp [F.LAN_DPLINK_TRAIN])]
    rfl
  · rw [State.dpDropped, State.getF_emit, State.getF_setF_self _ _ _ (by simp [F.LAN_DPLINK_ALIGNED]), Nat.zero_mod]
  · rw [State.bit, State.dpDropped, State.getF_emit, State.getF_setF_apart _ _ _ _ haligned (by decide),
      State.getF_setF_apart _ _ _ _ htrain (by decide)]
    exact State.bit_raiseBit_self _ F.LAN_EVT_DP_LOST _ (by decide) hn

theorem State.dpDropped_lossView : (s.dpDropped n).lossView = s.lossView := by
  obtain ⟨htrain, haligned⟩ := besideLoss_dplink hn
  obtain ⟨-, hevt, -⟩ := besideLoss_events
  rw [State.dpDropped, State.lossView_emit, State.lossView_setF haligned, State.lossView_setF htrain]
  exact State.lossView_setF hevt _

/-- Whether or not the receiver was trained, the loss is reported and no lane's state changes. -/
theorem State.dpLost_reports : (s.dpLost n).lossView = s.lossView ∧ (s.dpLost n).bit F.LAN_EVT_DP_LOST n = true := by
  by_cases h : s.getF (F.LAN_DPLINK_TRAIN n) = 3
  · have hsrc := (s.dpDropped n).srcLost_laneView n
    rw [State.dpLost_trained hn h]
    refine ⟨(State.lossView_of_laneView hsrc).trans (State.dpDropped_lossView hn), ?_⟩
    rw [State.bit, State.getF, State.getW_of_laneView hsrc (by decide) (by decide)]
    exact (State.dpDropped_shows hn).2.2
  · rw [State.dpLost_untrained hn h]
    exact ⟨State.lossView_setF besideLoss_events.2.1 _, State.bit_raiseBit_self _ F.LAN_EVT_DP_LOST _ (by decide) hn⟩

end

/-! ### A Locked lane loses lock (R97) -/

/-- A lane has lost lock and gone to a state: the loss is counted, marked and reported to the port, the receiver or the service
link, and no other lane's state has changed (R97, R104, R105). -/
def State.LaneLost (s t : State) (m : Fin 49) (st : Nat) : Prop :=
  t.getF (F.LAN_STATE m) = st ∧ t.getF (F.LAN_ERR_LOSS m) = min (s.getF (F.LAN_ERR_LOSS m) + 1) 255 ∧ (t.lane m).lost = true ∧
    (∀ j : Fin 49, j ≠ m → t.getF (F.LAN_STATE j) = s.getF (F.LAN_STATE j)) ∧
    (m.val < 32 → t.bit F.LAN_EVT_LOST (m.val / 4) = true ∧
      (t.getF (F.LNK_PSTAT_RXMASK (m.val / 4))).testBit (m.val % 4) = false) ∧
    (32 ≤ m.val → m.val < 48 → s.dpUses ((m.val - 32) / 4) (m.val % 4) = true →
      t.bit F.LAN_EVT_DP_LOST ((m.val - 32) / 4) = true) ∧
    (m.val = 48 → t.getF F.LAN_EVT_SVC_LOST = 1 ∧ t.lan.svcUp = false)

theorem State.dpUses_congr {s t : State} (h : t.lan.dp = s.lan.dp) (n k : Nat) : t.dpUses n k = s.dpUses n k := by
  rw [State.dpUses, State.dp, h, State.dpUses, State.dp]

/-- What the loss turns on besides the lane itself is in the view. -/
theorem State.LaneLost.of_lossView {r s t : State} {m : Fin 49} {st : Nat} (h : r.LaneLost t m st)
    (hview : r.lossView = s.lossView) : s.LaneLost t m st := by
  obtain ⟨hlanes, hdp⟩ := State.lossView_eq_iff.1 hview
  obtain ⟨hst, hloss, hlost, hother, hchain, hrecv, hsvc⟩ := h
  refine ⟨hst, ?_, hlost, fun j hj => (hother j hj).trans (hlanes j).1, hchain, fun hlo hhi huse => ?_, hsvc⟩
  · rw [hloss, (hlanes m).2.1]
  · exact hrecv hlo hhi ((State.dpUses_congr hdp _ _).trans huse)

section
variable (s : State) (m : Fin 49) (signal : Bool)

/-- The lane out of lock: it acquires again while its input holds a signal. -/
def State.outOfLock : State :=
  let s0 := s.setLane m { s.lane m with lost := true, gaps := [], since := 0, rd := none }
  if signal then s0.acquire m else s0.setF (F.LAN_STATE m) 1

/-- The lane's own part of a loss: where it goes, and its count. -/
def State.lossCounted : State := (s.outOfLock m signal).bump (F.LAN_ERR_LOSS m)

theorem State.laneLoss_eq : s.laneLoss m signal =
    if m.val < 32 then ((s.lossCounted m signal).raiseBit F.LAN_EVT_LOST (m.val / 4)).dropLane (m.val / 4) (m.val % 4)
    else if m.val < 48 then (s.lossCounted m signal).when ((s.lossCounted m signal).dpUses ((m.val - 32) / 4) (m.val % 4))
      fun t => t.dpLost ((m.val - 32) / 4)
    else (s.lossCounted m signal).svcLost := rfl

theorem State.outOfLock_lan : (s.outOfLock m signal).lan =
    (s.setLane m { s.lane m with lost := true, gaps := [], since := 0, rd := none }).lan := by
  cases signal <;> rfl

theorem State.getF_outOfLock_state : (s.outOfLock m signal).getF (F.LAN_STATE m) = if signal then 2 else 1 := by
  cases signal
  · exact State.getF_setF_self _ _ _ (by simp)
  · exact (State.getF_acquire _ m).1

/-- A write of a lane's state and of its settings leaves every other lane's state and every count. -/
theorem State.getF_outOfLock_apart {f : Fld} (hfit : f.lo + f.width ≤ 32) (hst : (F.LAN_STATE m).apart f = true)
    (hpeak : (F.LAN_CFG_PEAK m).apart f = true) (hadapt : (F.LAN_CFG_ADAPT m).apart f = true) :
    (s.outOfLock m signal).getF f = s.getF f := by
  cases signal
  · exact State.getF_setF_apart _ _ _ _ hst hfit
  · show (State.acquire _ m).getF f = _
    rw [State.acquire, State.setB, State.getF_setF_apart _ _ _ _ hadapt hfit, State.getF_setF_apart _ _ _ _ hpeak hfit,
      State.getF_setF_apart _ _ _ _ hst hfit, State.getF_setLane]

theorem State.getF_lossCounted : (s.lossCounted m signal).getF (F.LAN_STATE m) = (if signal then 2 else 1) ∧
    (s.lossCounted m signal).getF (F.LAN_ERR_LOSS m) = min (s.getF (F.LAN_ERR_LOSS m) + 1) 255 ∧
    ∀ j : Fin 49, j ≠ m → (s.lossCounted m signal).getF (F.LAN_STATE j) = s.getF (F.LAN_STATE j) := by
  have hstate (j : Fin 49) : (s.lossCounted m signal).getF (F.LAN_STATE j) = (s.outOfLock m signal).getF (F.LAN_STATE j) :=
    State.getF_setF_apart _ _ _ _ (by simp) (by simp)
  have hcfg : (F.LAN_CFG_PEAK m).apart (F.LAN_ERR_LOSS m) = true ∧ (F.LAN_CFG_ADAPT m).apart (F.LAN_ERR_LOSS m) = true := by
    simp [Fld.apart, F.LAN_CFG_PEAK, F.LAN_CFG_ADAPT, F.LAN_ERR_LOSS]
  refine ⟨(hstate m).trans (s.getF_outOfLock_state m signal), ?_, fun j hj => (hstate j).trans ?_⟩
  · rw [State.lossCounted, State.getF_bump_self _ _ (by simp), s.getF_outOfLock_apart m signal (by simp) (by simp) hcfg.1 hcfg.2]
    simp
  · exact s.getF_outOfLock_apart m signal (by simp) (laneState_apart_laneState fun e => hj (Fin.ext e)) (by simp) (by simp)

theorem State.lossCounted_dp : (s.lossCounted m signal).lan.dp = s.lan.dp :=
  (congrArg LanState.dp (s.outOfLock_lan m signal)).trans rfl

omit s m signal in
theorem State.when_true (s : State) (f : State → State) : s.when true f = f s := rfl

omit s m signal in
theorem State.when_false (s : State) (f : State → State) : s.when false f = s := rfl

omit m signal in
/-- The service link's loss leaves the lanes and shows its event (R105). -/
theorem State.svcLost_reports : s.svcLost.lossView = s.lossView ∧ s.svcLost.getF F.LAN_EVT_SVC_LOST = 1 ∧
    s.svcLost.lan.svcUp = false := by
  obtain ⟨-, -, hevt⟩ := besideLoss_events
  have hreset := State.mbxReset_laneView (({ s with lan := { s.lan with svcUp := false } } : State).raise F.LAN_EVT_SVC_LOST) .service
  refine ⟨(State.lossView_of_laneView hreset).trans (State.lossView_setF hevt _), ?_, ?_⟩
  · rw [State.getF, State.svcLost, State.getW_of_laneView hreset (by decide) (by decide)]
    exact State.getF_raise_self _ F.LAN_EVT_SVC_LOST (by decide) (by decide)
  · rw [State.svcLost, State.lan_of_laneView hreset]
    rfl

/-- What the reports of a loss keep is the rest of what is said of it. -/
theorem State.laneLost_of_reports {t : State} (hview : t.lossView = (s.lossCounted m signal).lossView)
    (hchain : m.val < 32 → t.bit F.LAN_EVT_LOST (m.val / 4) = true ∧
      (t.getF (F.LNK_PSTAT_RXMASK (m.val / 4))).testBit (m.val % 4) = false)
    (hrecv : 32 ≤ m.val → m.val < 48 → s.dpUses ((m.val - 32) / 4) (m.val % 4) = true →
      t.bit F.LAN_EVT_DP_LOST ((m.val - 32) / 4) = true)
    (hsvc : m.val = 48 → t.getF F.LAN_EVT_SVC_LOST = 1 ∧ t.lan.svcUp = false) :
    s.LaneLost t m (if signal then 2 else 1) := by
  obtain ⟨hlanes, -⟩ := State.lossView_eq_iff.1 hview
  obtain ⟨hst, hloss, hother⟩ := s.getF_lossCounted m signal
  have hmark : ((s.lossCounted m signal).lane m).lost = true := by
    have hlan : (s.lossCounted m signal).lan = _ := s.outOfLock_lan m signal
    rw [State.lane, hlan]
    exact congrArg LaneX.lost (State.lane_setLane_self _ _ _)
  exact ⟨(hlanes m).1.trans hst, (hlanes m).2.1.trans hloss, (hlanes m).2.2.trans hmark,
    fun j hj => (hlanes j).1.trans (hother j hj), hchain, hrecv, hsvc⟩

/-- Each lane reports its loss to what it belongs to. -/
theorem State.laneLost_laneLoss : s.LaneLost (s.laneLoss m signal) m (if signal then 2 else 1) := by
  obtain ⟨hlost, -, hsvcLost⟩ := besideLoss_events
  have hm := m.isLt
  rw [s.laneLoss_eq m signal]
  split
  · next hchain =>
    have hdrop := ((s.lossCounted m signal).raiseBit F.LAN_EVT_LOST (m.val / 4)).dropLane_laneView (m.val / 4) (m.val % 4)
    refine s.laneLost_of_reports m signal ((State.lossView_of_laneView hdrop).trans (State.lossView_setF hlost _))
      (fun _ => ⟨?_, State.testBit_rxmask_dropLane _ (by omega) (by omega)⟩) (fun _ _ => by omega) (fun _ => by omega)
    rw [State.bit, State.getF, State.getW_of_laneView hdrop (by decide) (by decide)]
    exact State.bit_raiseBit_self _ F.LAN_EVT_LOST _ (by decide) (by simp only [F.LAN_EVT_LOST]; omega)
  · next hnot =>
    split
    · next hrecv =>
      rw [State.dpUses_congr (s.lossCounted_dp m signal)]
      cases huse : s.dpUses ((m.val - 32) / 4) (m.val % 4)
      · rw [State.when_false]
        exact s.laneLost_of_reports m signal rfl (fun _ => by omega) (fun _ _ h => by simp [huse] at h) (fun _ => by omega)
      · obtain ⟨hview, hbit⟩ := State.dpLost_reports (s := s.lossCounted m signal) (n := (m.val - 32) / 4) (by omega)
        rw [State.when_true]
        exact s.laneLost_of_reports m signal hview (fun _ => by omega) (fun _ _ _ => hbit) (fun _ => by omega)
    · next hsvc =>
      obtain ⟨hview, hshown⟩ := (s.lossCounted m signal).svcLost_reports
      exact s.laneLost_of_reports m signal hview (fun _ => by omega) (fun _ _ => by omega) (fun _ => hshown)

end

/-! ### Violations of a Locked lane (R92, R97) -/

section
variable (s : State) (m : Fin 49)

/-- A violation counted, with what it does to a packet that is arriving (R91, R110). -/
def State.violationCounted : State := (if m.val < 48 then s.bump (F.LAN_ERR_CV m) else s).framingError m

/-- The places of the last violations of a lane, the newest first, with one more. -/
def LaneX.gapsAfter (x : LaneX) (gap : Nat) : List Nat := ((if x.gaps.isEmpty then 0 else gap) :: x.gaps).take 4

/-- Four violations within one window of 64 characters (R97). -/
def isBurst (gaps : List Nat) : Bool := decide (gaps.length = 4) && decide ((gaps.take 3).sum ≤ 63)

theorem State.violation_full {gap : Nat} (h : s.getF (F.LAN_STATE m) = 5)
    (hfull : isBurst ((s.lane m).gapsAfter gap) = true) :
    s.violation m gap = (s.violationCounted m).laneLoss m true := by
  have hst : s.getF (F.LAN_STATE m) ≠ 4 := by omega
  exact (if_neg hst).trans (if_pos hfull)

theorem State.violation_few {gap : Nat} (h : s.getF (F.LAN_STATE m) = 5)
    (hfew : isBurst ((s.lane m).gapsAfter gap) = false) :
    s.violation m gap = (s.violationCounted m).setLane m
      { (s.violationCounted m).lane m with gaps := (s.lane m).gapsAfter gap, since := 0 } := by
  have hst : s.getF (F.LAN_STATE m) ≠ 4 := by omega
  exact (if_neg hst).trans (if_neg (Bool.eq_false_iff.1 hfew))

theorem State.violationCounted_lossView : (s.violationCounted m).lossView = s.lossView := by
  refine (State.lossView_of_laneView (State.framingError_laneView _ m)).trans ?_
  split
  · exact State.lossView_setF (besideLoss_cv m) _
  · rfl

theorem State.violationCounted_out : (s.violationCounted m).out = s.out := by
  refine (State.out_of_laneView (State.framingError_laneView _ m)).trans ?_
  split <;> rfl

theorem State.getF_violationCounted_cv (hm : m.val < 48) :
    (s.violationCounted m).getF (F.LAN_ERR_CV m) = min (s.getF (F.LAN_ERR_CV m) + 1) 65535 := by
  have hframe := (s.bump (F.LAN_ERR_CV m)).framingError_laneView m
  have haddr : 0x40080000 ≤ (F.LAN_ERR_CV m).addr ∧ (F.LAN_ERR_CV m).addr < 0x40090000 := by
    simp only [F.LAN_ERR_CV]
    omega
  rw [State.violationCounted, if_pos hm, State.getF, State.getW_of_laneView hframe haddr.1 haddr.2]
  exact (State.getF_bump_self _ _ (by simp)).trans (by simp)

variable (g : BitVec 10) (h : s.getF (F.LAN_STATE m) = 5) (hd : (decode10 (s.lane m).rd g.toNat).1 = none)

/-- The lane has decoded a group that violates the code and passed an error upward (R92). -/
def State.errorPassed : State := (s.decoded m g).emit (.char m none)

theorem State.errorPassed_lossView : (s.errorPassed m g).lossView = s.lossView :=
  (State.lossView_emit _ _).trans (State.lossView_setLane rfl)

theorem State.gaps_errorPassed : ((s.errorPassed m g).lane m).gaps = (s.lane m).gaps :=
  (congrArg LaneX.gaps (s.lane_decoded m g)).trans rfl

include h hd

theorem exec_codeViolation_locked : exec (.codeViolation m [g]) s =
    .next ((s.errorPassed m g).violation m ((s.lane m).since + 1)) :=
  congrArg Host.Outcome.next (s.laneGroup_violated m g h hd)

/-- Four violations at most 63 characters apart are a loss of lock. -/
theorem codeViolation_loses {a b c : Nat} {l : List Nat} (hg : (s.lane m).gaps = a :: b :: c :: l)
    (hnear : (s.lane m).since + 1 + a + b ≤ 63) :
    ∃ t, exec (.codeViolation m [g]) s = .next t ∧ s.LaneLost t m 2 := by
  have hfull : isBurst (((s.errorPassed m g).lane m).gapsAfter ((s.lane m).since + 1)) = true := by
    rw [LaneX.gapsAfter, s.gaps_errorPassed m g, hg]
    simp [isBurst]
    omega
  refine ⟨_, exec_codeViolation_locked s m g h hd, ?_⟩
  rw [(s.errorPassed m g).violation_full m h hfull]
  exact ((State.laneLost_laneLoss _ m true).of_lossView (State.violationCounted_lossView _ m)).of_lossView (s.errorPassed_lossView m g)

/-- Any other violation leaves the lane Locked. -/
theorem codeViolation_stays {gaps : List Nat} (hg : ((s.errorPassed m g).lane m).gapsAfter ((s.lane m).since + 1) = gaps)
    (hfew : isBurst gaps = false) :
    ∃ t, exec (.codeViolation m [g]) s = .next t ∧ t.getF (F.LAN_STATE m) = 5 ∧ (t.lane m).gaps = gaps ∧
      t.out = .char m none :: s.out ∧
      (m.val < 48 → t.getF (F.LAN_ERR_CV m) = min (s.getF (F.LAN_ERR_CV m) + 1) 65535) := by
  have hstate := ((State.lossView_eq_iff.1 ((s.errorPassed m g).violationCounted_lossView m)).1 m).1
  refine ⟨_, exec_codeViolation_locked s m g h hd, ?_⟩
  rw [(s.errorPassed m g).violation_few m h (by rw [hg]; exact hfew), hg]
  exact ⟨hstate.trans h, congrArg LaneX.gaps (State.lane_setLane_self _ _ _), State.violationCounted_out _ m,
    fun hm => State.getF_violationCounted_cv _ m hm⟩

end

/-! ### The statement -/

/-- Settles O21: a clause for each command of a lane; every loss of lock is `State.laneLoss`, whose reports leave what the
statement says of the lanes. -/
theorem lanesAcquireLockAndLoseIt : Obligations.LanesAcquireLockAndLoseIt := by
  unfold Obligations.LanesAcquireLockAndLoseIt
  refine ⟨⟨fun m s => laneSignalDetect_acquires s m, fun m moves s => laneCdrLock_adaptive m s moves,
    fun m moves s => laneCdrLock_fixed m s moves, fun m inverted s => laneCommaAlign_aligns m s inverted,
    fun m s => laneQualified_locks m s, fun m g s => codeViolation_qualify m s g,
    fun m groups s => codeViolation_ignored m s groups⟩, ?_⟩
  refine ⟨fun m s h => ⟨⟨s.laneLoss m false, if_pos h, s.laneLost_laneLoss m false⟩,
      ⟨s.laneLoss m true, if_pos h, s.laneLost_laneLoss m true⟩,
      fun signal => ⟨s.laneLoss m signal, if_pos h, s.laneLost_laneLoss m signal⟩⟩,
    fun m g a b c l s h hd hg hnear => codeViolation_loses s m g h hd hg hnear,
    fun m g a b c l s h hd hg hfar => ?_, fun m g s h hd hg => ?_, fun m g c s => codeViolation_data m s g⟩
  · have hgaps : ((s.errorPassed m g).lane m).gapsAfter ((s.lane m).since + 1) = [(s.lane m).since + 1, a, b, c] := by
      rw [LaneX.gapsAfter, s.gaps_errorPassed m g, hg]
      rfl
    obtain ⟨t, hexec, hst, ht, hout, -⟩ := codeViolation_stays s m g h hd hgaps (by simp [isBurst]; omega)
    exact ⟨t, hexec, hst, ht, hout⟩
  · have hgaps : ((s.errorPassed m g).lane m).gapsAfter ((s.lane m).since + 1) = [0] := by
      rw [LaneX.gapsAfter, s.gaps_errorPassed m g, hg]
      rfl
    exact codeViolation_stays s m g h hd hgaps rfl

end Sys2Proof.Machine
end

section
/-!
PROOFS. Units stop and start, DisplayPort training, and the service lane (chapter 05: R96, R99 to R106).
-/

namespace Sys2Proof.Machine

/-! ### The lanes of a unit (R87) -/

section
variable {u m : Nat}

theorem div_four_of_mem_unitLanes (hu : u < 13) (hm : m ∈ unitLanes u) : m / 4 = u := by
  unfold unitLanes at hm
  split at hm
  · simp only [List.mem_cons, List.not_mem_nil, or_false] at hm
    omega
  · split at hm <;> simp only [List.mem_cons, List.not_mem_nil, or_false] at hm <;> omega

theorem nodup_unitLanes (u : Nat) : (unitLanes u).Nodup := by
  unfold unitLanes
  split
  · simp
  · split <;> simp

/-- The states of a unit's lanes stand in one register: `LAN_CSTAT`, `LAN_DSTAT` and `LAN_SSTAT` follow each other. -/
theorem laneState_addr_of_mem (hu : u < 13) (hm : m ∈ unitLanes u) : (F.LAN_STATE m).addr = A.LAN_CSTAT u := by
  rw [← div_four_of_mem_unitLanes hu hm]
  rfl

end

/-! ### What a unit's stop and start leave (R99) -/

/-- What the stop or the start of a unit leaves: the answer of the access, and every word of the lane block but the states of
the unit's lanes and, for a receiver, its link's. -/
def State.unitFrame (s t : State) (u : Nat) : Prop :=
  t.bus = s.bus ∧ ∀ a, 0x40080000 ≤ a → a < 0x40090000 → a ≠ A.LAN_CSTAT u → a ≠ A.LAN_DPLINK (u - 8) → t.getW a = s.getW a

section
variable (s : State) (u : Nat)

/-- A lane powered down keeps only the mark of a loss (R99). -/
def State.laneOff (s : State) (m : Nat) : State := (s.setF (F.LAN_STATE m) 0).setLane m { lost := (s.lane m).lost }

/-- A lane that is off looks for a signal (R96). -/
def State.laneSeek (s : State) (m : Nat) : State :=
  s.when (s.getF (F.LAN_STATE m) == 0) fun v => v.setF (F.LAN_STATE m) 1

def State.lanesOff : State := s.forEach (unitLanes u) fun m t => t.laneOff m

def State.lanesSeek : State := s.forEach (unitLanes u) fun m t => t.laneSeek m

theorem State.getF_lanesOff {m : Nat} (hm : m ∈ unitLanes u) : (s.lanesOff u).getF (F.LAN_STATE m) = 0 :=
  State.forEach_once (State.getF · (F.LAN_STATE m)) (fun _ => 0) hm (nodup_unitLanes u)
    (fun t => (t.setF (F.LAN_STATE m) 0).getF_setLane m _ _ |>.trans (t.getF_setF_self _ _ (by simp)))
    fun k t hk => ((t.setF (F.LAN_STATE k) 0).getF_setLane k _ _).trans
      (t.getF_setF_apart _ _ _ (laneState_apart_laneState hk.symm) (by simp))

theorem State.getF_lanesSeek {m : Nat} (hm : m ∈ unitLanes u) : (s.lanesSeek u).getF (F.LAN_STATE m) =
    if s.getF (F.LAN_STATE m) = 0 then 1 else s.getF (F.LAN_STATE m) := by
  refine State.forEach_once (State.getF · (F.LAN_STATE m)) (fun v => if v = 0 then 1 else v) hm (nodup_unitLanes u)
    (fun t => ?_) fun k t hk => ?_
  · by_cases h : t.getF (F.LAN_STATE m) = 0
    · rw [State.laneSeek, h, if_pos rfl]
      exact t.getF_setF_self _ _ (by simp)
    · have hc : (t.getF (F.LAN_STATE m) == 0) = false := by simp [h]
      rw [State.laneSeek, hc, if_neg h, State.when_false]
  · exact t.when_same (State.getF · (F.LAN_STATE m)) _ (t.getF_setF_apart _ _ _ (laneState_apart_laneState hk.symm) (by simp))

variable {u} (hu : u < 13)
include hu

theorem State.lanesOff_frame : s.unitFrame (s.lanesOff u) u := by
  refine ⟨s.forEach_same State.bus _ fun _ _ => rfl, fun a _ _ hstate _ => ?_⟩
  refine State.forEach_same_of_mem (State.getW · a) fun m hm t => ?_
  exact t.getW_setF_ne _ _ (by rw [laneState_addr_of_mem hu hm]; exact hstate)

theorem State.lanesSeek_onlyRegs : s.onlyRegs (s.lanesSeek u) [A.LAN_CSTAT u] := by
  refine (State.onlyRegs.refl s _).forEach _ fun m hm t => ?_
  exact (State.onlyRegs.refl t _).when _ ((State.onlyRegs.refl t _).setF _ _ (by rw [laneState_addr_of_mem hu hm]; simp))

end

theorem State.onlyRegs.bus_eq {s t : State} {l : List Nat} (h : s.onlyRegs t l) : t.bus = s.bus := by rw [h.1]

section
variable (s : State) (n : Nat)

theorem State.hpdEval_onlyRegs : s.onlyRegs (s.hpdEval n) [A.LAN_DPLINK n] :=
  (State.onlyRegs.refl s _).setB (F.LAN_DPLINK_HPD n) _ (List.mem_singleton_self _)

/-- A receiver's link as its stop leaves it (R99, R104). -/
def State.linkOff : State :=
  (((s.setF (F.LAN_DPLINK_TRAIN n) 0).setF (F.LAN_DPLINK_ALIGNED n) 0).setF (F.LAN_DPLINK_LANES n) 0).hpdEval n

theorem State.linkOff_onlyRegs : s.onlyRegs (s.linkOff n) [A.LAN_DPLINK n] := by
  have hmem : A.LAN_DPLINK n ∈ [A.LAN_DPLINK n] := List.mem_singleton_self _
  exact ((((State.onlyRegs.refl s _).setF (F.LAN_DPLINK_TRAIN n) 0 hmem).setF (F.LAN_DPLINK_ALIGNED n) 0 hmem).setF
    (F.LAN_DPLINK_LANES n) 0 hmem).trans (State.hpdEval_onlyRegs _ n)

end

section
variable (s : State) {u : Nat}

theorem State.unitStop_eq : s.unitStop u =
    if u < 8 then ((s.lanesOff u).setPort u { (s.lanesOff u).port u with probing := false, slow := false }).setMasks u 0 0
    else if u < 12 then ((s.lanesOff u).linkOff (u - 8)).srcLost (u - 8)
    else { s.lanesOff u with lan := { (s.lanesOff u).lan with svcUp := false } } := rfl

/-- Once its lanes are off, the rest of a unit's stop writes its receiver's register alone in the lane block. -/
theorem State.unitStop_lanesOff : (s.unitStop u).bus = (s.lanesOff u).bus ∧ ∀ a, 0x40080000 ≤ a → a < 0x40090000 →
    a ≠ A.LAN_DPLINK (u - 8) → (s.unitStop u).getW a = (s.lanesOff u).getW a := by
  rw [s.unitStop_eq]
  split
  · have h := ((s.lanesOff u).setPort u { (s.lanesOff u).port u with probing := false, slow := false }).setMasks_laneView u 0 0
    exact ⟨State.bus_of_laneView h, fun a hlo hhi _ => State.getW_of_laneView h hlo hhi⟩
  · split
    · have hlink := (s.lanesOff u).linkOff_onlyRegs (u - 8)
      have h := ((s.lanesOff u).linkOff (u - 8)).srcLost_laneView (u - 8)
      exact ⟨(State.bus_of_laneView h).trans hlink.bus_eq,
        fun a hlo hhi hne => (State.getW_of_laneView h hlo hhi).trans (hlink.2 a (by simpa using hne))⟩
    · exact ⟨rfl, fun _ _ _ _ => rfl⟩

/-- Once its lanes look for a signal, the rest of a unit's start shows its PLL or its hot-plug line. -/
theorem State.unitStart_of_on (h : s.unitOn u = true) : s.unitStart u =
    if u < 8 then (s.lanesSeek u).raiseBit F.CLK_STAT_PORT_LOCK u
    else if u < 12 then (s.lanesSeek u).hpdEval (u - 8)
    else (s.lanesSeek u).raise F.CLK_STAT_SVC_LOCK := if_pos h

theorem State.unitStart_of_off (h : s.unitOn u = false) : s.unitStart u = s := if_neg (Bool.eq_false_iff.1 h)

theorem State.unitStart_lanesSeek (h : s.unitOn u = true) :
    (s.lanesSeek u).onlyRegs (s.unitStart u) [A.CLK_STAT, A.LAN_DPLINK (u - 8)] := by
  have hself := State.onlyRegs.refl (s.lanesSeek u) [A.CLK_STAT, A.LAN_DPLINK (u - 8)]
  rw [s.unitStart_of_on h]
  exact (hself.raiseBit F.CLK_STAT_PORT_LOCK u List.mem_cons_self).ite
    ((((s.lanesSeek u).hpdEval_onlyRegs (u - 8)).mono (by simp)).ite (hself.raise F.CLK_STAT_SVC_LOCK List.mem_cons_self))

variable (hu : u < 13)
include hu

theorem State.unitStop_frame : s.unitFrame (s.unitStop u) u := by
  obtain ⟨hbus, hword⟩ := s.unitStop_lanesOff (u := u)
  obtain ⟨hobus, howord⟩ := s.lanesOff_frame hu
  exact ⟨hbus.trans hobus, fun a hlo hhi hst hlink => (hword a hlo hhi hlink).trans (howord a hlo hhi hst hlink)⟩

theorem State.getF_unitStop {m : Nat} (hm : m ∈ unitLanes u) : (s.unitStop u).getF (F.LAN_STATE m) = 0 := by
  have haddr := laneState_addr_of_mem hu hm
  refine (congrArg (F.LAN_STATE m).of (s.unitStop_lanesOff.2 _ ?_ ?_ ?_)).trans (s.getF_lanesOff u hm) <;>
    rw [haddr] <;> simp only [A.LAN_CSTAT, A.LAN_DPLINK] <;> omega

/-- A start writes registers alone. -/
theorem State.unitStart_onlyRegs : s.onlyRegs (s.unitStart u) [A.LAN_CSTAT u, A.CLK_STAT, A.LAN_DPLINK (u - 8)] := by
  cases h : s.unitOn u
  · rw [s.unitStart_of_off h]
    exact State.onlyRegs.refl s _
  · exact ((s.lanesSeek_onlyRegs hu).mono (by simp)).trans ((s.unitStart_lanesSeek h).mono (by simp))

theorem State.unitStart_frame : s.unitFrame (s.unitStart u) u := by
  have honly := s.unitStart_onlyRegs hu
  refine ⟨honly.bus_eq, fun a hlo _ hst hlink => honly.2 a ?_⟩
  have hclk : a ≠ A.CLK_STAT := by simp only [A.CLK_STAT]; omega
  simp [hst, hlink, hclk]

/-- What a start does to the state of a lane of the unit. -/
def startState (on : Bool) (v : Nat) : Nat := if on then (if v = 0 then 1 else v) else v

theorem State.getF_unitStart {m : Nat} (hm : m ∈ unitLanes u) :
    (s.unitStart u).getF (F.LAN_STATE m) = startState (s.unitOn u) (s.getF (F.LAN_STATE m)) := by
  cases h : s.unitOn u
  · rw [s.unitStart_of_off h]
    rfl
  · refine ((s.unitStart_lanesSeek h).2.getF_eq _ ?_).trans (s.getF_lanesSeek u hm)
    rw [laneState_addr_of_mem hu hm]
    simp only [A.LAN_CSTAT, A.CLK_STAT, A.LAN_DPLINK, List.mem_cons, List.not_mem_nil, or_false]
    omega

end

/-! ### A write of `LAN_CTL` (R99) -/

section
variable {s t : State} {l : List Nat} {u : Nat}

/-- Whether a unit works in the role turns on the role and on recovery mode (R12, R108). -/
theorem State.unitFitted_congr (h : s.onlyRegs t l) (hsup : A.SUP_STAT ∉ l) (hboot : A.BOOT_STAT ∉ l) :
    t.unitFitted u = s.unitFitted u := by
  have hrec : t.recovering = s.recovering := h.2.flag_eq F.BOOT_STAT_RECOVERY hboot
  have hhead : t.isHead = s.isHead := by
    rw [State.isHead, h.2.flag_eq F.SUP_STAT_ROLE hsup, h.2.flag_eq F.BOOT_STAT_ROLE_PLAN hboot, State.isHead]
  rw [State.unitFitted, hrec, hhead, State.unitFitted]

theorem State.portRuns_congr (h : s.onlyRegs t l) (hcfg : A.LNK_PCFG u ∉ l) : t.portRuns u = s.portRuns u := by
  have hport : t.port u = s.port u := by rw [h.1]; rfl
  simp only [State.portRuns, hport, h.2.getF_eq (F.LNK_PCFG_RATE u) hcfg, h.2.getF_eq (F.LNK_PCFG_ROLE u) hcfg]

/-- A unit's power turns on no register that the start of a unit writes. -/
theorem State.unitOn_unitStart (s : State) {k : Nat} (hk : k < 13) : (s.unitStart k).unitOn u = s.unitOn u := by
  have honly := s.unitStart_onlyRegs hk
  have hout {a : Nat} (hclk : a ≠ A.CLK_STAT) (ha : a < 0x40080000 ∨ a = A.LAN_CTL ∨ 0x40090000 ≤ a) :
      a ∉ [A.LAN_CSTAT k, A.CLK_STAT, A.LAN_DPLINK (k - 8)] := by
    simp only [A.LAN_CTL] at ha
    simp only [A.LAN_CSTAT, A.LAN_DPLINK, List.mem_cons, List.not_mem_nil, or_false]
    omega
  have hcfg : A.LNK_PCFG u ≠ A.CLK_STAT ∧ 0x40090000 ≤ A.LNK_PCFG u := by
    simp only [A.LNK_PCFG, A.CLK_STAT]
    omega
  rw [State.unitOn, State.unitFitted_congr honly (hout (by decide) (by decide)) (hout (by decide) (by decide)),
    honly.2.bit_eq laneCtl u (hout (by decide) (by decide)), State.portRuns_congr honly (hout hcfg.1 (.inr (.inr hcfg.2))), State.unitOn]

end

/-- What a write of `LAN_CTL` does to one unit. -/
def controlUnit (old new u : Nat) (t : State) : State :=
  if new.testBit u && !old.testBit u then t.unitStop u
  else if !new.testBit u && old.testBit u then t.unitStart u
  else t

section
variable {old new u : Nat} (t : State)

theorem controlUnit_stop (hnew : new.testBit u = true) (hold : old.testBit u = false) : controlUnit old new u t = t.unitStop u :=
  if_pos (by simp [hnew, hold])

theorem controlUnit_start (hnew : new.testBit u = false) (hold : old.testBit u = true) :
    controlUnit old new u t = t.unitStart u :=
  (if_neg (by simp [hnew])).trans (if_pos (by simp [hnew, hold]))

theorem controlUnit_same (h : new.testBit u = old.testBit u) : controlUnit old new u t = t :=
  (if_neg (by simp [h])).trans (if_neg (by simp [h]))

/-- There are 13 units, so a value has bits for no other (R99). -/
theorem controlUnit_frame (hold : old < 2 ^ 13) (hnew : new < 2 ^ 13) : t.unitFrame (controlUnit old new u t) u := by
  by_cases hu : u < 13
  · unfold controlUnit
    split
    · exact t.unitStop_frame hu
    · split
      · exact t.unitStart_frame hu
      · exact ⟨rfl, fun _ _ _ _ _ => rfl⟩
  · have hbit {x : Nat} (hx : x < 2 ^ 13) : x.testBit u = false :=
      Nat.testBit_lt_two_pow (Nat.lt_of_lt_of_le hx (Nat.pow_le_pow_right (by decide) (by omega)))
    rw [controlUnit_same t ((hbit hnew).trans (hbit hold).symm)]
    exact ⟨rfl, fun _ _ _ _ _ => rfl⟩

end

section
variable {s t : State} {k u m : Nat}

/-- What concerns one unit leaves the states of another's lanes. -/
theorem State.unitFrame.getF_state (h : s.unitFrame t k) (hk : k ≠ u) (hu : u < 13) (hm : m ∈ unitLanes u) :
    t.getF (F.LAN_STATE m) = s.getF (F.LAN_STATE m) := by
  have haddr := laneState_addr_of_mem hu hm
  refine congrArg (F.LAN_STATE m).of (h.2 _ ?_ ?_ ?_ ?_) <;>
    rw [haddr] <;> simp only [A.LAN_CSTAT, A.LAN_DPLINK] <;> omega

/-- No unit's stop or start writes `LAN_CTL`. -/
theorem State.unitFrame.getF_laneCtl (h : s.unitFrame t k) (hk : k < 13) : t.getF laneCtl = s.getF laneCtl := by
  refine congrArg laneCtl.of (h.2 _ (by decide) (by decide) ?_ ?_) <;>
    simp only [laneCtl, A.LAN_CTL, A.LAN_CSTAT, A.LAN_DPLINK] <;> omega

end

section
variable {u m : Nat} (hu : u < 13) (hm : m ∈ unitLanes u)

/-- What the start of a unit turns on and what it does to one of its lanes: the unit's power and the lane's state. -/
def unitLaneView (u m : Nat) (s : State) : Bool × Nat := (s.unitOn u, s.getF (F.LAN_STATE m))

def unitLaneView.started (v : Bool × Nat) : Bool × Nat := (v.1, startState v.1 v.2)

include hu hm

theorem unitLaneView_unitStart_self (t : State) : unitLaneView u m (t.unitStart u) = unitLaneView.started (unitLaneView u m t) :=
  Prod.ext (t.unitOn_unitStart hu) (t.getF_unitStart hu hm)

/-- Where no unit stops, what is done to another unit keeps both. -/
theorem unitLaneView_controlUnit_ne (t : State) {old new k : Nat} (hk : k ≠ u) (hold : old < 2 ^ 13) (hnew : new < 2 ^ 13)
    (hno : new.testBit k = true → old.testBit k = true) : unitLaneView u m (controlUnit old new k t) = unitLaneView u m t := by
  refine Prod.ext ?_ ((controlUnit_frame t hold hnew).getF_state hk hu hm)
  cases hn : new.testBit k <;> cases ho : old.testBit k
  · exact congrArg (State.unitOn · u) (controlUnit_same t (hn.trans ho.symm))
  · have hk13 : k < 13 := by
      by_contra hge
      rw [Nat.testBit_lt_two_pow (Nat.lt_of_lt_of_le hold (Nat.pow_le_pow_right (by decide) (Nat.le_of_not_lt hge)))] at ho
      exact Bool.false_ne_true ho
    exact (congrArg (State.unitOn · u) (controlUnit_start t hn ho)).trans (t.unitOn_unitStart hk13)
  · exact absurd (hno hn) (Bool.eq_false_iff.1 ho)
  · exact congrArg (State.unitOn · u) (controlUnit_same t (hn.trans ho.symm))

end

section
variable (s : State) {new u m : Nat} (hnew : new < 2 ^ 13)

include hnew

theorem State.bus_laneControl : (s.laneControl new).bus = s.bus :=
  (s.setF laneCtl new).forEach_same State.bus _ fun _ t => (controlUnit_frame t (s.getF_lt laneCtl) hnew).1

theorem State.getF_laneControl_laneCtl : (s.laneControl new).getF laneCtl = new := by
  have hsame : (s.laneControl new).getF laneCtl = (s.setF laneCtl new).getF laneCtl :=
    State.forEach_same_of_mem (State.getF · laneCtl) fun k hk t =>
      (controlUnit_frame t (s.getF_lt laneCtl) hnew).getF_laneCtl (List.mem_range.1 hk)
  rw [hsame, State.getF_setF_self _ _ _ (by decide)]
  exact Nat.mod_eq_of_lt hnew

variable (hu : u < 13) (hm : m ∈ unitLanes u)
include hu hm

omit hnew in
theorem State.getF_setLaneCtl_state : (s.setF laneCtl new).getF (F.LAN_STATE m) = s.getF (F.LAN_STATE m) := by
  refine s.getF_setF_apart _ _ _ (Fld.apart_of_addr_ne ?_) (by simp)
  rw [laneState_addr_of_mem hu hm]
  simp only [laneCtl, A.LAN_CTL, A.LAN_CSTAT]
  omega

/-- The lanes of a unit whose bit stays keep their states. -/
theorem State.getF_laneControl_same (h : new.testBit u = (s.getF laneCtl).testBit u) :
    (s.laneControl new).getF (F.LAN_STATE m) = s.getF (F.LAN_STATE m) := by
  refine (State.forEach_same _ (State.getF · (F.LAN_STATE m)) _ fun k t => ?_).trans (s.getF_setLaneCtl_state hu hm)
  by_cases hk : k = u
  · exact congrArg (State.getF · (F.LAN_STATE m)) (controlUnit_same t (hk ▸ h))
  · exact (controlUnit_frame t (s.getF_lt laneCtl) hnew).getF_state hk hu hm

/-- The lanes of a unit whose bit rises go to state 0 (R99). -/
theorem State.getF_laneControl_stop (hrise : new.testBit u = true) (hold : (s.getF laneCtl).testBit u = false) :
    (s.laneControl new).getF (F.LAN_STATE m) = 0 :=
  State.forEach_once (State.getF · (F.LAN_STATE m)) (fun _ => 0) (List.mem_range.2 hu) List.nodup_range
    (fun t => (congrArg (State.getF · (F.LAN_STATE m)) (controlUnit_stop t hrise hold)).trans (t.getF_unitStop hu hm))
    fun _ t hk => (controlUnit_frame t (s.getF_lt laneCtl) hnew).getF_state hk hu hm

/-- Where no unit stops, the lanes of a unit whose bit falls look for a signal, if the unit is on (R96, R99). -/
theorem State.getF_laneControl_start (hfall : new.testBit u = false) (hold : (s.getF laneCtl).testBit u = true)
    (hno : ∀ k, new.testBit k = true → (s.getF laneCtl).testBit k = true) :
    (s.laneControl new).getF (F.LAN_STATE m) = startState ((s.setF laneCtl new).unitOn u) (s.getF (F.LAN_STATE m)) := by
  have hstep := State.forEach_once (s := s.setF laneCtl new) (unitLaneView u m) unitLaneView.started (List.mem_range.2 hu)
    List.nodup_range (f := controlUnit (s.getF laneCtl) new)
    (fun t => (congrArg (unitLaneView u m) (controlUnit_start t hfall hold)).trans (unitLaneView_unitStart_self hu hm t))
    fun k t hk => unitLaneView_controlUnit_ne hu hm t hk (s.getF_lt laneCtl) hnew (hno k)
  exact (congrArg Prod.snd hstep).trans (congrArg (startState _) (s.getF_setLaneCtl_state hu hm))

end

/-! ### `LANE_STOP` and `LANE_START` by the keeper (R99) -/

section
variable {s : State} {u m : Nat}

/-- Where no chain port feeds Geode blocks, the keeper's write takes the value as it is. -/
theorem State.laneCtlWrite_keeper (new : Nat) (h : s.isHead = false ∨ s.geodePorts = []) :
    s.laneCtlWrite .keeper new = s.laneControl new := by
  have hguard : (s.isHead && s.geodePorts.any fun n => new.testBit n && !(s.bit laneCtl n)) = false := by
    rcases h with h | h <;> simp [h]
  have hvalue : s.laneCtlValue .keeper new = new := by
    rcases h with h | h <;> simp [State.laneCtlValue, h]
  rw [State.laneCtlWrite, hguard, hvalue, State.when_false]

/-- The checks passed, the access is answered and the units act (R99). -/
theorem State.guarded_laneCtl_keeper (new : State → Nat) (hw : s.mayWrite .keeper A.LAN_CTL)
    (h : s.isHead = false ∨ s.geodePorts = []) :
    s.guarded .keeper A.LAN_CTL (fun t => t.laneCtlWrite .keeper (new t)) = (s.busOk 0).laneControl (new (s.busOk 0)) :=
  (State.guarded_of_mayWrite (s := s) _ hw).trans ((s.busOk 0).laneCtlWrite_keeper _ h)

variable (s) in
/-- A stop sets bits of `LAN_CTL`, and each unit whose bit rises goes to state 0 (R99). -/
theorem laneStop_keeper (units : BitVec 13) (hw : s.mayWrite .keeper A.LAN_CTL) (h : s.isHead = false ∨ s.geodePorts = []) :
    ∃ t, exec (.laneStop .keeper units) s = .next t ∧ t.bus = ⟨0, false⟩ ∧
      t.getF laneCtl = s.getF laneCtl ||| units.toNat ∧
      (∀ u m, u < 13 → m ∈ unitLanes u → units.getLsbD u = true → s.bit laneCtl u = false → t.getF (F.LAN_STATE m) = 0) ∧
      (∀ u m, u < 13 → m ∈ unitLanes u → (units.getLsbD u = false ∨ s.bit laneCtl u = true) →
        t.getF (F.LAN_STATE m) = s.getF (F.LAN_STATE m)) := by
  have hnew : s.getF laneCtl ||| units.toNat < 2 ^ 13 := Nat.or_lt_two_pow (s.getF_lt laneCtl) units.isLt
  have hbit (u : Nat) : (s.getF laneCtl ||| units.toNat).testBit u = (s.bit laneCtl u || units.getLsbD u) := Nat.testBit_or _ _ _
  refine ⟨(s.busOk 0).laneControl (s.getF laneCtl ||| units.toNat),
    congrArg Host.Outcome.next (State.guarded_laneCtl_keeper (fun t => t.getF laneCtl ||| units.toNat) hw h),
    (s.busOk 0).bus_laneControl hnew, (s.busOk 0).getF_laneControl_laneCtl hnew, fun u m hu hm hset hold => ?_,
    fun u m hu hm hkeep => ?_⟩
  · exact (s.busOk 0).getF_laneControl_stop hnew hu hm (by rw [hbit, hset, Bool.or_true]) hold
  · refine (s.busOk 0).getF_laneControl_same hnew hu hm ((hbit u).trans ?_)
    show (s.bit laneCtl u || units.getLsbD u) = s.bit laneCtl u
    rcases hkeep with hkeep | hkeep <;> simp [hkeep]

/-- Whether a unit is on once `LAN_CTL` is written (R99). -/
theorem State.unitOn_setLaneCtl {new : Nat} (hnew : new < 2 ^ 13) : (s.setF laneCtl new).unitOn u =
    (s.unitFitted u && !(new.testBit u) && (decide (8 ≤ u) || s.portRuns u)) := by
  have honly : s.onlyRegs (s.setF laneCtl new) [A.LAN_CTL] :=
    (State.onlyRegs.refl _ _).setF laneCtl _ (List.mem_singleton_self _)
  have hcfg : A.LNK_PCFG u ∉ [A.LAN_CTL] := by
    simp only [A.LNK_PCFG, A.LAN_CTL, List.mem_singleton]
    omega
  have hctl : (s.setF laneCtl new).getF laneCtl = new :=
    (State.getF_setF_self _ _ _ (by decide)).trans (Nat.mod_eq_of_lt hnew)
  rw [State.unitOn, State.unitFitted_congr honly (by decide) (by decide), State.portRuns_congr honly hcfg, State.bit, hctl]

/-- The value of `LAN_CTL` with the bits of some units cleared. -/
def startedCtl (old : Nat) (units : BitVec 13) : Nat := old &&& (8191 - units.toNat)

section
variable {old : Nat} {units : BitVec 13}

theorem testBit_startedCtl (hu : u < 13) : (startedCtl old units).testBit u = (old.testBit u && !(units.getLsbD u)) := by
  have hmask : 8191 - units.toNat = 2 ^ 13 - (units.toNat + 1) := by omega
  rw [startedCtl, Nat.testBit_and, hmask, Nat.testBit_two_pow_sub_succ units.isLt, decide_eq_true hu, Bool.true_and, BitVec.getLsbD]

theorem startedCtl_lt (h : old < 2 ^ 13) : startedCtl old units < 2 ^ 13 := Nat.lt_of_le_of_lt Nat.and_le_left h

/-- A start raises no bit. -/
theorem testBit_of_startedCtl {k : Nat} (hk : (startedCtl old units).testBit k = true) : old.testBit k = true := by
  rw [startedCtl, Nat.testBit_and, Bool.and_eq_true] at hk
  exact hk.1

end

variable (s) in
/-- What a start does to a lane of a unit that it clears the stop bit of. -/
theorem State.getF_laneControl_startedCtl (units : BitVec 13) (hu : u < 13) (hm : m ∈ unitLanes u)
    (hset : units.getLsbD u = true) (hold : s.bit laneCtl u = true) :
    (s.laneControl (startedCtl (s.getF laneCtl) units)).getF (F.LAN_STATE m) =
      startState (s.unitFitted u && (decide (8 ≤ u) || s.portRuns u)) (s.getF (F.LAN_STATE m)) := by
  have hnew := startedCtl_lt (units := units) (s.getF_lt laneCtl)
  have hfall : (startedCtl (s.getF laneCtl) units).testBit u = false := by
    rw [testBit_startedCtl hu, hset, Bool.not_true, Bool.and_false]
  rw [s.getF_laneControl_start hnew hu hm hfall hold fun k => testBit_of_startedCtl, State.unitOn_setLaneCtl hnew, hfall,
    Bool.not_false, Bool.and_true]

variable (s) in
/-- A start clears bits of `LAN_CTL`, and the lanes of each unit whose bit falls and that can run look for a signal (R96, R99). -/
theorem laneStart_keeper (units : BitVec 13) (hw : s.mayWrite .keeper A.LAN_CTL) (h : s.isHead = false ∨ s.geodePorts = []) :
    ∃ t, exec (.laneStart .keeper units) s = .next t ∧ t.bus = ⟨0, false⟩ ∧
      t.getF laneCtl = s.getF laneCtl &&& (8191 - units.toNat) ∧
      (∀ u m, u < 13 → m ∈ unitLanes u → units.getLsbD u = true → s.bit laneCtl u = true → s.unitFitted u = true →
        (8 ≤ u ∨ s.portRuns u = true) → t.getF (F.LAN_STATE m) = if s.getF (F.LAN_STATE m) = 0 then 1 else s.getF (F.LAN_STATE m)) ∧
      (∀ u m, u < 13 → m ∈ unitLanes u → (units.getLsbD u = false ∨ s.bit laneCtl u = false ∨ s.unitFitted u = false) →
        t.getF (F.LAN_STATE m) = s.getF (F.LAN_STATE m)) := by
  have hnew := startedCtl_lt (units := units) (s.getF_lt laneCtl)
  have hstart {u m : Nat} (hu : u < 13) (hm : m ∈ unitLanes u) (hset : units.getLsbD u = true) (hold : s.bit laneCtl u = true) :
      ((s.busOk 0).laneControl (startedCtl (s.getF laneCtl) units)).getF (F.LAN_STATE m) =
        startState (s.unitFitted u && (decide (8 ≤ u) || s.portRuns u)) (s.getF (F.LAN_STATE m)) :=
    (s.busOk 0).getF_laneControl_startedCtl units hu hm hset hold
  refine ⟨(s.busOk 0).laneControl (startedCtl (s.getF laneCtl) units),
    congrArg Host.Outcome.next (State.guarded_laneCtl_keeper (fun t => startedCtl (t.getF laneCtl) units) hw h),
    (s.busOk 0).bus_laneControl hnew, (s.busOk 0).getF_laneControl_laneCtl hnew, fun u m hu hm hset hold hfit hrun => ?_,
    fun u m hu hm hkeep => ?_⟩
  · have hruns : (s.unitFitted u && (decide (8 ≤ u) || s.portRuns u)) = true := by simpa [hfit] using hrun
    rw [hstart hu hm hset hold, hruns]
    rfl
  · by_cases hboth : units.getLsbD u = true ∧ s.bit laneCtl u = true
    · obtain ⟨hset, hold⟩ := hboth
      have hfit : s.unitFitted u = false := by simpa [hset, hold] using hkeep
      rw [hstart hu hm hset hold, hfit]
      rfl
    · refine (s.busOk 0).getF_laneControl_same hnew hu hm ((testBit_startedCtl hu).trans ?_)
      show (s.bit laneCtl u && !(units.getLsbD u)) = s.bit laneCtl u
      cases hold : s.bit laneCtl u
      · rfl
      · have hset : units.getLsbD u = false := by simpa [hold] using hboth
        rw [hset]
        rfl

end

/-! ### The service lane (R45, R105, R106) -/

section
variable (s : State)

theorem svcLinkUp_rises (page : BitVec 16) (hlane : s.getF (F.LAN_STATE 48) = 5) (hlock : s.flag F.CLK_STAT_SVC_LOCK = true)
    (hagreed : (s.plan.lane.svcAnEnable = false ∧ s.boot.loaded = true) ∨ page.getLsbD 5 = true) :
    ∃ t, exec (.svcLinkUp page) s = .next t ∧ t = { s with lan := t.lan } ∧ t.lan = { s.lan with svcUp := true } := by
  refine ⟨{ s with lan := { s.lan with svcUp := true } }, if_pos ⟨hlane, hlock, ?_⟩, rfl, rfl⟩
  rcases hagreed with ⟨hplan, hloaded⟩ | hduplex
  · exact Or.inl (by simp [State.svcNegotiates, hplan, hloaded])
  · exact Or.inr (by simp [svcAdvert, hduplex])

section
variable (f : SvcFrame)

theorem svcFrameReceived_delivers (hup : s.lan.svcUp = true) (hok : f.fcsOk = true) (hmin : 64 ≤ f.length)
    (hmax : f.length ≤ 1522) (hdev : f.toDevice = true) :
    ∃ t, exec (.svcFrameReceived f) s = .next t ∧ t = { s with out := .svcToKeeper f.length :: s.out } := by
  have hpass : ¬(f.length < 64 ∨ 1522 < f.length ∨ f.toDevice = false) := by
    simp only [hdev, Bool.true_eq_false, or_false]
    omega
  exact ⟨s.emit (.svcToKeeper f.length),
    (if_neg (by simp [hup])).trans ((if_neg (by simp [hok])).trans (if_neg hpass)), rfl⟩

theorem svcFrameReceived_counts (hup : s.lan.svcUp = true) (hbad : f.fcsOk = false) :
    ∃ t, exec (.svcFrameReceived f) s = .next t ∧ s.onlyRegs t [A.LAN_ERR 48] ∧
      t.getF (F.LAN_ERR_CV 48) = min (s.getF (F.LAN_ERR_CV 48) + 1) 65535 :=
  ⟨s.bump (F.LAN_ERR_CV 48), (if_neg (by simp [hup])).trans (if_pos hbad),
    (State.onlyRegs.refl s _).bump (F.LAN_ERR_CV 48) (List.mem_singleton_self _), s.getF_bump_self _ (by decide)⟩

theorem svcFrameReceived_down (hdown : s.lan.svcUp = false) : exec (.svcFrameReceived f) s = .next s := if_pos hdown

end

/-- The loss of the service PLL before the link goes (R45). -/
def State.svcUnlocked : State := (s.setF F.CLK_STAT_SVC_LOCK 0).raise F.CLK_EVT_SVC_UNLOCK

/-- The service link's loss is shown in the lane block and the mailboxes, away from the clocks. -/
theorem State.getF_svcLost_clk {f : Fld} (hf : f.addr ∉ A.LAN_EVT :: mbxResetRegs) : s.svcLost.getF f = s.getF f := by
  obtain ⟨hevt, hmbx⟩ := List.ne_and_not_mem_of_not_mem_cons hf
  exact ((State.mbxReset_onlyRegs _ .service).2.getF_eq f hmbx).trans
    (((State.regsKept.refl _ [A.LAN_EVT]).raise F.LAN_EVT_SVC_LOST (List.mem_singleton_self _)).getF_eq f (by simpa using hevt))

theorem svcPllUnlock_takes_down (hlock : s.flag F.CLK_STAT_SVC_LOCK = true) :
    ∃ t, exec .svcPllUnlock s = .next t ∧ t.getF F.CLK_STAT_SVC_LOCK = 0 ∧ t.getF F.CLK_EVT_SVC_UNLOCK = 1 ∧
      t.lan.svcUp = false ∧ (s.lan.svcUp = true → t.getF F.LAN_EVT_SVC_LOST = 1) ∧
      (s.lan.svcUp = false → s.onlyRegs t [A.CLK_STAT, A.CLK_EVT]) := by
  obtain ⟨hstat, hevt⟩ := s.getF_unlock (lock := F.CLK_STAT_SVC_LOCK) (evt := F.CLK_EVT_SVC_UNLOCK) rfl rfl (by decide)
    (by decide) (by decide)
  by_cases hup : s.lan.svcUp = true
  · obtain ⟨-, hlost, hdown⟩ := s.svcUnlocked.svcLost_reports
    refine ⟨s.svcUnlocked.svcLost, (if_pos hlock).trans (congrArg Host.Outcome.next (if_pos hup)), ?_, ?_, hdown,
      fun _ => hlost, fun h => absurd hup (Bool.eq_false_iff.1 h)⟩
    · exact (s.svcUnlocked.getF_svcLost_clk (by decide)).trans hstat
    · exact (s.svcUnlocked.getF_svcLost_clk (by decide)).trans hevt
  · exact ⟨s.svcUnlocked, (if_pos hlock).trans (congrArg Host.Outcome.next (if_neg hup)), hstat, hevt, Bool.eq_false_iff.2 hup,
      fun h => absurd h hup, fun _ => s.unlock_onlyRegs rfl rfl⟩

end

/-! ### The register of a DisplayPort link -/

section
variable (n : Nat)

@[simp] theorem dplinkField_width : (F.LAN_DPLINK_TRAIN n).width = 3 ∧ (F.LAN_DPLINK_ALIGNED n).width = 1 ∧
    (F.LAN_DPLINK_LANES n).width = 3 ∧ (F.LAN_DPLINK_RATE n).width = 2 ∧ (F.LAN_DPLINK_RETRAINS n).width = 8 := by
  and_intros <;> rfl

@[simp] theorem dplinkField_fits : (F.LAN_DPLINK_TRAIN n).lo + 3 ≤ 32 ∧ (F.LAN_DPLINK_ALIGNED n).lo < 32 ∧
    (F.LAN_DPLINK_LANES n).lo + 3 ≤ 32 ∧ (F.LAN_DPLINK_RATE n).lo + 2 ≤ 32 ∧ (F.LAN_DPLINK_RETRAINS n).lo + 8 ≤ 32 := by
  simp [F.LAN_DPLINK_TRAIN, F.LAN_DPLINK_ALIGNED, F.LAN_DPLINK_LANES, F.LAN_DPLINK_RATE, F.LAN_DPLINK_RETRAINS]

/-- The fields of the register lie apart (R8): those that are written after TRAIN, then after ALIGNED and RATE, then LANES. -/
@[simp] theorem dplinkField_apart :
    ((F.LAN_DPLINK_ALIGNED n).apart (F.LAN_DPLINK_TRAIN n) = true ∧ (F.LAN_DPLINK_LANES n).apart (F.LAN_DPLINK_TRAIN n) = true ∧
      (F.LAN_DPLINK_RATE n).apart (F.LAN_DPLINK_TRAIN n) = true ∧ (F.LAN_DPLINK_RETRAINS n).apart (F.LAN_DPLINK_TRAIN n) = true) ∧
    ((F.LAN_DPLINK_LANES n).apart (F.LAN_DPLINK_ALIGNED n) = true ∧
      (F.LAN_DPLINK_RETRAINS n).apart (F.LAN_DPLINK_ALIGNED n) = true ∧
      (F.LAN_DPLINK_LANES n).apart (F.LAN_DPLINK_RATE n) = true ∧ (F.LAN_DPLINK_ALIGNED n).apart (F.LAN_DPLINK_RATE n) = true) ∧
    ((F.LAN_DPLINK_ALIGNED n).apart (F.LAN_DPLINK_LANES n) = true ∧ (F.LAN_DPLINK_RETRAINS n).apart (F.LAN_DPLINK_LANES n) = true) ∧
    ((F.LAN_DPLINK_TRAIN n).apart (F.LAN_DPLINK_RETRAINS n) = true ∧
      (F.LAN_DPLINK_ALIGNED n).apart (F.LAN_DPLINK_RETRAINS n) = true ∧
      (F.LAN_DPLINK_LANES n).apart (F.LAN_DPLINK_RETRAINS n) = true) := by
  simp [Fld.apart, F.LAN_DPLINK_TRAIN, F.LAN_DPLINK_ALIGNED, F.LAN_DPLINK_LANES, F.LAN_DPLINK_RATE, F.LAN_DPLINK_RETRAINS]

end

@[simp] theorem State.dp_setDp_self (s : State) (n : Nat) (x : DpX) : (s.setDp n x).dp n = x := tabGet_tabPut_self _ _ _ _

@[simp] theorem State.getF_setDp (s : State) (n : Nat) (x : DpX) (f : Fld) : (s.setDp n x).getF f = s.getF f := rfl

theorem State.getF_setSrc (s : State) (n : Nat) (x : SrcX) (f : Fld) : (s.setSrc n x).getF f = s.getF f := rfl

theorem exec_dpAuxTransaction {s : State} {n : Fin 4} (r : DpAux) (h : s.unitOn (8 + n) = true) :
    exec (.dpAuxTransaction n r) s = .next (s.dpAux n r) := if_pos h

/-- An answer on AUX after writes of registers and of the receiver's part. -/
theorem State.onlyRegs.emit_setDp {s r : State} {n : Nat} {x : DpX} {l : List Nat} (h : (s.setDp n x).onlyRegs r l) (e : Emission) :
    r.emit e = { s with regs := r.regs, lan := (s.setDp n x).lan, out := e :: s.out } := by
  rw [State.emit, h.1]
  rfl

/-! ### Training begun (R102, R103, R144) -/

/-- The link of a receiver as a begun training leaves it. -/
def State.dpRestart (s : State) (n : Nat) (x : DpX) : State :=
  (((s.setDp n x).setF (F.LAN_DPLINK_TRAIN n) 1).setF (F.LAN_DPLINK_ALIGNED n) 0).setF (F.LAN_DPLINK_LANES n) 0

/-- A begun training, `again` where the receiver had been trained before. -/
def State.dpBegun (s : State) (n : Nat) (x : DpX) (again : Bool) : State :=
  ((s.dpRestart n x).when again fun t => t.bump (F.LAN_DPLINK_RETRAINS n)).emit (.auxReply n .ack)

section
variable (s : State) (n : Nat)

section
variable (x : DpX) (again : Bool)

theorem State.getF_dpRestart : (s.dpRestart n x).getF (F.LAN_DPLINK_TRAIN n) = 1 ∧
    (s.dpRestart n x).getF (F.LAN_DPLINK_ALIGNED n) = 0 ∧ (s.dpRestart n x).getF (F.LAN_DPLINK_LANES n) = 0 ∧
    (s.dpRestart n x).getF (F.LAN_DPLINK_RETRAINS n) = s.getF (F.LAN_DPLINK_RETRAINS n) := by
  refine ⟨?_, ?_, ?_, ?_⟩
  · rw [State.dpRestart, State.getF_setF_apart _ _ _ _ (by simp) (by simp), State.getF_setF_apart _ _ _ _ (by simp) (by simp),
      State.getF_setF_self _ _ _ (by simp)]
    rfl
  · rw [State.dpRestart, State.getF_setF_apart _ _ _ _ (by simp) (by simp), State.getF_setF_self _ _ _ (by simp), Nat.zero_mod]
  · rw [State.dpRestart, State.getF_setF_self _ _ _ (by simp), Nat.zero_mod]
  · rw [State.dpRestart, State.getF_setF_apart _ _ _ _ (by simp) (by simp), State.getF_setF_apart _ _ _ _ (by simp) (by simp),
      State.getF_setF_apart _ _ _ _ (by simp) (by simp), State.getF_setDp]

theorem State.getF_dpBegun_apart {f : Fld} (h : (F.LAN_DPLINK_RETRAINS n).apart f = true) (hfit : f.lo + f.width ≤ 32) :
    (s.dpBegun n x again).getF f = (s.dpRestart n x).getF f :=
  State.when_same _ (State.getF · f) again (State.getF_setF_apart _ _ _ _ h hfit)

theorem State.getF_dpBegun : (s.dpBegun n x again).getF (F.LAN_DPLINK_TRAIN n) = 1 ∧
    (s.dpBegun n x again).getF (F.LAN_DPLINK_ALIGNED n) = 0 ∧ (s.dpBegun n x again).getF (F.LAN_DPLINK_LANES n) = 0 := by
  obtain ⟨htrain, haligned, hlanes, -⟩ := s.getF_dpRestart n x
  exact ⟨(s.getF_dpBegun_apart n x again (by simp) (by simp)).trans htrain,
    (s.getF_dpBegun_apart n x again (by simp) (by simp)).trans haligned,
    (s.getF_dpBegun_apart n x again (by simp) (by simp)).trans hlanes⟩

theorem State.getF_dpBegun_retrains : (s.dpBegun n x again).getF (F.LAN_DPLINK_RETRAINS n) =
    if again then min (s.getF (F.LAN_DPLINK_RETRAINS n) + 1) 255 else s.getF (F.LAN_DPLINK_RETRAINS n) := by
  have hmax : 2 ^ (F.LAN_DPLINK_RETRAINS n).width - 1 = 255 := by simp
  obtain ⟨-, -, -, hsame⟩ := s.getF_dpRestart n x
  cases again
  · rw [State.dpBegun, State.getF_emit, State.when_false, hsame, if_neg Bool.false_ne_true]
  · rw [State.dpBegun, State.getF_emit, State.when_true, State.getF_bump_self _ _ (by simp), hsame, hmax, if_pos rfl]

theorem State.dpBegun_onlyRegs : (s.setDp n x).onlyRegs
    ((s.dpRestart n x).when again fun t => t.bump (F.LAN_DPLINK_RETRAINS n)) [A.LAN_DPLINK n] := by
  have hmem : A.LAN_DPLINK n ∈ [A.LAN_DPLINK n] := List.mem_singleton_self _
  have hlink := (((State.onlyRegs.refl (s.setDp n x) _).setF (F.LAN_DPLINK_TRAIN n) 1 hmem).setF (F.LAN_DPLINK_ALIGNED n) 0 hmem).setF
    (F.LAN_DPLINK_LANES n) 0 hmem
  exact hlink.when again (hlink.bump (F.LAN_DPLINK_RETRAINS n) hmem)

theorem State.dpBegun_frame : ∃ r, s.dpBegun n x again =
    { s with regs := r, lan := (s.setDp n x).lan, out := .auxReply n .ack :: s.out } :=
  ⟨_, (s.dpBegun_onlyRegs n x again).emit_setDp _⟩

theorem State.dpBegun_regsKept : s.regsKept (s.dpBegun n x again) [A.LAN_DPLINK n] :=
  (s.dpBegun_onlyRegs n x again).2

end

theorem State.dpAux_begin (rate : Fin 4) (lanes : Nat) : s.dpAux n (.begin rate lanes) =
    (s.when (s.getF (F.LAN_DPLINK_TRAIN n) == 3) fun t => t.srcLost n).dpBegun n
      { s.dp n with
        rate := rate.val, lanes := lanes, swing := (s.boardOf (32 + 4 * n)).dpVswing.getD 0,
        pre := (s.boardOf (32 + 4 * n)).dpPreemph.getD 0 } (s.dp n).ever := rfl

/-- A source's state shows the value that it is given (R141). -/
theorem State.getF_srcState {n : Nat} (hn : n < 4) {v : Nat} (hv : v < 8) : (s.srcState n v).getF (F.ING_SSTAT_STATE n) = v := by
  have hevt : F.SCN_EVT_SRC_HOLD.apart (F.ING_SSTAT_STATE n) = true := Fld.apart_of_addr_ne (by
    simp only [F.SCN_EVT_SRC_HOLD, F.ING_SSTAT_STATE]
    omega)
  have hset : (s.setF (F.ING_SSTAT_STATE n) v).getF (F.ING_SSTAT_STATE n) = v :=
    (s.getF_setF_self _ _ (by simp [F.ING_SSTAT_STATE])).trans (Nat.mod_eq_of_lt hv)
  have hhold : ((s.setF (F.ING_SSTAT_STATE n) v).raiseBit F.SCN_EVT_SRC_HOLD n).getF (F.ING_SSTAT_STATE n) = v :=
    (State.getF_setF_apart _ _ _ _ hevt (by simp [F.ING_SSTAT_STATE])).trans hset
  unfold State.srcState
  extract_lets old s1
  split
  · exact (State.getF_setSrc _ _ _ _).trans hhold
  · split
    · exact (State.getF_setSrc _ _ _ _).trans hset
    · exact hset

/-- The end of a source that is not to stop leaves it without video (R144). -/
theorem State.getF_srcLost_state {n : Nat} (hn : n < 4) (hon : s.getF (F.ING_SSTAT_STATE n) ≠ 0) (hstop : (s.src n).stopAtEnd = false) :
    (s.srcLost n).getF (F.ING_SSTAT_STATE n) = 1 := by
  unfold State.srcLost
  rw [if_neg hon, hstop]
  exact State.getF_srcState _ hn (by decide)

end

/-- A begun training: rate and lane count recorded, TRAIN 1, and the source of a trained link ended (R103, R144). -/
theorem dpBegin_records (n : Fin 4) (rate : Fin 4) (lanes : Nat) (s : State) (hon : s.unitOn (8 + n) = true) :
    ∃ t, exec (.dpAuxTransaction n (.begin rate lanes)) s = .next t ∧ t.getF (F.LAN_DPLINK_TRAIN n) = 1 ∧
      t.getF (F.LAN_DPLINK_ALIGNED n) = 0 ∧ t.getF (F.LAN_DPLINK_LANES n) = 0 ∧ (t.dp n).rate = rate ∧ (t.dp n).lanes = lanes ∧
      t.getF (F.LAN_DPLINK_RETRAINS n) =
        (if (s.dp n).ever then min (s.getF (F.LAN_DPLINK_RETRAINS n) + 1) 255 else s.getF (F.LAN_DPLINK_RETRAINS n)) ∧
      t.out = .auxReply n .ack :: s.out ∧
      (s.getF (F.LAN_DPLINK_TRAIN n) ≠ 3 →
        t = { s with regs := t.regs, lan := t.lan, out := t.out } ∧ s.regsKept t [A.LAN_DPLINK n]) ∧
      (s.getF (F.LAN_DPLINK_TRAIN n) = 3 → s.getF (F.ING_SSTAT_STATE n) ≠ 0 → (s.src n).stopAtEnd = false →
        t.getF (F.ING_SSTAT_STATE n) = 1) := by
  have hn := n.isLt
  obtain ⟨r, x, hrun, hview, hrate, hlanes, huntrained, htrained⟩ : ∃ (r : State) (x : DpX),
      s.dpAux n (.begin rate lanes) = r.dpBegun n x (s.dp n).ever ∧ r.laneView = s.laneView ∧ x.rate = rate ∧ x.lanes = lanes ∧
      (s.getF (F.LAN_DPLINK_TRAIN n) ≠ 3 → r = s) ∧ (s.getF (F.LAN_DPLINK_TRAIN n) = 3 → r = s.srcLost n) :=
    ⟨_, _, s.dpAux_begin n rate lanes, s.when_laneView _ _ fun t => t.srcLost_laneView n, rfl, rfl,
      fun h => if_neg (by simpa using h), fun h => if_pos (by simpa using h)⟩
  have hkept := r.dpBegun_regsKept n x (s.dp n).ever
  obtain ⟨htrain, haligned, hcount⟩ := r.getF_dpBegun n x (s.dp n).ever
  have hsame : r.getF (F.LAN_DPLINK_RETRAINS n) = s.getF (F.LAN_DPLINK_RETRAINS n) := by
    refine congrArg (F.LAN_DPLINK_RETRAINS n).of (State.getW_of_laneView hview ?_ ?_) <;> simp only [F.LAN_DPLINK_RETRAINS] <;> omega
  obtain ⟨regs, hframe⟩ := r.dpBegun_frame n x (s.dp n).ever
  have hdp : (r.dpBegun n x (s.dp n).ever).dp n = x := by
    rw [hframe]
    exact r.dp_setDp_self n x
  refine ⟨_, (exec_dpAuxTransaction _ hon).trans (congrArg Host.Outcome.next hrun), htrain, haligned, hcount,
    (congrArg DpX.rate hdp).trans hrate, (congrArg DpX.lanes hdp).trans hlanes, ?_, ?_, fun hne => ?_, fun heq hsrc hstop => ?_⟩
  · rw [r.getF_dpBegun_retrains, hsame]
  · rw [hframe, State.out_of_laneView hview]
  · obtain rfl := huntrained hne
    exact ⟨by rw [hframe], hkept⟩
  · rw [hkept.getF_eq (F.ING_SSTAT_STATE n) (by simp only [F.ING_SSTAT_STATE, A.LAN_DPLINK, List.mem_singleton]; omega), htrained heq]
    exact s.getF_srcLost_state hn hsrc hstop

/-! ### Clock recovery and equalisation (R101, R103) -/

/-- Clock recovery within what the receiver offers leads to equalisation. -/
theorem dpClockRecovery_advances (n : Fin 4) (s : State) (hon : s.unitOn (8 + n) = true) (htrain : s.getF (F.LAN_DPLINK_TRAIN n) = 1)
    (hrate : (s.dp n).rate ≤ s.getF (F.ING_SCFG_MAXRATE n)) (hlanes : (s.dp n).lanes ≤ s.dpMaxLanes n)
    (hcount : (s.dp n).lanes ∈ [1, 2, 4]) :
    ∃ t, exec (.dpAuxTransaction n (.clockRecovery 1 true)) s = .next t ∧ t.getF (F.LAN_DPLINK_TRAIN n) = 2 ∧
      t.out = .auxReply n .ack :: s.out ∧ t = { s with regs := t.regs, out := t.out } ∧ s.regsKept t [A.LAN_DPLINK n] := by
  have hbegun : (s.getF (F.LAN_DPLINK_TRAIN n) == 1) = true := beq_iff_eq.2 htrain
  have hcounts : ((s.dp n).lanes == 1 || (s.dp n).lanes == 2 || (s.dp n).lanes == 4) = true := by
    simpa [or_assoc] using hcount
  have hrun : s.dpAux n (.clockRecovery 1 true) = (s.setF (F.LAN_DPLINK_TRAIN n) 2).emit (.auxReply n .ack) := by
    rw [State.dpAux, hbegun, hcounts, decide_eq_true hrate, decide_eq_true hlanes]
    rfl
  have hkept := (State.regsKept.refl s [A.LAN_DPLINK n]).setF (F.LAN_DPLINK_TRAIN n) 2 (List.mem_singleton_self _)
  exact ⟨_, (exec_dpAuxTransaction _ hon).trans (congrArg Host.Outcome.next hrun),
    State.getF_setF_self _ _ _ (by simp), rfl, rfl, hkept.congr rfl⟩

section
variable (s : State) (n : Nat)

/-- The link of a receiver once equalisation is done. -/
def State.dpTrained : State :=
  ((((s.setF (F.LAN_DPLINK_TRAIN n) 3).setF (F.LAN_DPLINK_RATE n) (s.dp n).rate).setF (F.LAN_DPLINK_LANES n) (s.dp n).lanes).raise
    (F.LAN_DPLINK_ALIGNED n)).setDp n { s.dp n with ever := true }

theorem State.getF_dpTrained : (s.dpTrained n).getF (F.LAN_DPLINK_TRAIN n) = 3 ∧ (s.dpTrained n).getF (F.LAN_DPLINK_ALIGNED n) = 1 ∧
    (s.dpTrained n).getF (F.LAN_DPLINK_RATE n) = (s.dp n).rate % 4 ∧
    (s.dpTrained n).getF (F.LAN_DPLINK_LANES n) = (s.dp n).lanes % 8 := by
  refine ⟨?_, ?_, ?_, ?_⟩
  · rw [State.dpTrained, State.getF_setDp, State.raise, State.getF_setF_apart _ _ _ _ (by simp) (by simp),
      State.getF_setF_apart _ _ _ _ (by simp) (by simp), State.getF_setF_apart _ _ _ _ (by simp) (by simp),
      State.getF_setF_self _ _ _ (by simp)]
    rfl
  · rw [State.dpTrained, State.getF_setDp, State.getF_raise_self _ _ (by simp) (by simp)]
  · rw [State.dpTrained, State.getF_setDp, State.raise, State.getF_setF_apart _ _ _ _ (by simp) (by simp),
      State.getF_setF_apart _ _ _ _ (by simp) (by simp), State.getF_setF_self _ _ _ (by simp)]
    rfl
  · rw [State.dpTrained, State.getF_setDp, State.raise, State.getF_setF_apart _ _ _ _ (by simp) (by simp),
      State.getF_setF_self _ _ _ (by simp)]
    rfl

theorem State.dpTrained_regsKept : s.regsKept (s.dpTrained n) [A.LAN_DPLINK n] := by
  have hmem : A.LAN_DPLINK n ∈ [A.LAN_DPLINK n] := List.mem_singleton_self _
  have hlink := (((State.regsKept.refl s _).setF (F.LAN_DPLINK_TRAIN n) 3 hmem).setF (F.LAN_DPLINK_RATE n) (s.dp n).rate hmem).setF
    (F.LAN_DPLINK_LANES n) (s.dp n).lanes hmem
  exact (hlink.raise (F.LAN_DPLINK_ALIGNED n) hmem).congr rfl

theorem State.dpUses_dpTrained (k : Nat) : (s.dpTrained n).dpUses n k = s.dpUses n k := by
  have hdp : (s.dpTrained n).dp n = { s.dp n with ever := true } := State.dp_setDp_self _ _ _
  rw [State.dpUses, hdp, State.dpUses]

/-- A lane of the receiver with its peaking code frozen. -/
def State.laneFreeze (k : Nat) : State :=
  s.setLane (32 + 4 * n + k) { s.lane (32 + 4 * n + k) with frozen := some (s.getF (F.LAN_CFG_PEAK (32 + 4 * n + k))) }

theorem State.getF_dpFreeze (f : Fld) : (s.dpFreeze n).getF f = s.getF f :=
  s.forEach_same (State.getF · f) _ fun k t => t.getF_setLane (32 + 4 * n + k) _ f

theorem State.dp_dpFreeze : (s.dpFreeze n).dp n = s.dp n :=
  s.forEach_same (State.dp · n) _ fun _ _ => rfl

/-- What the freeze of a lane turns on and what it writes. -/
def peakAndFrozen (m : Nat) (s : State) : Nat × Option Nat := (s.getF (F.LAN_CFG_PEAK m), (s.lane m).frozen)

def peakAndFrozen.freeze (v : Nat × Option Nat) : Nat × Option Nat := (v.1, some v.1)

/-- The codes of the lanes in use are frozen where they stand (R103). -/
theorem State.frozen_dpFreeze {k : Nat} (hk : k < 4) (huse : s.dpUses n k = true) :
    ((s.dpFreeze n).lane (32 + 4 * n + k)).frozen = some (s.getF (F.LAN_CFG_PEAK (32 + 4 * n + k))) := by
  have hmem : k ∈ [0, 1, 2, 3].filter fun k => s.dpUses n k := by
    refine List.mem_filter.2 ⟨?_, huse⟩
    simp only [List.mem_cons, List.not_mem_nil, or_false]
    omega
  have hnodup : ([0, 1, 2, 3].filter fun k => s.dpUses n k).Nodup := List.Nodup.filter _ (by decide)
  refine congrArg Prod.snd (State.forEach_once (s := s) (peakAndFrozen (32 + 4 * n + k)) peakAndFrozen.freeze hmem hnodup
    (f := fun k t => t.laneFreeze n k) (fun t => ?_) fun j t hj => ?_)
  · exact Prod.ext rfl (congrArg LaneX.frozen (t.lane_setLane_self (32 + 4 * n + k) _))
  · exact Prod.ext rfl (congrArg LaneX.frozen (t.lane_setLane_ne _ (by omega)))

theorem State.dpAux_equalised {tps maxSwing maxPre : Nat} (htrain : s.getF (F.LAN_DPLINK_TRAIN n) = 2)
    (hsuits : eqPattern (s.dp n).rate tps = true) :
    s.dpAux n (.equalisation tps true maxSwing maxPre) = ((s.dpTrained n).dpFreeze n).emit (.auxReply n .ack) :=
  (if_neg (not_not.2 htrain)).trans (if_pos (by rw [hsuits]; rfl))

theorem State.dpAux_unequalised {tps maxSwing maxPre : Nat} (htrain : s.getF (F.LAN_DPLINK_TRAIN n) = 2) :
    s.dpAux n (.equalisation tps false maxSwing maxPre) =
      (s.setDp n { s.dp n with
        pre := dpRaise (s.boardOf (32 + 4 * n)).dpPreemph.isNone (s.dp n).pre maxPre,
        swing := dpRaise (s.boardOf (32 + 4 * n)).dpVswing.isNone (s.dp n).swing maxSwing }).emit (.auxReply n .ack) :=
  (if_neg (not_not.2 htrain)).trans (if_neg (by simp))

end

section
variable (n : Fin 4) (s : State)

/-- Equalisation with a pattern that the rate allows ends the training (R101, R103). -/
theorem dpEqualisation_trains (tps maxSwing maxPre : Nat) (hon : s.unitOn (8 + n) = true)
    (htrain : s.getF (F.LAN_DPLINK_TRAIN n) = 2) (hsuits : eqPattern (s.dp n).rate tps = true) :
    ∃ t, exec (.dpAuxTransaction n (.equalisation tps true maxSwing maxPre)) s = .next t ∧ t.getF (F.LAN_DPLINK_TRAIN n) = 3 ∧
      t.getF (F.LAN_DPLINK_ALIGNED n) = 1 ∧ t.getF (F.LAN_DPLINK_RATE n) = (s.dp n).rate % 4 ∧
      t.getF (F.LAN_DPLINK_LANES n) = (s.dp n).lanes % 8 ∧ (t.dp n).ever = true ∧
      (∀ k, k < 4 → s.dpUses n k = true →
        (t.lane (32 + 4 * n + k)).frozen = some (s.getF (F.LAN_CFG_PEAK (32 + 4 * n + k)))) := by
  have hfield (f : Fld) : (((s.dpTrained n).dpFreeze n).emit (.auxReply n .ack)).getF f = (s.dpTrained n).getF f :=
    (State.getF_emit _ _ f).trans ((s.dpTrained n).getF_dpFreeze n f)
  obtain ⟨htrained, haligned, hrate, hlanes⟩ := s.getF_dpTrained n
  refine ⟨_, (exec_dpAuxTransaction _ hon).trans (congrArg Host.Outcome.next (s.dpAux_equalised n htrain hsuits)),
    (hfield _).trans htrained, (hfield _).trans haligned, (hfield _).trans hrate, (hfield _).trans hlanes, ?_, fun k hk huse => ?_⟩
  · have hdp : (s.dpTrained n).dp n = { s.dp n with ever := true } := State.dp_setDp_self _ _ _
    exact congrArg DpX.ever (((s.dpTrained n).dp_dpFreeze n).trans hdp)
  · refine ((s.dpTrained n).frozen_dpFreeze n hk ((s.dpUses_dpTrained n k).trans huse)).trans (congrArg some ?_)
    refine (s.dpTrained_regsKept n).getF_eq _ ?_
    simp only [F.LAN_CFG_PEAK, A.LAN_DPLINK, List.mem_singleton]
    omega

/-- A failed equalisation raises the adaptive levels and stays (R103). The board table is the one that the receiver's lane 0
names: the choice of the model (log entry 19). -/
theorem dpEqualisation_raises (tps maxSwing maxPre : Nat) (hon : s.unitOn (8 + n) = true)
    (htrain : s.getF (F.LAN_DPLINK_TRAIN n) = 2) :
    ∃ t, exec (.dpAuxTransaction n (.equalisation tps false maxSwing maxPre)) s = .next t ∧ t.getF (F.LAN_DPLINK_TRAIN n) = 2 ∧
      (t.dp n).swing = dpRaise (s.boardOf (32 + 4 * n)).dpVswing.isNone (s.dp n).swing maxSwing ∧
      (t.dp n).pre = dpRaise (s.boardOf (32 + 4 * n)).dpPreemph.isNone (s.dp n).pre maxPre :=
  ⟨_, (exec_dpAuxTransaction _ hon).trans (congrArg Host.Outcome.next (s.dpAux_unequalised n htrain)), htrain,
    congrArg DpX.swing (s.dp_setDp_self n _), congrArg DpX.pre (s.dp_setDp_self n _)⟩

/-- What a receiver answers on AUX without a change (R102, R103). -/
theorem dpReads_answer (hon : s.unitOn (8 + n) = true) :
    (∃ t, exec (.dpAuxTransaction n .readCaps) s = .next t ∧ t = { s with out := t.out } ∧
      t.out = .auxReply n (.caps (s.getF (F.ING_SCFG_MAXRATE n)) (s.dpMaxLanes n) s.plan.lane.dpAuxRdInterval) :: s.out) ∧
    (∃ t, exec (.dpAuxTransaction n .readSupport) s = .next t ∧
      t = { s with out := .auxReply n (.support false false false) :: s.out }) ∧
    (∃ t, exec (.dpAuxTransaction n .readHdcp) s = .next t ∧ t = { s with out := .auxReply n .hdcpNotCapable :: s.out }) :=
  ⟨⟨_, exec_dpAuxTransaction _ hon, rfl, rfl⟩, ⟨_, exec_dpAuxTransaction _ hon, rfl⟩, ⟨_, exec_dpAuxTransaction _ hon, rfl⟩⟩

/-- A trained receiver that loses its alignment shows it and pulses its hot-plug line (R104). -/
theorem dpAlignmentLost_reports (htrain : s.getF (F.LAN_DPLINK_TRAIN n) = 3) :
    ∃ t, exec (.dpAlignmentLost n) s = .next t ∧ t.getF (F.LAN_DPLINK_TRAIN n) = 4 ∧ t.getF (F.LAN_DPLINK_ALIGNED n) = 0 ∧
      t.bit F.LAN_EVT_DP_LOST n = true ∧ t.out = .hpdPulse n :: s.out := by
  have hn := n.isLt
  have hview := (s.dpDropped n).srcLost_laneView n
  have hfield (f : Fld) (hlo : 0x40080000 ≤ f.addr) (hhi : f.addr < 0x40090000) :
      ((s.dpDropped n).srcLost n).getF f = (s.dpDropped n).getF f := congrArg f.of (State.getW_of_laneView hview hlo hhi)
  obtain ⟨hlost, haligned, hevt⟩ := State.dpDropped_shows (s := s) hn
  refine ⟨_, (if_pos htrain).trans (congrArg Host.Outcome.next (State.dpLost_trained hn htrain)), ?_, ?_, ?_,
    State.out_of_laneView hview⟩
  · rw [hfield, hlost] <;> simp only [F.LAN_DPLINK_TRAIN] <;> omega
  · rw [hfield, haligned] <;> simp only [F.LAN_DPLINK_ALIGNED] <;> omega
  · rw [State.bit, hfield _ (by decide) (by decide)]
    exact hevt

end

/-! ### The statement -/

/-- Settles O22: a unit's stop and start, clause by clause of a receiver's training, and the service lane with its frames. -/
theorem unitsTrainingAndServiceLane : Obligations.UnitsTrainingAndServiceLane := by
  unfold Obligations.UnitsTrainingAndServiceLane
  refine ⟨⟨fun units s => laneStop_keeper s units, fun units s => laneStart_keeper s units⟩,
    ⟨dpBegin_records, dpClockRecovery_advances, fun n tps maxSwing maxPre s hon htrain =>
      ⟨dpEqualisation_trains n s tps maxSwing maxPre hon htrain, dpEqualisation_raises n s tps maxSwing maxPre hon htrain⟩,
    fun n s => dpReads_answer n s, fun n s => dpAlignmentLost_reports n s⟩,
    fun page s => svcLinkUp_rises s page, fun f s => svcFrameReceived_delivers s f, fun f s => svcFrameReceived_counts s f,
    fun f s => svcFrameReceived_down s f, fun s => svcPllUnlock_takes_down s⟩

end Sys2Proof.Machine
end

section
/-!
PROOFS. The packet header as its bytes (chapter 06: R118) and the context of de-duplication (R127, R129).
-/

namespace Sys2Proof.Machine

/-! ### The packet header (R118) -/

/-- The little-endian bytes of a number are its bytes by their place. -/
theorem bytesLe_eq_map (v n : Nat) : bytesLe v n = (List.range n).map fun i => BitVec.ofNat 8 (v >>> (8 * i)) := by
  induction n generalizing v with
  | zero => rfl
  | succ n ih =>
    have hshift (i : Nat) : (v / 256) >>> (8 * i) = v >>> (8 * (i + 1)) := by
      rw [Nat.mul_succ, Nat.add_comm, Nat.shiftRight_add, Nat.shiftRight_eq_div_pow v 8]
    rw [bytesLe, ih, List.range_succ_eq_map, List.map_cons, List.map_map]
    exact congrArg (List.cons _) (List.map_congr_left fun i _ => congrArg (BitVec.ofNat 8) (hshift i))

theorem hdrBytes_eq_bytesLe (h : Hdr) : hdrBytes h = bytesLe (hdrBits h).toNat 16 := (bytesLe_eq_map _ 16).symm

theorem hdrBytes_length (h : Hdr) : (hdrBytes h).length = 16 := by rw [hdrBytes_eq_bytesLe, bytesLe_length]

/-- Each field stands alone in its place among the 128 bits. -/
theorem hdrOfBits_hdrBits (h : Hdr) : hdrOfBits (hdrBits h) = h := by
  obtain ⟨typ, prot, hop, res0, dst, keyEp, src, facet, res1, seq, image, len, ver, geode, last, res2⟩ := h
  simp only [hdrOfBits, hdrBits, Hdr.mk.injEq]
  and_intros
  all_goals repeat rw [BitVec.getLsbD_append]
  all_goals repeat rw [BitVec.extractLsb'_append_eq_of_le (by decide)]
  all_goals repeat rw [BitVec.extractLsb'_append_eq_of_add_le (by decide)]
  all_goals simp

/-- Settles O41: the 16 bytes are the little-endian number of the header's 128 bits, and in those each field stands alone. -/
theorem packetHeadersRoundTrip : Obligations.PacketHeadersRoundTrip := by
  unfold Obligations.PacketHeadersRoundTrip
  intro h rest
  refine ⟨hdrBytes_length h, ?_⟩
  have hfits : (hdrBits h).toNat % 256 ^ 16 = (hdrBits h).toNat := Nat.mod_eq_of_lt (hdrBits h).isLt
  rw [hdrParse, List.take_left' (hdrBytes_length h), hdrBytes_eq_bytesLe, numLe_bytesLe, hfits, BitVec.ofNat_toNat,
    BitVec.setWidth_eq, hdrOfBits_hdrBits]

end Sys2Proof.Machine
end

section
/-!
PROOFS. The context of de-duplication (chapter 06: R127, R129).
-/

namespace Sys2Proof.Machine

/-! ### What R129 does by epoch and number -/

section
variable {c : Dedup} {ep : BitVec 6} {seq : Word}

theorem epochNewer_self (ep : BitVec 6) : epochNewer ep ep = false := by simp [epochNewer]

theorem diff32_self (seq : Word) : diff32 seq seq = 0 := by simp [diff32, toSigned]

theorem dedupStep_of_newer (h : epochNewer ep c.keyEp = true) :
    dedupStep (some c) ep seq = .deliver { keyEp := ep, high := seq, seen := 1 } := if_pos h

theorem dedupStep_of_older (h : epochNewer ep c.keyEp = false) (hep : ep ≠ c.keyEp) : dedupStep (some c) ep seq = .old :=
  (if_neg (Bool.eq_false_iff.1 h)).trans (if_pos hep)

/-- In the context's own epoch the number alone decides. -/
theorem dedupStep_of_keyEp (hep : ep = c.keyEp) : dedupStep (some c) ep seq =
    if 0 < diff32 seq c.high then .deliver { c with high := seq, seen := (c.seen <<< (diff32 seq c.high).toNat) ||| 1 }
    else if -64 < diff32 seq c.high then
      if c.seen.getLsbD (-diff32 seq c.high).toNat then .duplicate
      else .deliver { c with seen := c.seen ||| BitVec.twoPow 64 (-diff32 seq c.high).toNat }
    else .old := by
  have hnew : ¬epochNewer ep c.keyEp = true := by simp [hep, epochNewer_self]
  exact (if_neg hnew).trans (if_neg (not_not.2 hep))

/-- A number that the window holds as seen is a duplicate. -/
theorem dedupStep_of_seen (hep : ep = c.keyEp) (hhigh : diff32 seq c.high ≤ 0) (hlow : -64 < diff32 seq c.high)
    (hseen : c.seen.getLsbD (-diff32 seq c.high).toNat = true) : dedupStep (some c) ep seq = .duplicate := by
  rw [dedupStep_of_keyEp hep, if_neg (Int.not_lt.2 hhigh), if_pos hlow, if_pos hseen]

/-- The number that the context has as its highest is a duplicate. -/
theorem dedupStep_of_high (hep : ep = c.keyEp) (hhigh : c.high = seq) (hseen : c.seen.getLsbD 0 = true) :
    dedupStep (some c) ep seq = .duplicate := by
  have hdiff : diff32 seq c.high = 0 := by rw [hhigh, diff32_self]
  exact dedupStep_of_seen hep (by omega) (by omega) (by rw [hdiff]; exact hseen)

/-- What a delivery in the context's own epoch leaves: its number seen, as the highest or within the window. -/
theorem dedupStep_of_delivered {d : Dedup} (hep : ep = c.keyEp) (h : dedupStep (some c) ep seq = .deliver d) :
    dedupStep (some d) ep seq = .duplicate ∧ d.keyEp = ep := by
  rw [dedupStep_of_keyEp hep] at h
  split at h
  · obtain rfl := DedupResult.deliver.inj h
    exact ⟨dedupStep_of_high hep rfl (by simp), hep.symm⟩
  · next hhigh =>
    split at h
    · next hlow =>
      split at h
      · cases h
      · obtain rfl := DedupResult.deliver.inj h
        have hplace : (-diff32 seq c.high).toNat < 64 := by omega
        exact ⟨dedupStep_of_seen hep (by simpa using hhigh) hlow (by simp [hplace]), hep.symm⟩
    · cases h

/-- The context of a stream's first packet, or of the first of a newer epoch, holds that packet as seen. -/
theorem dedupStep_first (ep : BitVec 6) (seq : Word) :
    dedupStep (some { keyEp := ep, high := seq, seen := 1 }) ep seq = .duplicate :=
  dedupStep_of_high rfl rfl (by simp)

end

/-! ### The statement -/

/-- A delivered packet is a duplicate in the context that its delivery leaves (R129). -/
theorem dedupStep_again (c : Option Dedup) (ep : BitVec 6) (seq : Word) (d : Dedup) (h : dedupStep c ep seq = .deliver d) :
    dedupStep (some d) ep seq = .duplicate ∧ d.keyEp = ep := by
  match c with
  | none =>
    obtain rfl := DedupResult.deliver.inj h
    exact ⟨dedupStep_first ep seq, rfl⟩
  | some c =>
    by_cases hnew : epochNewer ep c.keyEp = true
    · rw [dedupStep_of_newer hnew] at h
      obtain rfl := DedupResult.deliver.inj h
      exact ⟨dedupStep_first ep seq, rfl⟩
    · by_cases hep : ep = c.keyEp
      · exact dedupStep_of_delivered hep h
      · rw [dedupStep_of_older (Bool.eq_false_iff.2 hnew) hep] at h
        cases h

/-- Settles O26, by the cases of the context: none, an older epoch, its own epoch, and a newer one. -/
theorem deliveredPacketIsNotDeliveredTwice : Obligations.DeliveredPacketIsNotDeliveredTwice := by
  unfold Obligations.DeliveredPacketIsNotDeliveredTwice
  refine ⟨dedupStep_again, fun ep seq => ⟨_, rfl, rfl⟩, fun c ep seq h => ?_, fun c ep seq hnew h => ?_⟩
  · rcases h with hnew | ⟨hep, hhigh⟩
    · exact ⟨_, dedupStep_of_newer hnew, rfl⟩
    · exact ⟨_, (dedupStep_of_keyEp hep).trans (if_pos hhigh), rfl⟩
  · by_cases hep : ep = c.keyEp
    · have hlow : diff32 seq c.high ≤ -64 := h.resolve_left (not_not.2 hep)
      rw [dedupStep_of_keyEp hep, if_neg (by omega), if_neg (by omega)]
    · exact dedupStep_of_older hnew hep

end Sys2Proof.Machine
end

section
/-!
PROOFS. The checks of a received packet (chapter 06: R116, R122, R129, R140).
-/

namespace Sys2Proof.Machine

/-! ### Registers and the link's own part -/

/-- Nothing changed but the link's own part and live registers, of those only the ones listed. -/
def State.onlyLnk (s t : State) (l : List Nat) : Prop := t = { s with regs := t.regs, lnk := t.lnk } ∧ s.regsKept t l

section
variable {s t u : State} {l : List Nat}

theorem State.onlyLnk.refl (s : State) (l : List Nat) : s.onlyLnk s l := ⟨rfl, State.regsKept.refl s l⟩

theorem State.onlyLnk.trans (h : s.onlyLnk t l) (k : t.onlyLnk u l) : s.onlyLnk u l := by
  obtain ⟨ht, htkept⟩ := h
  obtain ⟨hu, hukept⟩ := k
  refine ⟨?_, htkept.trans hukept⟩
  rw [ht] at hu
  exact hu

theorem State.onlyLnk.mono {m : List Nat} (h : s.onlyLnk t l) (k : ∀ a ∈ l, a ∈ m) : s.onlyLnk t m := ⟨h.1, h.2.mono k⟩

theorem State.onlyLnk.lnk (h : s.onlyLnk t l) (x : LnkState) : s.onlyLnk { t with lnk := x } l := by
  obtain ⟨ht, hkept⟩ := h
  refine ⟨?_, hkept.congr rfl⟩
  rw [ht]

theorem State.onlyLnk.setF (h : s.onlyLnk t l) (f : Fld) (v : Nat) (m : f.addr ∈ l) : s.onlyLnk (t.setF f v) l := by
  obtain ⟨ht, hkept⟩ := h
  refine ⟨?_, hkept.setF f v m⟩
  rw [State.setF, State.setW, ht]

/-- The same where something is put on the outputs besides. -/
theorem State.onlyLnk.trans_out (h : s.onlyLnk t l) (k : u = { t with regs := u.regs, lnk := u.lnk, out := u.out }) :
    u = { s with regs := u.regs, lnk := u.lnk, out := u.out } := by
  obtain ⟨ht, -⟩ := h
  rw [ht] at k
  exact k

theorem State.onlyLnk.ite {c : Prop} [Decidable c] (h : s.onlyLnk t l) (k : s.onlyLnk u l) :
    s.onlyLnk (if c then t else u) l := by
  split
  · exact h
  · exact k

end

/-! ### The end of a packet at its port (R116, R122, R124) -/

section
variable (s : State) (n : Nat)

theorem State.port_setPort_ne {j : Nat} (p : PortX) (h : j ≠ n) : (s.setPort n p).port j = s.port j := tabGet_tabPut_ne _ _ _ h

/-- The port once its packet has ended. -/
def State.rxOver : State := s.setPort n { s.port n with rxPkt := false, rxBad := false, rxStriped := false }

theorem State.rxOver_onlyLnk : s.onlyLnk (s.rxOver n) [] := (State.onlyLnk.refl s _).lnk _

/-- The packet was striped across a lane outside the own RXMASK. -/
def State.rxLost : Bool := (s.port n).rxStriped || s.striped n

/-- What a packet meets once its outgoing copy has ended with it. -/
def State.judgePacket (lost : Bool) (p : RxPacket) : State :=
  if s.getF (F.LNK_PSTAT_STATE n) < 2 then s
  else if lost then s.bump (F.LNK_RXAUTH_LANE_DROP n)
  else if s.getF (F.LNK_PSTAT_STATE n) = 3 ∧ recovCarries (hdrParse p.wire) = false then s
  else if s.consumes (hdrParse p.wire) then s.checkPacket n (hdrParse p.wire) p
  else s

/-- A packet as its checks see it: a framing error inside it ends it as stomped (R110). -/
def State.rxSeen (p : RxPacket) : RxPacket := { p with framed := p.framed && !(s.port n).rxBad }

variable {s n} in
theorem State.rxSeen_of_sound {p : RxPacket} (hbad : (s.port n).rxBad = false) : s.rxSeen n p = p := by
  simp [State.rxSeen, hbad]

/-- A packet that has ended ends its copy by its own two first checks, and then meets the rest. -/
theorem State.packetRx_eq (p : RxPacket) : s.packetRx n p =
    ((s.rxOver n).endForward n (!s.rxLost n && (s.rxSeen n p).whole && (s.rxSeen n p).crcOk) p.wire).judgePacket n (s.rxLost n)
      (s.rxSeen n p) := rfl

theorem State.judgePacket_consumed {p : RxPacket} (hstate : 2 ≤ s.getF (F.LNK_PSTAT_STATE n))
    (hcons : s.consumes (hdrParse p.wire) = true)
    (hrec : (s.getF (F.LNK_PSTAT_STATE n) == 3) = true → recovCarries (hdrParse p.wire) = true) :
    s.judgePacket n false p = s.checkPacket n (hdrParse p.wire) p := by
  have hcarried : ¬(s.getF (F.LNK_PSTAT_STATE n) = 3 ∧ recovCarries (hdrParse p.wire) = false) := fun ⟨h3, hno⟩ =>
    Bool.false_ne_true (hno.symm.trans (hrec (beq_iff_eq.2 h3)))
  rw [State.judgePacket, if_neg (Nat.not_lt.2 hstate), if_neg Bool.false_ne_true, if_neg hcarried, if_pos hcons]

theorem State.judgePacket_lost (p : RxPacket) (hstate : 2 ≤ s.getF (F.LNK_PSTAT_STATE n)) :
    s.judgePacket n true p = s.bump (F.LNK_RXAUTH_LANE_DROP n) := by
  rw [State.judgePacket, if_neg (Nat.not_lt.2 hstate), if_pos rfl]

theorem State.judgePacket_other (p : RxPacket) (hcons : s.consumes (hdrParse p.wire) = false) :
    s.judgePacket n false p = s := by
  rw [State.judgePacket, if_neg Bool.false_ne_true, if_neg (Bool.eq_false_iff.1 hcons), ite_self, ite_self]

/-- No copy of the packet is being sent out of the other port. -/
def State.noCopy : Prop := 2 ≤ n ∨ (s.port (1 - n)).fq.any (fun e => e.ended.isNone) = false

variable {s n}

theorem State.endForward_of_noCopy (good : Bool) (wire : List Byte) (h : s.noCopy n) : s.endForward n good wire = s := by
  refine if_neg fun hcopy => ?_
  obtain ⟨hlt, hany⟩ := Bool.and_eq_true_iff.1 hcopy
  rcases h with hge | hnone
  · exact absurd hge (Nat.not_le.2 (of_decide_eq_true hlt))
  · exact Bool.eq_false_iff.1 hnone hany

theorem State.noCopy_rxOver (h : s.noCopy n) : (s.rxOver n).noCopy n := by
  refine h.imp id fun hnone => ?_
  by_cases hn : 1 - n = n
  · omega
  · rwa [State.rxOver, State.port_setPort_ne _ _ _ hn]

end

/-! ### The checks one by one (R122) -/

section
variable {s : State} {n : Nat} {h : Hdr} {p : RxPacket}

theorem State.checkPacket_broken (hwhole : p.whole = false) : s.checkPacket n h p = s.bump (F.LNK_RXERR_FRAME n) :=
  if_pos (by rw [hwhole]; rfl)

theorem State.checkPacket_badCrc (hwhole : p.whole = true) (hcrc : p.crcOk = false) :
    s.checkPacket n h p = s.bump (F.LNK_RXERR_CRC n) := by
  unfold State.checkPacket
  rw [hwhole, hcrc]
  rfl

/-- Past the first two checks. -/
theorem State.checkPacket_sound (hwhole : p.whole = true) (hcrc : p.crcOk = true) : s.checkPacket n h p =
    if !hdrOk s.plan.link.prot (s.getF (F.LNK_PSTAT_STATE n) == 3) h then s.bump (F.LNK_RXERR_FRAME n)
    else if !(s.tagOk n h p) then (s.noteTag h false).authFail n h
    else (s.noteTag h true).dedupPacket n h p := by
  unfold State.checkPacket
  rw [hwhole, hcrc]
  rfl

theorem State.checkPacket_badHeader (hwhole : p.whole = true) (hcrc : p.crcOk = true)
    (hhdr : hdrOk s.plan.link.prot (s.getF (F.LNK_PSTAT_STATE n) == 3) h = false) :
    s.checkPacket n h p = s.bump (F.LNK_RXERR_FRAME n) := by
  rw [State.checkPacket_sound hwhole hcrc, hhdr]
  rfl

theorem State.checkPacket_badTag (hwhole : p.whole = true) (hcrc : p.crcOk = true)
    (hhdr : hdrOk s.plan.link.prot (s.getF (F.LNK_PSTAT_STATE n) == 3) h = true) (htag : s.tagOk n h p = false) :
    s.checkPacket n h p = (s.noteTag h false).authFail n h := by
  rw [State.checkPacket_sound hwhole hcrc, hhdr, htag]
  rfl

theorem State.checkPacket_passed (hwhole : p.whole = true) (hcrc : p.crcOk = true)
    (hhdr : hdrOk s.plan.link.prot (s.getF (F.LNK_PSTAT_STATE n) == 3) h = true) (htag : s.tagOk n h p = true) :
    s.checkPacket n h p = (s.noteTag h true).dedupPacket n h p := by
  rw [State.checkPacket_sound hwhole hcrc, hhdr, htag]
  rfl

end

/-! ### What each check counts (R122) -/

section
variable (s : State) (n : Nat) (h : Hdr)

/-- A 16-bit count raised by one. -/
theorem State.bump_counts (f : Fld) (hwidth : f.width = 16) (hfits : f.lo + f.width ≤ 32) :
    s.onlyLnk (s.bump f) [f.addr] ∧ (s.bump f).getF f = min (s.getF f + 1) 65535 :=
  ⟨(State.onlyLnk.refl s _).setF f _ (List.mem_singleton_self _), (s.getF_bump_self f hfits).trans (by rw [hwidth]; rfl)⟩

/-- A failed tag, counted with its event. -/
def State.authCounted : State := (s.bump (F.LNK_RXAUTH_AUTH n)).raise F.LNK_EVT_AUTH

/-- Beyond its count and event, a failed tag may make the port suspect (R139). -/
theorem State.authFail_authCounted : (s.authCounted n).onlyLnk (s.authFail n h) [A.LNK_PSTAT n] := by
  have hself := State.onlyLnk.refl (s.authCounted n) [A.LNK_PSTAT n]
  unfold State.authFail
  exact State.onlyLnk.ite (State.onlyLnk.ite
    (((hself.lnk _).setF (F.LNK_PSTAT_SUSPECT n) 1 (List.mem_singleton_self _)).lnk _) (hself.lnk _)) hself

theorem State.authCounted_shows : s.onlyLnk (s.authCounted n) [A.LNK_RXAUTH n, A.LNK_EVT] ∧
    (s.authCounted n).getF (F.LNK_RXAUTH_AUTH n) = min (s.getF (F.LNK_RXAUTH_AUTH n) + 1) 65535 ∧
    (s.authCounted n).getF F.LNK_EVT_AUTH = 1 := by
  obtain ⟨honly, hcount⟩ := s.bump_counts (F.LNK_RXAUTH_AUTH n) rfl (by decide : 0 + 16 ≤ 32)
  have happart : F.LNK_EVT_AUTH.apart (F.LNK_RXAUTH_AUTH n) = true := by
    refine Fld.apart_of_addr_ne ?_
    simp only [F.LNK_EVT_AUTH, F.LNK_RXAUTH_AUTH]
    omega
  have hmem : ∀ a ∈ [(F.LNK_RXAUTH_AUTH n).addr], a ∈ [A.LNK_RXAUTH n, A.LNK_EVT] := by simp [F.LNK_RXAUTH_AUTH, A.LNK_RXAUTH]
  refine ⟨(honly.mono hmem).setF F.LNK_EVT_AUTH 1 (by simp [F.LNK_EVT_AUTH, A.LNK_EVT]), ?_,
    State.getF_raise_self _ _ (by decide) (by decide)⟩
  exact (State.getF_setF_apart _ _ _ _ happart (by decide : 0 + 16 ≤ 32)).trans hcount

/-- A failed tag changes no more than its count, its event and the port's status. -/
theorem State.authFail_shows (hn : n < 8) : s.onlyLnk (s.authFail n h) [A.LNK_RXAUTH n, A.LNK_EVT, A.LNK_PSTAT n] ∧
    (s.authFail n h).getF (F.LNK_RXAUTH_AUTH n) = min (s.getF (F.LNK_RXAUTH_AUTH n) + 1) 65535 ∧
    (s.authFail n h).getF F.LNK_EVT_AUTH = 1 := by
  obtain ⟨honly, hcount, hevent⟩ := s.authCounted_shows n
  have hfail := s.authFail_authCounted n h
  refine ⟨(honly.mono (by simp)).trans (hfail.mono (by simp)), ?_, ?_⟩
  · refine (hfail.2.getF_eq _ ?_).trans hcount
    simp only [F.LNK_RXAUTH_AUTH, A.LNK_PSTAT, List.mem_singleton]
    omega
  · refine (hfail.2.getF_eq _ ?_).trans hevent
    simp only [F.LNK_EVT_AUTH, A.LNK_PSTAT, List.mem_singleton]
    omega

end

/-! ### De-duplication and delivery (R129, R130) -/

section
variable (s : State) (n : Nat) (h : Hdr) (p : RxPacket)

/-- The choice of the kept copy is shown in `LNK_KEEPSRC`, and by port A alone (R130). -/
theorem State.keepA_onlyLnk : s.onlyLnk (s.keepA n h) [A.LNK_KEEPSRC] := by
  have hself := State.onlyLnk.refl s [A.LNK_KEEPSRC]
  unfold State.keepA
  exact hself.ite (((hself.setF F.LNK_KEEPSRC_FROM_B _ (by decide)).setF F.LNK_KEEPSRC_FROM_A _ (by decide)).ite hself)

theorem State.keepA_of_ne_zero (hn : n ≠ 0) : s.keepA n h = s := if_pos (by simp [hn])

theorem State.keepA_lnk : (s.keepA n h).lnk = s.lnk := by
  unfold State.keepA
  split
  · rfl
  · split <;> rfl

/-- The count of the port that a kept packet came by (R130). -/
def State.keptCounted : State :=
  if s.isHead || h.hop then s else s.bump (if n = 0 then F.LNK_KEEPSRC_FROM_A else F.LNK_KEEPSRC_FROM_B)

theorem State.keptCounted_onlyRegs : s.onlyRegs (s.keptCounted n h) [A.LNK_KEEPSRC] := by
  have hself := State.onlyRegs.refl s [A.LNK_KEEPSRC]
  refine hself.ite (hself.bump _ ?_)
  split <;> decide

theorem State.keepPacket_other (htyp : h.typ ≠ 1) :
    s.keepPacket n h p = (s.keptCounted n h).emit (.deliver n h (s.payload n p)) := if_neg htyp

/-- A packet other than a slice is handed on with its payload. -/
theorem State.keepPacket_delivers (htyp : h.typ ≠ 1) :
    (s.keepPacket n h p).out = .deliver n h (s.payload n p) :: s.out ∧ (s.keepPacket n h p).lnk = s.lnk ∧
      s.regsKept (s.keepPacket n h p) [A.LNK_KEEPSRC] ∧
      s.keepPacket n h p = { s with regs := (s.keepPacket n h p).regs, out := (s.keepPacket n h p).out } := by
  obtain ⟨heq, hkept⟩ := s.keptCounted_onlyRegs n h
  rw [s.keepPacket_other n h p htyp]
  refine ⟨congrArg (List.cons _) ?_, ?_, hkept.congr rfl, ?_⟩
  · rw [heq]
  · show (s.keptCounted n h).lnk = s.lnk
    rw [heq]
  · rw [State.emit, heq]

/-- The context of a stream that has just been put. -/
theorem State.dedupCtx_tabPut (k : Nat × Nat) (c : Dedup) (x : Option Kept) :
    ({ s with lnk := { s.lnk with ctx := tabPut s.lnk.ctx k c, lastKept := x } } : State).dedupCtx k = some c := by
  simp [State.dedupCtx, tabPut]

variable {s n h p}

theorem State.dedupPacket_hop (hhop : h.hop = true) : s.dedupPacket n h p = s.keepPacket n h p := if_pos hhop

theorem State.dedupPacket_duplicate (hhop : h.hop = false)
    (hdup : dedupStep (s.dedupCtx (dedupKey h)) h.keyEp h.seq = .duplicate) :
    s.dedupPacket n h p = (s.keepA n h).bump F.LNK_DEDUPSTAT_DUP := by
  rw [State.dedupPacket, if_neg (Bool.eq_false_iff.1 hhop), hdup]

theorem State.dedupPacket_old (hhop : h.hop = false)
    (hold : dedupStep (s.dedupCtx (dedupKey h)) h.keyEp h.seq = .old) :
    s.dedupPacket n h p = s.bump F.LNK_DEDUPSTAT_OLD := by
  rw [State.dedupPacket, if_neg (Bool.eq_false_iff.1 hhop), hold]

/-- The context that a delivery leaves, with the packet noted as the one kept last. -/
def State.ctxTaken (s : State) (n : Nat) (h : Hdr) (c : Dedup) : State :=
  { s with lnk := { s.lnk with
      ctx := tabPut s.lnk.ctx (dedupKey h) c
      lastKept := some { key := dedupKey h, keyEp := h.keyEp, seq := h.seq, port := n, at_ := s.now } } }

theorem State.dedupPacket_deliver {c : Dedup} (hhop : h.hop = false)
    (hnew : dedupStep (s.dedupCtx (dedupKey h)) h.keyEp h.seq = .deliver c) :
    s.dedupPacket n h p = (s.ctxTaken n h c).keepPacket n h p := by
  rw [State.dedupPacket, if_neg (Bool.eq_false_iff.1 hhop), hnew]
  rfl

/-- A slice is not hop-local, so a hop-local packet that passes step 3 is none (R121). -/
theorem typ_ne_one_of_hop {prot : Nat} {recov : Bool} (hok : hdrOk prot recov h = true) (hhop : h.hop = true) : h.typ ≠ 1 := by
  intro htyp
  simp [hdrOk, typeRule, htyp, hhop] at hok

/-- A duplicate is counted, and the copy from port A may count as the kept one (R129, R130). -/
theorem State.dedupPacket_duplicate_shows (hhop : h.hop = false)
    (hdup : dedupStep (s.dedupCtx (dedupKey h)) h.keyEp h.seq = .duplicate) :
    s.onlyLnk (s.dedupPacket n h p) [A.LNK_DEDUPSTAT, A.LNK_KEEPSRC] ∧ (s.dedupPacket n h p).lnk.ctx = s.lnk.ctx ∧
      (s.dedupPacket n h p).getF F.LNK_DEDUPSTAT_DUP = min (s.getF F.LNK_DEDUPSTAT_DUP + 1) 65535 ∧
      (n ≠ 0 → (s.dedupPacket n h p).getW A.LNK_KEEPSRC = s.getW A.LNK_KEEPSRC) := by
  have hkeep := s.keepA_onlyLnk n h
  obtain ⟨honly, hcount⟩ := (s.keepA n h).bump_counts F.LNK_DEDUPSTAT_DUP rfl (by decide)
  rw [State.dedupPacket_duplicate hhop hdup]
  refine ⟨(hkeep.mono (by simp)).trans (honly.mono (by decide)), congrArg LnkState.ctx (s.keepA_lnk n h), ?_, fun hn => ?_⟩
  · rw [hcount, hkeep.2.getF_eq _ (by decide)]
  · rw [s.keepA_of_ne_zero n h hn]
    exact s.getW_bump_ne _ (by decide)

/-- A delivery leaves the stream's context and hands the packet on (R129). -/
theorem State.dedupPacket_deliver_shows {c : Dedup} (hhop : h.hop = false) (htyp : h.typ ≠ 1)
    (hnew : dedupStep (s.dedupCtx (dedupKey h)) h.keyEp h.seq = .deliver c) :
    (s.dedupPacket n h p).out = .deliver n h (s.payload n p) :: s.out ∧ (s.dedupPacket n h p).dedupCtx (dedupKey h) = some c ∧
      s.regsKept (s.dedupPacket n h p) [A.LNK_KEEPSRC] ∧ s.dedupPacket n h p =
        { s with regs := (s.dedupPacket n h p).regs, lnk := (s.dedupPacket n h p).lnk, out := (s.dedupPacket n h p).out } := by
  obtain ⟨hout, hlnk, hkept, heq⟩ := (s.ctxTaken n h c).keepPacket_delivers n h p htyp
  rw [State.dedupPacket_deliver hhop hnew]
  refine ⟨hout, ?_, hkept, ?_⟩
  · rw [State.dedupCtx, hlnk]
    exact s.dedupCtx_tabPut _ _ _
  · rw [hlnk]
    exact heq

/-- A hop-local packet is delivered without a context (R129). -/
theorem State.dedupPacket_hop_shows (hhop : h.hop = true) (htyp : h.typ ≠ 1) :
    (s.dedupPacket n h p).out = .deliver n h (s.payload n p) :: s.out ∧ (s.dedupPacket n h p).regs = s.regs ∧
      (s.dedupPacket n h p).lnk = s.lnk := by
  have hcounted : s.keptCounted n h = s := if_pos (by simp [hhop])
  rw [State.dedupPacket_hop hhop, s.keepPacket_other n h p htyp, hcounted]
  exact ⟨rfl, rfl, rfl⟩

end

/-! ### A packet past its tag (R122, R379) -/

section
variable (s : State) (n : Nat) (h : Hdr) (ok : Bool)

/-- The state in which a packet's tag has been judged: its port is free again, and the frame's tags are noted. -/
def State.tagNoted : State := (s.rxOver n).noteTag h ok

theorem State.tagNoted_onlyLnk : s.onlyLnk (s.tagNoted n h ok) [] :=
  (((s.rxOver_onlyLnk n).lnk _).ite (s.rxOver_onlyLnk n))

theorem State.tagNoted_regs : (s.tagNoted n h ok).regs = s.regs := by
  unfold State.tagNoted State.noteTag
  split <;> rfl

theorem State.tagNoted_out : (s.tagNoted n h ok).out = s.out := by rw [(s.tagNoted_onlyLnk n h ok).1]

theorem State.tagNoted_ctx : (s.tagNoted n h ok).lnk.ctx = s.lnk.ctx := by
  unfold State.tagNoted State.noteTag
  split <;> rfl

theorem State.tagNoted_dedupCtx (k : Nat × Nat) : (s.tagNoted n h ok).dedupCtx k = s.dedupCtx k := by
  rw [State.dedupCtx, s.tagNoted_ctx n h ok, State.dedupCtx]

theorem State.tagNoted_payload (p : RxPacket) : (s.tagNoted n h ok).payload n p = s.payload n p := by
  unfold State.tagNoted State.noteTag
  split <;> rfl

theorem State.tagNoted_getF (f : Fld) : (s.tagNoted n h ok).getF f = s.getF f :=
  congrArg f.of (State.getW_congr (s.tagNoted_regs n h ok) f.addr)

end

/-! ### The statement -/

/-- A packet for this device, whole in its lanes and not being forwarded, goes to the checks (R116, R122, R140). -/
theorem exec_packetReceived_consumed {n : Fin 8} {p : RxPacket} {s : State} (hstate : 2 ≤ s.getF (F.LNK_PSTAT_STATE n))
    (hstriped : s.striped n = false) (hwas : (s.port n).rxStriped = false) (hbad : (s.port n).rxBad = false)
    (hcons : s.consumes (hdrParse p.wire) = true) (hcopy : s.noCopy n)
    (hrec : (s.getF (F.LNK_PSTAT_STATE n) == 3) = true → recovCarries (hdrParse p.wire) = true) :
    exec (.packetReceived n p) s = .next ((s.rxOver n).checkPacket n (hdrParse p.wire) p) := by
  have hlost : s.rxLost n = false := by simp [State.rxLost, hwas, hstriped]
  refine congrArg Host.Outcome.next ((s.packetRx_eq n p).trans ?_)
  rw [State.endForward_of_noCopy _ _ (State.noCopy_rxOver hcopy), hlost, State.rxSeen_of_sound hbad]
  exact (s.rxOver n).judgePacket_consumed n hstate hcons hrec

/-- Settles O25, check by check in their order (R122), then by what de-duplication says (R129). -/
theorem packetChecksInOrder : Obligations.PacketChecksInOrder := by
  unfold Obligations.PacketChecksInOrder
  intro n p s hstate hstriped hwas hbad hcons hcopy h recov hrec only
  have hchecked {t : State} (ht : (s.rxOver n).checkPacket n h p = t) : exec (.packetReceived n p) s = .next t :=
    (exec_packetReceived_consumed hstate hstriped hwas hbad hcons hcopy hrec).trans (congrArg Host.Outcome.next ht)
  have hover {t : State} {l : List Nat} (ht : (s.rxOver n).onlyLnk t l) : only l t :=
    ((s.rxOver_onlyLnk n).mono (by simp)).trans ht
  have hnoted {t : State} {l : List Nat} {ok : Bool} (ht : (s.tagNoted n h ok).onlyLnk t l) : only l t :=
    ((s.tagNoted_onlyLnk n h ok).mono (by simp)).trans ht
  refine ⟨fun hwhole => ?_, fun hwhole hcrc => ?_, fun hwhole hcrc hhdr => ?_, fun hwhole hcrc hhdr htag => ?_,
    fun hwhole hcrc hhdr htag hhop hdup => ?_, fun hwhole hcrc hhdr htag hhop hold => ?_,
    fun c hwhole hcrc hhdr htag hhop hnew htyp => ?_, fun hwhole hcrc hhdr htag hhop => ?_⟩
  · obtain ⟨honly, hcount⟩ := (s.rxOver n).bump_counts (F.LNK_RXERR_FRAME n) rfl (by decide : 16 + 16 ≤ 32)
    exact ⟨_, hchecked (State.checkPacket_broken hwhole), hover honly, hcount⟩
  · obtain ⟨honly, hcount⟩ := (s.rxOver n).bump_counts (F.LNK_RXERR_CRC n) rfl (by decide : 0 + 16 ≤ 32)
    exact ⟨_, hchecked (State.checkPacket_badCrc hwhole hcrc), hover honly, hcount⟩
  · obtain ⟨honly, hcount⟩ := (s.rxOver n).bump_counts (F.LNK_RXERR_FRAME n) rfl (by decide : 16 + 16 ≤ 32)
    exact ⟨_, hchecked (State.checkPacket_badHeader hwhole hcrc hhdr), hover honly, hcount⟩
  · obtain ⟨honly, hcount, hevent⟩ := (s.tagNoted n h false).authFail_shows n h n.isLt
    refine ⟨_, hchecked (State.checkPacket_badTag hwhole hcrc hhdr htag), hnoted honly, hcount.trans ?_, hevent⟩
    rw [s.tagNoted_getF]
  all_goals have hpassed := hchecked (State.checkPacket_passed hwhole hcrc hhdr htag)
  · obtain ⟨honly, hctx, hcount, hkeep⟩ := State.dedupPacket_duplicate_shows (s := s.tagNoted n h true) (n := n) (p := p) hhop
      (by rw [s.tagNoted_dedupCtx]; exact hdup)
    refine ⟨_, hpassed, hnoted honly, hctx.trans (s.tagNoted_ctx n h true), hcount.trans ?_, fun hn => ?_⟩
    · rw [s.tagNoted_getF]
    · exact (hkeep fun h0 => hn (Fin.ext h0)).trans (State.getW_congr (s.tagNoted_regs n h true) _)
  · obtain ⟨honly, hcount⟩ := (s.tagNoted n h true).bump_counts F.LNK_DEDUPSTAT_OLD rfl (by decide)
    have heq := State.dedupPacket_old (s := s.tagNoted n h true) (n := n) (p := p) hhop (by rw [s.tagNoted_dedupCtx]; exact hold)
    refine ⟨_, hpassed.trans (congrArg Host.Outcome.next heq), hnoted honly, s.tagNoted_ctx n h true, hcount.trans ?_⟩
    rw [s.tagNoted_getF]
  · obtain ⟨hout, hctx, hkept, heq⟩ := State.dedupPacket_deliver_shows (s := s.tagNoted n h true) (n := n) (p := p) hhop htyp
      (by rw [s.tagNoted_dedupCtx]; exact hnew)
    rw [s.tagNoted_payload, s.tagNoted_out] at hout
    refine ⟨_, hpassed, hout, hctx, ((s.tagNoted_onlyLnk n h true).2.mono (by simp)).trans hkept,
      (s.tagNoted_onlyLnk n h true).trans_out heq⟩
  · obtain ⟨hout, hregs, hlnk⟩ := State.dedupPacket_hop_shows (s := s.tagNoted n h true) (n := n) (p := p) hhop
      (typ_ne_one_of_hop hhdr hhop)
    rw [s.tagNoted_payload, s.tagNoted_out] at hout
    exact ⟨_, hpassed, hout, hregs.trans (s.tagNoted_regs n h true),
      (congrArg LnkState.ctx hlnk).trans (s.tagNoted_ctx n h true)⟩

end Sys2Proof.Machine
end

section
/-!
PROOFS. Packets that a Tile forwards while they arrive (chapter 06: R116, R123 to R126).
-/

namespace Sys2Proof.Machine

/-! ### The forward queue in its steps (R126) -/

section
variable (s : State) (o : Nat)

/-- The queue worked out up to now. -/
def State.queueMoved (l : List FwdPkt) : State := s.setPort o { s.port o with fq := l, fqAt := s.now }

/-- A queue that holds too much loses its last packet, which ends stomped where it had begun. -/
def State.queueCut (l : List FwdPkt) : State :=
  match l.getLast? with
  | some e =>
    if 16 * 32768 < queueFill l then
      ((s.setPort o { s.port o with fq := l.dropLast }).when e.begun fun t => t.endCopy o e true).bump F.LNK_TXSTAT_FWD_DROP
    else s
  | none => s

/-- The first packet ends once all of it has come and gone. -/
def State.queueEnds : State :=
  match (s.port o).fq with
  | e :: rest =>
    if e.begun && e.sent == e.total then
      match e.ended with
      | some good => (s.setPort o { s.port o with fq := rest }).endCopy o e (!good)
      | none => s
    else s
  | [] => s

/-- The first packet begins where the port is free. -/
def State.queueBegins : State :=
  match (s.port o).fq with
  | e :: rest =>
    if !e.begun && decide ((s.port o).busyUntil ≤ s.now) then
      (s.setPort o { s.port o with fq := { e with begun := true } :: rest }).emit (.fwdStart o e.hdr)
    else s
  | [] => s

theorem State.queueStep_of_empty (h : (s.port o).fq = []) : s.queueStep o = s := if_pos (by rw [h]; rfl)

theorem State.queueStep_eq (h : (s.port o).fq ≠ []) : s.queueStep o =
    (((s.queueMoved o (queueMove (s.now - (s.port o).fqAt) (s.inRate (1 - o)) (s.outRate o) (s.port o).fq)).queueCut o
      (queueMove (s.now - (s.port o).fqAt) (s.inRate (1 - o)) (s.outRate o) (s.port o).fq)).queueEnds o).queueBegins o :=
  if_neg (by simpa using h)

end

/-! ### A queue of one packet -/

/-- A forwarded packet has not sent more than has come, nor has more come than it has. -/
def FwdPkt.Sound (e : FwdPkt) : Prop := e.got ≤ e.total ∧ e.sent ≤ e.got

/-- In no time nothing comes and nothing goes. -/
theorem queueMove_zero {e : FwdPkt} (h : e.Sound) (inRate outRate : Nat) : queueMove 0 inRate outRate [e] = [e] := by
  obtain ⟨hgot, hsent⟩ := h
  simp [queueMove, Nat.min_eq_right hgot, Nat.min_eq_right hsent]

section
variable {s : State} {o : Nat} {e : FwdPkt}

@[simp] theorem State.port_queueMoved (l : List FwdPkt) :
    (s.queueMoved o l).port o = { s.port o with fq := l, fqAt := s.now } := s.port_setPort_self o _

theorem State.queueCut_of_fits {l : List FwdPkt} (h : queueFill l ≤ 16 * 32768) : s.queueCut o l = s := by
  unfold State.queueCut
  split
  · exact if_neg (Nat.not_lt.2 h)
  · rfl

/-- A queue of one packet that holds too much is left empty. -/
theorem State.queueCut_of_full (h : 16 * 32768 < queueFill [e]) (hbegun : e.begun = true) : s.queueCut o [e] =
    ((s.setPort o { s.port o with fq := [] }).endCopy o e true).bump F.LNK_TXSTAT_FWD_DROP := by
  unfold State.queueCut
  simp [h, hbegun, State.when]

theorem State.queueEnds_of_empty (h : (s.port o).fq = []) : s.queueEnds o = s := by simp [State.queueEnds, h]

theorem State.queueEnds_of_open (h : (s.port o).fq = [e]) (hopen : e.begun = false ∨ e.ended = none) : s.queueEnds o = s := by
  rcases hopen with hopen | hopen <;> simp [State.queueEnds, h, hopen]

theorem State.queueEnds_of_ended {good : Bool} (h : (s.port o).fq = [e]) (hbegun : e.begun = true) (hsent : e.sent = e.total)
    (hended : e.ended = some good) : s.queueEnds o = (s.setPort o { s.port o with fq := [] }).endCopy o e (!good) := by
  simp [State.queueEnds, h, hbegun, hsent, hended]

theorem State.queueBegins_of_empty (h : (s.port o).fq = []) : s.queueBegins o = s := by simp [State.queueBegins, h]

theorem State.queueBegins_of_begun (h : (s.port o).fq = [e]) (hbegun : e.begun = true) : s.queueBegins o = s := by
  simp [State.queueBegins, h, hbegun]

theorem State.queueBegins_of_busy (h : (s.port o).fq = [e]) (hbusy : s.now < (s.port o).busyUntil) : s.queueBegins o = s := by
  simp [State.queueBegins, h, hbusy]

theorem State.queueBegins_of_free (h : (s.port o).fq = [e]) (hbegun : e.begun = false)
    (hfree : (s.port o).busyUntil ≤ s.now) : s.queueBegins o =
      (s.setPort o { s.port o with fq := [{ e with begun := true }] }).emit (.fwdStart o e.hdr) := by
  simp [State.queueBegins, h, hbegun, hfree]

/-- The queue worked out at the instant up to which it has been worked out already. -/
theorem State.queueStep_now (hfq : (s.port o).fq = [e]) (hat : (s.port o).fqAt = s.now) (hsound : e.Sound) :
    s.queueStep o = (((s.queueMoved o [e]).queueCut o [e]).queueEnds o).queueBegins o := by
  rw [State.queueStep_eq s o (by simp [hfq]), hfq, hat, Nat.sub_self, queueMove_zero hsound]

theorem queueFill_single (e : FwdPkt) : queueFill [e] = e.got - e.sent := by simp [queueFill]

theorem State.queueStep_fits (hfq : (s.port o).fq = [e]) (hat : (s.port o).fqAt = s.now) (hsound : e.Sound)
    (hfill : e.got - e.sent ≤ 16 * 32768) : s.queueStep o = ((s.queueMoved o [e]).queueEnds o).queueBegins o := by
  rw [State.queueStep_now hfq hat hsound, State.queueCut_of_fits (by rwa [queueFill_single])]

/-- A copy that is under way goes on. -/
theorem State.queueStep_underway (hfq : (s.port o).fq = [e]) (hat : (s.port o).fqAt = s.now) (hsound : e.Sound)
    (hfill : e.got - e.sent ≤ 16 * 32768) (hbegun : e.begun = true) (hopen : e.ended = none) :
    s.queueStep o = s.queueMoved o [e] := by
  have hq : ((s.queueMoved o [e]).port o).fq = [e] := by rw [State.port_queueMoved]
  rw [State.queueStep_fits hfq hat hsound hfill, State.queueEnds_of_open hq (.inr hopen), State.queueBegins_of_begun hq hbegun]

end

/-! ### The end of a copy (R124) -/

section
variable (s : State) (o : Nat) (e : FwdPkt) (bad : Bool)

/-- What a forwarded copy's end is stated about: the outputs, the registers, the plan, and the queue that it leaves. -/
def State.copyView : List Emission × List (Nat × Word) × Plan × List FwdPkt := (s.out, s.regs, s.plan, (s.port o).fq)

variable {s o} in
theorem State.copyView_eq {t : State} {v : List Emission × List (Nat × Word) × Plan × List FwdPkt} :
    t.copyView o = v ↔ t.out = v.1 ∧ t.regs = v.2.1 ∧ t.plan = v.2.2.1 ∧ (t.port o).fq = v.2.2.2 := by
  obtain ⟨out, regs, plan, fq⟩ := v
  simp only [State.copyView, Prod.mk.injEq]

/-- What a count is raised to turns on the registers alone. -/
theorem State.bump_regs_congr {s t : State} (h : t.regs = s.regs) (f : Fld) : (t.bump f).regs = (s.bump f).regs := by
  simp only [State.bump, State.bumpBy, State.setF, State.setW, State.getF, State.getW, h]

theorem State.endCopy_copyView :
    (s.endCopy o e bad).copyView o = (.fwdEnd o bad :: s.out, s.regs, s.plan, (s.port o).fq) := by
  have hbusy (v : Nat) : ((s.emit (.fwdEnd o bad)).setPort o { (s.emit (.fwdEnd o bad)).port o with busyUntil := v }).copyView o =
      (.fwdEnd o bad :: s.out, s.regs, s.plan, (s.port o).fq) := by
    rw [State.copyView, State.port_setPort_self]
    rfl
  have hlines (t : State) (l : List (Nat × List LineChar)) : (t.putLine o l).copyView o = t.copyView o :=
    t.forEach_same (State.copyView · o) l fun _ _ => rfl
  unfold State.endCopy
  dsimp only
  split
  · rw [hlines, hbusy]
  · refine (State.forEach_same _ (State.copyView · o) _ ?_).trans (hbusy _)
    exact fun _ _ => rfl

end

/-! ### A packet begins to arrive (R123 to R125) -/

section
variable {s : State} {n : Nat} {h : Hdr}

/-- The port while a packet arrives. -/
def State.rxBegun (s : State) (n : Nat) : State :=
  s.setPort n { s.port n with rxPkt := true, rxBad := false, rxStriped := s.striped n }

theorem State.port_rxBegun : (s.rxBegun n).port n = { s.port n with rxPkt := true, rxBad := false, rxStriped := s.striped n } :=
  s.port_setPort_self n _

theorem State.forwards_rxBegun : (s.rxBegun n).forwards n h = s.forwards n h := rfl

theorem State.striped_rxBegun : (s.rxBegun n).striped n = s.striped n := by
  rw [State.striped, State.port_rxBegun]
  rfl

/-- A packet is forwarded from one of a Tile's two ports to the other. -/
theorem State.lt_two_of_forwards (hfwd : s.forwards n h = true) : n < 2 := by
  simp only [State.forwards, Bool.and_eq_true, decide_eq_true_eq] at hfwd
  omega

theorem exec_packetStartReceived_kept {n : Fin 8} (hno : s.forwards n h = false ∨ s.striped n = true) :
    exec (.packetStartReceived n h) s = .next (s.rxBegun n) := by
  refine if_neg fun hgo => ?_
  obtain ⟨hfwd, hwhole⟩ := Bool.and_eq_true_iff.1 hgo
  rcases hno with hno | hno
  · exact Bool.false_ne_true (hno.symm.trans hfwd)
  · have hstriped : (s.rxBegun n).striped n = true := State.striped_rxBegun.trans hno
    rw [← State.rxBegun, hstriped] at hwhole
    exact Bool.false_ne_true hwhole

/-- The packet as it enters an empty forward queue. -/
def arriving (h : Hdr) : FwdPkt := { hdr := h, total := wireLen h }

theorem queuePut_nil (e : FwdPkt) : queuePut e [] = [e] := by
  unfold queuePut
  split <;> rfl

/-- A packet that is forwarded while nothing else is enters the other port's queue. -/
theorem exec_packetStartReceived_forwarded {n : Fin 8} (hfwd : s.forwards n h = true) (hstriped : s.striped n = false)
    (hempty : (s.port (1 - n.val)).fq = []) : exec (.packetStartReceived n h) s =
      .next (((s.rxBegun n).queueMoved (1 - n.val) [arriving h]).queueStep (1 - n.val)) := by
  have hlt := State.lt_two_of_forwards hfwd
  have hother : ((s.rxBegun n).port (1 - n.val)).fq = [] := by
    rw [State.rxBegun, State.port_setPort_ne _ _ _ (by omega)]
    exact hempty
  have hgo : ((s.rxBegun n).forwards n h && !(s.rxBegun n).striped n) = true := by
    rw [State.forwards_rxBegun, State.striped_rxBegun, hfwd, hstriped]
    rfl
  refine (if_pos hgo).trans (congrArg Host.Outcome.next ?_)
  rw [← State.rxBegun, State.queueStep_of_empty _ _ hother, hother, queuePut_nil]
  rfl

/-- The device with the packet in the other port's queue, worked out to now. -/
def State.arrived (s : State) (n : Nat) (h : Hdr) : State :=
  ((s.rxBegun n).queueMoved (1 - n) [arriving h]).queueMoved (1 - n) [arriving h]

theorem State.port_arrived_out : (s.arrived n h).port (1 - n) =
    { (s.rxBegun n).port (1 - n) with fq := [arriving h], fqAt := s.now } := by
  rw [State.arrived, State.port_queueMoved, State.port_queueMoved]
  rfl

theorem State.rxPkt_queueMoved {o : Nat} {l : List FwdPkt} (ho : n ≠ o) :
    ((s.queueMoved o l).port n).rxPkt = (s.port n).rxPkt := congrArg PortX.rxPkt (s.port_setPort_ne _ _ ho)

theorem State.queueStep_arrived : ((s.rxBegun n).queueMoved (1 - n) [arriving h]).queueStep (1 - n) =
    (s.arrived n h).queueBegins (1 - n) := by
  have hq : ((s.arrived n h).port (1 - n)).fq = [arriving h] := by rw [State.port_arrived_out]
  rw [State.queueStep_fits (e := arriving h) (by rw [State.port_queueMoved]) (by rw [State.port_queueMoved]; rfl)
    ⟨Nat.zero_le _, Nat.le_refl _⟩ (by decide : 0 - 0 ≤ 16 * 32768), ← State.arrived, State.queueEnds_of_open hq (.inl rfl)]

/-- The copy that begins touches the link's own part and the outputs alone. -/
theorem State.setPort_emit_eq {t : State} (h : t = { s with lnk := t.lnk }) (o : Nat) (p : PortX) (e : Emission) :
    (t.setPort o p).emit e = { s with lnk := ((t.setPort o p).emit e).lnk, out := ((t.setPort o p).emit e).out } := by
  obtain ⟨x, rfl⟩ : ∃ x, t = { s with lnk := x } := ⟨_, h⟩
  rfl

/-- A packet that is forwarded starts its copy where the other port is free, and waits where it is not (R124, R125). -/
theorem packetStartReceived_forwards (n : Fin 8) (h : Hdr) (s : State) (hfwd : s.forwards n h = true)
    (hstriped : s.striped n = false) (hempty : (s.port (1 - n)).fq = []) :
    ∃ t, exec (.packetStartReceived n h) s = .next t ∧ t = { s with lnk := t.lnk, out := t.out } ∧ (t.port n).rxPkt = true ∧
      ((s.port (1 - n.val)).busyUntil ≤ s.now → t.out = .fwdStart (1 - n.val) h :: s.out ∧
        (t.port (1 - n.val)).fq = [{ hdr := h, total := wireLen h, begun := true }]) ∧
      (s.now < (s.port (1 - n.val)).busyUntil → t.out = s.out ∧
        (t.port (1 - n.val)).fq = [{ hdr := h, total := wireLen h }]) := by
  have hother : n.val ≠ 1 - n.val := by have := State.lt_two_of_forwards hfwd; omega
  have hq : ((s.arrived n h).port (1 - n)).fq = [arriving h] := by rw [State.port_arrived_out]
  have hbusy : ((s.arrived n h).port (1 - n)).busyUntil = (s.port (1 - n)).busyUntil := by
    rw [State.port_arrived_out, State.rxBegun, State.port_setPort_ne _ _ _ hother.symm]
  have hrx : ((s.arrived n h).port n).rxPkt = true := by
    rw [State.arrived, State.rxPkt_queueMoved hother, State.rxPkt_queueMoved hother, State.port_rxBegun]
  refine ⟨(s.arrived n h).queueBegins (1 - n), (exec_packetStartReceived_forwarded hfwd hstriped hempty).trans
    (congrArg Host.Outcome.next State.queueStep_arrived), ?_⟩
  by_cases hfree : (s.port (1 - n.val)).busyUntil ≤ s.now
  · rw [State.queueBegins_of_free hq rfl (hbusy.le.trans hfree)]
    refine ⟨State.setPort_emit_eq rfl _ _ _, ?_, fun _ => ⟨rfl, ?_⟩, fun hlt => absurd hfree (Nat.not_le.2 hlt)⟩
    · exact (congrArg PortX.rxPkt (State.port_setPort_ne _ _ _ hother)).trans hrx
    · exact congrArg PortX.fq (State.port_setPort_self _ _ _)
  · rw [State.queueBegins_of_busy hq (by rw [hbusy]; exact Nat.not_le.1 hfree)]
    exact ⟨rfl, hrx, fun hle => absurd hle hfree, fun _ => ⟨rfl, hq⟩⟩

/-- Any other packet only marks its port as receiving. -/
theorem packetStartReceived_marks (n : Fin 8) (h : Hdr) (s : State) (hno : s.forwards n h = false ∨ s.striped n = true) :
    ∃ t, exec (.packetStartReceived n h) s = .next t ∧ t = { s with lnk := t.lnk } ∧ (t.port n).rxPkt = true ∧
      (t.port n).rxStriped = s.striped n ∧ (∀ k, k ≠ n.val → t.port k = s.port k) :=
  ⟨s.rxBegun n, exec_packetStartReceived_kept hno, rfl, congrArg PortX.rxPkt State.port_rxBegun,
    congrArg PortX.rxStriped State.port_rxBegun, fun _ hk => s.port_setPort_ne _ _ hk⟩

end

/-! ### The packet ends (R116, R124, R126) -/

/-- A packet of a forward queue once the incoming one has ended. -/
def FwdPkt.close (good : Bool) (wire : List Byte) (e : FwdPkt) : FwdPkt :=
  if e.ended.isNone then
    { e with ended := some good, wire := wire, got := e.total, sent := if e.begun && e.sent == e.got then e.total else e.sent }
  else e

section
variable {s : State} {n : Nat} {e : FwdPkt} (good : Bool) (wire : List Byte)

/-- The queue closed over the packets that the end of the incoming one ends. -/
def State.fqClosed (s : State) (o : Nat) : State := s.setPort o { s.port o with fq := (s.port o).fq.map (FwdPkt.close good wire) }

theorem State.endForward_of_open (hn : n < 2) (hfq : (s.port (1 - n)).fq = [e]) (hopen : e.ended = none) :
    s.endForward n good wire = ((s.queueStep (1 - n)).fqClosed good wire (1 - n)).queueStep (1 - n) :=
  if_pos (by simp [hn, hfq, hopen])

theorem State.fq_fqClosed {o : Nat} : ((s.fqClosed good wire o).port o).fq = (s.port o).fq.map (FwdPkt.close good wire) :=
  congrArg PortX.fq (s.port_setPort_self o _)

theorem State.fqAt_fqClosed {o : Nat} : ((s.fqClosed good wire o).port o).fqAt = (s.port o).fqAt := by
  rw [State.fqClosed, State.port_setPort_self]

/-- A copy that has kept pace with its packet has all of it once it has ended. -/
theorem FwdPkt.close_kept_pace (hbegun : e.begun = true) (hopen : e.ended = none) (hsent : e.sent = e.got) :
    e.close good wire = { e with ended := some good, wire := wire, got := e.total, sent := e.total } := by
  simp [FwdPkt.close, hopen, hbegun, hsent]

/-- A whole copy at the head of a queue ends as its packet did. -/
theorem State.queueStep_ended {o : Nat} (hfq : (s.port o).fq = [e]) (hat : (s.port o).fqAt = s.now) (hbegun : e.begun = true)
    (hgot : e.got = e.total) (hsent : e.sent = e.total) (hended : e.ended = some good) :
    (s.queueStep o).copyView o = (.fwdEnd o (!good) :: s.out, s.regs, s.plan, []) := by
  have hq : ((s.queueMoved o [e]).port o).fq = [e] := by rw [State.port_queueMoved]
  have hends := State.queueEnds_of_ended hq hbegun hsent hended
  have hview : ((s.queueMoved o [e]).queueEnds o).copyView o = (.fwdEnd o (!good) :: s.out, s.regs, s.plan, []) := by
    rw [hends, State.endCopy_copyView, State.port_setPort_self]
    rfl
  rw [State.queueStep_fits hfq hat ⟨hgot.le, by omega⟩ (by omega),
    State.queueBegins_of_empty (congrArg (·.2.2.2) hview), hview]

/-- A copy that has kept pace ends with its packet, stomped unless it was good. -/
theorem State.endForward_kept_pace (hn : n < 2) (hfq : (s.port (1 - n)).fq = [e]) (hat : (s.port (1 - n)).fqAt = s.now)
    (hbegun : e.begun = true) (hopen : e.ended = none) (hsent : e.sent = e.got) (hgot : e.got ≤ e.total) :
    (s.endForward n good wire).copyView (1 - n) = (.fwdEnd (1 - n) (!good) :: s.out, s.regs, s.plan, []) := by
  have hclosed := FwdPkt.close_kept_pace good wire hbegun hopen hsent
  rw [State.endForward_of_open good wire hn hfq hopen, State.queueStep_underway hfq hat ⟨hgot, hsent.le⟩ (by omega) hbegun hopen]
  refine State.queueStep_ended (e := e.close good wire) good ?_ ?_ ?_ ?_ ?_ ?_
  · rw [State.fq_fqClosed, State.port_queueMoved]
    rfl
  · rw [State.fqAt_fqClosed, State.port_queueMoved]
    rfl
  all_goals rw [hclosed]
  exact hbegun

/-- A copy that has fallen too far behind ends stomped, and the drop is counted (R126). -/
theorem State.endForward_behind (hn : n < 2) (hfq : (s.port (1 - n)).fq = [e]) (hat : (s.port (1 - n)).fqAt = s.now)
    (hbegun : e.begun = true) (hopen : e.ended = none) (hgot : e.got ≤ e.total) (hbehind : e.sent + 16 * 32768 < e.got) :
    (s.endForward n good wire).copyView (1 - n) =
      (.fwdEnd (1 - n) true :: s.out, (s.bump F.LNK_TXSTAT_FWD_DROP).regs, s.plan, []) := by
  have hfull : 16 * 32768 < queueFill [e] := by rw [queueFill_single]; omega
  have hcut : ((s.queueMoved (1 - n) [e]).queueCut (1 - n) [e]).copyView (1 - n) =
      (.fwdEnd (1 - n) true :: s.out, (s.bump F.LNK_TXSTAT_FWD_DROP).regs, s.plan, []) := by
    have hended := ((s.queueMoved (1 - n) [e]).setPort (1 - n)
      { (s.queueMoved (1 - n) [e]).port (1 - n) with fq := [] }).endCopy_copyView (1 - n) e true
    rw [State.port_setPort_self] at hended
    obtain ⟨hout, hregs, hplan, hempty⟩ := State.copyView_eq.1 hended
    rw [State.queueCut_of_full hfull hbegun]
    exact State.copyView_eq.2 ⟨hout, State.bump_regs_congr hregs _, hplan, hempty⟩
  have hempty := congrArg (·.2.2.2) hcut
  have hstep : s.queueStep (1 - n) = (s.queueMoved (1 - n) [e]).queueCut (1 - n) [e] := by
    rw [State.queueStep_now hfq hat ⟨hgot, by omega⟩, State.queueEnds_of_empty hempty, State.queueBegins_of_empty hempty]
  have hclosed := (State.fq_fqClosed good wire).trans (congrArg (List.map (FwdPkt.close good wire)) hempty)
  rw [State.endForward_of_open good wire hn hfq hopen, hstep, State.queueStep_of_empty _ _ hclosed]
  obtain ⟨hout, hregs, hplan, -⟩ := State.copyView_eq.1 hcut
  exact State.copyView_eq.2 ⟨hout, hregs, hplan, hclosed⟩

end

section
variable {s t : State} {n : Nat} {l : List Nat}

/-- Whether the device consumes a packet turns on its role, its identifier and its plan (R123). -/
theorem State.consumes_congr (hplan : t.plan = s.plan) (hkept : s.regsKept t l) (hsup : A.SUP_STAT ∉ l) (hboot : A.BOOT_STAT ∉ l)
    (hid : A.LNK_ID ∉ l) (h : Hdr) : t.consumes h = s.consumes h := by
  have hhead : t.isHead = s.isHead := by
    rw [State.isHead, hkept.flag_eq F.SUP_STAT_ROLE hsup, hkept.flag_eq F.BOOT_STAT_ROLE_PLAN hboot, State.isHead]
  simp only [State.consumes, State.srcId, State.isOwnDst, hhead, hplan, hkept.flag_eq F.LNK_ID_ASSIGNED hid,
    hkept.getF_eq F.LNK_ID_TILE_ID hid]

/-- Once its copy has ended, a packet for somebody else leaves nothing more. -/
theorem exec_packetReceived_other {n : Fin 8} {p : RxPacket} (hwas : (s.port n).rxStriped = false)
    (hstriped : s.striped n = false) (hbad : (s.port n).rxBad = false)
    (hcons : ((s.rxOver n).endForward n (p.whole && p.crcOk) p.wire).consumes (hdrParse p.wire) = false) :
    exec (.packetReceived n p) s = .next ((s.rxOver n).endForward n (p.whole && p.crcOk) p.wire) := by
  have hlost : s.rxLost n = false := by simp [State.rxLost, hwas, hstriped]
  refine congrArg Host.Outcome.next ((s.packetRx_eq n p).trans ?_)
  rw [hlost, State.rxSeen_of_sound hbad, Bool.not_false, Bool.true_and]
  exact State.judgePacket_other _ n p hcons

end

/-- A packet striped across an excluded lane is dropped and counted (R116). -/
theorem packetReceived_lost (n : Fin 8) (p : RxPacket) (s : State) (hstate : 2 ≤ s.getF (F.LNK_PSTAT_STATE n))
    (hstriped : s.striped n = true ∨ (s.port n).rxStriped = true) (hcopy : s.noCopy n) :
    ∃ t, exec (.packetReceived n p) s = .next t ∧ t = { s with regs := t.regs, lnk := t.lnk } ∧ s.regsKept t [A.LNK_RXAUTH n] ∧
      t.getF (F.LNK_RXAUTH_LANE_DROP n) = min (s.getF (F.LNK_RXAUTH_LANE_DROP n) + 1) 65535 := by
  have hlost : s.rxLost n = true := by rcases hstriped with h | h <;> simp [State.rxLost, h]
  obtain ⟨honly, hcount⟩ := (s.rxOver n).bump_counts (F.LNK_RXAUTH_LANE_DROP n) rfl (by decide : 16 + 16 ≤ 32)
  obtain ⟨heq, hkept⟩ := ((s.rxOver_onlyLnk n).mono (by simp)).trans honly
  refine ⟨(s.rxOver n).bump (F.LNK_RXAUTH_LANE_DROP n), congrArg Host.Outcome.next ((s.packetRx_eq n p).trans ?_), heq, hkept, hcount⟩
  rw [State.endForward_of_noCopy _ _ (State.noCopy_rxOver hcopy), hlost]
  exact (s.rxOver n).judgePacket_lost n _ hstate

section
variable {s : State} {n : Fin 8} {e : FwdPkt}

/-- The other port is not touched by the end of the packet at its own. -/
theorem State.port_rxOver_other (hn : n.val < 2) : (s.rxOver n).port (1 - n) = s.port (1 - n) :=
  s.port_setPort_ne _ _ (by omega)

variable (p : RxPacket) (hn : n.val < 2) (hfq : (s.port (1 - n.val)).fq = [e]) (hat : (s.port (1 - n.val)).fqAt = s.now)
  (hbegun : e.begun = true) (hopen : e.ended = none) (hgot : e.got ≤ e.total)
  (hcons : s.consumes (hdrParse p.wire) = false) (hstriped : s.striped n = false) (hwas : (s.port n).rxStriped = false)
  (hbad : (s.port n).rxBad = false)
include hn hfq hat hbegun hopen hgot hcons hstriped hwas hbad

/-- A forwarded packet for somebody else ends its copy, stomped unless it was whole with a good CRC (R124). -/
theorem packetReceived_ends_copy (hsent : e.sent = e.got) :
    ∃ t, exec (.packetReceived n p) s = .next t ∧ t.out = .fwdEnd (1 - n.val) (!(p.whole && p.crcOk)) :: s.out ∧
      (t.port (1 - n.val)).fq = [] ∧ t.regs = s.regs := by
  have hport := State.port_rxOver_other (s := s) hn
  obtain ⟨hout, hregs, hplan, hempty⟩ := State.copyView_eq.1 (State.endForward_kept_pace (s := s.rxOver n) (p.whole && p.crcOk) p.wire
    hn (by rw [hport, hfq]) (by rw [hport, hat]; rfl) hbegun hopen hsent hgot)
  refine ⟨_, exec_packetReceived_other hwas hstriped hbad ?_, hout, hempty, hregs⟩
  rw [State.consumes_congr (s := s) (l := []) hplan (fun a _ => State.getW_congr hregs a) (by simp) (by simp) (by simp)]
  exact hcons

/-- A forwarded packet that has fallen too far behind is stomped and counted (R126). -/
theorem packetReceived_drops_copy (hbehind : e.sent + 16 * 32768 < e.got) :
    ∃ t, exec (.packetReceived n p) s = .next t ∧ t.out = .fwdEnd (1 - n.val) true :: s.out ∧
      (t.port (1 - n.val)).fq = [] ∧ s.regsKept t [A.LNK_TXSTAT] ∧
      t.getF F.LNK_TXSTAT_FWD_DROP = min (s.getF F.LNK_TXSTAT_FWD_DROP + 1) 65535 := by
  have hport := State.port_rxOver_other (s := s) hn
  obtain ⟨hout, hregs, hplan, hempty⟩ := State.copyView_eq.1 (State.endForward_behind (s := s.rxOver n) (p.whole && p.crcOk) p.wire
    hn (by rw [hport, hfq]) (by rw [hport, hat]; rfl) hbegun hopen hgot hbehind)
  obtain ⟨⟨-, hkept⟩, hcount⟩ := s.bump_counts F.LNK_TXSTAT_FWD_DROP rfl (by decide)
  have hkept' := hkept.congr hregs
  refine ⟨_, exec_packetReceived_other hwas hstriped hbad ?_, hout, hempty, hkept', ?_⟩
  · rw [State.consumes_congr hplan hkept' (by decide) (by decide) (by decide)]
    exact hcons
  · exact (congrArg F.LNK_TXSTAT_FWD_DROP.of (State.getW_congr hregs _)).trans hcount

end

/-! ### The statement -/

/-- Settles O27, along a packet's way: its start, the end of its copy, the overflow and the drop. -/
theorem packetsAreForwardedWhileTheyArrive : Obligations.PacketsAreForwardedWhileTheyArrive := by
  unfold Obligations.PacketsAreForwardedWhileTheyArrive
  refine ⟨packetStartReceived_forwards, packetStartReceived_marks,
    fun n p e s hn hfq hat hbegun hopen hsent hgot hcons hstriped hwas hbad =>
      packetReceived_ends_copy p hn hfq hat hbegun hopen hgot hcons hstriped hwas hbad hsent,
    fun n p e s hn hfq hat hbegun hopen hgot hbehind hcons hstriped hwas hbad =>
      packetReceived_drops_copy p hn hfq hat hbegun hopen hgot hcons hstriped hwas hbad hbehind, packetReceived_lost⟩

end Sys2Proof.Machine
end

section
/-!
PROOFS. The masks of a chain port and what follows when they change (chapter 06: R115, R116).
-/

namespace Sys2Proof.Machine

/-! ### The status register after a change of masks (R115) -/

section
variable (s : State) (n rx tx : Nat)

/-- Whether the port stands in state RECOVERY once it has the RXMASK. -/
def State.recAfter : Bool := if rx = 0 then (s.setPort n (s.port n).forget).portRec n else s.portRec n

/-- A port without an RXMASK sends nothing. -/
def txAfter : Nat := if rx = 0 then 0 else tx

/-- The masks and the state as the port's status register takes them. -/
def State.masksSet : State :=
  ((s.setF (F.LNK_PSTAT_RXMASK n) rx).setF (F.LNK_PSTAT_TXMASK n) (txAfter rx tx)).setF (F.LNK_PSTAT_STATE n)
    (portStateOf (s.recAfter n rx) rx (txAfter rx tx))

/-- The partner forgotten where the RXMASK is empty. -/
def State.partnerGone : State :=
  ((s.setF (F.LNK_PSTAT_PRXMASK n) 0).setF (F.LNK_PSTAT_SKEW n) 0).setPort n (s.port n).forget

/-- The change told: its events, the extra STATUS, and the service agent lost with port A. -/
def State.masksTold (oldSt oldTx st tx1 : Nat) : State :=
  let s4 := s.when (st == 0 && oldSt != 0) fun t => t.raiseBit F.LNK_EVT_DOWN n
  let s5 := s4.when (st == 2 && oldSt != 2) fun t => t.raiseBit F.LNK_EVT_UP n
  let s6 := s5.when (st != oldSt || tx1 != oldTx) fun t => { t with lnk := { t.lnk with extraStatus := true } }
  s6.when (n == 0 && oldSt == 2 && st != 2 && !s6.isHead) fun t => t.mbxReset .service

theorem State.setMasks_eq : s.setMasks n rx tx =
    ((((((s.masksSet n rx tx).when (txAfter rx tx != s.getF (F.LNK_PSTAT_TXMASK n)) fun t => t.raiseBit F.LNK_EVT_RESTRIPE n).when
      (rx == 0) fun t => t.partnerGone n).masksTold n (s.getF (F.LNK_PSTAT_STATE n)) (s.getF (F.LNK_PSTAT_TXMASK n))
      (portStateOf (s.recAfter n rx) rx (txAfter rx tx)) (txAfter rx tx)).restripe n (s.getF (F.LNK_PSTAT_TXMASK n))).latchPort n) := rfl

variable {s n rx tx} in
/-- What the telling of a change keeps, the change of masks keeps. -/
theorem State.setMasks_same {β : Type} (g : State → β) (hevent : ∀ f ∈ [F.LNK_EVT_RESTRIPE, F.LNK_EVT_DOWN, F.LNK_EVT_UP],
      ∀ (t : State) (i : Nat), g (t.raiseBit f i) = g t)
    (hgone : rx = 0 → ∀ t : State, g (t.partnerGone n) = g t)
    (hextra : ∀ t : State, g { t with lnk := { t.lnk with extraStatus := true } } = g t)
    (hmbx : ∀ t : State, g (t.mbxReset .service) = g t) (hrestripe : ∀ (t : State) (o : Nat), g (t.restripe n o) = g t)
    (hlatch : ∀ t : State, g (t.latchPort n) = g t) : g (s.setMasks n rx tx) = g (s.masksSet n rx tx) := by
  have hpartner (t : State) : g (t.when (rx == 0) fun t => t.partnerGone n) = g t := by
    by_cases h : rx = 0
    · exact t.when_same g _ (hgone h t)
    · rw [beq_false_of_ne h, State.when, if_neg Bool.false_ne_true]
  rw [State.setMasks_eq, hlatch, hrestripe, State.masksTold]
  dsimp only
  rw [State.when_same _ g _ (hmbx _), State.when_same _ g _ (hextra _), State.when_same _ g _ (hevent F.LNK_EVT_UP (by simp) _ _),
    State.when_same _ g _ (hevent F.LNK_EVT_DOWN (by simp) _ _), hpartner,
    State.when_same _ g _ (hevent F.LNK_EVT_RESTRIPE (by simp) _ _)]

end

/-! ### Registers and fields after a change of masks -/

section
variable {s : State} {n : Nat}

theorem State.latchPort_regs (s : State) (n : Nat) : (s.latchPort n).regs = s.regs := by
  have hlatch (i : HealthItem) (ok : Bool) (t : State) : (t.latchHealth i ok).regs = t.regs := rfl
  unfold State.latchPort State.latchLink
  split
  · dsimp only
    split
    · rfl
    · simp only [List.foldl_cons, List.foldl_nil, hlatch]
  · rfl

/-- The registers that a change of a port's masks may write. -/
def maskRegs (n : Nat) : List Nat := A.LNK_PSTAT n :: A.LNK_EVT :: mbxResetRegs

theorem State.masksSet_onlyRegs (s : State) (n rx tx : Nat) : s.onlyRegs (s.masksSet n rx tx) [A.LNK_PSTAT n] := by
  have hmem : A.LNK_PSTAT n ∈ [A.LNK_PSTAT n] := List.mem_singleton_self _
  exact (((State.onlyRegs.refl s _).setF (F.LNK_PSTAT_RXMASK n) _ hmem).setF (F.LNK_PSTAT_TXMASK n) _ hmem).setF
    (F.LNK_PSTAT_STATE n) _ hmem

theorem State.partnerGone_regsKept (t : State) (n : Nat) : t.regsKept (t.partnerGone n) [A.LNK_PSTAT n] := by
  have hmem : A.LNK_PSTAT n ∈ [A.LNK_PSTAT n] := List.mem_singleton_self _
  exact (((State.regsKept.refl t _).setF (F.LNK_PSTAT_PRXMASK n) 0 hmem).setF (F.LNK_PSTAT_SKEW n) 0 hmem).congr rfl

theorem State.setMasks_regsKept (s : State) (n rx tx : Nat) : s.regsKept (s.setMasks n rx tx) (maskRegs n) := by
  intro a ha
  have hstat : a ∉ [A.LNK_PSTAT n] := fun h => ha (List.mem_cons.2 (.inl (List.mem_singleton.1 h)))
  have hevt : a ∉ [A.LNK_EVT] := fun h =>
    ha (List.mem_cons_of_mem _ (List.mem_cons.2 (.inl (List.mem_singleton.1 h))))
  have hmbx : a ∉ mbxResetRegs := fun h => ha (List.mem_cons_of_mem _ (List.mem_cons_of_mem _ h))
  have hevent : ∀ f ∈ [F.LNK_EVT_RESTRIPE, F.LNK_EVT_DOWN, F.LNK_EVT_UP], f.addr ∈ [A.LNK_EVT] := by decide
  exact (State.setMasks_same (State.getW · a)
    (fun f hf t i => (State.regsKept.refl t _).raiseBit f i (hevent f hf) a hevt)
    (fun _ t => t.partnerGone_regsKept n a hstat) (fun t => State.getW_congr rfl a) (fun t => (t.mbxReset_onlyRegs .service).2 a hmbx)
    (fun t _ => State.getW_congr rfl a) fun t => State.getW_congr (t.latchPort_regs n) a).trans
    ((s.masksSet_onlyRegs n rx tx).2 a hstat)

theorem lnk_pstat_high (n : Nat) : 0x40070000 ≤ A.LNK_PSTAT n := by
  simp only [A.LNK_PSTAT]
  omega

theorem lnk_pstat_ne_evt {n : Nat} (hn : n < 8) : A.LNK_EVT ≠ A.LNK_PSTAT n := by
  simp only [A.LNK_PSTAT, A.LNK_EVT]
  omega

theorem lnkEvent_addr : ∀ f ∈ [F.LNK_EVT_RESTRIPE, F.LNK_EVT_DOWN, F.LNK_EVT_UP], f.addr = A.LNK_EVT := by decide

/-- A field of the port's status register after a change of masks, the partner's own apart where it is forgotten. -/
theorem State.getF_setMasks_status (s : State) {rx : Nat} (tx : Nat) (hn : n < 8) {f : Fld} (hf : f.addr = A.LNK_PSTAT n)
    (hw : f.lo + f.width ≤ 32)
    (hgone : rx = 0 → (F.LNK_PSTAT_PRXMASK n).apart f = true ∧ (F.LNK_PSTAT_SKEW n).apart f = true) :
    (s.setMasks n rx tx).getF f = (s.masksSet n rx tx).getF f := by
  have hhigh : 0x40070000 ≤ f.addr := hf ▸ lnk_pstat_high n
  have hevent : ∀ g ∈ [F.LNK_EVT_RESTRIPE, F.LNK_EVT_DOWN, F.LNK_EVT_UP], g.apart f = true := fun g hg =>
    Fld.apart_of_addr_ne fun h => lnk_pstat_ne_evt hn ((lnkEvent_addr g hg).symm.trans (h.trans hf))
  have hrest (t : State) : (t.partnerGone n).getF f = ((t.setF (F.LNK_PSTAT_PRXMASK n) 0).setF (F.LNK_PSTAT_SKEW n) 0).getF f :=
    State.getF_setPort _ _ _ f
  refine State.setMasks_same (State.getF · f) (fun g hg t i => t.getF_setF_apart g f _ (hevent g hg) hw) (fun h0 t => ?_)
    (fun t => t.getF_extraStatus f) (fun t => t.getF_mbxReset .service hhigh) (fun t o => t.getF_restripe n o f) fun t => t.getF_latchPort n f
  obtain ⟨hprx, hskew⟩ := hgone h0
  rw [hrest, State.getF_setF_apart _ (F.LNK_PSTAT_SKEW n) f 0 hskew hw, State.getF_setF_apart _ (F.LNK_PSTAT_PRXMASK n) f 0 hprx hw]

end

end Sys2Proof.Machine
end

section
/-!
PROOFS. What a port shows after a change of its masks, and what the rest of the device keeps (chapter 06: R115, R116).
-/

namespace Sys2Proof.Machine

section
variable (s : State) {n : Nat}

theorem portStateOf_lt (r : Bool) (rx tx : Nat) : portStateOf r rx tx < 4 := by
  unfold portStateOf
  split_ifs <;> decide

variable (hn : n < 8)
include hn

/-- The state that a port is in after its masks changed (R115). -/
theorem State.getF_setMasks_state (rx tx : Nat) :
    (s.setMasks n rx tx).getF (F.LNK_PSTAT_STATE n) = portStateOf (s.recAfter n rx) rx (txAfter rx tx) := by
  rw [s.getF_setMasks_status tx hn rfl (by simp [F.LNK_PSTAT_STATE])
    fun _ => by simp [Fld.apart, F.LNK_PSTAT_STATE, F.LNK_PSTAT_PRXMASK, F.LNK_PSTAT_SKEW], State.masksSet,
    State.getF_setF_self _ (F.LNK_PSTAT_STATE n) _ (by simp [F.LNK_PSTAT_STATE])]
  exact Nat.mod_eq_of_lt (portStateOf_lt _ _ _)

/-- The TXMASK in force after a change of masks (R115, R116). -/
theorem State.getF_setMasks_txmask (rx tx : Nat) :
    (s.setMasks n rx tx).getF (F.LNK_PSTAT_TXMASK n) = txAfter rx tx % 16 := by
  have hstate : (F.LNK_PSTAT_STATE n).apart (F.LNK_PSTAT_TXMASK n) = true := by
    simp [Fld.apart, F.LNK_PSTAT_STATE, F.LNK_PSTAT_TXMASK]
  have hfits : (F.LNK_PSTAT_TXMASK n).lo + (F.LNK_PSTAT_TXMASK n).width ≤ 32 := by simp [F.LNK_PSTAT_TXMASK]
  rw [s.getF_setMasks_status tx hn rfl hfits
    fun _ => by simp [Fld.apart, F.LNK_PSTAT_TXMASK, F.LNK_PSTAT_PRXMASK, F.LNK_PSTAT_SKEW], State.masksSet,
    State.getF_setF_apart _ (F.LNK_PSTAT_STATE n) _ _ hstate hfits, State.getF_setF_self _ (F.LNK_PSTAT_TXMASK n) _ hfits]
  rfl

/-- What a port knows of its partner stays while a lane is in its RXMASK (R115). -/
theorem State.getF_setMasks_told {rx : Nat} (tx : Nat) (hrx : rx ≠ 0) {f : Fld} (hf : f.addr = A.LNK_PSTAT n)
    (hw : f.lo + f.width ≤ 32) (hapart : (F.LNK_PSTAT_STATE n).apart f = true ∧ (F.LNK_PSTAT_RXMASK n).apart f = true ∧
      (F.LNK_PSTAT_TXMASK n).apart f = true) : (s.setMasks n rx tx).getF f = s.getF f := by
  obtain ⟨hstate, hrxmask, htxmask⟩ := hapart
  rw [s.getF_setMasks_status tx hn hf hw fun h => absurd h hrx, State.masksSet,
    State.getF_setF_apart _ (F.LNK_PSTAT_STATE n) f _ hstate hw, State.getF_setF_apart _ (F.LNK_PSTAT_TXMASK n) f _ htxmask hw,
    State.getF_setF_apart _ (F.LNK_PSTAT_RXMASK n) f _ hrxmask hw]

end

section
variable (s : State) (n : Nat)

/-! ### The port itself -/

/-- What a port holds beside what a change of masks does to packets on their way (R116). -/
def PortX.settled (p : PortX) : PortX := { p with rxStriped := false, busyUntil := 0, fq := [] }

theorem State.settled_restripe (old : Nat) : ((s.restripe n old).port n).settled = (s.port n).settled := by
  rw [State.restripe, State.port_setPort_self]
  rfl

/-- A port that keeps a lane in its RXMASK keeps what it holds (R115). -/
theorem State.port_setMasks {rx : Nat} (tx : Nat) (hrx : rx ≠ 0) :
    ((s.setMasks n rx tx).port n).settled = (s.port n).settled :=
  State.setMasks_same (fun t => (t.port n).settled) (fun f _ t i => congrArg PortX.settled (t.port_raiseBit n f i))
    (fun h => absurd h hrx) (fun t => congrArg PortX.settled (t.port_extraStatus n))
    (fun t => congrArg PortX.settled (State.port_congr n (congrArg LnkState.ports (t.mbxReset_lnk .service))))
    (fun t o => t.settled_restripe n o)
    fun t => congrArg PortX.settled (State.port_congr n (congrArg LnkState.ports (t.latchPort_lnk n)))

/-! ### The rest of the device -/

/-- The device beside its registers, its ports and its health record. -/
def State.besidePorts (s : State) : State := { s with regs := [], lnk := {}, gov := {} }

theorem State.latchPort_besidePorts : (s.latchPort n).besidePorts = s.besidePorts := by
  have hlatch (i : HealthItem) (ok : Bool) (t : State) : (t.latchHealth i ok).besidePorts = t.besidePorts := rfl
  unfold State.latchPort State.latchLink
  split
  · dsimp only
    split
    · rfl
    · simp only [List.foldl_cons, List.foldl_nil, hlatch]
  · rfl

theorem State.besidePorts_eq {s t : State} {l : List Nat} (h : s.onlyRegs t l) : t.besidePorts = s.besidePorts := by
  rw [h.1]
  rfl

/-- A change of masks leaves the rest of the device as it is (R115). -/
theorem State.setMasks_besidePorts (rx tx : Nat) : (s.setMasks n rx tx).besidePorts = s.besidePorts :=
  (State.setMasks_same State.besidePorts (fun _ _ _ _ => rfl) (fun _ _ => rfl) (fun _ => rfl)
    (fun t => State.besidePorts_eq (t.mbxReset_onlyRegs .service)) (fun _ _ => rfl) fun t => t.latchPort_besidePorts n).trans rfl

end

/-! ### A port that comes UP -/

section
variable {s : State} {n : Nat}

/-- The last step of a change, where it runs, leaves the link's events. -/
theorem State.bit_up_mbx (u : State) (c : Bool) (hevt : u.bit F.LNK_EVT_UP n = true) :
    (u.when c fun t => t.mbxReset .service).bit F.LNK_EVT_UP n = true := by
  have hmbx : (u.mbxReset .service).getF F.LNK_EVT_UP = u.getF F.LNK_EVT_UP := u.getF_mbxReset .service (by decide)
  cases c
  · exact hevt
  · rw [State.when, if_pos rfl, State.bit, hmbx]
    exact hevt

theorem State.bit_up_extra (u : State) (c : Bool) (hevt : u.bit F.LNK_EVT_UP n = true) :
    (u.when c fun t => { t with lnk := { t.lnk with extraStatus := true } }).bit F.LNK_EVT_UP n = true := by
  cases c
  · exact hevt
  · exact hevt

theorem State.masksTold_up {t : State} {oldSt oldTx tx1 : Nat} (hn : n < 8) (hold : oldSt ≠ 2) :
    (t.masksTold n oldSt oldTx 2 tx1).bit F.LNK_EVT_UP n = true := by
  have hup (u : State) : (u.when (2 == 2 && oldSt != 2) fun t => t.raiseBit F.LNK_EVT_UP n).bit F.LNK_EVT_UP n = true := by
    rw [State.when, if_pos (by simp [hold])]
    exact u.bit_raiseBit_self F.LNK_EVT_UP n (by decide) hn
  exact State.bit_up_mbx _ _ (State.bit_up_extra _ _ (hup _))

/-- A port that comes UP by a change of masks raises its event (R115). -/
theorem State.bit_up_setMasks {rx tx : Nat} (hn : n < 8) (hold : s.getF (F.LNK_PSTAT_STATE n) ≠ 2)
    (hup : portStateOf (s.recAfter n rx) rx (txAfter rx tx) = 2) : (s.setMasks n rx tx).bit F.LNK_EVT_UP n = true := by
  rw [State.setMasks_eq, hup]
  refine (congrArg (Nat.testBit · n) (State.getF_latchPort _ n F.LNK_EVT_UP)).trans ?_
  refine (congrArg (Nat.testBit · n) (State.getF_restripe _ n _ F.LNK_EVT_UP)).trans ?_
  exact State.masksTold_up hn hold

end

end Sys2Proof.Machine
end

section
/-!
PROOFS. What a packet put on a port leaves behind (chapter 06: R119, R128, R133), and the ENUM of a Head's end port (R134).
-/

namespace Sys2Proof.Machine

section
variable {s : State} {n : Nat}

/-- The device beside its lanes. -/
def State.besideLanes (s : State) : State := { s with lan := {} }

theorem State.putLine_eq (s : State) (n : Nat) (l : List (Nat × List LineChar)) :
    s.putLine n l = { s with lan := (s.putLine n l).lan } := by
  have hkept : (s.putLine n l).besideLanes = s.besideLanes := s.forEach_same State.besideLanes l fun _ _ => rfl
  exact congrArg (fun u : State => { u with lan := (s.putLine n l).lan }) hkept

/-- The port while a packet leaves by it. -/
def State.sending (s : State) (n : Nat) (h : Hdr) : PortX :=
  { s.port n with busyUntil := s.clearAt n + packetNs (s.portRate n) (s.getF (F.LNK_PSTAT_TXMASK n)) h }

/-- A packet that can leave by a port is put on the outputs with the key that its header asks for. -/
theorem State.putOnPort_eq {h : Hdr} (b : Body) (hcan : s.canPut n h = true) :
    s.putOnPort n h b = { s with
      lnk := (s.setPort n (s.sending n h)).lnk, lan := (s.putOnPort n h b).lan,
      out := .packet n (s.getF (F.LNK_PSTAT_TXMASK n)) h b (if h.prot = 0 then none else s.txKey n h) :: s.out } := by
  have hput : s.putOnPort n h b = (s.setPort n (s.sending n h)).sendLine n
      (.packet n (s.getF (F.LNK_PSTAT_TXMASK n)) h b (if h.prot = 0 then none else s.txKey n h)) := if_pos hcan
  rw [hput]
  exact State.putLine_eq _ n _

/-- The header of a hop-local packet as it leaves (R128). -/
def State.hopHdr (s : State) (n : Nat) (h : Hdr) : Hdr :=
  { h with hop := true, dst := 1023, seq := BitVec.ofNat 32 (s.port n).hopSeq, keyEp := BitVec.ofNat 6 s.curEp, src := s.srcId }

/-- A hop-local packet without a tag leaves by a port that is UP and can send. -/
theorem State.sendHop_eq {h : Hdr} (b : Body) (hprot : h.prot = 0) (hsend : s.canSend n = true) (hup : s.portUp n = true) :
    s.sendHop n h b = { s with
      lnk := { s.lnk with ports := (s.sendHop n h b).lnk.ports }, lan := (s.sendHop n h b).lan,
      out := .packet n (s.getF (F.LNK_PSTAT_TXMASK n)) (s.hopHdr n h) b none :: s.out } := by
  let t := s.setPort n { s.port n with hopSeq := (s.port n).hopSeq + 1 }
  have hcan : t.canPut n (s.hopHdr n h) = true := by
    have hs : t.canSend n = true := hsend
    have hu : t.portUp n = true := hup
    have hp : (s.hopHdr n h).prot = 0 := hprot
    simp [State.canPut, hs, hu, hp]
  have hput : s.sendHop n h b = t.putOnPort n (s.hopHdr n h) b := rfl
  have hkey : (if (s.hopHdr n h).prot = 0 then none else t.txKey n (s.hopHdr n h)) = none := if_pos hprot
  rw [hput, State.putOnPort_eq b hcan, hkey]
  rfl

/-- The ENUM that a Head sends on a port (R134). -/
def State.ownEnum (s : State) (n : Nat) : EnumMsg where
  wallId := s.plan.wall.id
  planSerial := s.plan.wall.serial
  head := BitVec.ofNat 8 s.plan.wall.headNumber
  chain := BitVec.ofNat 8 (s.chainOf n)
  tiles := BitVec.ofNat 8 (nth s.plan.wall.tilesPerChain (s.chainOf n) 0)
  endB := s.getF (F.LNK_PCFG_ROLE n) == 2
  hops := 1

/-- The end port of a Head that is UP sends its ENUM (R134). -/
theorem State.sendEnum_sends (hhead : s.isHead = true) (hup : s.portUp n = true) (hrole : s.getF (F.LNK_PCFG_ROLE n) ∈ [1, 2]) :
    s.sendEnum n = s.sendHop n { typ := 7, len := 32 } (.enum (s.ownEnum n)) := by
  have hend : (s.getF (F.LNK_PCFG_ROLE n) == 1 || s.getF (F.LNK_PCFG_ROLE n) == 2) = true := by
    simpa [beq_iff_eq] using hrole
  have hcond : (s.isHead && s.portUp n && (s.getF (F.LNK_PCFG_ROLE n) == 1 || s.getF (F.LNK_PCFG_ROLE n) == 2)) = true := by
    rw [hhead, hup, hend]
    rfl
  exact if_pos hcond

/-- A Tile sends no ENUM of its own. -/
theorem State.sendEnum_tile (htile : s.isHead = false) : s.sendEnum n = s := by
  unfold State.sendEnum
  rw [htile]
  rfl

end

end Sys2Proof.Machine
end

section
/-!
PROOFS. The lane markers that a port sends and the columns of markers that it receives (chapter 06: R111 to R116, R134).
-/

namespace Sys2Proof.Machine

/-! ### The marker of a lane (R112) -/

/-- The top bit of a byte adds one to its 1 bits. -/
theorem ones8_or_top : ∀ b : Byte, b.toNat < 128 → ones8 (b ||| 0x80#8) = ones8 b + 1 := by decide

section
variable (k : Fin 4) (tx count rx : Nat) (fwd recov head : Bool)

theorem markerOf_m0_toNat : (markerOf k tx count rx fwd recov head).m0.toNat = k.val + 4 * (tx % 16) + 64 * (count % 4) := by
  have hlt := k.isLt
  rw [markerOf, BitVec.toNat_ofNat]
  omega

/-- The second byte of a marker without its parity bit. -/
def markerBits : Nat := rx % 16 + 16 * fwd.toNat + 32 * recov.toNat + 64 * head.toNat

theorem markerBits_lt : markerBits rx fwd recov head < 128 := by
  have hf := fwd.toNat_lt
  have hr := recov.toNat_lt
  have hh := head.toNat_lt
  unfold markerBits
  omega

theorem markerBits_toNat : (BitVec.ofNat 8 (markerBits rx fwd recov head)).toNat = markerBits rx fwd recov head := by
  have := markerBits_lt rx fwd recov head
  rw [BitVec.toNat_ofNat]
  omega

theorem markerOf_m1 : (markerOf k tx count rx fwd recov head).m1 =
    if markerOdd (markerOf k tx count rx fwd recov head).m0 (BitVec.ofNat 8 (markerBits rx fwd recov head)) then
      BitVec.ofNat 8 (markerBits rx fwd recov head)
    else BitVec.ofNat 8 (markerBits rx fwd recov head) ||| 0x80#8 := rfl

theorem markerOf_m1_mask : (markerOf k tx count rx fwd recov head).m1.toNat % 16 = rx % 16 := by
  have hbits : markerBits rx fwd recov head % 16 = rx % 16 := by
    unfold markerBits
    omega
  rw [markerOf_m1]
  split
  · rw [markerBits_toNat, hbits]
  · rw [BitVec.toNat_or, markerBits_toNat, show 16 = 2 ^ 4 from rfl, Nat.or_mod_two_pow]
    exact (Nat.or_zero _).trans hbits

/-- The parity bit makes the two bytes of a marker odd. -/
theorem markerOf_odd : markerOdd (markerOf k tx count rx fwd recov head).m0 (markerOf k tx count rx fwd recov head).m1 = true := by
  rw [markerOf_m1]
  split
  case isTrue h => exact h
  case isFalse h =>
    have hlt : (BitVec.ofNat 8 (markerBits rx fwd recov head)).toNat < 128 := by
      rw [markerBits_toNat]
      exact markerBits_lt _ _ _ _
    simp only [markerOdd, beq_iff_eq] at h ⊢
    rw [ones8_or_top _ hlt]
    omega

end

/-! ### Masks of lanes -/

theorem testBit_laneMask : ∀ (f : Nat → Bool) (k : Fin 4), (laneMask f).testBit k = f k := by
  intro f k
  unfold laneMask
  have hbits : ∀ a b c d : Bool, ∀ k : Fin 4, (([0, 1, 2, 3].filter fun i => [a, b, c, d].getD i false).foldl
    (fun x i => x + 2 ^ i) 0).testBit k = [a, b, c, d].getD k false := by decide
  have hf : ∀ i ∈ [0, 1, 2, 3], f i = [f 0, f 1, f 2, f 3].getD i false := by simp
  rw [List.filter_congr hf, hbits]
  exact (hf k (by fin_cases k <;> simp)).symm

theorem laneMask_lt (f : Nat → Bool) : laneMask f < 16 := by
  unfold laneMask
  have hbits : ∀ a b c d : Bool, (([0, 1, 2, 3].filter fun i => [a, b, c, d].getD i false).foldl
    (fun x i => x + 2 ^ i) 0) < 16 := by decide
  have hf : ∀ i ∈ [0, 1, 2, 3], f i = [f 0, f 1, f 2, f 3].getD i false := by simp
  rw [List.filter_congr hf]
  exact hbits _ _ _ _

end Sys2Proof.Machine
end

section
/-!
PROOFS. Lane markers sent and columns received, with what they set (chapter 06: R111 to R116, R134).
-/

namespace Sys2Proof.Machine

/-! ### Registers apart from those of a change of masks -/

theorem notMem_maskRegs {n a : Nat} (hn : n < 8) (hport : a < 0x40090040 ∨ 0x40090060 ≤ a) (hevt : a ≠ A.LNK_EVT)
    (hmbx : a ∉ mbxResetRegs) : a ∉ maskRegs n := by
  have hstat : a ≠ A.LNK_PSTAT n := by
    simp only [A.LNK_PSTAT]
    omega
  simp only [maskRegs, List.mem_cons, not_or]
  exact ⟨hstat, hevt, hmbx⟩

theorem mbxResetRegs_lt : ∀ a ∈ mbxResetRegs, a < 0x40070000 := by decide

section
variable (s : State) {n : Nat} (hn : n < 8) (rx tx : Nat)
include hn

theorem State.getF_setMasks_apart (f : Fld) (hport : f.addr < 0x40090040 ∨ 0x40090060 ≤ f.addr) (hevt : f.addr ≠ A.LNK_EVT)
    (hmbx : f.addr ∉ mbxResetRegs) : (s.setMasks n rx tx).getF f = s.getF f :=
  (s.setMasks_regsKept n rx tx).getF_eq f (notMem_maskRegs hn hport hevt hmbx)

theorem State.isHead_setMasks : (s.setMasks n rx tx).isHead = s.isHead := by
  have hstrap := s.getF_setMasks_apart hn rx tx F.SUP_STAT_ROLE (by decide) (by decide) (by decide)
  have hplan := s.getF_setMasks_apart hn rx tx F.BOOT_STAT_ROLE_PLAN (by decide) (by decide) (by decide)
  simp only [State.isHead, State.flag, hstrap, hplan]

theorem State.getF_setMasks_role : (s.setMasks n rx tx).getF (F.LNK_PCFG_ROLE n) = s.getF (F.LNK_PCFG_ROLE n) := by
  have hlow : (F.LNK_PCFG_ROLE n).addr < 0x40090040 := by
    simp only [F.LNK_PCFG_ROLE]
    omega
  have hhigh : 0x40070000 ≤ (F.LNK_PCFG_ROLE n).addr := by
    simp only [F.LNK_PCFG_ROLE]
    omega
  refine s.getF_setMasks_apart hn rx tx _ (.inl hlow) ?_ fun hmem => absurd (mbxResetRegs_lt _ hmem) (Nat.not_lt.2 hhigh)
  simp only [A.LNK_EVT]
  omega

theorem State.bit_setMasks_portLock (i : Nat) :
    (s.setMasks n rx tx).bit F.CLK_STAT_PORT_LOCK i = s.bit F.CLK_STAT_PORT_LOCK i :=
  congrArg (Nat.testBit · i) (s.getF_setMasks_apart hn rx tx F.CLK_STAT_PORT_LOCK (by decide) (by decide) (by decide))

end

theorem State.besidePorts_out (s : State) : s.besidePorts.out = s.out := rfl

theorem State.besidePorts_pwr (s : State) : s.besidePorts.pwr = s.pwr := rfl

theorem State.setMasks_out (s : State) (n rx tx : Nat) : (s.setMasks n rx tx).out = s.out := by
  rw [← State.besidePorts_out, State.setMasks_besidePorts, State.besidePorts_out]

theorem State.setMasks_pwr (s : State) (n rx tx : Nat) : (s.setMasks n rx tx).pwr = s.pwr := by
  rw [← State.besidePorts_pwr, State.setMasks_besidePorts, State.besidePorts_pwr]

/-- A field is what the registers hold. -/
theorem State.getF_of_regs {s t : State} (h : t.regs = s.regs) (f : Fld) : t.getF f = s.getF f := by
  rw [State.getF, State.getF, State.getW_congr h]

/-! ### Markers sent (R111, R115) -/

section
variable (s : State) (n : Nat)

/-- The four markers that a port sends now. -/
def State.markersDue : List LaneMarker :=
  [(0 : Fin 4), 1, 2, 3].map fun k => markerOf k (s.wantTx n) (s.port n).markCount (s.getF (F.LNK_PSTAT_RXMASK n)) (s.markerFwd n)
    s.recovering (s.isHead && !s.recovering)

/-- The markers on the lanes, and counted. -/
def State.markersSent : State :=
  (s.sendLine n (.markers n (s.markersDue n))).setPort n { s.port n with markCount := ((s.port n).markCount + 1) % 4 }

theorem State.markersSent_eq : s.markersSent n = { s with
    lnk := (s.markersSent n).lnk, lan := (s.markersSent n).lan, out := .markers n (s.markersDue n) :: s.out } := by
  have hline := (s.emit (.markers n (s.markersDue n))).putLine_eq n (Emission.markers n (s.markersDue n)).lanes
  rw [State.markersSent, State.sendLine, hline]
  rfl

theorem State.port_markersSent :
    (s.markersSent n).port n = { s.port n with markCount := ((s.port n).markCount + 1) % 4 } := State.port_setPort_self _ _ _

theorem State.markersSent_regs : (s.markersSent n).regs = s.regs := by rw [State.markersSent_eq]

theorem State.markersSent_out : (s.markersSent n).out = .markers n (s.markersDue n) :: s.out := by rw [State.markersSent_eq]

theorem State.markersSent_pwr : (s.markersSent n).pwr = s.pwr := by rw [State.markersSent_eq]

theorem State.getF_markersSent (f : Fld) : (s.markersSent n).getF f = s.getF f :=
  State.getF_of_regs (s.markersSent_regs n) f

theorem State.wantTx_lt : s.wantTx n < 16 := by
  unfold State.wantTx
  split
  · exact lt_of_le_of_lt Nat.and_le_left (Nat.mod_lt _ (Nat.two_pow_pos 4))
  · decide

/-- Each marker carries its lane, the masks, the count and odd parity (R112). -/
theorem State.markersDue_carry (k : Fin 4) : ∃ m, (s.markersDue n)[k.val]? = some m ∧ m.lane = k ∧ m.m0.toNat % 4 = k ∧
    m.m0.toNat / 4 % 16 = s.wantTx n ∧ m.m0.toNat / 64 = (s.port n).markCount % 4 ∧
    m.m1.toNat % 16 = s.getF (F.LNK_PSTAT_RXMASK n) ∧ markerOdd m.m0 m.m1 = true := by
  have hget : (s.markersDue n)[k.val]? = some (markerOf k (s.wantTx n) (s.port n).markCount (s.getF (F.LNK_PSTAT_RXMASK n))
      (s.markerFwd n) s.recovering (s.isHead && !s.recovering)) := by
    rw [State.markersDue, List.getElem?_map]
    have hlanes : ([(0 : Fin 4), 1, 2, 3])[k.val]? = some k := by fin_cases k <;> rfl
    rw [hlanes]
    rfl
  have hk := k.isLt
  have htx := s.wantTx_lt n
  have hrx : s.getF (F.LNK_PSTAT_RXMASK n) < 16 := Nat.mod_lt _ (Nat.two_pow_pos 4)
  refine ⟨_, hget, rfl, ?_, ?_, ?_, ?_, markerOf_odd _ _ _ _ _ _ _⟩
  · rw [markerOf_m0_toNat]
    omega
  · rw [markerOf_m0_toNat]
    omega
  · rw [markerOf_m0_toNat]
    omega
  · rw [markerOf_m1_mask, Nat.mod_eq_of_lt hrx]

/-- The port once its markers have gone, with the new TXMASK in force. -/
def State.markersDone : State :=
  (s.markersSent n).setMasks n ((s.markersSent n).getF (F.LNK_PSTAT_RXMASK n)) (s.wantTx n)

variable {s}

theorem laneMarkerDue_eq {n : Fin 8} (hon : s.unitOn n = true) (hlock : s.bit F.CLK_STAT_PORT_LOCK n = true)
    (hidle : s.pwr.txIdle = false) :
    exec (.laneMarkerDue n) s = .next ((s.markersDone n).when (!s.portUp n) fun t => t.sendEnum n) := by
  have hcond : (s.unitOn n && s.bit F.CLK_STAT_PORT_LOCK n && !s.pwr.txIdle) = true := by rw [hon, hlock, hidle]; rfl
  exact if_pos hcond

end

end Sys2Proof.Machine
end

section
/-!
PROOFS. What a port sends at its marker instant: the markers, and the ENUM of a Head's end port that comes UP
(chapter 06: R111, R115, R134).
-/

namespace Sys2Proof.Machine

section
variable (s : State) (n : Nat)

theorem State.markersDone_out : (s.markersDone n).out = .markers n (s.markersDue n) :: s.out := by
  rw [State.markersDone, State.setMasks_out, State.markersSent_out]

theorem State.rxmask_lt : s.getF (F.LNK_PSTAT_RXMASK n) < 16 := Nat.mod_lt _ (Nat.two_pow_pos 4)

theorem State.markCount_partnerGone : ((s.partnerGone n).port n).markCount = (s.port n).markCount := by
  rw [State.partnerGone, State.port_setPort_self, PortX.forget]

theorem State.markCount_restripe (old : Nat) : ((s.restripe n old).port n).markCount = (s.port n).markCount := by
  rw [State.restripe, State.port_setPort_self]

/-- A port counts its markers, whatever its masks become. -/
theorem State.markCount_setMasks (rx tx : Nat) : ((s.setMasks n rx tx).port n).markCount = (s.port n).markCount :=
  State.setMasks_same (fun t => (t.port n).markCount) (fun f _ t i => congrArg PortX.markCount (t.port_raiseBit n f i))
    (fun _ t => t.markCount_partnerGone n) (fun t => congrArg PortX.markCount (t.port_extraStatus n))
    (fun t => congrArg PortX.markCount (State.port_congr n (congrArg LnkState.ports (t.mbxReset_lnk .service))))
    (fun t o => t.markCount_restripe n o)
    fun t => congrArg PortX.markCount (State.port_congr n (congrArg LnkState.ports (t.latchPort_lnk n)))

theorem State.markCount_markersDone : ((s.markersDone n).port n).markCount = ((s.port n).markCount + 1) % 4 := by
  rw [State.markersDone, State.markCount_setMasks, State.port_markersSent]

variable {s n} in
/-- A lane common to both masks is in the RXMASK. -/
theorem State.rxmask_ne_of_wantTx (htx : s.wantTx n ≠ 0) : s.getF (F.LNK_PSTAT_RXMASK n) ≠ 0 := by
  intro hzero
  refine htx ?_
  rw [State.wantTx, hzero, Nat.zero_and, ite_self]

variable {s n} in
/-- A port out of RECOVERY with a lane in both masks is UP from its markers on (R115). -/
theorem State.comesUp (htx : s.wantTx n ≠ 0) (hrec : s.portRec n = false) :
    portStateOf ((s.markersSent n).recAfter n ((s.markersSent n).getF (F.LNK_PSTAT_RXMASK n)))
      ((s.markersSent n).getF (F.LNK_PSTAT_RXMASK n))
      (txAfter ((s.markersSent n).getF (F.LNK_PSTAT_RXMASK n)) (s.wantTx n)) = 2 := by
  have hrx := State.rxmask_ne_of_wantTx htx
  have hsame : (s.markersSent n).portRec n = s.portRec n := by
    simp only [State.portRec, State.recovering, State.flag, State.getF_markersSent, State.port_markersSent]
  rw [s.getF_markersSent, State.recAfter, if_neg hrx, hsame, hrec, txAfter, if_neg hrx, portStateOf, if_neg Bool.false_ne_true,
    if_neg hrx, if_neg htx]

variable {n} (hn : n < 8)
include hn

theorem State.rxmask_markersDone : (s.markersDone n).getF (F.LNK_PSTAT_RXMASK n) = s.getF (F.LNK_PSTAT_RXMASK n) := by
  rw [State.markersDone, State.getF_setMasks_rxmask _ hn, State.getF_markersSent, Nat.mod_eq_of_lt (s.rxmask_lt n)]

theorem State.txmask_markersDone : (s.markersDone n).getF (F.LNK_PSTAT_TXMASK n) =
    if s.getF (F.LNK_PSTAT_RXMASK n) = 0 then 0 else s.wantTx n := by
  rw [State.markersDone, State.getF_setMasks_txmask _ hn, State.getF_markersSent, txAfter]
  split
  · rfl
  · exact Nat.mod_eq_of_lt (s.wantTx_lt n)

theorem State.isHead_markersDone : (s.markersDone n).isHead = s.isHead := by
  rw [State.markersDone, State.isHead_setMasks _ hn]
  simp only [State.isHead, State.flag, State.getF_markersSent]

variable {s}

/-- Where no ENUM is due, the markers are all that a port sends (R111). -/
theorem State.markersDone_noEnum (hquiet : s.isHead = false ∨ s.portUp n = true) :
    ((s.markersDone n).when (!s.portUp n) fun t => t.sendEnum n) = s.markersDone n := by
  rcases hquiet with htile | hup
  · refine State.when_same (s.markersDone n) id _ (State.sendEnum_tile ?_)
    rw [s.isHead_markersDone hn, htile]
  · rw [hup]
    rfl

/-! ### A port that comes UP by its markers (R115, R134) -/

theorem State.state_markersDone (htx : s.wantTx n ≠ 0) (hrec : s.portRec n = false) :
    (s.markersDone n).getF (F.LNK_PSTAT_STATE n) = 2 := by
  rw [State.markersDone, State.getF_setMasks_state _ hn, State.comesUp htx hrec]

theorem State.bit_up_markersDone (htx : s.wantTx n ≠ 0) (hrec : s.portRec n = false) (hdown : s.portUp n = false) :
    (s.markersDone n).bit F.LNK_EVT_UP n = true := by
  refine State.bit_up_setMasks hn ?_ (State.comesUp htx hrec)
  rw [State.getF_markersSent]
  simpa [State.portUp] using hdown

theorem State.canSend_markersDone (htx : s.wantTx n ≠ 0) (hrec : s.portRec n = false)
    (hlock : s.bit F.CLK_STAT_PORT_LOCK n = true) (hidle : s.pwr.txIdle = false) : (s.markersDone n).canSend n = true := by
  have hmask : (s.markersDone n).getF (F.LNK_PSTAT_TXMASK n) = s.wantTx n := by
    rw [s.txmask_markersDone hn, if_neg (State.rxmask_ne_of_wantTx htx)]
  have hpll : (s.markersDone n).bit F.CLK_STAT_PORT_LOCK n = true := by
    rw [State.markersDone, State.bit_setMasks_portLock _ hn, State.bit, State.getF_markersSent]
    exact hlock
  have hon : (s.markersDone n).pwr.txIdle = false := by rw [State.markersDone, State.setMasks_pwr, State.markersSent_pwr, hidle]
  rw [State.canSend, State.state_markersDone hn htx hrec, hmask, hpll, hon]
  simpa using htx

/-- A Head's end port that comes UP by its markers sends its ENUM after them (R134). -/
theorem State.markersDone_enum (hlock : s.bit F.CLK_STAT_PORT_LOCK n = true) (hidle : s.pwr.txIdle = false)
    (hhead : s.isHead = true) (htx : s.wantTx n ≠ 0) (hrec : s.portRec n = false)
    (hrole : s.getF (F.LNK_PCFG_ROLE n) ∈ [1, 2]) :
    ∃ l a h m, (s.markersDone n).sendEnum n = { s.markersDone n with
      lnk := l, lan := a, out := .packet n (s.wantTx n) h (.enum m) none :: .markers n (s.markersDue n) :: s.out } ∧
      h.typ = 7 ∧ m.hops = 1 := by
  have hup : (s.markersDone n).portUp n = true := beq_iff_eq.2 (State.state_markersDone hn htx hrec)
  have hrole' : (s.markersDone n).getF (F.LNK_PCFG_ROLE n) ∈ [1, 2] := by
    rw [State.markersDone, State.getF_setMasks_role _ hn, State.getF_markersSent]
    exact hrole
  have hmask : (s.markersDone n).getF (F.LNK_PSTAT_TXMASK n) = s.wantTx n := by
    rw [s.txmask_markersDone hn, if_neg (State.rxmask_ne_of_wantTx htx)]
  have hsend := State.sendHop_eq (h := { typ := 7, len := 32 }) (.enum ((s.markersDone n).ownEnum n)) rfl
    (State.canSend_markersDone hn htx hrec hlock hidle) hup
  rw [hmask, State.markersDone_out] at hsend
  exact ⟨_, _, _, _, (State.sendEnum_sends ((s.isHead_markersDone hn).trans hhead) hup hrole').trans hsend, rfl, rfl⟩

end

/-- The markers of a port, and all that they change where no ENUM is due (R111, R115). -/
theorem laneMarkerDue_sends (n : Fin 8) (s : State) (hon : s.unitOn n = true) (hlock : s.bit F.CLK_STAT_PORT_LOCK n = true)
    (hidle : s.pwr.txIdle = false) (hquiet : s.isHead = false ∨ s.portUp n = true) :
    exec (.laneMarkerDue n) s = .next (s.markersDone n) := by
  rw [laneMarkerDue_eq hon hlock hidle, State.markersDone_noEnum n.isLt hquiet]

theorem laneMarkerDue_comesUp (n : Fin 8) (s : State) (hon : s.unitOn n = true) (hlock : s.bit F.CLK_STAT_PORT_LOCK n = true)
    (hidle : s.pwr.txIdle = false) (hhead : s.isHead = true) (hdown : s.portUp n = false) (htx : s.wantTx n ≠ 0)
    (hrec : s.portRec n = false) (hrole : s.getF (F.LNK_PCFG_ROLE n) ∈ [1, 2]) :
    ∃ t ms h m, exec (.laneMarkerDue n) s = .next t ∧ t.portUp n = true ∧ t.bit F.LNK_EVT_UP n = true ∧
      t.out = .packet n (s.wantTx n) h (.enum m) none :: .markers n ms :: s.out ∧ h.typ = 7 ∧ m.hops = 1 := by
  obtain ⟨l, a, h, m, hsent, htyp, hhops⟩ := State.markersDone_enum n.isLt hlock hidle hhead htx hrec hrole
  have hregs : ((s.markersDone n).sendEnum n).regs = (s.markersDone n).regs := by rw [hsent]
  refine ⟨(s.markersDone n).sendEnum n, s.markersDue n, h, m, ?_, ?_, ?_, by rw [hsent], htyp, hhops⟩
  · rw [laneMarkerDue_eq hon hlock hidle, hdown]
    rfl
  · rw [State.portUp, State.getF_of_regs hregs, State.state_markersDone n.isLt htx hrec]
    rfl
  · rw [State.bit, State.getF_of_regs hregs]
    exact State.bit_up_markersDone n.isLt htx hrec hdown

end Sys2Proof.Machine
end

section
/-!
PROOFS. A column of markers received (chapter 06: R112, R113, R115).
-/

namespace Sys2Proof.Machine

/-! ### What a usable column sets -/

section
variable (s : State) (n : Nat)

/-- The port that has taken what its partner's marker says and holds the lanes excluded for skew. -/
def State.markerTold (m : LaneMarker) (skew : Nat) : State :=
  (s.takeMarker n m).setPort n { (s.takeMarker n m).port n with skewMask := skew }

/-- The masks after a column, before a port kept at 1.25 Gbaud goes back to its own rate. -/
def State.columnTaken (m : LaneMarker) (rx skew : Nat) : State :=
  let s3 := (s.markerTold n m skew).setMasks n rx ((s.markerTold n m skew).getF (F.LNK_PSTAT_TXMASK n))
  (s3.setPort n { s3.port n with skewMask := skew }).setB (F.LNK_PSTAT_SKEW n) (skew != 0)

theorem markerReceived_of_reference {s : State} {n : Fin 8} {ms fit : List LaneMarker} {r : LaneMarker}
    (hfit : ms.filter (fun m => s.markerFits n m) = fit) (href : s.reference n fit = some r) :
    exec (.markerReceived n ms) s = .next ((s.columnTaken n r (s.rxAfter n fit r) (s.skewAfter n fit r)).recovOver n) := by
  show execMarkerReceived n ms s = _
  unfold execMarkerReceived
  rw [hfit]
  dsimp only
  rw [href]
  rfl

theorem State.recovOver_inert {s : State} {n : Nat} (h : (s.port n).slow = false ∨ s.flag (F.LNK_PSTAT_PRECOV n) = true) :
    s.recovOver n = s := by
  refine if_neg ?_
  rcases h with h | h <;> simp [h]

/-! ### The fields after a column -/

variable (m : LaneMarker)

theorem State.takeMarker_regs : (s.takeMarker n m).regs = ((((s.setF (F.LNK_PSTAT_PRXMASK n) (m.m1.extractLsb' 0 4).toNat).setF
    (F.LNK_PSTAT_PFWD n) (m.m1.getLsbD 4).toNat).setF (F.LNK_PSTAT_PRECOV n) (m.m1.getLsbD 5).toNat).setF
    (F.LNK_PSTAT_PROLE n) (m.m1.getLsbD 6).toNat).regs := rfl

theorem State.markerTold_regs (skew : Nat) : (s.markerTold n m skew).regs = (s.takeMarker n m).regs := rfl

theorem bool_mod_two (b : Bool) : b.toNat % 2 ^ 1 = b.toNat := Nat.mod_eq_of_lt b.toNat_lt

/-- What a port shows of its partner once it has taken the partner's marker (R112, R115). -/
theorem State.getF_markerTold (skew : Nat) :
    (s.markerTold n m skew).getF (F.LNK_PSTAT_PRXMASK n) = m.m1.toNat % 16 ∧
    (s.markerTold n m skew).getF (F.LNK_PSTAT_PFWD n) = (m.m1.getLsbD 4).toNat ∧
    (s.markerTold n m skew).getF (F.LNK_PSTAT_PRECOV n) = (m.m1.getLsbD 5).toNat ∧
    (s.markerTold n m skew).getF (F.LNK_PSTAT_PROLE n) = (m.m1.getLsbD 6).toNat := by
  have hregs := (s.markerTold_regs n m skew).trans (s.takeMarker_regs n m)
  have happart : ((F.LNK_PSTAT_PFWD n).apart (F.LNK_PSTAT_PRXMASK n) = true ∧ (F.LNK_PSTAT_PRECOV n).apart (F.LNK_PSTAT_PRXMASK n) = true ∧
      (F.LNK_PSTAT_PROLE n).apart (F.LNK_PSTAT_PRXMASK n) = true) ∧ ((F.LNK_PSTAT_PRECOV n).apart (F.LNK_PSTAT_PFWD n) = true ∧
      (F.LNK_PSTAT_PROLE n).apart (F.LNK_PSTAT_PFWD n) = true) ∧ (F.LNK_PSTAT_PROLE n).apart (F.LNK_PSTAT_PRECOV n) = true := by
    simp [Fld.apart, F.LNK_PSTAT_PFWD, F.LNK_PSTAT_PRXMASK, F.LNK_PSTAT_PRECOV, F.LNK_PSTAT_PROLE]
  obtain ⟨⟨hfwd, hrecov, hrole⟩, ⟨hrecovFwd, hroleFwd⟩, hroleRecov⟩ := happart
  have hprx : (F.LNK_PSTAT_PRXMASK n).lo + (F.LNK_PSTAT_PRXMASK n).width ≤ 32 := by simp [F.LNK_PSTAT_PRXMASK]
  have hpfwd : (F.LNK_PSTAT_PFWD n).lo + (F.LNK_PSTAT_PFWD n).width ≤ 32 := by simp [F.LNK_PSTAT_PFWD]
  have hprec : (F.LNK_PSTAT_PRECOV n).lo + (F.LNK_PSTAT_PRECOV n).width ≤ 32 := by simp [F.LNK_PSTAT_PRECOV]
  have hprole : (F.LNK_PSTAT_PROLE n).lo + (F.LNK_PSTAT_PROLE n).width ≤ 32 := by simp [F.LNK_PSTAT_PROLE]
  refine ⟨?_, ?_, ?_, ?_⟩
  · rw [State.getF_of_regs hregs, State.getF_setF_apart _ _ _ _ hrole hprx, State.getF_setF_apart _ _ _ _ hrecov hprx,
      State.getF_setF_apart _ _ _ _ hfwd hprx, State.getF_setF_self _ (F.LNK_PSTAT_PRXMASK n) _ hprx]
    simp [F.LNK_PSTAT_PRXMASK]
  · rw [State.getF_of_regs hregs, State.getF_setF_apart _ _ _ _ hroleFwd hpfwd, State.getF_setF_apart _ _ _ _ hrecovFwd hpfwd,
      State.getF_setF_self _ (F.LNK_PSTAT_PFWD n) _ hpfwd]
    exact bool_mod_two _
  · rw [State.getF_of_regs hregs, State.getF_setF_apart _ _ _ _ hroleRecov hprec,
      State.getF_setF_self _ (F.LNK_PSTAT_PRECOV n) _ hprec]
    exact bool_mod_two _
  · rw [State.getF_of_regs hregs, State.getF_setF_self _ (F.LNK_PSTAT_PROLE n) _ hprole]
    exact bool_mod_two _

theorem State.columnTaken_regs (rx skew : Nat) : (s.columnTaken n m rx skew).regs = (((s.markerTold n m skew).setMasks n rx
    ((s.markerTold n m skew).getF (F.LNK_PSTAT_TXMASK n))).setF (F.LNK_PSTAT_SKEW n) (skew != 0).toNat).regs := rfl

theorem State.getF_columnTaken_skew (rx skew : Nat) :
    (s.columnTaken n m rx skew).getF (F.LNK_PSTAT_SKEW n) = (skew != 0).toNat := by
  rw [State.getF_of_regs (s.columnTaken_regs n m rx skew),
    State.getF_setF_self _ (F.LNK_PSTAT_SKEW n) _ (by simp [F.LNK_PSTAT_SKEW])]
  exact bool_mod_two _

theorem State.getF_columnTaken (rx skew : Nat) {f : Fld} (hskew : (F.LNK_PSTAT_SKEW n).apart f = true) (hw : f.lo + f.width ≤ 32) :
    (s.columnTaken n m rx skew).getF f =
      ((s.markerTold n m skew).setMasks n rx ((s.markerTold n m skew).getF (F.LNK_PSTAT_TXMASK n))).getF f := by
  rw [State.getF_of_regs (s.columnTaken_regs n m rx skew), State.getF_setF_apart _ _ _ _ hskew hw]

variable {n} (hn : n < 8)
include hn

theorem State.getF_columnTaken_rxmask (rx skew : Nat) : (s.columnTaken n m rx skew).getF (F.LNK_PSTAT_RXMASK n) = rx % 16 := by
  rw [s.getF_columnTaken n m rx skew (by simp [Fld.apart, F.LNK_PSTAT_SKEW, F.LNK_PSTAT_RXMASK]) (by simp [F.LNK_PSTAT_RXMASK]),
    State.getF_setMasks_rxmask _ hn]

/-- What the partner's marker told stays where a lane is in use after the column (R115). -/
theorem State.getF_columnTaken_told {rx : Nat} (skew : Nat) (hrx : rx ≠ 0) :
    (s.columnTaken n m rx skew).getF (F.LNK_PSTAT_PRXMASK n) = m.m1.toNat % 16 ∧
    (s.columnTaken n m rx skew).getF (F.LNK_PSTAT_PFWD n) = (m.m1.getLsbD 4).toNat ∧
    (s.columnTaken n m rx skew).getF (F.LNK_PSTAT_PRECOV n) = (m.m1.getLsbD 5).toNat ∧
    (s.columnTaken n m rx skew).getF (F.LNK_PSTAT_PROLE n) = (m.m1.getLsbD 6).toNat := by
  have htold {f : Fld} (hf : f.addr = A.LNK_PSTAT n) (hw : f.lo + f.width ≤ 32) (hskew : (F.LNK_PSTAT_SKEW n).apart f = true)
      (hmasks : (F.LNK_PSTAT_STATE n).apart f = true ∧ (F.LNK_PSTAT_RXMASK n).apart f = true ∧ (F.LNK_PSTAT_TXMASK n).apart f = true) :
      (s.columnTaken n m rx skew).getF f = (s.markerTold n m skew).getF f := by
    rw [s.getF_columnTaken n m rx skew hskew hw, State.getF_setMasks_told _ hn _ hrx hf hw hmasks]
  obtain ⟨hprx, hpfwd, hprec, hprole⟩ := s.getF_markerTold n m skew
  refine ⟨(htold rfl ?_ ?_ ?_).trans hprx, (htold rfl ?_ ?_ ?_).trans hpfwd, (htold rfl ?_ ?_ ?_).trans hprec,
    (htold rfl ?_ ?_ ?_).trans hprole⟩ <;>
  simp [Fld.apart, F.LNK_PSTAT_PFWD, F.LNK_PSTAT_PRXMASK, F.LNK_PSTAT_PRECOV, F.LNK_PSTAT_PROLE, F.LNK_PSTAT_STATE,
    F.LNK_PSTAT_RXMASK, F.LNK_PSTAT_TXMASK, F.LNK_PSTAT_SKEW]

omit hn in
/-- The port after a column: the partner has been heard, its TXMASK is held, and its rate is as it was (R112, R115). -/
theorem State.port_columnTaken {rx : Nat} (skew : Nat) (hrx : rx ≠ 0) :
    ((s.columnTaken n m rx skew).port n).prxSeen = true ∧
    ((s.columnTaken n m rx skew).port n).partnerTx = m.m0.toNat / 4 % 16 ∧
    ((s.columnTaken n m rx skew).port n).slow = (s.port n).slow := by
  let told := s.markerTold n m skew
  have hport : (s.columnTaken n m rx skew).port n =
      { (told.setMasks n rx (told.getF (F.LNK_PSTAT_TXMASK n))).port n with skewMask := skew } := State.port_setPort_self _ _ _
  have htake : (s.takeMarker n m).port n = { s.port n with prxSeen := true, partnerTx := (m.m0.extractLsb' 2 4).toNat } :=
    State.port_setPort_self _ _ _
  have htold : told.port n = { (s.takeMarker n m).port n with skewMask := skew } := State.port_setPort_self _ _ _
  have hkept : ((told.setMasks n rx (told.getF (F.LNK_PSTAT_TXMASK n))).port n).settled = (told.port n).settled :=
    told.port_setMasks n _ hrx
  rw [htold, htake] at hkept
  simp only [PortX.settled, PortX.mk.injEq] at hkept
  obtain ⟨hseen, htx, -, -, -, -, hslow, -⟩ := hkept
  rw [hport]
  refine ⟨hseen, htx.trans ?_, hslow⟩
  rw [BitVec.extractLsb'_toNat, Nat.shiftRight_eq_div_pow]

end

end Sys2Proof.Machine
end

section
/-!
PROOFS. Which lanes a column takes into the RXMASK, and the settling of the lane markers (chapter 06: R111 to R116).
-/

namespace Sys2Proof.Machine

section
variable {s : State} {n : Fin 8} {ms fit : List LaneMarker} {r : LaneMarker}

/-- A column by which a lane is in use: what it sets (R112, R113, R115). -/
theorem markerReceived_sets (hfit : ms.filter (fun m => s.markerFits n m) = fit) (href : s.reference n fit = some r)
    (hslow : (s.port n).slow = false ∨ r.m1.getLsbD 5 = true) (hrx : s.rxAfter n fit r ≠ 0) :
    ∃ t, exec (.markerReceived n ms) s = .next t ∧ (t.getF (F.LNK_PSTAT_PRXMASK n) = r.m1.toNat % 16 ∧
      t.getF (F.LNK_PSTAT_PFWD n) = (r.m1.getLsbD 4).toNat ∧ t.getF (F.LNK_PSTAT_PRECOV n) = (r.m1.getLsbD 5).toNat ∧
      t.getF (F.LNK_PSTAT_PROLE n) = (r.m1.getLsbD 6).toNat) ∧ t.getF (F.LNK_PSTAT_RXMASK n) = s.rxAfter n fit r ∧
      t.getF (F.LNK_PSTAT_SKEW n) = (s.skewAfter n fit r != 0).toNat ∧ (t.port n).prxSeen = true ∧
      (t.port n).partnerTx = r.m0.toNat / 4 % 16 := by
  have htold := s.getF_columnTaken_told r n.isLt (s.skewAfter n fit r) hrx
  obtain ⟨hseen, htx, hrate⟩ := s.port_columnTaken (n := n) r (s.skewAfter n fit r) hrx
  have hinert := State.recovOver_inert (s := s.columnTaken n r (s.rxAfter n fit r) (s.skewAfter n fit r)) (n := n) <| by
    refine hslow.imp hrate.trans fun hrecov => ?_
    rw [State.flag, htold.2.2.1, hrecov]
    rfl
  refine ⟨_, (markerReceived_of_reference hfit href).trans (congrArg Host.Outcome.next hinert), htold, ?_, ?_, hseen, htx⟩
  · rw [State.getF_columnTaken_rxmask _ _ n.isLt]
    exact Nat.mod_eq_of_lt (laneMask_lt _)
  · exact s.getF_columnTaken_skew n r _ _

/-! ### The lanes taken (R113) -/

/-- A lane with a marker that fits is in the RXMASK exactly when its marker passes. -/
theorem State.testBit_rxAfter {m : LaneMarker} (hfits : s.markerFits n m = true)
    (hfirst : fit.find? (fun x => x.lane.val == m.lane.val) = some m) :
    (s.rxAfter n fit r).testBit m.lane = markerPasses fit r m := by
  have hlock : (s.getF (F.LAN_STATE (4 * n + m.lane)) == 5) = true := by
    simp only [State.markerFits, Bool.and_eq_true] at hfits
    exact hfits.1.1
  rw [State.rxAfter, testBit_laneMask, hfirst, hlock]
  rfl

/-- A lane whose marker does not pass is one excluded for skew. -/
theorem State.testBit_skewAfter {m : LaneMarker} (hfits : s.markerFits n m = true)
    (hfirst : fit.find? (fun x => x.lane.val == m.lane.val) = some m) :
    (s.skewAfter n fit r).testBit m.lane = !(markerPasses fit r m) := by
  have hlock : (s.getF (F.LAN_STATE (4 * n + m.lane)) == 5) = true := by
    simp only [State.markerFits, Bool.and_eq_true] at hfits
    exact hfits.1.1
  rw [State.skewAfter, testBit_laneMask, hfirst, hlock]
  rfl

theorem ne_zero_of_testBit {a k : Nat} (h : a.testBit k = true) : a ≠ 0 := by
  rintro rfl
  simp at h

end

/-! ### One marker -/

section
variable (s : State) (n : Nat) (m : LaneMarker)

theorem State.reference_single : s.reference n [m] = some m := by
  unfold State.reference
  have hpool : (if (([m].filter fun x => (s.getF (F.LNK_PSTAT_RXMASK n)).testBit x.lane.val).isEmpty) then [m]
      else [m].filter fun x => (s.getF (F.LNK_PSTAT_RXMASK n)).testBit x.lane.val) = [m] := by
    cases h : (s.getF (F.LNK_PSTAT_RXMASK n)).testBit m.lane.val <;> simp [h]
  dsimp only
  rw [hpool]
  simp [earliest]

theorem markerPasses_single : markerPasses [m] m m = true := by simp [markerPasses, earliest]

end

/-! ### Two markers on two lanes -/

section
variable (s : State) (n : Nat) {m p : LaneMarker}

/-- Of two markers with one COUNT either may be the reference. -/
theorem State.reference_pair (hcount : markerCount m = markerCount p) :
    ∃ r, s.reference n [m, p] = some r ∧ markerCount r = markerCount m := by
  unfold State.reference
  cases hm : (s.getF (F.LNK_PSTAT_RXMASK n)).testBit m.lane.val <;>
    cases hp : (s.getF (F.LNK_PSTAT_RXMASK n)).testBit p.lane.val
  case true.false => exact ⟨m, by simp [hm, hp, earliest], rfl⟩
  case false.true => exact ⟨p, by simp [hm, hp, earliest], hcount.symm⟩
  all_goals
    by_cases hskew : m.skew ≤ p.skew
    · exact ⟨m, by simp [hm, hp, earliest, hcount, hskew], rfl⟩
    · exact ⟨p, by simp [hm, hp, earliest, hcount, hskew], hcount.symm⟩

/-- The lane in use is the reference where the other is not in use. -/
theorem State.reference_used (hm : (s.getF (F.LNK_PSTAT_RXMASK n)).testBit m.lane = true)
    (hp : (s.getF (F.LNK_PSTAT_RXMASK n)).testBit p.lane = false) : s.reference n [m, p] = some m := by
  simp [State.reference, hm, hp, earliest]

variable {r : LaneMarker}

/-- Of two markers with one COUNT, one more than 64 characters behind the other does not pass (R113). -/
theorem markerPasses_skewed (hcount : markerCount m = markerCount p) (hr : markerCount r = markerCount m)
    (hskew : m.skew + 64 < p.skew) : markerPasses [m, p] r m = true ∧ markerPasses [m, p] r p = false := by
  have hle : m.skew ≤ p.skew := by omega
  constructor
  · simp [markerPasses, hr, hcount, earliest, hle]
  · simp [markerPasses, hr, hcount, earliest, hle, hskew]

/-- A marker of another COUNT than the reference's does not pass (R113). -/
theorem markerPasses_counted (hcount : markerCount m ≠ markerCount p) :
    markerPasses [m, p] m m = true ∧ markerPasses [m, p] m p = false := by
  constructor
  · simp [markerPasses, hcount.symm, earliest]
  · simp [markerPasses, hcount.symm]

end

section
variable {s : State} {n : Fin 8} {m p r : LaneMarker}

/-- A lane whose marker does not pass beside one that does is left out, with SKEW set (R113). -/
theorem markerReceived_leavesOut (hm : s.markerFits n m = true) (hp : s.markerFits n p = true) (hlane : m.lane ≠ p.lane)
    (hslow : (s.port n).slow = false) (href : s.reference n [m, p] = some r)
    (hpasses : markerPasses [m, p] r m = true ∧ markerPasses [m, p] r p = false) :
    ∃ t, exec (.markerReceived n [m, p]) s = .next t ∧ (t.getF (F.LNK_PSTAT_RXMASK n)).testBit p.lane = false ∧
      (t.getF (F.LNK_PSTAT_RXMASK n)).testBit m.lane = true ∧ t.getF (F.LNK_PSTAT_SKEW n) = 1 := by
  have hfirst : [m, p].find? (fun x => x.lane.val == m.lane.val) = some m := by simp
  have hsecond : [m, p].find? (fun x => x.lane.val == p.lane.val) = some p := by
    have hne : m.lane.val ≠ p.lane.val := fun h => hlane (Fin.ext h)
    simp [hne]
  have hin : (s.rxAfter n [m, p] r).testBit m.lane = true := (State.testBit_rxAfter hm hfirst).trans hpasses.1
  have hout : (s.rxAfter n [m, p] r).testBit p.lane = false := (State.testBit_rxAfter hp hsecond).trans hpasses.2
  have hskew : (s.skewAfter n [m, p] r).testBit p.lane = true := by rw [State.testBit_skewAfter hp hsecond, hpasses.2]; rfl
  have hfit : [m, p].filter (fun x => s.markerFits n x) = [m, p] := by simp [hm, hp]
  obtain ⟨t, hexec, -, hmask, hsk, -⟩ := markerReceived_sets hfit href (.inl hslow) (ne_zero_of_testBit hin)
  refine ⟨t, hexec, by rw [hmask, hout], by rw [hmask, hin], ?_⟩
  rw [hsk, bne_iff_ne.2 (ne_zero_of_testBit hskew)]
  rfl

end

/-- Settles O23. -/
theorem laneMarkersCarryMasks : Obligations.LaneMarkersCarryMasks := by
  refine ⟨fun n s hon hlock hidle hquiet => ?_, fun n s hon hlock hidle hhead hdown htx hrec hrole => ?_,
    fun n m s hfits hslow => ?_, fun n m p s hm hp hlane hslow hcount hskew => ?_,
    fun n m p s hm hp hlane hslow hcount hused hfree => ?_, fun n ms s hnone => ?_⟩
  · exact ⟨s.markersDone n, s.markersDue n, laneMarkerDue_sends n s hon hlock hidle hquiet, s.markersDone_out n, rfl,
      s.markersDue_carry n, s.markCount_markersDone n, s.rxmask_markersDone n.isLt, s.txmask_markersDone n.isLt⟩
  · exact laneMarkerDue_comesUp n s hon hlock hidle hhead hdown htx hrec hrole
  · have hin : (s.rxAfter n [m] m).testBit m.lane = true :=
      (State.testBit_rxAfter hfits (by simp)).trans (markerPasses_single m)
    obtain ⟨t, hexec, ⟨hprx, hpfwd, hprec, hprole⟩, hmask, -, hseen, htx⟩ :=
      markerReceived_sets (ms := [m]) (by simp [hfits]) (s.reference_single n m) hslow (ne_zero_of_testBit hin)
    exact ⟨t, hexec, hprx, hpfwd, hprec, hprole, by rw [hmask, hin], hseen, htx⟩
  · obtain ⟨r, href, hr⟩ := s.reference_pair n hcount
    exact markerReceived_leavesOut hm hp hlane hslow href (markerPasses_skewed hcount hr hskew)
  · exact markerReceived_leavesOut hm hp hlane hslow (s.reference_used n hused hfree) (markerPasses_counted hcount)
  · show execMarkerReceived n ms s = _
    unfold execMarkerReceived
    rw [hnone]
    rfl

end Sys2Proof.Machine
end

section
/-!
PROOFS. Register accesses that come in packets and in management frames (chapter 06: R121; chapter 17: R380, R381).
-/

namespace Sys2Proof.Machine

/-! ### CTRL (R121) -/

section
variable (s : State)

/-- The keeper's write of a word. -/
def RegWrite.keeperAccess (w : RegWrite) : MemAccess := ⟨.keeper, true, w.addr, .b32, w.value.setWidth 64, .good⟩

theorem State.keeperWrites_cons (w : RegWrite) (l : List RegWrite) :
    s.keeperWrites (w :: l) = (s.access w.keeperAccess).keeperWrites l := rfl

variable {s}

/-- A CTRL packet on a device that runs with its plan loaded is the keeper's writes (R121). -/
theorem exec_ctrlReceived_running (l : List RegWrite) (hrun : s.running = true) (hload : s.boot.loaded = true) :
    exec (.ctrlReceived l) s = .next (s.keeperWrites l) := by
  have hcond : (s.running && s.boot.loaded) = true := by rw [hrun, hload]; rfl
  exact congrArg Host.Outcome.next (if_pos hcond)

end

/-! ### The two status registers (R381) -/

/-- A read of a boot status register by the service agent shows what it holds. -/
theorem State.busRead_status (s : State) {a : Nat} (ha : a = A.BOOT_STAT ∨ a = A.BOOT_FAULT) :
    s.busRead .service a = s.busOk (s.getW a) := by
  have hvalue : s.readable .service a = s.getW a &&& ~~~ 0#32 := by rcases ha with rfl | rfl <;> rfl
  have hread : s.busRead .service a = s.busOk (s.readable .service a) := by rcases ha with rfl | rfl <;> rfl
  rw [hread, hvalue, BitVec.not_zero, BitVec.and_allOnes]

/-- Outside a session the service agent's read of a status register is answered with its value. -/
theorem managementFrame_status {s : State} {a : Word} (hrun : s.running = true)
    (ha : a.toNat = A.BOOT_STAT ∨ a.toNat = A.BOOT_FAULT) :
    exec (.managementFrame none (.read a)) s = .next ((s.busOk (s.getW a.toNat)).svcAnswer 0) := by
  have hstatus : isStatusAddr a = true := by simpa [isStatusAddr] using ha
  have hreg : isRegAddr a.toNat = true ∧ a.toNat % 4 = 0 := by rcases ha with h | h <;> rw [h] <;> decide
  have haccess : s.access ⟨.service, false, a, .b32, 0, .good⟩ = s.busOk (s.getW a.toNat) := by
    simp [State.access, hreg.1, hreg.2, s.busRead_status ha]
  show execManagementFrame none (.read a) s = _
  have hanswer : s.openOp (.read a) = (s.busOk (s.getW a.toNat)).svcAnswer 0 := by
    rw [← haccess]
    exact if_pos (by rw [hstatus]; rfl)
  simp [execManagementFrame, hrun, hanswer]

/-- Outside a session any other read goes unanswered, where the plan does not open it (R381). -/
theorem managementFrame_closed {s : State} {a : Word} (hrun : s.running = true) (hstat : a.toNat ≠ A.BOOT_STAT)
    (hfault : a.toNat ≠ A.BOOT_FAULT) (hclosed : s.plan.sec.openRead = false) :
    exec (.managementFrame none (.read a)) s = .next s := by
  show execManagementFrame none (.read a) s = _
  simp [execManagementFrame, hrun, State.openOp, isStatusAddr, hstat, hfault, hclosed]

/-! ### Frames in a session (R380) -/

section
variable {s : State} {x : Session} {f : SessionFrame}

theorem State.running_setSessions (s : State) (l : List Session) : (s.setSessions l).running = s.running := by
  have hlock : (s.setSessions l).flag F.CLK_STAT_SYS_LOCK = s.flag F.CLK_STAT_SYS_LOCK :=
    congrArg (fun v => v != 0) (State.getF_setF_apart { s with sec := { s.sec with sessions := l } } F.SEC_STAT_SESSIONS
      F.CLK_STAT_SYS_LOCK l.length (by decide) (by decide))
  rw [State.running, hlock]
  rfl

/-- A frame of the one session that is open is looked at as that session's. -/
theorem managementFrame_session (op : MgmtOp) (hrun : s.running = true) (hfuse : s.boot.fuseBad = false)
    (hopen : s.sec.sessions = [x]) (hid : f.session = x.id) :
    exec (.managementFrame (some f) op) s = .next (s.sessionFrame x f op) := by
  show execManagementFrame (some f) op s = _
  simp [execManagementFrame, hrun, hopen, hid, hfuse]

/-- A frame with a right tag and a fresh counter takes its counter and acts (R380). -/
theorem State.sessionFrame_accepted (op : MgmtOp) (hopen : s.sec.sessions = [x]) (htag : x.tagOk f = true)
    (hcounter : x.counterOk f.counter.toNat = true) :
    s.sessionFrame x f op = (s.setSessions [x.accept f.counter.toNat]).sessionOp x op := by
  simp [State.sessionFrame, htag, hcounter, hopen]

theorem State.sessionFrame_refused (op : MgmtOp) (hbad : x.tagOk f = false ∨ x.counterOk f.counter.toNat = false) :
    s.sessionFrame x f op = s.sessFail := by
  refine if_neg ?_
  rcases hbad with h | h <;> simp [h]

theorem State.sessFail_onlyRegs (s : State) : s.onlyRegs s.sessFail [A.SEC_CNT0, A.SEC_EVT] :=
  ((State.onlyRegs.refl s _).bump F.SEC_CNT0_SESS_FAIL (by decide)).raise F.SEC_EVT_SESS_FAIL (by decide)

theorem State.sessFail_event (s : State) : s.sessFail.getF F.SEC_EVT_SESS_FAIL = 1 :=
  State.getF_raise_self _ _ (by decide) (by decide)

end

/-! ### Relayed traffic (R381) -/

/-- A relayed write for this Tile acts as the service agent's, and is answered to the Head that asked. -/
theorem mgmtRelayed_write {s : State} (src : BitVec 10) {dst : BitVec 10} (a v : Word) (hrun : s.running = true)
    (htile : s.isHead = false) (hown : s.isOwnDst dst = true) : exec (.mgmtRelayed src dst (.write a v)) s =
      .next ((s.access ⟨.service, true, a, .b32, v.setWidth 64, .good⟩).relayAnswer src) := by
  show execMgmtRelayed src dst (.write a v) s = _
  simp [execMgmtRelayed, hrun, State.relayed, htile, hown, State.relayedAccess]

/-- An answer for this Head goes to its service port. -/
theorem mgmtRelayed_answer {s : State} (src : BitVec 10) (data : Word) (error : Bool) (hrun : s.running = true)
    (hhead : s.isHead = true) :
    exec (.mgmtRelayed src s.srcId (.answer data error)) s = .next (s.emit (.svcRelay src data error)) := by
  show execMgmtRelayed src s.srcId (.answer data error) s = _
  simp [execMgmtRelayed, hrun, State.relayed, hhead]

/-- Settles O28. That a CTRL write acts as the keeper (log entry 48) and how answers and relays are read (log entry 16) is
the model's. -/
theorem accessesComeByPacketAndFrame : Obligations.AccessesComeByPacketAndFrame := by
  refine ⟨fun w l s hrun hload => ?_, fun s => ?_, fun a s hrun ha => ?_, fun a s hrun hstat hfault hclosed => ?_,
    fun x f a v s hrun hfuse hopen hid hmanage htag hcounter => ?_, fun x f op s hrun hfuse hopen hid hbad => ?_,
    fun src dst a v s hrun htile hown => ?_, fun src data error s hrun hhead => ?_⟩
  · refine ⟨_, exec_registerWrite_running .keeper w.addr .b32 w.value hrun, fun hrun' hload' => ?_⟩
    rw [exec_ctrlReceived_running _ hrun hload, exec_ctrlReceived_running l hrun' hload', State.keeperWrites_cons]
    rfl
  · exact congrArg Host.Outcome.next (ite_self s)
  · refine ⟨_, managementFrame_status hrun ha, ?_, rfl⟩
    simp [State.svcAnswer, State.emit, State.busOk]
  · exact managementFrame_closed hrun hstat hfault hclosed
  · refine ⟨_, exec_registerWrite_running .service a .b32 v ((s.running_setSessions _).trans hrun), ?_⟩
    rw [managementFrame_session _ hrun hfuse hopen hid, State.sessionFrame_accepted _ hopen htag hcounter, State.sessionOp,
      if_pos hmanage]
  · refine ⟨s.sessFail, ?_, s.sessFail_onlyRegs, s.sessFail_event⟩
    rw [managementFrame_session op hrun hfuse hopen hid, State.sessionFrame_refused op hbad]
  · exact ⟨_, exec_registerWrite_running .service a .b32 v hrun, mgmtRelayed_write src a v hrun htile hown⟩
  · exact ⟨_, mgmtRelayed_answer src data error hrun hhead, rfl⟩

end Sys2Proof.Machine
end

section
/-!
PROOFS. The slots of the schedule and late packets (chapter 06: R128, R132).
-/

namespace Sys2Proof.Machine

section
variable {s : State} {e : SchedEntry}

/-! ### The slot of a slice or of an own packet -/

/-- A packet put behind those that wait on a port. -/
def State.waiting (s : State) (n : Nat) (p : OutPkt) : State :=
  s.setPort n { s.port n with wait := (s.port n).wait ++ [p] }

theorem State.port_waiting (n : Nat) (p : OutPkt) : (s.waiting n p).port n = { s.port n with wait := (s.port n).wait ++ [p] } :=
  State.port_setPort_self _ _ _

theorem State.portFree_waiting (n : Nat) (p : OutPkt) : (s.waiting n p).portFree n = s.portFree n := by
  rw [State.portFree, State.queueEmpty, State.port_waiting]
  rfl

/-- A slot of the variant in force at a Head that may send: what it puts in the queue of a port that is not free stays there. -/
theorem scheduledPacketDue_waits {p : OutPkt} {u : State} (hhead : s.isHead = true) (hrel : s.released = true)
    (hport : e.port < 8) (hvar : e.variant = s.getF F.GOV_STAT_VARIANT) (hdue : s.slotDue e = u.waiting e.port p)
    (hbusy : u.portFree e.port = false) : exec (.scheduledPacketDue e) s = .next (u.waiting e.port p) := by
  have hcond : (s.isHead && s.released && decide (e.port < 8) && e.variant == s.getF F.GOV_STAT_VARIANT) = true := by
    simp [hhead, hrel, hport, hvar]
  refine (if_pos hcond).trans (congrArg Host.Outcome.next ?_)
  rw [hdue, State.pumpPort_of_busy (by rw [State.portFree_waiting, hbusy])]

/-- The packet of a slice in its slot (R128). -/
def State.slicePacket (s : State) (e : SchedEntry) : OutPkt :=
  { ports := [e.port], hdr := s.sliceHdr e (s.facetImage e.facet), body := .slice e.facet e.dst e.slice, due := s.now }

/-- The first own packet of a slot's type takes the slot, numbered for the pair where the slot is the pair's (R128). -/
theorem State.slotOwn_takes {p q : OutPkt} {rest : List OutPkt} (hown : s.lnk.own = p :: rest)
    (htyp : p.hdr.typ = BitVec.ofNat 4 e.typ) (hports : p.ports = [e.port])
    (hmay : (!p.hdr.hop && !e.pair && !s.ownStreamsOk) = false)
    (hnum : (if p.hdr.hop || p.numbered then (p, s) else if e.pair then (s.pairNumber e p, s) else s.number p) = (q, s))
    (hq : q.ports = [e.port]) :
    s.slotOwn e = ({ s with lnk := { s.lnk with own := rest } } : State).waiting e.port { q with due := s.now } := by
  have htake : takeOwn (BitVec.ofNat 4 e.typ) e.port s.lnk.own = some ([], p, rest) := by
    rw [hown]
    exact if_pos ⟨htyp, by simp [hports]⟩
  unfold State.slotOwn
  dsimp only
  rw [htake]
  dsimp only
  rw [hmay, if_neg Bool.false_ne_true, hnum]
  simp [hq, State.waiting, State.port]

theorem State.slotDue_own (hlow : 4 ≤ e.typ) (hchain : e.typ ≠ 9) (hmute : e.pair = true → s.mute e.port = false) :
    s.slotDue e = s.slotOwn e := by
  have hpair : ¬(e.pair && s.mute e.port) = true := by
    cases h : e.pair
    · simp
    · simp [hmute h]
  have hheld : ¬((e.typ = 3 ∨ e.typ = 9) ∧ s.failedHead = true) := fun h => by omega
  rw [State.slotDue, if_neg (by omega), if_neg (by omega), if_neg hheld, if_neg hpair]

end

/-- A late packet that is no slice leaves its queue, counted and reported (R132). -/
theorem exec_txPacketLate_other {s : State} {n : Fin 8} {p : OutPkt} {rest : List OutPkt} (hwait : (s.port n).wait = p :: rest)
    (hbody : ∀ f t k, p.body ≠ .slice f t k) : exec (.txPacketLate n) s = .next (s.lateDropped n rest) := by
  rw [exec_txPacketLate_cons hwait]
  split
  · next h => exact absurd h (hbody _ _ _)
  · rfl

theorem State.lateDropped_regsKept (s : State) (n : Nat) (rest : List OutPkt) :
    s.regsKept (s.lateDropped n rest) [A.LNK_TXSTAT, A.LNK_EVT] :=
  (((State.regsKept.refl s _).congr (u := s.setPort n { s.port n with wait := rest }) rfl).bump F.LNK_TXSTAT_LATE
    (by decide)).raise F.LNK_EVT_LATE (by decide)

/-! ### What each slot does -/

theorem scheduledPacketDue_queuesSlice (e : SchedEntry) (s : State) (hhead : s.isHead = true) (hrel : s.released = true)
    (hport : e.port < 8) (hvar : e.variant = s.getF F.GOV_STAT_VARIANT) (htyp : e.typ = 1) (hmute : s.mute e.port = false)
    (hheld : s.sliceHeld e.port e.facet = false) (hbusy : s.portFree e.port = false) :
    exec (.scheduledPacketDue e) s = .next (s.waiting e.port (s.slicePacket e)) :=
  scheduledPacketDue_waits hhead hrel hport hvar (State.slotDue_slice htyp hmute hheld) hbusy

theorem scheduledPacketDue_queuesOwn (e : SchedEntry) (p q : OutPkt) (rest : List OutPkt) (s : State) (hhead : s.isHead = true)
    (hrel : s.released = true) (hport : e.port < 8) (hvar : e.variant = s.getF F.GOV_STAT_VARIANT) (hlow : 4 ≤ e.typ)
    (hchain : e.typ ≠ 9) (hmute : e.pair = true → s.mute e.port = false) (hown : s.lnk.own = p :: rest)
    (htyp : p.hdr.typ = BitVec.ofNat 4 e.typ) (hports : p.ports = [e.port])
    (hmay : (!p.hdr.hop && !e.pair && !s.ownStreamsOk) = false)
    (hnum : (if p.hdr.hop || p.numbered then (p, s) else if e.pair then (s.pairNumber e p, s) else s.number p) = (q, s))
    (hq : q.ports = [e.port]) (hbusy : s.portFree e.port = false) : exec (.scheduledPacketDue e) s =
      .next (({ s with lnk := { s.lnk with own := rest } } : State).waiting e.port { q with due := s.now }) := by
  refine scheduledPacketDue_waits hhead hrel hport hvar ?_ hbusy
  rw [State.slotDue_own hlow hchain hmute, State.slotOwn_takes hown htyp hports hmay hnum hq]

theorem scheduledPacketDue_otherVariant (e : SchedEntry) (s : State) (hvar : e.variant ≠ s.getF F.GOV_STAT_VARIANT) :
    exec (.scheduledPacketDue e) s = .next s := by
  refine if_neg ?_
  simp [hvar]

end Sys2Proof.Machine
end

section
/-!
PROOFS. The recovery probe of a port, from its start to its end (chapter 06: R115, R140).
-/

namespace Sys2Proof.Machine

/-! ### The lanes that acquire again -/

section
variable (s : State) (n : Nat)

/-- A lane that sees a signal acquires. -/
def State.laneReacquired (s : State) (m : Nat) : State := if 2 ≤ s.getF (F.LAN_STATE m) then s.acquire m else s

def State.lanesReacquired : State := s.forEach (unitLanes n) fun m t => t.laneReacquired m

theorem State.reacquire_eq : s.reacquire n = (s.lanesReacquired n).setMasks n 0 0 := rfl

theorem State.getF_acquire_below {f : Fld} (m : Nat) (hf : f.addr < 0x40080000) (hw : f.lo + f.width ≤ 32) :
    (s.acquire m).getF f = s.getF f := by
  have happart (g : Fld) (hg : 0x40080000 ≤ g.addr) : g.apart f = true := Fld.apart_of_addr_ne (by omega)
  have hstate := happart (F.LAN_STATE m) (by simp only [F.LAN_STATE]; omega)
  have hpeak := happart (F.LAN_CFG_PEAK m) (by simp only [F.LAN_CFG_PEAK]; omega)
  have hadapt := happart (F.LAN_CFG_ADAPT m) (by simp only [F.LAN_CFG_ADAPT]; omega)
  rw [State.acquire, State.setB, State.getF_setF_apart _ _ _ _ hadapt hw, State.getF_setF_apart _ _ _ _ hpeak hw,
    State.getF_setF_apart _ _ _ _ hstate hw]

theorem State.getF_laneReacquired_below {f : Fld} (m : Nat) (hf : f.addr < 0x40080000) (hw : f.lo + f.width ≤ 32) :
    (s.laneReacquired m).getF f = s.getF f := State.getF_ite f (s.getF_acquire_below m hf hw) rfl

theorem State.recovering_lanesReacquired : (s.lanesReacquired n).recovering = s.recovering :=
  congrArg (fun v => v != 0) (s.forEach_same (State.getF · F.BOOT_STAT_RECOVERY) (unitLanes n) fun m t =>
    t.getF_laneReacquired_below m (by decide) (by decide))

theorem State.port_lanesReacquired : (s.lanesReacquired n).port n = s.port n :=
  s.forEach_same (State.port · n) (unitLanes n) fun m t => State.port_congr n <| by
    unfold State.laneReacquired
    split
    · exact congrArg LnkState.ports (t.acquire_lnk m)
    · rfl

variable {s n} {m : Nat}

/-- A lane acquires by its own step (R94). -/
theorem State.getF_laneReacquired_self (hm : m < 49) :
    (s.laneReacquired m).getF (F.LAN_STATE m) = if 2 ≤ s.getF (F.LAN_STATE m) then 2 else s.getF (F.LAN_STATE m) := by
  unfold State.laneReacquired
  split
  · exact (s.getF_acquire ⟨m, hm⟩).1
  · rfl

theorem State.getF_laneReacquired_other {k : Nat} (hm : m < 49) (hk : k ≠ m) :
    (s.laneReacquired k).getF (F.LAN_STATE m) = s.getF (F.LAN_STATE m) := by
  obtain ⟨hpeak, hadapt, -⟩ := apart_laneState_run ⟨m, hm⟩ k
  unfold State.laneReacquired
  split
  · rw [State.acquire, State.setB, State.getF_setF_apart _ _ _ _ hadapt (by simp), State.getF_setF_apart _ _ _ _ hpeak (by simp),
      State.getF_setF_apart _ _ _ _ (laneState_apart_laneState hk.symm) (by simp)]
  · rfl

theorem State.getF_lanesReacquired (hn : n < 8) (hm : m ∈ unitLanes n) (hsig : 2 ≤ s.getF (F.LAN_STATE m)) :
    (s.lanesReacquired n).getF (F.LAN_STATE m) = 2 := by
  have hport := div_four_of_mem_unitLanes (by omega) hm
  have hlane : m < 49 := by omega
  have honce : (s.lanesReacquired n).getF (F.LAN_STATE m) = if 2 ≤ s.getF (F.LAN_STATE m) then 2 else s.getF (F.LAN_STATE m) := by
    refine State.forEach_once (State.getF · (F.LAN_STATE m)) (fun v => if 2 ≤ v then 2 else v) hm (nodup_unitLanes n)
      (fun u => ?_) fun k u hk => ?_
    · exact State.getF_laneReacquired_self hlane
    · exact State.getF_laneReacquired_other hlane hk
  rw [honce, if_pos hsig]

/-! ### The port whose lanes acquire again -/

theorem State.getF_reacquire_laneState (hn : n < 8) (hm : m ∈ unitLanes n) (hsig : 2 ≤ s.getF (F.LAN_STATE m)) :
    (s.reacquire n).getF (F.LAN_STATE m) = 2 := by
  have hport := div_four_of_mem_unitLanes (by omega) hm
  have hlow : (F.LAN_STATE m).addr < 0x40090040 := by simp only [F.LAN_STATE]; omega
  have hhigh : 0x40080000 ≤ (F.LAN_STATE m).addr := by simp only [F.LAN_STATE]; omega
  rw [State.reacquire_eq, State.getF_setMasks_apart _ hn _ _ _ (.inl hlow) (by simp only [A.LNK_EVT]; omega)
    fun hmem => absurd (mbxResetRegs_lt _ hmem) (by omega)]
  exact State.getF_lanesReacquired hn hm hsig

theorem State.rxmask_reacquire (hn : n < 8) : (s.reacquire n).getF (F.LNK_PSTAT_RXMASK n) = 0 := by
  rw [State.reacquire_eq, State.getF_setMasks_rxmask _ hn]

/-- Without lanes in use the port is DOWN, or in RECOVERY by a probe or a device in recovery (R115, R140). -/
theorem State.state_reacquire (hn : n < 8) (hrec : s.recovering = false) :
    (s.reacquire n).getF (F.LNK_PSTAT_STATE n) = if (s.port n).probing then 3 else 0 := by
  have hforgot : ((s.lanesReacquired n).setPort n ((s.lanesReacquired n).port n).forget).portRec n = (s.port n).probing := by
    have hr : ((s.lanesReacquired n).setPort n ((s.lanesReacquired n).port n).forget).recovering = false :=
      (s.recovering_lanesReacquired n).trans hrec
    rw [State.portRec, hr, State.port_setPort_self, State.port_lanesReacquired]
    simp [PortX.forget]
  rw [State.reacquire_eq, State.getF_setMasks_state _ hn, State.recAfter, if_pos rfl, hforgot]
  rfl

end

/-! ### Start and end of the probe (R140) -/

theorem State.recovering_setPort (s : State) (n : Nat) (p : PortX) : (s.setPort n p).recovering = s.recovering := rfl

section
variable {s : State} {n : Fin 8}

theorem recoveryProbeStart_eq (hon : s.unitOn n = true)
    (hsig : (unitLanes n).any (fun m => decide (2 ≤ s.getF (F.LAN_STATE m))) = true)
    (hlock : (unitLanes n).any (fun m => s.getF (F.LAN_STATE m) == 5) = false) (hrec : s.recovering = false)
    (hslow : (s.port n).slow = false) :
    exec (.recoveryProbeStart n) s = .next ((s.setPort n { s.port n with probing := true }).reacquire n) := by
  refine if_pos ?_
  rw [hon, hsig, hlock, hrec, hslow]
  rfl

/-- The probe's start: what the port shows, and its lanes. -/
theorem recoveryProbeStart_shows (hon : s.unitOn n = true)
    (hsig : (unitLanes n).any (fun m => decide (2 ≤ s.getF (F.LAN_STATE m))) = true)
    (hlock : (unitLanes n).any (fun m => s.getF (F.LAN_STATE m) == 5) = false) (hrec : s.recovering = false)
    (hslow : (s.port n).slow = false) :
    ∃ t, exec (.recoveryProbeStart n) s = .next t ∧ (t.port n).probing = true ∧ t.getF (F.LNK_PSTAT_RXMASK n) = 0 ∧
      t.getF (F.LNK_PSTAT_STATE n) = 3 ∧ t.portRate n = 0 ∧
      (∀ m, m ∈ unitLanes n → 2 ≤ s.getF (F.LAN_STATE m) → t.getF (F.LAN_STATE m) = 2) := by
  obtain ⟨t, hexec, hprobe, hrate⟩ := recoveryProbeStart_runs n s hon hsig hlock hrec hslow
  have heq := recoveryProbeStart_eq hon hsig hlock hrec hslow
  obtain rfl := Host.Outcome.next.inj (hexec.symm.trans heq)
  refine ⟨_, hexec, hprobe, State.rxmask_reacquire n.isLt, ?_, hrate, fun m hm hlane => ?_⟩
  · refine (State.state_reacquire n.isLt ((State.recovering_setPort _ _ _).trans hrec)).trans ?_
    rw [State.port_setPort_self]
    rfl
  · exact State.getF_reacquire_laneState n.isLt hm hlane

theorem recoveryProbeEnd_eq (hprobing : (s.port n).probing = true) : exec (.recoveryProbeEnd n) s =
    .next (if ((s.probeEnd n).port n).slow then (s.probeEnd n).recoveryPass n else s.probeEnd n) := if_pos hprobing

/-- A probe that found no partner in recovery ends: the port is DOWN at its own rate. -/
theorem recoveryProbeEnd_returns (hprobing : (s.port n).probing = true) (hrec : s.recovering = false)
    (hnone : (unitLanes n).any (fun m => s.getF (F.LAN_STATE m) == 5) = false ∨ (s.port n).prxSeen = false ∨
      s.flag (F.LNK_PSTAT_PRECOV n) = false) :
    ∃ t, exec (.recoveryProbeEnd n) s = .next t ∧ (t.port n).probing = false ∧ (t.port n).slow = false ∧
      t.getF (F.LNK_PSTAT_RXMASK n) = 0 ∧ t.getF (F.LNK_PSTAT_STATE n) = 0 := by
  have hend : s.probeEnd n = (s.setPort n { s.port n with probing := false }).reacquire n := by
    refine if_neg ?_
    rcases hnone with h | h | h <;> simp [h]
  obtain ⟨hprobe, hslow⟩ := (s.setPort n { s.port n with probing := false }).port_reacquire n
  rw [State.port_setPort_self] at hprobe
  refine ⟨(s.setPort n { s.port n with probing := false }).reacquire n, ?_, hprobe, hslow, State.rxmask_reacquire n.isLt, ?_⟩
  · rw [recoveryProbeEnd_eq hprobing, hend, hslow]
    rfl
  · refine (State.state_reacquire n.isLt ((State.recovering_setPort _ _ _).trans hrec)).trans ?_
    rw [State.port_setPort_self]
    rfl

/-- A probe that found a partner in recovery ends, and the port stays at 1.25 Gbaud. -/
theorem recoveryProbeEnd_stays (hprobing : (s.port n).probing = true)
    (hlock : (unitLanes n).any (fun m => s.getF (F.LAN_STATE m) == 5) = true) (hseen : (s.port n).prxSeen = true)
    (hrecov : s.flag (F.LNK_PSTAT_PRECOV n) = true) (hbank : (s.nvm.bank (s.flag F.UPD_STAT_RUNBANK)).manifest = none) :
    exec (.recoveryProbeEnd n) s = .next (s.setPort n { s.port n with probing := false, slow := true }) := by
  have hend : s.probeEnd n = s.setPort n { s.port n with probing := false, slow := true } := by
    refine if_pos ?_
    rw [hlock, hseen, hrecov]
    rfl
  have hpass : (s.setPort n { s.port n with probing := false, slow := true }).recoveryPass n =
      s.setPort n { s.port n with probing := false, slow := true } := by
    have hnone : ((s.setPort n { s.port n with probing := false, slow := true }).nvm.bank
        ((s.setPort n { s.port n with probing := false, slow := true }).flag F.UPD_STAT_RUNBANK)).manifest = none := hbank
    unfold State.recoveryPass
    dsimp only
    rw [hnone]
  rw [recoveryProbeEnd_eq hprobing, hend, hpass, ite_self]

end

/-- Settles O29. -/
theorem scheduleSlotsAndTheRecoveryProbe : Obligations.ScheduleSlotsAndTheRecoveryProbe := by
  refine ⟨fun e s hhead hrel hport hvar htyp hmute hheld hbusy => ?_,
    fun e p rest s hhead hrel hport hvar hlow hchain _ hpair hown htyp hports hnum hown' hbusy => ?_,
    fun e p rest s hhead hrel hport hvar hlow hchain _ hpair hmute hown htyp hports hhop hnum hbusy => ?_,
    fun e s hvar => scheduledPacketDue_otherVariant e s hvar, fun n p rest s hwait hbody => ?_,
    fun n s hon hsig hlock hrec hslow => recoveryProbeStart_shows hon hsig hlock hrec hslow,
    fun n s hprobing _ hrec hnone => recoveryProbeEnd_returns hprobing hrec hnone,
    fun n s hprobing hlock hseen hrecov hbank => ?_⟩
  · exact ⟨s.waiting e.port (s.slicePacket e), s.slicePacket e,
      scheduledPacketDue_queuesSlice e s hhead hrel hport hvar htyp hmute hheld hbusy, rfl,
      congrArg PortX.wait (State.port_waiting _ _), rfl, rfl, rfl, rfl, rfl, fun k hk => s.port_setPort_ne _ _ hk⟩
  · have hexec := scheduledPacketDue_queuesOwn e p p rest s hhead hrel hport hvar hlow hchain (by simp [hpair]) hown htyp hports
      (by simp [hown']) (by simp [hnum]) hports hbusy
    exact ⟨_, hexec, rfl, rfl, congrArg PortX.wait (State.port_waiting _ _)⟩
  · have hexec := scheduledPacketDue_queuesOwn e p (s.pairNumber e p) rest s hhead hrel hport hvar hlow hchain (fun _ => hmute)
      hown htyp hports (by simp [hpair]) (by simp [hhop, hnum, hpair]) hports hbusy
    exact ⟨_, _, hexec, rfl, rfl, congrArg PortX.wait (State.port_waiting _ _), rfl, rfl, rfl, rfl⟩
  · obtain ⟨t, hexec, hrest, hlate, hevent⟩ := txPacketLate_counted n p rest s hwait
    obtain rfl := Host.Outcome.next.inj (hexec.symm.trans (exec_txPacketLate_other hwait hbody))
    exact ⟨_, hexec, rfl, s.lateDropped_regsKept n rest, hrest, hlate, hevent⟩
  · have hport : (s.setPort n { s.port n with probing := false, slow := true }).port n =
        { s.port n with probing := false, slow := true } := State.port_setPort_self _ _ _
    exact ⟨_, recoveryProbeEnd_stays hprobing hlock hseen hrecov hbank, rfl, congrArg PortX.probing hport, congrArg PortX.slow hport⟩

end Sys2Proof.Machine
end

section
/-!
PROOFS. Places in a chain (chapter 06: R73, R134 to R137, R450): ENUM at its Head and at a Tile, and the end of a conflict.
-/

namespace Sys2Proof.Machine

/-! ### What a hop-local packet leaves as it is -/

section
variable (s : State) (n : Nat)

/-- A packet put on a port changes that port, the lanes and the outputs alone. -/
theorem State.putOnPort_frame (h : Hdr) (b : Body) : ∃ l a o, s.putOnPort n h b =
    { s with lnk := { s.lnk with ports := l }, lan := a, out := o } := by
  by_cases hcan : s.canPut n h = true
  · exact ⟨_, _, _, State.putOnPort_eq b hcan⟩
  · exact ⟨s.lnk.ports, s.lan, s.out, if_neg hcan⟩

theorem State.sendHop_frame (h : Hdr) (b : Body) : ∃ l a o, s.sendHop n h b =
    { s with lnk := { s.lnk with ports := l }, lan := a, out := o } := by
  obtain ⟨l, a, o, hput⟩ := (s.setPort n { s.port n with hopSeq := (s.port n).hopSeq + 1 }).putOnPort_frame n (s.hopHdr n h) b
  exact ⟨l, a, o, hput⟩

variable {s n}

/-- A hop-local packet without a tag on the outputs of a port that is UP. -/
theorem State.sendHop_sends {h : Hdr} (b : Body) (hprot : h.prot = 0) (hsend : s.canSend n = true) (hup : s.portUp n = true) :
    ∃ l a, s.sendHop n h b = { s with
      lnk := { s.lnk with ports := l }, lan := a,
      out := .packet n (s.getF (F.LNK_PSTAT_TXMASK n)) (s.hopHdr n h) b none :: s.out } :=
  ⟨_, _, State.sendHop_eq b hprot hsend hup⟩

/-- The ENUM of a Head's end port (R134). -/
theorem enumPeriod_sends (n : Fin 8) (s : State) (hhead : s.isHead = true) (hup : s.portUp n = true)
    (hrole : s.getF (F.LNK_PCFG_ROLE n) ∈ [1, 2]) (hsend : s.canSend n = true) :
    ∃ t h m, exec (.enumPeriod n) s = .next t ∧
      t.out = .packet n (s.getF (F.LNK_PSTAT_TXMASK n)) h (.enum m) none :: s.out ∧ h.typ = 7 ∧ h.hop = true ∧
      h.dst = 1023 ∧ m.wallId = s.plan.wall.id ∧ m.planSerial = s.plan.wall.serial ∧
      m.chain = BitVec.ofNat 8 (s.chainOf n) ∧ m.hops = 1 ∧ m.endB = (s.getF (F.LNK_PCFG_ROLE n) == 2) ∧
      t = { s with lnk := t.lnk, lan := t.lan, out := t.out } := by
  obtain ⟨l, a, hsent⟩ := State.sendHop_sends (h := { typ := 7, len := 32 }) (.enum (s.ownEnum n)) rfl hsend hup
  have hexec : exec (.enumPeriod n) s = .next (s.sendEnum n) := rfl
  rw [State.sendEnum_sends hhead hup hrole, hsent] at hexec
  exact ⟨_, _, s.ownEnum n, hexec, rfl, rfl, rfl, rfl, rfl, rfl, rfl, rfl, rfl, rfl⟩

end

/-! ### A conflict (R134, R137) -/

section
variable {s : State}

/-- A conflict told: the bit, its event and the extra STATUS. -/
theorem State.conflict_tells (h : s.flag F.LNK_ID_CONFLICT = false) : s.conflict =
    { (s.raise F.LNK_ID_CONFLICT).raise F.LNK_EVT_CONFLICT with lnk := { s.lnk with extraStatus := true } } := by
  refine (if_neg ?_).trans rfl
  rw [h]
  exact Bool.false_ne_true

theorem State.conflict_regs (h : s.flag F.LNK_ID_CONFLICT = false) :
    s.conflict.regs = ((s.raise F.LNK_ID_CONFLICT).raise F.LNK_EVT_CONFLICT).regs := by rw [State.conflict_tells h]

theorem State.conflict_regsKept (h : s.flag F.LNK_ID_CONFLICT = false) : s.regsKept s.conflict [A.LNK_ID, A.LNK_EVT] :=
  (((State.regsKept.refl s _).raise F.LNK_ID_CONFLICT (by decide)).raise F.LNK_EVT_CONFLICT (by decide)).congr
    (State.conflict_regs h)

theorem State.conflict_shows (h : s.flag F.LNK_ID_CONFLICT = false) :
    s.conflict.getF F.LNK_ID_CONFLICT = 1 ∧ s.conflict.getF F.LNK_EVT_CONFLICT = 1 := by
  have hregs := State.conflict_regs h
  refine ⟨?_, ?_⟩
  · rw [State.getF_of_regs hregs, State.raise, State.getF_setF_apart _ _ _ _ (by decide) (by decide)]
    exact State.getF_raise_self _ _ (by decide) (by decide)
  · rw [State.getF_of_regs hregs]
    exact State.getF_raise_self _ _ (by decide) (by decide)

theorem State.getF_conflict_apart (h : s.flag F.LNK_ID_CONFLICT = false) {f : Fld} (hid : F.LNK_ID_CONFLICT.apart f = true)
    (hevt : F.LNK_EVT_CONFLICT.apart f = true) (hw : f.lo + f.width ≤ 32) : s.conflict.getF f = s.getF f := by
  rw [State.getF_of_regs (State.conflict_regs h), State.raise, State.raise, State.getF_setF_apart _ _ _ _ hevt hw,
    State.getF_setF_apart _ _ _ _ hid hw]

end

/-! ### A position taken before release (R135, R450) -/

section
variable {s : State}

/-- A Tile that is not assigned takes a position by its register alone. -/
theorem State.placeAt_unassigned (pos : Nat) (hfree : s.flag F.LNK_ID_ASSIGNED = false) (hpos : pos < 32) :
    s.onlyRegs (s.placeAt pos) [A.LNK_ID] ∧ (s.placeAt pos).getF F.LNK_ID_POS = pos ∧
      ∀ f : Fld, F.LNK_ID_POS.apart f = true → f.lo + f.width ≤ 32 → (s.placeAt pos).getF f = s.getF f := by
  unfold State.placeAt
  by_cases hsame : s.getF F.LNK_ID_POS = pos
  · rw [if_pos hsame]
    exact ⟨State.onlyRegs.refl s _, hsame, fun _ _ _ => rfl⟩
  · have hstill : (s.setF F.LNK_ID_POS pos).flag F.LNK_ID_ASSIGNED = false := by
      rw [State.flag, State.getF_setF_apart _ _ _ _ (by decide) (by decide)]
      exact hfree
    rw [if_neg hsame]
    dsimp only
    rw [hstill, if_neg Bool.false_ne_true]
    exact ⟨(State.onlyRegs.refl s _).setF F.LNK_ID_POS pos (by decide),
      (State.getF_setF_self _ _ _ (by decide)).trans (Nat.mod_eq_of_lt hpos), fun f hf hw => State.getF_setF_apart _ _ _ _ hf hw⟩

theorem State.hopsPos_le (s : State) : s.hopsPos ≤ 24 := by
  have hcut (p : Nat) : (if 24 < p then 0 else p) ≤ 24 := by split <;> omega
  exact hcut _

/-- Before release, without a conflict, the counts give the position (R135). -/
theorem State.locate_places (hrel : s.released = false) (hgood : s.hopsBad = false) (hquiet : s.flag F.LNK_ID_CONFLICT = false) :
    s.locate = s.placeAt s.hopsPos := by
  simp [State.locate, hrel, hgood, hquiet]

/-- The end of a conflict that has been quiet (R450). -/
theorem conflictQuietExpiry_clears (s : State) (hrel : s.released = false) (htile : s.isHead = false)
    (hconf : s.flag F.LNK_ID_CONFLICT = true) (hgood : s.hopsBad = false) (hfree : s.flag F.LNK_ID_ASSIGNED = false) :
    ∃ t, exec .conflictQuietExpiry s = .next t ∧ s.onlyRegs t [A.LNK_ID] ∧ t.getF F.LNK_ID_CONFLICT = 0 ∧
      t.getF F.LNK_ID_POS = s.hopsPos := by
  let u := s.setF F.LNK_ID_CONFLICT 0
  have hfield (f : Fld) (hf : F.LNK_ID_CONFLICT.apart f = true) (hw : f.lo + f.width ≤ 32) : u.getF f = s.getF f :=
    State.getF_setF_apart _ _ _ _ hf hw
  have hcleared : u.getF F.LNK_ID_CONFLICT = 0 := State.getF_setF_self _ _ _ (by decide)
  have hhopsA := hfield F.LNK_ID_HOPS_A (by decide) (by decide)
  have hhopsB := hfield F.LNK_ID_HOPS_B (by decide) (by decide)
  have hbad : u.hopsBad = s.hopsBad := by
    unfold State.hopsBad
    rw [hhopsA, hhopsB]
    rfl
  have hpos : u.hopsPos = s.hopsPos := by
    unfold State.hopsPos
    rw [hbad, hhopsA, hhopsB]
    rfl
  have hplace : u.locate = u.placeAt s.hopsPos := by
    rw [← hpos]
    refine State.locate_places ?_ (hbad.trans hgood) ?_
    · rw [State.released, State.flag, hfield _ (by decide) (by decide)]
      exact hrel
    · rw [State.flag, hcleared]
      rfl
  have hstill : u.flag F.LNK_ID_ASSIGNED = false := by
    rw [State.flag, hfield _ (by decide) (by decide)]
    exact hfree
  obtain ⟨honly, hat, hrest⟩ := State.placeAt_unassigned s.hopsPos hstill (by have := s.hopsPos_le; omega)
  refine ⟨u.locate, ?_, ?_, ?_, ?_⟩
  · refine if_neg ?_
    simp [hrel, htile, hconf, hgood]
  · rw [hplace]
    exact ((State.onlyRegs.refl s _).setF F.LNK_ID_CONFLICT 0 (by decide)).trans honly
  · rw [hplace, hrest _ (by decide) (by decide), hcleared]
  · rw [hplace, hat]

end

end Sys2Proof.Machine
end

section
/-!
PROOFS. An ENUM at a Tile (chapter 06: R73, R134, R135): the counts, the place and the ENUM passed on.
-/

namespace Sys2Proof.Machine

/-! ### What an ENUM writes -/

section
variable (s : State) (f : Fld) (m : EnumMsg)

/-- The ENUM names another plan than the Tile's own (R73). -/
def State.enumDiffers : Bool := m.wallId != s.plan.wall.id || m.planSerial != s.plan.wall.serial

/-- The hops in a count, and what the ENUM says of the chain's length and of its Head. -/
def State.enumCounted : State :=
  { s.setF f m.hops with lnk := { s.lnk with tilesOnChain := m.tiles.toNat, headNumber := m.head.toNat } }

/-- A Tile that is not assigned takes what the ENUM says. -/
def State.enumTaken : State :=
  ((s.enumCounted f m).setF F.LNK_ID_CHAIN m.chain.toNat).setF F.BOOT_STAT_PLAN_DIFF (s.enumDiffers m).toNat

theorem State.enumTaken_regs : (s.enumTaken f m).regs =
    (((s.setF f m.hops).setF F.LNK_ID_CHAIN m.chain.toNat).setF F.BOOT_STAT_PLAN_DIFF (s.enumDiffers m).toNat).regs := rfl

theorem State.enumTaken_lnk :
    (s.enumTaken f m).lnk = { s.lnk with tilesOnChain := m.tiles.toNat, headNumber := m.head.toNat } := rfl

theorem State.enumTaken_regsKept (hid : f.addr = A.LNK_ID) : s.regsKept (s.enumTaken f m) [A.LNK_ID, A.BOOT_STAT] :=
  ((((State.regsKept.refl s _).setF f m.hops (by simp [hid])).setF F.LNK_ID_CHAIN m.chain.toNat (by decide)).setF
    F.BOOT_STAT_PLAN_DIFF (s.enumDiffers m).toNat (by decide)).congr (s.enumTaken_regs f m)

variable {g : Fld} (hg : g.lo + g.width ≤ 32)
include hg

theorem State.getF_enumTaken_apart (hf : f.apart g = true) (hchain : F.LNK_ID_CHAIN.apart g = true)
    (hplan : F.BOOT_STAT_PLAN_DIFF.apart g = true) : (s.enumTaken f m).getF g = s.getF g := by
  rw [State.getF_of_regs (s.enumTaken_regs f m), State.getF_setF_apart _ _ _ _ hplan hg, State.getF_setF_apart _ _ _ _ hchain hg,
    State.getF_setF_apart _ _ _ _ hf hg]

end

section
variable (s : State) {f : Fld} (m : EnumMsg) (hid : f ∈ [F.LNK_ID_HOPS_A, F.LNK_ID_HOPS_B])
include hid

theorem hopsFld_facts : f.addr = A.LNK_ID ∧ f.width = 5 ∧ f.lo + 5 ≤ 32 ∧ F.LNK_ID_CHAIN.apart f = true ∧
    F.BOOT_STAT_PLAN_DIFF.apart f = true ∧ f.apart F.LNK_ID_ASSIGNED = true ∧ f.apart F.LNK_ID_CONFLICT = true ∧
    f.apart F.BOOT_STAT_RELEASED = true ∧ F.LNK_ID_POS.apart f = true := by
  revert f
  decide

theorem State.getF_enumTaken_hops (hhops : m.hops ≤ 24) : (s.enumTaken f m).getF f = m.hops := by
  obtain ⟨-, hwidth, hfits, hchain, hplan, -⟩ := hopsFld_facts hid
  have hw : f.lo + f.width ≤ 32 := by rw [hwidth]; exact hfits
  rw [State.getF_of_regs (s.enumTaken_regs f m), State.getF_setF_apart _ _ _ _ hplan hw, State.getF_setF_apart _ _ _ _ hchain hw,
    State.getF_setF_self _ _ _ hw, hwidth]
  omega

omit hid in
theorem State.getF_enumTaken_chain : (s.enumTaken f m).getF F.LNK_ID_CHAIN = m.chain.toNat % 8 := by
  rw [State.getF_of_regs (s.enumTaken_regs f m), State.getF_setF_apart _ _ _ _ (by decide) (by decide),
    State.getF_setF_self _ _ _ (by decide)]
  rfl

omit hid in
theorem State.getF_enumTaken_planDiff : (s.enumTaken f m).getF F.BOOT_STAT_PLAN_DIFF = (s.enumDiffers m).toNat := by
  rw [State.getF_of_regs (s.enumTaken_regs f m), State.getF_setF_self _ _ _ (by decide)]
  exact Nat.mod_eq_of_lt (s.enumDiffers m).toNat_lt

/-- The Tile stays unreleased, unassigned and out of conflict by what an ENUM writes. -/
theorem State.enumTaken_flags : (s.enumTaken f m).released = s.released ∧
    (s.enumTaken f m).flag F.LNK_ID_ASSIGNED = s.flag F.LNK_ID_ASSIGNED ∧
    (s.enumTaken f m).flag F.LNK_ID_CONFLICT = s.flag F.LNK_ID_CONFLICT := by
  obtain ⟨-, -, -, -, -, hassigned, hconflict, hreleased, -⟩ := hopsFld_facts hid
  refine ⟨?_, ?_, ?_⟩
  · exact congrArg (· != 0) (s.getF_enumTaken_apart f m (by decide) hreleased (by decide) (by decide))
  · exact congrArg (· != 0) (s.getF_enumTaken_apart f m (by decide) hassigned (by decide) (by decide))
  · exact congrArg (· != 0) (s.getF_enumTaken_apart f m (by decide) hconflict (by decide) (by decide))

end

/-! ### The place, and the ENUM passed on -/

section
variable {s : State} {n : Nat} {m : EnumMsg}

/-- The count that an ENUM at a port gives. -/
def hopsFld (n : Nat) : Fld := if n = 0 then F.LNK_ID_HOPS_A else F.LNK_ID_HOPS_B

theorem hopsFld_mem (n : Nat) : hopsFld n ∈ [F.LNK_ID_HOPS_A, F.LNK_ID_HOPS_B] := by
  unfold hopsFld
  split <;> simp

/-- The state in which the Tile passes the ENUM on. -/
def State.enumPlaced (s : State) (n : Nat) (m : EnumMsg) : State := (s.enumTaken (hopsFld n) m).locate

/-- The Tile passes an ENUM on to the next port where that one is UP. -/
def State.enumPassed (s : State) (n : Nat) (m : EnumMsg) : State :=
  if s.portUp (1 - n) then s.sendHop (1 - n) { typ := 7, len := 32 } (.enum { m with hops := m.hops + 1 }) else s

theorem State.enumRx_unassigned (htile : s.isHead = false) (hn : n < 2) (hfwd : s.flag (F.LNK_PCFG_FWD_EN (1 - n)) = true)
    (hend : m.endB = (n == 1)) (hfree : s.flag F.LNK_ID_ASSIGNED = false) :
    s.enumRx n m = (s.enumPlaced n m).enumPassed n m := by
  have hhere : ¬(s.isHead || decide (2 ≤ n) || !(s.flag (F.LNK_PCFG_FWD_EN (1 - n)))) = true := by simp [htile, hfwd, hn]
  have hside : ¬(m.endB != (n == 1)) = true := by simp [hend]
  have hstill : ¬(s.enumCounted (hopsFld n) m).flag F.LNK_ID_ASSIGNED = true := by
    obtain ⟨-, -, -, -, -, hassigned, -⟩ := hopsFld_facts (hopsFld_mem n)
    have hsame := congrArg (· != 0) (State.getF_setF_apart s (hopsFld n) F.LNK_ID_ASSIGNED m.hops hassigned (by decide))
    rw [show (s.enumCounted (hopsFld n) m).flag F.LNK_ID_ASSIGNED = false from hsame.trans hfree]
    exact Bool.false_ne_true
  have hchain : (if (s.enumCounted (hopsFld n) m).flag F.LNK_ID_ASSIGNED then s.enumCounted (hopsFld n) m
      else (s.enumCounted (hopsFld n) m).setF F.LNK_ID_CHAIN m.chain.toNat) =
      (s.enumCounted (hopsFld n) m).setF F.LNK_ID_CHAIN m.chain.toNat := if_neg hstill
  have hpassed := congrArg (fun u : State => ((u.setB F.BOOT_STAT_PLAN_DIFF (s.enumDiffers m)).locate).enumPassed n m) hchain
  exact ((if_neg hhere).trans (if_neg hside)).trans hpassed

end

end Sys2Proof.Machine
end

section
/-!
PROOFS. The place that an ENUM gives a Tile, and an ENUM from the wrong side (chapter 06: R73, R134, R135, R137).
-/

namespace Sys2Proof.Machine

section
variable {s : State} {n : Nat} {m : EnumMsg}

/-! ### The place taken -/

/-- The Tile as an ENUM finds it: before release, without an identifier and out of conflict; the counts that it then holds agree. -/
structure State.EnumFinds (s : State) (n : Nat) (m : EnumMsg) : Prop where
  unreleased : s.released = false
  unassigned : s.flag F.LNK_ID_ASSIGNED = false
  quiet : s.flag F.LNK_ID_CONFLICT = false
  agrees : (s.enumTaken (hopsFld n) m).hopsBad = false

theorem State.enumPlaced_eq (h : s.EnumFinds n m) :
    s.enumPlaced n m = (s.enumTaken (hopsFld n) m).placeAt (s.enumTaken (hopsFld n) m).hopsPos := by
  obtain ⟨hrel, -, hquiet⟩ := s.enumTaken_flags m (hopsFld_mem n)
  exact State.locate_places (hrel.trans h.unreleased) h.agrees (hquiet.trans h.quiet)

/-- What the place changes beside what the ENUM wrote: the position alone. -/
theorem State.enumPlaced_at (h : s.EnumFinds n m) :
    (s.enumTaken (hopsFld n) m).onlyRegs (s.enumPlaced n m) [A.LNK_ID] ∧
      (s.enumPlaced n m).getF F.LNK_ID_POS = (s.enumTaken (hopsFld n) m).hopsPos ∧
      ∀ f : Fld, F.LNK_ID_POS.apart f = true → f.lo + f.width ≤ 32 →
        (s.enumPlaced n m).getF f = (s.enumTaken (hopsFld n) m).getF f := by
  obtain ⟨-, hassigned, -⟩ := s.enumTaken_flags m (hopsFld_mem n)
  have hle := (s.enumTaken (hopsFld n) m).hopsPos_le
  rw [State.enumPlaced_eq h]
  exact State.placeAt_unassigned _ (hassigned.trans h.unassigned) (by omega)

theorem State.enumPlaced_frame (h : s.EnumFinds n m) : s.enumPlaced n m =
    { s with regs := (s.enumPlaced n m).regs, lnk := (s.enumTaken (hopsFld n) m).lnk } := (State.enumPlaced_at h).1.1

theorem State.enumPlaced_regsKept (h : s.EnumFinds n m) : s.regsKept (s.enumPlaced n m) [A.LNK_ID, A.BOOT_STAT] :=
  (s.enumTaken_regsKept (hopsFld n) m (hopsFld_facts (hopsFld_mem n)).1).trans
    ((State.enumPlaced_at h).1.2.mono (by simp))

/-- The ports of a Tile that takes a place send as before. -/
theorem State.enumPlaced_port (h : s.EnumFinds n m) (k : Nat) (hk : k < 8) :
    (s.enumPlaced n m).getF (F.LNK_PSTAT_TXMASK k) = s.getF (F.LNK_PSTAT_TXMASK k) ∧
    (s.enumPlaced n m).portUp k = s.portUp k ∧ (s.enumPlaced n m).canSend k = s.canSend k := by
  have hkept := State.enumPlaced_regsKept h
  have hport : 0x40090040 + 4 * k ∉ [A.LNK_ID, A.BOOT_STAT] := by
    simp only [A.LNK_ID, A.BOOT_STAT, List.mem_cons, List.not_mem_nil, or_false]
    omega
  have hmask : (s.enumPlaced n m).getF (F.LNK_PSTAT_TXMASK k) = s.getF (F.LNK_PSTAT_TXMASK k) := hkept.getF_eq _ hport
  have hstate : (s.enumPlaced n m).getF (F.LNK_PSTAT_STATE k) = s.getF (F.LNK_PSTAT_STATE k) := hkept.getF_eq _ hport
  have hlock : (s.enumPlaced n m).bit F.CLK_STAT_PORT_LOCK k = s.bit F.CLK_STAT_PORT_LOCK k := hkept.bit_eq _ k (by decide)
  have hpwr : (s.enumPlaced n m).pwr = s.pwr := by rw [State.enumPlaced_frame h]
  refine ⟨hmask, ?_, ?_⟩
  · rw [State.portUp, hstate, State.portUp]
  · rw [State.canSend, State.canSend, hmask, hstate, hlock, hpwr]

/-! ### The ENUM passed on -/

theorem State.enumPassed_frame (s : State) (n : Nat) (m : EnumMsg) : ∃ l a o, s.enumPassed n m =
    { s with lnk := { s.lnk with ports := l }, lan := a, out := o } := by
  unfold State.enumPassed
  split
  · exact s.sendHop_frame _ _ _
  · exact ⟨s.lnk.ports, s.lan, s.out, rfl⟩

theorem State.enumPassed_sends (hup : s.portUp (1 - n) = true) (hsend : s.canSend (1 - n) = true) :
    ∃ h, (s.enumPassed n m).out =
      .packet (1 - n) (s.getF (F.LNK_PSTAT_TXMASK (1 - n))) h (.enum { m with hops := m.hops + 1 }) none :: s.out := by
  obtain ⟨l, a, hsent⟩ := State.sendHop_sends (h := { typ := 7, len := 32 }) (.enum { m with hops := m.hops + 1 }) rfl hsend hup
  rw [State.enumPassed, if_pos hup, hsent]
  exact ⟨_, rfl⟩

theorem State.enumPassed_quiet (hdown : s.portUp (1 - n) = false) : s.enumPassed n m = s := by
  refine if_neg ?_
  rw [hdown]
  exact Bool.false_ne_true

/-- The counts and the place of a Tile that an ENUM reaches from the right side, and the ENUM passed on (R134, R135). -/
theorem State.enumRx_places (htile : s.isHead = false) (hn : n < 2) (hfwd : s.flag (F.LNK_PCFG_FWD_EN (1 - n)) = true)
    (hend : m.endB = (n == 1)) (hhops : m.hops ≤ 24) (h : s.EnumFinds n m) :
    (s.enumRx n m).getF (hopsFld n) = m.hops ∧ (s.enumRx n m).getF F.LNK_ID_POS = (s.enumTaken (hopsFld n) m).hopsPos ∧
    (s.enumRx n m).getF F.LNK_ID_CHAIN = m.chain.toNat % 8 ∧
    (s.enumRx n m).getF F.BOOT_STAT_PLAN_DIFF = (s.enumDiffers m).toNat ∧
    (s.enumRx n m).lnk.tilesOnChain = m.tiles.toNat ∧ (s.enumRx n m).lnk.headNumber = m.head.toNat ∧
    s.regsKept (s.enumRx n m) [A.LNK_ID, A.BOOT_STAT] := by
  obtain ⟨-, hwidth, hfits, -, -, -, -, -, hpos⟩ := hopsFld_facts (hopsFld_mem n)
  obtain ⟨-, hplace, hrest⟩ := State.enumPlaced_at h
  obtain ⟨l, a, o, hpassed⟩ := (s.enumPlaced n m).enumPassed_frame n m
  have hregs : (s.enumRx n m).regs = (s.enumPlaced n m).regs := by
    rw [State.enumRx_unassigned htile hn hfwd hend h.unassigned, hpassed]
  have hlnk : (s.enumRx n m).lnk = { s.lnk with ports := l, tilesOnChain := m.tiles.toNat, headNumber := m.head.toNat } := by
    rw [State.enumRx_unassigned htile hn hfwd hend h.unassigned, hpassed, State.enumPlaced_frame h, s.enumTaken_lnk]
  refine ⟨?_, ?_, ?_, ?_, ?_, ?_, (State.enumPlaced_regsKept h).congr hregs⟩
  · rw [State.getF_of_regs hregs, hrest _ hpos (by rw [hwidth]; exact hfits), s.getF_enumTaken_hops m (hopsFld_mem n) hhops]
  · rw [State.getF_of_regs hregs, hplace]
  · rw [State.getF_of_regs hregs, hrest _ (by decide) (by decide), s.getF_enumTaken_chain]
  · rw [State.getF_of_regs hregs, hrest _ (by decide) (by decide), s.getF_enumTaken_planDiff]
  · rw [hlnk]
  · rw [hlnk]

/-- What a Tile that takes a place sends: the ENUM with one hop more where the next port is UP (R134). -/
theorem State.enumRx_out (htile : s.isHead = false) (hn : n < 2) (hfwd : s.flag (F.LNK_PCFG_FWD_EN (1 - n)) = true)
    (hend : m.endB = (n == 1)) (h : s.EnumFinds n m) :
    (s.portUp (1 - n) = true → s.canSend (1 - n) = true → ∃ g, (s.enumRx n m).out =
      .packet (1 - n) (s.getF (F.LNK_PSTAT_TXMASK (1 - n))) g (.enum { m with hops := m.hops + 1 }) none :: s.out) ∧
    (s.portUp (1 - n) = false → (s.enumRx n m).out = s.out) := by
  obtain ⟨hmask, hportUp, hcanSend⟩ := State.enumPlaced_port h (1 - n) (by omega)
  have hout : (s.enumPlaced n m).out = s.out := by rw [State.enumPlaced_frame h]
  rw [State.enumRx_unassigned htile hn hfwd hend h.unassigned]
  refine ⟨fun hup hsend => ?_, fun hdown => ?_⟩
  · rw [← hmask, ← hout]
    exact State.enumPassed_sends (hportUp.trans hup) (hcanSend.trans hsend)
  · rw [State.enumPassed_quiet (hportUp.trans hdown), hout]

/-! ### ENUM from the wrong side, and where none counts (R134, R137) -/

theorem enumReceived_wrongSide (n : Fin 8) (m : EnumMsg) (s : State) (htile : s.isHead = false) (hn : n.val < 2)
    (hfwd : s.flag (F.LNK_PCFG_FWD_EN (1 - n.val)) = true) (hend : m.endB ≠ (n == 1)) :
    exec (.enumReceived n m) s = .next s.conflict := by
  have hhere : ¬(s.isHead || decide (2 ≤ n.val) || !(s.flag (F.LNK_PCFG_FWD_EN (1 - n.val)))) = true := by simp [htile, hfwd, hn]
  have hside : (m.endB != (n.val == 1)) = true := by
    have hsame : (n == (1 : Fin 8)) = (n.val == 1) := by
      rw [Bool.eq_iff_iff, beq_iff_eq, beq_iff_eq, Fin.ext_iff]
      rfl
    rw [hsame] at hend
    exact bne_iff_ne.2 hend
  exact congrArg Host.Outcome.next ((if_neg hhere).trans (if_pos hside))

theorem enumReceived_elsewhere (n : Fin 8) (m : EnumMsg) (s : State) (h : s.isHead = true ∨ 2 ≤ n.val) :
    exec (.enumReceived n m) s = .next s := by
  refine congrArg Host.Outcome.next (if_pos ?_)
  rcases h with h | h <;> simp [h]

end

end Sys2Proof.Machine
end

section
/-!
PROOFS. The position by the count of one end (chapter 06: R135), and JOIN, ASSIGN and STATUS (R136 to R138).
-/

namespace Sys2Proof.Machine

/-! ### The position by one count (R135) -/

section
variable {s : State}

theorem State.hopsPos_of_endA (hb : s.getF F.LNK_ID_HOPS_B = 0) (hlow : 1 ≤ s.getF F.LNK_ID_HOPS_A)
    (hhigh : s.getF F.LNK_ID_HOPS_A ≤ 24) : s.hopsBad = false ∧ s.hopsPos = s.getF F.LNK_ID_HOPS_A := by
  have hgood : s.hopsBad = false := by simp [State.hopsBad, hb]
  have hne : s.getF F.LNK_ID_HOPS_A ≠ 0 := by omega
  exact ⟨hgood, by simp [State.hopsPos, hgood, hne, hhigh]⟩

theorem State.hopsPos_of_endB (ha : s.getF F.LNK_ID_HOPS_A = 0) (hlow : 1 ≤ s.getF F.LNK_ID_HOPS_B)
    (hhigh : s.lnk.tilesOnChain ≤ 24) :
    s.hopsBad = false ∧ s.hopsPos = s.lnk.tilesOnChain + 1 - s.getF F.LNK_ID_HOPS_B := by
  have hgood : s.hopsBad = false := by simp [State.hopsBad, ha]
  have hne : s.getF F.LNK_ID_HOPS_B ≠ 0 := by omega
  have hle : ¬24 < s.lnk.tilesOnChain + 1 - s.getF F.LNK_ID_HOPS_B := by omega
  exact ⟨hgood, by simp [State.hopsPos, hgood, ha, hne, hle]⟩

variable {m : EnumMsg}

/-- An ENUM of end A at port A: the Tile stands as many places from end A as the ENUM says. -/
theorem State.enumTaken_endA (hb : s.getF F.LNK_ID_HOPS_B = 0) (hlow : 1 ≤ m.hops) (hhigh : m.hops ≤ 24) :
    (s.enumTaken (hopsFld 0) m).hopsBad = false ∧ (s.enumTaken (hopsFld 0) m).hopsPos = m.hops := by
  have hA : (s.enumTaken (hopsFld 0) m).getF F.LNK_ID_HOPS_A = m.hops := s.getF_enumTaken_hops m (hopsFld_mem 0) hhigh
  have hB : (s.enumTaken (hopsFld 0) m).getF F.LNK_ID_HOPS_B = 0 :=
    (s.getF_enumTaken_apart (hopsFld 0) m (by decide) (by decide) (by decide) (by decide)).trans hb
  obtain ⟨hgood, hpos⟩ := State.hopsPos_of_endA hB (by rw [hA]; exact hlow) (by rw [hA]; exact hhigh)
  exact ⟨hgood, hpos.trans hA⟩

/-- An ENUM of end B at port B: the position counts from the other end. -/
theorem State.enumTaken_endB (ha : s.getF F.LNK_ID_HOPS_A = 0) (hlow : 1 ≤ m.hops) (hhigh : m.hops ≤ m.tiles.toNat)
    (htiles : m.tiles.toNat ≤ 24) : (s.enumTaken (hopsFld 1) m).hopsBad = false ∧
      (s.enumTaken (hopsFld 1) m).hopsPos = m.tiles.toNat + 1 - m.hops := by
  have hB : (s.enumTaken (hopsFld 1) m).getF F.LNK_ID_HOPS_B = m.hops :=
    s.getF_enumTaken_hops m (hopsFld_mem 1) (hhigh.trans htiles)
  have hA : (s.enumTaken (hopsFld 1) m).getF F.LNK_ID_HOPS_A = 0 :=
    (s.getF_enumTaken_apart (hopsFld 1) m (by decide) (by decide) (by decide) (by decide)).trans ha
  obtain ⟨hgood, hpos⟩ := State.hopsPos_of_endB hA (by rw [hB]; exact hlow) htiles
  exact ⟨hgood, by rw [hpos, hB]; rfl⟩

end

theorem enumReceived_endA (m : EnumMsg) (s : State) (htile : s.isHead = false) (hfwd : s.flag (F.LNK_PCFG_FWD_EN 1) = true)
    (hend : m.endB = false) (hrel : s.released = false) (hfree : s.flag F.LNK_ID_ASSIGNED = false)
    (hquiet : s.flag F.LNK_ID_CONFLICT = false) (hb : s.getF F.LNK_ID_HOPS_B = 0) (hlow : 1 ≤ m.hops) (hhigh : m.hops ≤ 24) :
    ∃ t, exec (.enumReceived 0 m) s = .next t ∧ t.getF F.LNK_ID_HOPS_A = m.hops ∧ t.getF F.LNK_ID_POS = m.hops ∧
      t.getF F.LNK_ID_CHAIN = m.chain.toNat % 8 ∧ t.lnk.tilesOnChain = m.tiles.toNat ∧ t.lnk.headNumber = m.head.toNat ∧
      t.getF F.BOOT_STAT_PLAN_DIFF = (m.wallId != s.plan.wall.id || m.planSerial != s.plan.wall.serial).toNat ∧
      s.regsKept t [A.LNK_ID, A.BOOT_STAT] ∧
      (s.portUp 1 = true → s.canSend 1 = true →
        ∃ h, t.out = .packet 1 (s.getF (F.LNK_PSTAT_TXMASK 1)) h (.enum { m with hops := m.hops + 1 }) none :: s.out) ∧
      (s.portUp 1 = false → t.out = s.out) := by
  obtain ⟨hgood, hat⟩ := State.enumTaken_endA (m := m) hb hlow hhigh
  have hfinds : s.EnumFinds 0 m := ⟨hrel, hfree, hquiet, hgood⟩
  obtain ⟨hhops, hpos, hchain, hplan, htiles, hhead, hkept⟩ :=
    State.enumRx_places (n := 0) htile (by decide) hfwd hend hhigh hfinds
  obtain ⟨hsends, hstill⟩ := State.enumRx_out (n := 0) htile (by decide) hfwd hend hfinds
  exact ⟨s.enumRx 0 m, rfl, hhops, hpos.trans hat, hchain, htiles, hhead, hplan, hkept, hsends, hstill⟩

theorem enumReceived_endB (m : EnumMsg) (s : State) (htile : s.isHead = false) (hfwd : s.flag (F.LNK_PCFG_FWD_EN 0) = true)
    (hend : m.endB = true) (hrel : s.released = false) (hfree : s.flag F.LNK_ID_ASSIGNED = false)
    (hquiet : s.flag F.LNK_ID_CONFLICT = false) (ha : s.getF F.LNK_ID_HOPS_A = 0) (hlow : 1 ≤ m.hops)
    (hhigh : m.hops ≤ m.tiles.toNat) (hshort : m.tiles.toNat ≤ 24) :
    ∃ t, exec (.enumReceived 1 m) s = .next t ∧ t.getF F.LNK_ID_HOPS_B = m.hops ∧
      t.getF F.LNK_ID_POS = m.tiles.toNat + 1 - m.hops ∧ t.getF F.LNK_ID_CHAIN = m.chain.toNat % 8 := by
  obtain ⟨hgood, hat⟩ := State.enumTaken_endB (m := m) ha hlow hhigh hshort
  have hfinds : s.EnumFinds 1 m := ⟨hrel, hfree, hquiet, hgood⟩
  obtain ⟨hhops, hpos, hchain, -⟩ :=
    State.enumRx_places (n := 1) htile (by decide) hfwd hend (hhigh.trans hshort) hfinds
  exact ⟨s.enumRx 1 m, rfl, hhops, hpos.trans hat, hchain⟩

/-! ### Own packets queued (R131, R133) -/

section
variable {s : State}

/-- A Tile's own packets leave by port A at least (R131). -/
theorem State.zero_mem_ownPorts (s : State) : 0 ∈ s.ownPorts := by
  unfold State.ownPorts
  split <;> simp

/-- With its window, a Tile's packets wait for it (R133). -/
theorem State.postOwn_window (p : OutPkt) (hwin : s.hasWindow = true) : s.postOwn p = s.queueOwn p := by
  refine if_pos ?_
  rw [show (s.queueOwn p).hasWindow = s.hasWindow from rfl, hwin, Bool.or_true]

/-- The one packet that waits does not leave while one of its ports is busy (R133). -/
theorem State.postOwn_busy {p : OutPkt} {n : Nat} (hown : s.lnk.own = []) (hport : n ∈ p.ports) (hbusy : s.portFree n = false) :
    s.postOwn p = s.queueOwn p := by
  have hqueue : (s.queueOwn p).lnk.own = [p] := by
    show s.lnk.own ++ [p] = [p]
    rw [hown]
    rfl
  have hwaits : ((s.queueOwn p).mayStart p && p.ports.all (fun k => (s.queueOwn p).portFree k)) = false := by
    have hall : p.ports.all (fun k => (s.queueOwn p).portFree k) = false := List.all_eq_false.2 ⟨n, hport, by
      rw [show (s.queueOwn p).portFree n = s.portFree n from rfl, hbusy]
      exact Bool.false_ne_true⟩
    rw [hall, Bool.and_false]
  have hstay : flushList (s.queueOwn p) 1 = s.queueOwn p := by
    unfold flushList
    rw [hqueue]
    dsimp only
    rw [hwaits]
    rfl
  rw [State.postOwn, State.flushEarly, hqueue, List.length_singleton, hstay, ite_self]

end

/-! ### JOIN (R136, R370) -/

section
variable (s : State)

theorem State.joinShare_frame : s.joinShare.2 = { s with fresh := s.joinShare.2.fresh, sec := s.joinShare.2.sec } := by
  unfold State.joinShare
  split
  · split <;> rfl
  · rfl

theorem State.signed_frame (body : List Byte) : (s.signed body).2 = { s with fresh := (s.signed body).2.fresh } := rfl

/-- The JOIN that is sent, as a packet. -/
def State.joinPacket (s : State) (body : List Byte) (sig : List Byte) : OutPkt :=
  { ports := s.ownPorts, hdr := { typ := 8, dst := 1022, src := s.srcId, len := 488 }, body := .join { bytes := body ++ sig } }

end

/-- A JOIN queued (R136): the state after its draws differs from the one before in the draws alone. -/
theorem State.queueJoin_queues (s : State) (hentropy : s.sec.entropyBad = false) (hown : s.lnk.own = [])
    (hbusy : s.portFree 0 = false) : ∃ f c pub sig, s.queueJoin =
      ({ s with fresh := f, sec := c } : State).queueOwn (s.joinPacket (s.joinBytes pub) sig) := by
  let r := s.joinShare
  let g := r.2.signed (r.2.joinBytes (publicKey r.1))
  have hdraws : g.2 = { s with fresh := g.2.fresh, sec := r.2.sec } := by
    have hsigned := r.2.signed_frame (r.2.joinBytes (publicKey r.1))
    have hshare := s.joinShare_frame
    rw [show g.2 = { r.2 with fresh := g.2.fresh } from hsigned, show r.2 = { s with fresh := r.2.fresh, sec := r.2.sec } from hshare]
  have hbytes : r.2.joinBytes (publicKey r.1) = s.joinBytes (publicKey r.1) := by
    have hshare := s.joinShare_frame
    rw [show r.2 = { s with fresh := r.2.fresh, sec := r.2.sec } from hshare]
    rfl
  have hgo : s.queueJoin = g.2.postOwn (s.joinPacket (r.2.joinBytes (publicKey r.1)) g.1) := by
    refine if_neg ?_
    rw [hentropy, Bool.false_and]
    exact Bool.false_ne_true
  refine ⟨g.2.fresh, r.2.sec, publicKey r.1, g.1, ?_⟩
  have hown' : g.2.lnk.own = [] := by rw [hdraws]; exact hown
  have hbusy' : g.2.portFree 0 = false := by rw [hdraws]; exact hbusy
  rw [hgo, hbytes, State.postOwn_busy hown' s.zero_mem_ownPorts hbusy']
  exact congrArg (fun u : State => u.queueOwn (s.joinPacket (s.joinBytes (publicKey r.1)) g.1)) hdraws

end Sys2Proof.Machine
end

section
/-!
PROOFS. JOIN, ASSIGN and STATUS of a Tile and its upstream window (chapter 06: R133, R136 to R138), and the settling of the
places.
-/

namespace Sys2Proof.Machine

/-! ### JOIN and STATUS queued -/

theorem joinPeriod_queues (s : State) (htile : s.isHead = false) (hfree : s.flag F.LNK_ID_ASSIGNED = false)
    (hpos : s.getF F.LNK_ID_POS ≠ 0) (hdebug : s.flag F.SEC_STAT_DEBUG = false) (hentropy : s.sec.entropyBad = false)
    (hown : s.lnk.own = []) (hbusy : s.portFree 0 = false) :
    ∃ t p pub sig, exec .joinPeriod s = .next t ∧ t.lnk.own = [p] ∧ p.ports = s.ownPorts ∧ p.hdr.typ = 8 ∧ p.hdr.dst = 1022 ∧
      p.hdr.len = 488 ∧ p.body = .join { bytes := s.joinBytes pub ++ sig } ∧ t.regs = s.regs := by
  obtain ⟨f, c, pub, sig, hjoin⟩ := s.queueJoin_queues hentropy hown hbusy
  have hexec : exec .joinPeriod s = .next s.queueJoin := if_neg (by simp [htile, hfree, hpos, hdebug])
  rw [hjoin] at hexec
  refine ⟨_, s.joinPacket (s.joinBytes pub) sig, pub, sig, hexec, ?_, rfl, rfl, rfl, rfl, rfl, rfl⟩
  show s.lnk.own ++ [s.joinPacket (s.joinBytes pub) sig] = _
  rw [hown]
  rfl

theorem statusPeriod_queues (s : State) (htile : s.isHead = false) (hassigned : s.flag F.LNK_ID_ASSIGNED = true)
    (hwin : s.hasWindow = true) :
    ∃ t p, exec .statusPeriod s = .next t ∧ t = { s with lnk := t.lnk } ∧ t.lnk = { s.lnk with own := s.lnk.own ++ [p] } ∧
      p.hdr.typ = 4 ∧ p.hdr.prot = 2 ∧ p.hdr.dst = 1022 ∧ p.ports = s.ownPorts ∧ ∃ m, p.body = .status m := by
  have hexec : exec .statusPeriod s = .next s.queueStatus := if_pos (by rw [htile, hassigned]; rfl)
  rw [State.queueStatus, State.postOwn_window _ hwin] at hexec
  exact ⟨_, _, hexec, rfl, rfl, rfl, rfl, rfl, rfl, _, rfl⟩

/-! ### ASSIGN (R136, R137) -/

section
variable {m : AssignMsg} {s : State}

/-- The Tile with its identifier and its chain. -/
def State.assigned (s : State) (m : AssignMsg) : State :=
  (((s.setF F.LNK_ID_TILE_ID m.id.toNat).setF F.LNK_ID_CHAIN m.chain.val).raise F.LNK_ID_ASSIGNED).raise F.LNK_EVT_ASSIGNED

theorem assignReceived_takes (htile : s.isHead = false) (hserial : m.serial = s.shadow.serial) (hplaced : s.getF F.LNK_ID_POS ≠ 0)
    (hpos : s.getF F.LNK_ID_POS = m.pos) (hmay : s.released = false ∨ s.flag F.LNK_ID_ASSIGNED = false) :
    exec (.assignReceived m) s = .next (s.assigned m) := by
  have hmine : ¬(s.isHead || m.serial != s.shadow.serial) = true := by simp [htile, hserial]
  have hhere : ¬(s.getF F.LNK_ID_POS = 0 ∨ s.getF F.LNK_ID_POS ≠ m.pos) := not_or.2 ⟨hplaced, fun h => h hpos⟩
  have hopen : ¬(s.released && s.flag F.LNK_ID_ASSIGNED) = true := by rcases hmay with h | h <;> simp [h]
  exact (if_neg hmine).trans ((if_neg hhere).trans (if_neg hopen))

theorem State.assigned_onlyRegs : s.onlyRegs (s.assigned m) [A.LNK_ID, A.LNK_EVT] :=
  ((((State.onlyRegs.refl s _).setF F.LNK_ID_TILE_ID _ (by decide)).setF F.LNK_ID_CHAIN _ (by decide)).raise F.LNK_ID_ASSIGNED
    (by decide)).raise F.LNK_EVT_ASSIGNED (by decide)

theorem State.assigned_shows : (s.assigned m).getF F.LNK_ID_TILE_ID = m.id.toNat ∧ (s.assigned m).getF F.LNK_ID_CHAIN = m.chain ∧
    (s.assigned m).getF F.LNK_ID_ASSIGNED = 1 ∧ (s.assigned m).getF F.LNK_EVT_ASSIGNED = 1 ∧
    (s.assigned m).getF F.LNK_ID_POS = s.getF F.LNK_ID_POS := by
  have hid : m.id.toNat % 2 ^ 10 = m.id.toNat := Nat.mod_eq_of_lt m.id.isLt
  have hchain : m.chain.val % 2 ^ 3 = m.chain.val := Nat.mod_eq_of_lt m.chain.isLt
  simp only [State.assigned, State.raise]
  refine ⟨?_, ?_, ?_, ?_, ?_⟩
  · rw [State.getF_setF_apart _ _ _ _ (by decide) (by decide), State.getF_setF_apart _ _ _ _ (by decide) (by decide),
      State.getF_setF_apart _ _ _ _ (by decide) (by decide), State.getF_setF_self _ _ _ (by decide)]
    exact hid
  · rw [State.getF_setF_apart _ _ _ _ (by decide) (by decide), State.getF_setF_apart _ _ _ _ (by decide) (by decide),
      State.getF_setF_self _ _ _ (by decide)]
    exact hchain
  · rw [State.getF_setF_apart _ _ _ _ (by decide) (by decide)]
    exact State.getF_raise_self _ _ (by decide) (by decide)
  · exact State.getF_raise_self _ _ (by decide) (by decide)
  · rw [State.getF_setF_apart _ _ _ _ (by decide) (by decide), State.getF_setF_apart _ _ _ _ (by decide) (by decide),
      State.getF_setF_apart _ _ _ _ (by decide) (by decide), State.getF_setF_apart _ _ _ _ (by decide) (by decide)]

theorem assignReceived_otherTile (hserial : m.serial ≠ s.shadow.serial) : exec (.assignReceived m) s = .next s :=
  if_pos (by simp [hserial])

theorem assignReceived_conflict (htile : s.isHead = false) (hserial : m.serial = s.shadow.serial)
    (hpos : s.getF F.LNK_ID_POS ≠ m.pos) : exec (.assignReceived m) s = .next s.conflict := by
  have hmine : ¬(s.isHead || m.serial != s.shadow.serial) = true := by simp [htile, hserial]
  exact (if_neg hmine).trans (if_pos (.inr hpos))

end

/-! ### The upstream window (R133, R138) -/

section
variable {s : State} {p : OutPkt} {rest : List OutPkt}

/-- The header of an own packet as it leaves (R128). -/
def State.ownHdr (s : State) (p : OutPkt) : Hdr :=
  { p.hdr with seq := BitVec.ofNat 32 (s.nextSeq (dstKind p.hdr.dst)).1, keyEp := BitVec.ofNat 6 s.curEp }

/-- A window of one packet sends the first that waits (R133). -/
theorem upstreamWindow_sendsOne (htile : s.isHead = false) (hwin : s.hasWindow = true) (howed : s.lnk.extraStatus = false)
    (hown : s.lnk.own = p :: rest) (htyp : p.hdr.typ ≠ 11) (hstart : s.mayStart p = true) :
    exec (.upstreamWindow 1) s = .next (({ s with lnk := { s.lnk with own := rest } } : State).sendOwn p) := by
  have hgoes : ¬(s.isHead || !s.hasWindow) = true := by simp [htile, hwin]
  have htake : takeWindow s.plan.upd.blocksPerImage [] s.lnk.own = some (p, rest) := by
    rw [hown]
    exact if_neg fun h => htyp h.1
  have hsend : sendWindow s [] 1 = ({ s with lnk := { s.lnk with own := rest } } : State).sendOwn p := by
    unfold sendWindow
    rw [htake]
    dsimp only
    rw [if_pos hstart]
    rfl
  have hstill : (s.when (s.lnk.extraStatus && s.flag F.LNK_ID_ASSIGNED) fun t =>
      ({ t with lnk := { t.lnk with extraStatus := false } } : State).queueStatus) = s := by
    rw [howed]
    rfl
  refine (if_neg hgoes).trans (congrArg Host.Outcome.next ?_)
  dsimp only
  rw [hstill, hsend]

/-- An own packet that is not hop-local leaves by its one port, numbered and filled. -/
theorem State.sendOwn_single {n : Nat} (hports : p.ports = [n]) (hhop : p.hdr.hop = false) : s.sendOwn p =
    ((s.nextSeq (dstKind p.hdr.dst)).2.fillBody p.body).2.putOnPort n (s.ownHdr p)
      ((s.nextSeq (dstKind p.hdr.dst)).2.fillBody p.body).1 := by
  rw [State.sendOwn, hhop, if_neg Bool.false_ne_true, hports]
  rfl

/-- A packet of one port may start where that port can send it and nothing waits to be forwarded by it. -/
theorem State.mayStart_single {n : Nat} (hports : p.ports = [n]) (hempty : s.queueEmpty n = true)
    (hcan : s.canPut n { p.hdr with keyEp := BitVec.ofNat 6 s.curEp } = true) : s.mayStart p = true := by
  simp [State.mayStart, hports, hcan, hempty]

theorem State.canPut_of_key {n : Nat} {h : Hdr} (hsend : s.canSend n = true) (hup : s.portUp n = true)
    (hkey : h.prot = 0 ∨ (s.txKey n h).isSome = true) : s.canPut n h = true := by
  rcases hkey with hkey | hkey <;> simp [State.canPut, hsend, hup, hkey]

/-- A window sends an own packet without a tag (R133). -/
theorem upstreamWindow_plain (htile : s.isHead = false) (hwin : s.hasWindow = true) (howed : s.lnk.extraStatus = false)
    (hown : s.lnk.own = p :: rest) (htyp : p.hdr.typ ≠ 11) (hports : p.ports = [0]) (hhop : p.hdr.hop = false)
    (hprot : p.hdr.prot = 0) (hsend : s.canSend 0 = true) (hup : s.portUp 0 = true) (hempty : s.queueEmpty 0 = true)
    (hbody : ∀ m, p.body ≠ .status m) :
    ∃ t h, exec (.upstreamWindow 1) s = .next t ∧ t = { s with lnk := t.lnk, lan := t.lan, out := t.out } ∧ t.lnk.own = rest ∧
      t.out = .packet 0 (s.getF (F.LNK_PSTAT_TXMASK 0)) h p.body none :: s.out ∧
      h.seq = BitVec.ofNat 32 (s.nextSeq (dstKind p.hdr.dst)).1 ∧ h.typ = p.hdr.typ := by
  let u : State := { s with lnk := { s.lnk with own := rest } }
  have hfill (v : State) : v.fillBody p.body = (p.body, v) := by
    unfold State.fillBody
    split
    · next m hm => exact absurd hm (hbody m)
    · rfl
  have hstart : s.mayStart p = true := State.mayStart_single hports hempty (State.canPut_of_key hsend hup (.inl hprot))
  have hcan : (u.nextSeq (dstKind p.hdr.dst)).2.canPut 0 (u.ownHdr p) = true :=
    State.canPut_of_key (s := (u.nextSeq (dstKind p.hdr.dst)).2) hsend hup (.inl hprot)
  have hexec := upstreamWindow_sendsOne htile hwin howed hown htyp hstart
  rw [State.sendOwn_single hports hhop, hfill, State.putOnPort_eq _ hcan, if_pos (show (u.ownHdr p).prot = 0 from hprot)] at hexec
  exact ⟨_, u.ownHdr p, hexec, rfl, rfl, rfl, rfl, rfl⟩

/-- A window sends a STATUS sealed, with the values of the last image boundary (R138). -/
theorem upstreamWindow_status {m : StatusMsg} {k : Key} (htile : s.isHead = false) (hwin : s.hasWindow = true)
    (howed : s.lnk.extraStatus = false) (hown : s.lnk.own = p :: rest) (htyp : p.hdr.typ = 4) (hports : p.ports = [0])
    (hhop : p.hdr.hop = false) (hprot : p.hdr.prot = 2) (hsend : s.canSend 0 = true) (hup : s.portUp 0 = true)
    (hempty : s.queueEmpty 0 = true) (hbody : p.body = .status m) (hkey : s.chainKey (s.chainOf 0) s.curEp = some k) :
    ∃ t h, exec (.upstreamWindow 1) s = .next t ∧ t.lnk.own = rest ∧ t.regs = s.regs ∧
      t.out = .packet 0 (s.getF (F.LNK_PSTAT_TXMASK 0)) h (.status s.statusMsg) (some k) :: s.out ∧ h.typ = 4 := by
  let u : State := { s with lnk := { s.lnk with own := rest } }
  let v : State := ((u.nextSeq (dstKind p.hdr.dst)).2.fillBody (.status m)).2
  have hseal (h : Hdr) (hh : h.hop = false) (hep : h.keyEp = BitVec.ofNat 6 s.curEp) : s.txKey 0 h = some k := by
    rw [State.txKey, hh, hep, s.chainKey_keyEp, hkey]
    rfl
  have hstart : s.mayStart p = true :=
    State.mayStart_single hports hempty (State.canPut_of_key hsend hup (.inr (Option.isSome_of_eq_some (hseal _ hhop rfl))))
  have hsealed : v.txKey 0 (u.ownHdr p) = some k := hseal (u.ownHdr p) hhop rfl
  have hcan : v.canPut 0 (u.ownHdr p) = true :=
    State.canPut_of_key (s := v) hsend hup (.inr (Option.isSome_of_eq_some hsealed))
  have hprotected : ¬(u.ownHdr p).prot = 0 := by
    rw [show (u.ownHdr p).prot = 2 from hprot]
    decide
  have hexec := upstreamWindow_sendsOne htile hwin howed hown (by rw [htyp]; decide) hstart
  rw [State.sendOwn_single hports hhop, hbody, State.putOnPort_eq _ hcan, if_neg hprotected, hsealed] at hexec
  exact ⟨_, u.ownHdr p, hexec, rfl, rfl, rfl, htyp⟩

end

/-- Settles O24. -/
theorem placesJoinAssignAndStatus : Obligations.PlacesJoinAssignAndStatus := by
  refine ⟨⟨enumPeriod_sends, enumReceived_endA, fun n m s htile hn hfwd hend hquiet => ?_, enumReceived_endB,
    enumReceived_elsewhere, conflictQuietExpiry_clears⟩, joinPeriod_queues,
    fun m s htile hserial hplaced hpos hmay => ?_, fun m s => assignReceived_otherTile,
    fun m s htile hserial hpos hquiet => ?_, statusPeriod_queues,
    fun p rest s => upstreamWindow_plain, fun p rest m k s => upstreamWindow_status⟩
  · obtain ⟨hconf, hevt⟩ := State.conflict_shows hquiet
    refine ⟨s.conflict, enumReceived_wrongSide n m s htile hn hfwd hend, hconf, hevt, State.conflict_regsKept hquiet, ?_, ?_⟩
    · rw [State.conflict_tells hquiet]
      rfl
    · rw [State.conflict_tells hquiet]
  · exact ⟨s.assigned m, assignReceived_takes htile hserial hplaced hpos hmay, State.assigned_onlyRegs, State.assigned_shows⟩
  · obtain ⟨hconf, hevt⟩ := State.conflict_shows hquiet
    exact ⟨s.conflict, assignReceived_conflict htile hserial hpos, hconf, hevt,
      State.getF_conflict_apart hquiet (by decide) (by decide) (by decide),
      State.getF_conflict_apart hquiet (by decide) (by decide) (by decide)⟩

end Sys2Proof.Machine
end

section
/-!
PROOFS. What an operation of ingest may change, the sources and their states, and the memory that a captured frame reaches
(chapter 07: R141 to R146).
-/

namespace Sys2Proof.Machine

/-! ### The frame of ingest -/

/-- Nothing changed but registers, of those only the listed ones, what ingest holds, and what goes out. -/
def State.onlyIngest (s t : State) (l : List Nat) : Prop :=
  t = { s with regs := t.regs, ing := t.ing, out := t.out } ∧ s.regsKept t l

section
variable {s t u : State} {l : List Nat}

theorem State.onlyIngest.refl (s : State) (l : List Nat) : s.onlyIngest s l := ⟨rfl, State.regsKept.refl s l⟩

theorem State.onlyIngest.trans (h : s.onlyIngest t l) (k : t.onlyIngest u l) : s.onlyIngest u l := by
  obtain ⟨ht, htkept⟩ := h
  obtain ⟨hu, hukept⟩ := k
  refine ⟨?_, htkept.trans hukept⟩
  rw [ht] at hu
  exact hu

theorem State.onlyIngest.mono {m : List Nat} (h : s.onlyIngest t l) (k : ∀ a ∈ l, a ∈ m) : s.onlyIngest t m :=
  ⟨h.1, h.2.mono k⟩

theorem State.onlyIngest.setF (h : s.onlyIngest t l) (f : Fld) (v : Nat) (m : f.addr ∈ l) : s.onlyIngest (t.setF f v) l :=
  h.trans ⟨rfl, (State.regsKept.refl t l).setF f v m⟩

theorem State.onlyIngest.setSrc (h : s.onlyIngest t l) (n : Nat) (x : SrcX) : s.onlyIngest (t.setSrc n x) l :=
  h.trans ⟨rfl, State.regsKept.refl t l⟩

theorem State.onlyIngest.setShut (h : s.onlyIngest t l) (j : Nat) (x : ShutX) : s.onlyIngest (t.setShut j x) l :=
  h.trans ⟨rfl, State.regsKept.refl t l⟩

theorem State.onlyIngest.emit (h : s.onlyIngest t l) (e : Emission) : s.onlyIngest (t.emit e) l :=
  h.trans ⟨rfl, State.regsKept.refl t l⟩

theorem State.onlyIngest.when (h : s.onlyIngest t l) (c : Bool) {f : State → State} (hf : s.onlyIngest (f t) l) :
    s.onlyIngest (t.when c f) l := by
  cases c
  · exact h
  · exact hf

theorem State.onlyRegs.onlyIngest (h : s.onlyRegs t l) : s.onlyIngest t l := by
  obtain ⟨ht, hkept⟩ := h
  refine ⟨?_, hkept⟩
  rw [ht]

/-- The frame of a step that puts nothing out. -/
theorem State.onlyIngest.frame (h : s.onlyIngest t l) (hout : t.out = s.out) : t = { s with regs := t.regs, ing := t.ing } := by
  have ht := h.1
  rwa [hout] at ht

end

/-! ### The parts of a source -/

section
variable (s : State)

@[simp] theorem State.src_setSrc_self (n : Nat) (x : SrcX) : (s.setSrc n x).src n = x := tabGet_tabPut_self _ _ _ _

theorem State.bit_setSrc (n : Nat) (x : SrcX) (f : Fld) (i : Nat) : (s.setSrc n x).bit f i = s.bit f i := rfl

theorem State.src_setSrc_ne {n k : Nat} (x : SrcX) (h : k ≠ n) : (s.setSrc n x).src k = s.src k := tabGet_tabPut_ne _ _ _ h

end

/-! ### The status register of a source (R8) -/

section
variable (n : Nat)

@[simp] theorem sstatField_addr : (F.ING_SSTAT_STATE n).addr = A.ING_SSTAT n ∧ (F.ING_SSTAT_WRITING n).addr = A.ING_SSTAT n ∧
    (F.ING_SSTAT_NEWEST n).addr = A.ING_SSTAT n ∧ (F.ING_SSTAT_HAVE n).addr = A.ING_SSTAT n ∧
    (F.ING_SSTAT_DROPS n).addr = A.ING_SSTAT n ∧ (F.ING_SSTAT_FMT_ERR n).addr = A.ING_SSTAT n ∧
    (F.LAN_DPLINK_SDP_DROP n).addr = A.LAN_DPLINK n := by and_intros <;> rfl

@[simp] theorem sstatField_width : (F.ING_SSTAT_STATE n).width = 3 ∧ (F.ING_SSTAT_WRITING n).width = 2 ∧
    (F.ING_SSTAT_NEWEST n).width = 2 ∧ (F.ING_SSTAT_HAVE n).width = 1 ∧ (F.ING_SSTAT_DROPS n).width = 8 ∧
    (F.ING_SSTAT_FMT_ERR n).width = 8 ∧ (F.LAN_DPLINK_SDP_DROP n).width = 8 := by and_intros <;> rfl

@[simp] theorem sstatField_fits : (F.ING_SSTAT_STATE n).lo + 3 ≤ 32 ∧ (F.ING_SSTAT_WRITING n).lo + 2 ≤ 32 ∧
    (F.ING_SSTAT_NEWEST n).lo + 2 ≤ 32 ∧ (F.ING_SSTAT_HAVE n).lo < 32 ∧ (F.ING_SSTAT_DROPS n).lo + 8 ≤ 32 ∧
    (F.ING_SSTAT_FMT_ERR n).lo + 8 ≤ 32 ∧ (F.LAN_DPLINK_SDP_DROP n).lo + 8 ≤ 32 := by
  simp [F.ING_SSTAT_STATE, F.ING_SSTAT_WRITING, F.ING_SSTAT_NEWEST, F.ING_SSTAT_HAVE, F.ING_SSTAT_DROPS, F.ING_SSTAT_FMT_ERR,
    F.LAN_DPLINK_SDP_DROP]

/-- The fields that are written beside STATE lie apart from it, and HAVE from NEWEST. -/
@[simp] theorem sstatField_apart : (F.ING_SSTAT_WRITING n).apart (F.ING_SSTAT_STATE n) = true ∧
    (F.ING_SSTAT_NEWEST n).apart (F.ING_SSTAT_STATE n) = true ∧ (F.ING_SSTAT_HAVE n).apart (F.ING_SSTAT_STATE n) = true ∧
    (F.ING_SSTAT_DROPS n).apart (F.ING_SSTAT_STATE n) = true ∧ (F.ING_SSTAT_FMT_ERR n).apart (F.ING_SSTAT_STATE n) = true ∧
    (F.ING_SSTAT_STATE n).apart (F.ING_SSTAT_NEWEST n) = true ∧ (F.ING_SSTAT_STATE n).apart (F.ING_SSTAT_HAVE n) = true ∧
    (F.ING_SSTAT_STATE n).apart (F.ING_SSTAT_DROPS n) = true ∧ (F.ING_SSTAT_STATE n).apart (F.ING_SSTAT_FMT_ERR n) = true ∧
    (F.ING_SSTAT_HAVE n).apart (F.ING_SSTAT_NEWEST n) = true := by
  simp [Fld.apart, F.ING_SSTAT_STATE, F.ING_SSTAT_WRITING, F.ING_SSTAT_NEWEST, F.ING_SSTAT_HAVE, F.ING_SSTAT_DROPS,
    F.ING_SSTAT_FMT_ERR]

variable {n}

theorem ingSstat_ne_scnEvt (hn : n < 4) : A.ING_SSTAT n ≠ A.SCN_EVT := by
  simp only [A.ING_SSTAT, A.SCN_EVT]
  omega

theorem ingSstat_ne_lanDplink (hn : n < 4) (k : Nat) : A.ING_SSTAT k ≠ A.LAN_DPLINK n := by
  simp only [A.ING_SSTAT, A.LAN_DPLINK]
  omega

theorem ingScfg_ne_lanDplink (hn : n < 4) (k : Nat) : A.ING_SCFG k ≠ A.LAN_DPLINK n := by
  simp only [A.ING_SCFG, A.LAN_DPLINK]
  omega

theorem ingSstat_inj {k : Nat} (h : k ≠ n) : A.ING_SSTAT k ≠ A.ING_SSTAT n := by
  simp only [A.ING_SSTAT]
  omega

end

/-! ### The state of a source (R141, R144) -/

section
variable (s : State) (n v : Nat)

/-- A source's state is STATE rewritten: left from 2, with the event and the start of the hold time; taken to 2, with the hold
time ended; or neither. -/
theorem State.srcState_cases :
    (s.getF (F.ING_SSTAT_STATE n) = 2 ∧ v ≠ 2 ∧ s.srcState n v =
      ((s.setF (F.ING_SSTAT_STATE n) v).raiseBit F.SCN_EVT_SRC_HOLD n).setSrc n { s.src n with holdFrom := some s.now }) ∨
    (v = 2 ∧ s.srcState n v = (s.setF (F.ING_SSTAT_STATE n) v).setSrc n { s.src n with holdFrom := none }) ∨
    (s.getF (F.ING_SSTAT_STATE n) ≠ 2 ∧ v ≠ 2 ∧ s.srcState n v = s.setF (F.ING_SSTAT_STATE n) v) := by
  by_cases hv : v = 2
  · exact .inr (.inl ⟨hv, (if_neg fun h => h.2 hv).trans (if_pos hv)⟩)
  · by_cases hold : s.getF (F.ING_SSTAT_STATE n) = 2
    · exact .inl ⟨hold, hv, if_pos ⟨hold, hv⟩⟩
    · exact .inr (.inr ⟨hold, hv, (if_neg fun h => hold h.1).trans (if_neg hv)⟩)

theorem State.srcState_two :
    s.srcState n 2 = (s.setF (F.ING_SSTAT_STATE n) 2).setSrc n { s.src n with holdFrom := none } :=
  (if_neg fun h => h.2 rfl).trans (if_pos rfl)

theorem State.srcState_onlyIngest : s.onlyIngest (s.srcState n v) [A.ING_SSTAT n, A.SCN_EVT] := by
  have hset := (State.onlyIngest.refl s [A.ING_SSTAT n, A.SCN_EVT]).setF (F.ING_SSTAT_STATE n) v (by simp)
  obtain ⟨-, -, h⟩ | ⟨-, h⟩ | ⟨-, -, h⟩ := s.srcState_cases n v <;> rw [h]
  · exact (hset.setF F.SCN_EVT_SRC_HOLD _ (List.mem_cons_of_mem _ List.mem_cons_self)).setSrc _ _
  · exact hset.setSrc _ _
  · exact hset

/-- A source that does not leave STATE 2 shows it in its own register alone. -/
theorem State.srcState_onlyIngest_of_held (hheld : s.getF (F.ING_SSTAT_STATE n) ≠ 2 ∨ v = 2) :
    s.onlyIngest (s.srcState n v) [A.ING_SSTAT n] := by
  have hset := (State.onlyIngest.refl s [A.ING_SSTAT n]).setF (F.ING_SSTAT_STATE n) v (by simp)
  obtain ⟨hold, hv, -⟩ | ⟨-, h⟩ | ⟨-, -, h⟩ := s.srcState_cases n v
  · exact absurd hheld (by simp [hold, hv])
  · rw [h]
    exact hset.setSrc _ _
  · rw [h]
    exact hset

@[simp] theorem State.out_srcState : (s.srcState n v).out = s.out := by
  obtain ⟨-, -, h⟩ | ⟨-, h⟩ | ⟨-, -, h⟩ := s.srcState_cases n v <;> rw [h] <;> rfl

/-- A source's state changes the hold time of its part alone. -/
theorem State.src_srcState : (s.srcState n v).src n = { s.src n with holdFrom := ((s.srcState n v).src n).holdFrom } := by
  obtain ⟨-, -, h⟩ | ⟨-, h⟩ | ⟨-, -, h⟩ := s.srcState_cases n v <;> rw [h]
  · rw [State.src_setSrc_self]
  · rw [State.src_setSrc_self]
  · rfl

theorem State.src_srcState_ne {k : Nat} (hk : k ≠ n) : (s.srcState n v).src k = s.src k := by
  obtain ⟨-, -, h⟩ | ⟨-, h⟩ | ⟨-, -, h⟩ := s.srcState_cases n v <;> rw [h]
  · exact State.src_setSrc_ne _ _ hk
  · exact State.src_setSrc_ne _ _ hk
  · rfl

variable {n}

theorem State.getF_srcState_apart (hn : n < 4) {f : Fld} (haddr : f.addr = A.ING_SSTAT n) (h : (F.ING_SSTAT_STATE n).apart f = true)
    (hfit : f.lo + f.width ≤ 32) : (s.srcState n v).getF f = s.getF f := by
  have hset : (s.setF (F.ING_SSTAT_STATE n) v).getF f = s.getF f := State.getF_setF_apart _ _ _ _ h hfit
  have hevt : F.SCN_EVT_SRC_HOLD.apart f = true :=
    Fld.apart_of_addr_ne fun e => ingSstat_ne_scnEvt hn (haddr.symm.trans e.symm)
  obtain ⟨-, -, h⟩ | ⟨-, h⟩ | ⟨-, -, h⟩ := s.srcState_cases n v <;> rw [h]
  · rw [State.getF_setSrc, State.raiseBit, State.getF_setF_apart _ _ _ _ hevt hfit, hset]
  · rw [State.getF_setSrc, hset]
  · exact hset

/-- A source that leaves STATE 2 shows it in SRC_HOLD (R144). -/
theorem State.bit_srcState_srcHold (hn : n < 4) (hold : s.getF (F.ING_SSTAT_STATE n) = 2) (hv : v ≠ 2) :
    (s.srcState n v).bit F.SCN_EVT_SRC_HOLD n = true := by
  obtain ⟨-, -, h⟩ | ⟨h, -⟩ | ⟨h, -⟩ := s.srcState_cases n v
  · rw [h, State.bit_setSrc, State.bit_raiseBit_self _ _ _ (by decide) hn]
  · exact absurd h hv
  · exact absurd hold h

end

/-! ### The end of a capture that was to stop (R146) -/

section
variable {s : State} {n : Nat}

theorem State.captureEnd_of_ended (hstop : (s.src n).stopAtEnd = true) (hidle : (s.src n).filling = []) :
    s.captureEnd n = (s.setSrc n { s.src n with stopAtEnd := false }).srcState n 0 := if_pos (by simp [hstop, hidle])

theorem State.captureEnd_of_not (h : ¬((s.src n).stopAtEnd = true ∧ (s.src n).filling = [])) : s.captureEnd n = s :=
  if_neg (by simpa using h)

variable (s n)

theorem State.captureEnd_onlyIngest : s.onlyIngest (s.captureEnd n) [A.ING_SSTAT n, A.SCN_EVT] := by
  by_cases h : (s.src n).stopAtEnd = true ∧ (s.src n).filling = []
  · rw [State.captureEnd_of_ended h.1 h.2]
    exact ((State.onlyIngest.refl s _).setSrc _ _).trans (State.srcState_onlyIngest _ _ _)
  · rw [State.captureEnd_of_not h]
    exact State.onlyIngest.refl s _

@[simp] theorem State.out_captureEnd : (s.captureEnd n).out = s.out := by
  by_cases h : (s.src n).stopAtEnd = true ∧ (s.src n).filling = []
  · rw [State.captureEnd_of_ended h.1 h.2, State.out_srcState]
    rfl
  · rw [State.captureEnd_of_not h]

theorem State.src_captureEnd : ((s.captureEnd n).src n).stopAtEnd = ((s.src n).stopAtEnd && !(s.src n).filling.isEmpty) ∧
    ((s.captureEnd n).src n).filling = (s.src n).filling ∧ ((s.captureEnd n).src n).stores = (s.src n).stores := by
  by_cases h : (s.src n).stopAtEnd = true ∧ (s.src n).filling = []
  · rw [State.captureEnd_of_ended h.1 h.2, State.src_srcState, State.src_setSrc_self]
    exact ⟨by simp [h], rfl, rfl⟩
  · rw [State.captureEnd_of_not h]
    refine ⟨?_, rfl, rfl⟩
    cases hstop : (s.src n).stopAtEnd <;> simp_all

variable {n}

theorem State.getF_captureEnd_state (hn : n < 4) : (s.captureEnd n).getF (F.ING_SSTAT_STATE n) =
    if (s.src n).stopAtEnd = true ∧ (s.src n).filling = [] then 0 else s.getF (F.ING_SSTAT_STATE n) := by
  split
  · next h => rw [State.captureEnd_of_ended h.1 h.2, State.getF_srcState _ hn (by decide)]
  · next h => rw [State.captureEnd_of_not h]

theorem State.getF_captureEnd_apart (hn : n < 4) {f : Fld} (haddr : f.addr = A.ING_SSTAT n)
    (h : (F.ING_SSTAT_STATE n).apart f = true) (hfit : f.lo + f.width ≤ 32) : (s.captureEnd n).getF f = s.getF f := by
  by_cases hend : (s.src n).stopAtEnd = true ∧ (s.src n).filling = []
  · rw [State.captureEnd_of_ended hend.1 hend.2]
    exact State.getF_srcState_apart _ _ hn haddr h hfit
  · rw [State.captureEnd_of_not hend]

end

/-! ### A frame in the memory (R142) -/

theorem le_pitch256 (n : Nat) : n ≤ pitch256 n := by
  unfold pitch256
  omega

section
variable (p : Planes)

@[simp] theorem Planes.stored_length (v : Nat) : (p.stored v).length = p.sampleBytes := by
  unfold Planes.stored Planes.sampleBytes
  split <;> exact bytesLe_length _ _

theorem Planes.lumaLine_length (f : Nat → Nat) :
    ((List.range p.w).flatMap fun x => p.stored (f x)).length = p.lineBytes 0 := by
  simp [List.length_flatMap, Planes.lineBytes]

theorem Planes.chromaLine_length (f g : Nat → Nat) :
    ((List.range p.cols).flatMap fun x => p.stored (f x) ++ p.stored (g x)).length = p.lineBytes 1 := by
  simp [List.length_flatMap, Planes.lineBytes]
  ring

/-- A line of the Y plane ends within the picture. -/
theorem Planes.lumaLine_end {y : Nat} (hy : y < p.h) : p.lineAt 0 y + p.lineBytes 0 ≤ p.size := by
  have hlines := Nat.mul_le_mul_right (pitch256 (p.lineBytes 0)) (Nat.succ_le_of_lt hy)
  have hpitch := le_pitch256 (p.lineBytes 0)
  simp only [Planes.size, Planes.lineAt, if_pos, Nat.succ_mul, one_ne_zero, if_false] at hlines ⊢
  omega

/-- A line of the C plane ends within the picture. -/
theorem Planes.chromaLine_end {y : Nat} (hy : y < p.cLines) : p.lineAt 1 y + p.lineBytes 1 ≤ p.size := by
  have hlines := Nat.mul_le_mul_right (pitch256 (p.lineBytes 1)) (Nat.succ_le_of_lt hy)
  have hpitch := le_pitch256 (p.lineBytes 1)
  simp only [Planes.size, Planes.lineAt, Nat.succ_mul, one_ne_zero, if_false] at hlines ⊢
  omega

end

section
variable (s : State) (n i : Nat)

/-- Lines written into a store leave every byte that none of them covers. -/
theorem State.memGet_forEach_lines {off : Nat → Nat} {line : Nat → List Byte} {a : Nat} {ys : List Nat}
    (h : ∀ y ∈ ys, a < lpddr (s.storeBase n i + off y) ∨ lpddr (s.storeBase n i + off y) + (line y).length ≤ a) :
    memGet (s.forEach ys fun y t => t.lpddrPut (t.storeBase n i + off y) (line y)).core.mem a = memGet s.core.mem a := by
  induction ys generalizing s with
  | nil => rfl
  | cons y ys ih =>
    exact (ih (s.lpddrPut (s.storeBase n i + off y) (line y)) fun z hz => h z (List.mem_cons_of_mem y hz)).trans
      (memGet_memPuts_outside _ _ _ _ (h y List.mem_cons_self))

/-- The state with the memory emptied: what lines written into a store leave as it was. -/
def State.besideMem (s : State) : State := { s with core := { s.core with mem := [] } }

variable (st : Store)

theorem State.storeWrite_besideMem : (s.storeWrite n i st).besideMem = s.besideMem := by
  unfold State.storeWrite
  extract_lets p s1
  have hluma : s1.besideMem = s.besideMem := State.forEach_same s State.besideMem _ fun _ _ => rfl
  refine (State.forEach_same s1 State.besideMem _ ?_).trans hluma
  exact fun _ _ => rfl

/-- A frame stored changes the memory alone. -/
theorem State.storeWrite_frame :
    s.storeWrite n i st = { s with core := { s.core with mem := (s.storeWrite n i st).core.mem } } :=
  congrArg (fun u : State => { u with core := { u.core with mem := (s.storeWrite n i st).core.mem } }) (s.storeWrite_besideMem n i st)

/-- A frame stored leaves every byte outside its store (R142). -/
theorem State.memGet_storeWrite_outside {a : Nat}
    (h : a < lpddr (s.storeBase n i) ∨ lpddr (s.storeBase n i) + st.planes.size ≤ a) :
    memGet (s.storeWrite n i st).core.mem a = memGet s.core.mem a := by
  unfold State.storeWrite
  extract_lets p s1
  have hluma : memGet s1.core.mem a = memGet s.core.mem a := by
    refine s.memGet_forEach_lines n i fun y hy => ?_
    have hend : p.lineAt 0 y + p.lineBytes 0 ≤ st.planes.size := p.lumaLine_end (List.mem_range.1 hy)
    rw [p.lumaLine_length]
    simp only [lpddr] at h ⊢
    omega
  have hbase : s1.storeBase n i = s.storeBase n i := State.forEach_same s (State.storeBase · n i) _ fun _ _ => rfl
  refine (s1.memGet_forEach_lines n i fun y hy => ?_).trans hluma
  have hend : p.lineAt 1 y + p.lineBytes 1 ≤ st.planes.size := p.chromaLine_end (List.mem_range.1 hy)
  rw [p.chromaLine_length, hbase]
  simp only [lpddr] at h ⊢
  omega

end

end Sys2Proof.Machine
end

section
/-!
PROOFS. Source frames and their stores (chapter 07: R141 to R146; R101 for the packets discarded).
-/

namespace Sys2Proof.Machine

/-! ### A store taken (R143, R145) -/

section
variable (s : State) (n i : Nat)

/-- The store that a frame is begun in: the format and the window in force, nothing complete. -/
def State.begunStore : Store :=
  { complete := false, stamp := s.fresh, fmt := s.getF (F.ING_SCFG_FORMAT n), bits := depthBits (s.getF (F.ING_SCFG_DEPTH n)),
    x := s.actF (F.ING_WINPOS_X n), y := s.actF (F.ING_WINPOS_Y n), w := s.actF (F.ING_WINSIZE_W n),
    h := s.actF (F.ING_WINSIZE_H n) }

theorem State.src_takeStore : (s.takeStore n i).src n =
    { s.src n with filling := (s.src n).filling ++ [i], stores := tabPut (s.src n).stores i (s.begunStore n) } :=
  State.src_setSrc_self _ _ _

theorem State.getF_takeStore_state : (s.takeStore n i).getF (F.ING_SSTAT_STATE n) = s.getF (F.ING_SSTAT_STATE n) := by
  rw [State.takeStore, State.getF_setSrc, State.getF_setF_apart _ _ _ _ (by simp) (by simp)]

theorem State.getF_takeStore_writing : (s.takeStore n i).getF (F.ING_SSTAT_WRITING n) = i % 4 := by
  rw [State.takeStore, State.getF_setSrc, State.getF_setF_self _ _ _ (by simp)]
  rfl

theorem State.takeStore_regsKept : s.regsKept (s.takeStore n i) [A.ING_SSTAT n] :=
  (((State.onlyIngest.refl s _).setF (F.ING_SSTAT_WRITING n) i (by simp)).setSrc _ _).2

/-- A store taken with a stamp of its own. -/
def State.takeFresh : State := ({ s with fresh := s.fresh + 1 } : State).takeStore n i

theorem State.takeFresh_regsKept : s.regsKept (s.takeFresh n i) [A.ING_SSTAT n] :=
  ((State.regsKept.refl s _).congr (u := { s with fresh := s.fresh + 1 }) rfl).trans (State.takeStore_regsKept _ n i)

theorem State.src_takeFresh : (s.takeFresh n i).src n = { s.src n with
    filling := (s.src n).filling ++ [i]
    stores := tabPut (s.src n).stores i (({ s with fresh := s.fresh + 1 } : State).begunStore n) } := State.src_takeStore _ _ _

variable {s n} in
/-- The writer's choice is one of the free stores. -/
theorem State.takeStore_choose {l : List Nat} (h : s.freeStores n = l) :
    (s.choose (s.freeStores n).length).2.takeStore n ((s.freeStores n).getD (s.choose (s.freeStores n).length).1 0) =
      s.takeFresh n (l.getD (Config.free s.fresh % l.length) 0) := by
  rw [h]
  rfl

/-! ### A frame dropped (R143) -/

theorem State.getF_dropFrame (hn : n < 4) : (s.dropFrame n).getF (F.ING_SSTAT_STATE n) = s.getF (F.ING_SSTAT_STATE n) ∧
    (s.dropFrame n).getF (F.ING_SSTAT_DROPS n) = min (s.getF (F.ING_SSTAT_DROPS n) + 1) 255 := by
  have hevt {f : Fld} (haddr : f.addr = A.ING_SSTAT n) : F.SCN_EVT_SRC_DROP.apart f = true :=
    Fld.apart_of_addr_ne fun e => ingSstat_ne_scnEvt hn (haddr.symm.trans e.symm)
  refine ⟨?_, ?_⟩ <;> rw [State.dropFrame, State.raiseBit, State.getF_setF_apart _ _ _ _ (hevt (by simp)) (by simp)]
  · exact State.getF_setF_apart _ _ _ _ (by simp) (by simp)
  · rw [State.getF_bump_self _ _ (by simp)]
    simp

theorem State.dropFrame_onlyRegs : s.onlyRegs (s.dropFrame n) [A.ING_SSTAT n, A.SCN_EVT] :=
  ((State.onlyRegs.refl s _).bump (F.ING_SSTAT_DROPS n) (by simp)).raiseBit F.SCN_EVT_SRC_DROP n
    (List.mem_cons_of_mem _ List.mem_cons_self)

/-! ### A frame rejected (R141) -/

/-- A source whose frame disagrees with the format that it was planned with. -/
def State.rejected : State := (s.bump (F.ING_SSTAT_FMT_ERR n)).srcState n 3

theorem State.getF_rejected (hn : n < 4) : (s.rejected n).getF (F.ING_SSTAT_STATE n) = 3 ∧
    (s.rejected n).getF (F.ING_SSTAT_FMT_ERR n) = min (s.getF (F.ING_SSTAT_FMT_ERR n) + 1) 255 := by
  refine ⟨State.getF_srcState _ hn (by decide), ?_⟩
  rw [State.rejected, State.getF_srcState_apart _ _ hn (by simp) (by simp) (by simp), State.getF_bump_self _ _ (by simp)]
  simp

end

/-! ### The start of a source frame, case by case -/

/-- The receiver's discarded packets counted (R101): what the start of a source frame is decided on, and begins with. -/
def State.sdpCounted (s : State) (n sdps : Nat) : State := s.bumpBy (F.LAN_DPLINK_SDP_DROP n) sdps

section
variable (s : State) (n : Nat) (sdps : Nat)

theorem State.sdpCounted_onlyRegs : s.onlyRegs (s.sdpCounted n sdps) [A.LAN_DPLINK n] :=
  (State.onlyRegs.refl s _).bumpBy (F.LAN_DPLINK_SDP_DROP n) sdps (by simp)

theorem State.getF_sdpCounted :
    (s.sdpCounted n sdps).getF (F.LAN_DPLINK_SDP_DROP n) = min (s.getF (F.LAN_DPLINK_SDP_DROP n) + sdps) 255 := by
  rw [State.sdpCounted, State.bumpBy, State.getF_setF_self _ _ _ (by simp)]
  refine Nat.mod_eq_of_lt ?_
  simp

variable {n}

theorem State.getF_sdpCounted_apart {f : Fld} (h : f.addr ≠ A.LAN_DPLINK n) : (s.sdpCounted n sdps).getF f = s.getF f :=
  (s.sdpCounted_onlyRegs n sdps).2.getF_eq f (by simpa using h)

theorem State.getF_sdpCounted_sstat (hn : n < 4) {f : Fld} (haddr : f.addr = A.ING_SSTAT n) :
    (s.sdpCounted n sdps).getF f = s.getF f :=
  s.getF_sdpCounted_apart sdps (haddr.trans_ne (ingSstat_ne_lanDplink hn n))

theorem State.sdpCounted_formatAgrees (hn : n < 4) (fmt dep : Nat) (il : Bool) :
    (s.sdpCounted n sdps).formatAgrees n fmt dep il = s.formatAgrees n fmt dep il := by
  rw [State.formatAgrees, State.formatAgrees, s.getF_sdpCounted_apart sdps (f := F.ING_SCFG_DEPTH n) (ingScfg_ne_lanDplink hn n),
    s.getF_sdpCounted_apart sdps (f := F.ING_SCFG_FORMAT n) (ingScfg_ne_lanDplink hn n)]

/-- The stores that the writer may take are the same once the source captures (R143). -/
theorem State.freeStores_capturing (hn : n < 4) : ((s.sdpCounted n sdps).srcState n 2).freeStores n = s.freeStores n := by
  let u := s.sdpCounted n sdps
  have hshown (f : Fld) (haddr : f.addr = A.ING_SSTAT n) (h : (F.ING_SSTAT_STATE n).apart f = true) (hfit : f.lo + f.width ≤ 32) :
      (u.srcState n 2).getF f = s.getF f :=
    (u.getF_srcState_apart 2 hn haddr h hfit).trans (s.getF_sdpCounted_sstat sdps hn haddr)
  have hfetch : (u.srcState n 2).fetching = s.fetching := by
    rw [State.srcState_two]
    rfl
  have hplan : (u.srcState n 2).srcPlan n = s.srcPlan n := by
    rw [State.srcState_two]
    rfl
  have hsrc : (u.srcState n 2).src n = { s.src n with holdFrom := ((u.srcState n 2).src n).holdFrom } := u.src_srcState n 2
  simp only [State.freeStores, State.engineHolds, State.flag]
  rw [hplan, hfetch, hsrc, hshown _ (by simp) (by simp) (by simp), hshown _ (by simp) (by simp) (by simp)]

end

/-- A Head's source with a trained receiver (R141). -/
structure State.Receives (s : State) (n : Nat) : Prop where
  head : s.isHead = true
  trained : s.getF (F.LAN_DPLINK_TRAIN n) = 3

/-- One that is to be captured: enabled, and not stopped (R141, R146). -/
structure State.Captures (s : State) (n : Nat) : Prop extends s.Receives n where
  started : s.getF (F.ING_SSTAT_STATE n) ≠ 0
  enabled : (s.srcPlan n).enable = true

section
variable {s : State} {n : Fin 4} {fmt : Fin 4} {dep : Fin 3} {il : Bool} {sdps : Nat}

theorem State.Captures.watched (h : s.Captures n) : ¬((s.sdpCounted n sdps).getF (F.ING_SSTAT_STATE n) = 0 ∨
    (s.srcPlan n).enable = false) := by
  rw [s.getF_sdpCounted_sstat sdps n.isLt rfl]
  exact not_or.2 ⟨h.started, by simp [h.enabled]⟩

/-- A source in state 0, or not enabled, has its packets counted alone (R101, R141). -/
theorem sourceFrameStart_unwatched (h : s.Receives n) (hoff : s.getF (F.ING_SSTAT_STATE n) = 0 ∨ (s.srcPlan n).enable = false) :
    exec (.sourceFrameStart n fmt dep il sdps) s = .next (s.sdpCounted n sdps) := by
  rw [← s.getF_sdpCounted_sstat sdps n.isLt rfl] at hoff
  exact (if_neg (by simp [h.head, h.trained])).trans (if_pos hoff)

/-- With a stop pending no frame is begun (R146). -/
theorem sourceFrameStart_stopping (h : s.Captures n) (hstop : (s.src n).stopAtEnd = true) :
    exec (.sourceFrameStart n fmt dep il sdps) s = .next ((s.sdpCounted n sdps).captureEnd n) :=
  (if_neg (by simp [h.head, h.trained])).trans ((if_neg h.watched).trans (if_pos hstop))

theorem sourceFrameStart_rejects (h : s.Captures n) (hgo : (s.src n).stopAtEnd = false)
    (hfmt : s.formatAgrees n fmt dep il = false) :
    exec (.sourceFrameStart n fmt dep il sdps) s = .next ((s.sdpCounted n sdps).rejected n) := by
  rw [← s.sdpCounted_formatAgrees sdps n.isLt] at hfmt
  exact (if_neg (by simp [h.head, h.trained])).trans ((if_neg h.watched).trans ((if_neg (Bool.eq_false_iff.1 hgo)).trans
    (if_neg (Bool.eq_false_iff.1 hfmt))))

theorem sourceFrameStart_drops (h : s.Captures n) (hgo : (s.src n).stopAtEnd = false)
    (hfmt : s.formatAgrees n fmt dep il = true) (hfull : s.freeStores n = []) :
    exec (.sourceFrameStart n fmt dep il sdps) s = .next (((s.sdpCounted n sdps).srcState n 2).dropFrame n) := by
  rw [← s.sdpCounted_formatAgrees sdps n.isLt] at hfmt
  rw [← s.freeStores_capturing sdps n.isLt] at hfull
  exact (if_neg (by simp [h.head, h.trained])).trans ((if_neg h.watched).trans ((if_neg (Bool.eq_false_iff.1 hgo)).trans
    ((if_pos hfmt).trans (if_pos (List.isEmpty_iff.2 hfull)))))

theorem sourceFrameStart_stores (h : s.Captures n) (hgo : (s.src n).stopAtEnd = false)
    (hfmt : s.formatAgrees n fmt dep il = true) (hfree : s.freeStores n ≠ []) :
    ∃ i ∈ s.freeStores n, exec (.sourceFrameStart n fmt dep il sdps) s =
      .next (((s.sdpCounted n sdps).srcState n 2).takeFresh n i) := by
  have hsame := s.freeStores_capturing sdps n.isLt
  have hlt (k : Nat) : k % (s.freeStores n).length < (s.freeStores n).length := Nat.mod_lt _ (List.length_pos_iff.2 hfree)
  refine ⟨(s.freeStores n).getD (Config.free ((s.sdpCounted n sdps).srcState n 2).fresh % (s.freeStores n).length) 0, ?_, ?_⟩
  · rw [List.getD_eq_getElem _ _ (hlt _)]
    exact List.getElem_mem (hlt _)
  · have hsome : ¬(((s.sdpCounted n sdps).srcState n 2).freeStores n).isEmpty = true := by rwa [hsame, List.isEmpty_iff]
    rw [← s.sdpCounted_formatAgrees sdps n.isLt] at hfmt
    exact (if_neg (by simp [h.head, h.trained])).trans ((if_neg h.watched).trans ((if_neg (Bool.eq_false_iff.1 hgo)).trans
      ((if_pos hfmt).trans ((if_neg hsome).trans (congrArg Host.Outcome.next (State.takeStore_choose hsame))))))

end

section
variable (s : State) (n : Fin 4) (sdps i : Nat)

theorem State.capturing_onlyIngest :
    s.onlyIngest ((s.sdpCounted n sdps).srcState n 2) [A.ING_SSTAT n, A.LAN_DPLINK n] :=
  ((s.sdpCounted_onlyRegs n sdps).onlyIngest.mono (by simp)).trans
    ((State.srcState_onlyIngest_of_held _ _ _ (.inr rfl)).mono (by simp))

end

end Sys2Proof.Machine
end

section
/-!
PROOFS. What source frames and completed stores show (chapter 07: R141 to R146), and the settling of the captures.
-/

namespace Sys2Proof.Machine

/-! ### Source frames -/

section
variable {n : Fin 4} {fmt : Fin 4} {dep : Fin 3} {il : Bool} {sdps : Nat} {s : State}

/-- A frame of the agreed format is begun in a free store, with the window in force (R143, R145). -/
theorem sourceFrameStart_begins (h : s.Captures n) (hgo : (s.src n).stopAtEnd = false)
    (hfmt : s.formatAgrees n fmt dep il = true) (hfree : s.freeStores n ≠ []) :
    ∃ t i, exec (.sourceFrameStart n fmt dep il sdps) s = .next t ∧ i ∈ s.freeStores n ∧
      t.getF (F.ING_SSTAT_STATE n) = 2 ∧ t.getF (F.ING_SSTAT_WRITING n) = i % 4 ∧
      (t.src n).filling = (s.src n).filling ++ [i] ∧ (t.src n).holdFrom = none ∧
      (tabGet {} (t.src n).stores i).complete = false ∧ (tabGet {} (t.src n).stores i).x = s.actF (F.ING_WINPOS_X n) ∧
      (tabGet {} (t.src n).stores i).y = s.actF (F.ING_WINPOS_Y n) ∧ (tabGet {} (t.src n).stores i).w = s.actF (F.ING_WINSIZE_W n) ∧
      (tabGet {} (t.src n).stores i).h = s.actF (F.ING_WINSIZE_H n) ∧
      t.getF (F.LAN_DPLINK_SDP_DROP n) = min (s.getF (F.LAN_DPLINK_SDP_DROP n) + sdps) 255 ∧
      s.regsKept t [A.ING_SSTAT n, A.LAN_DPLINK n] ∧ t = { s with regs := t.regs, ing := t.ing, fresh := t.fresh } := by
  obtain ⟨i, hi, hexec⟩ := sourceFrameStart_stores (sdps := sdps) h hgo hfmt hfree
  let u := s.sdpCounted n sdps
  let v := u.srcState n 2
  have hv : s.onlyIngest v [A.ING_SSTAT n, A.LAN_DPLINK n] := s.capturing_onlyIngest n sdps
  have hvframe : v = { s with regs := v.regs, ing := v.ing } := hv.frame (u.out_srcState n 2)
  have hvsrc : v.src n = { s.src n with holdFrom := none } := by
    rw [show v = _ from u.srcState_two n, State.src_setSrc_self]
    rfl
  have hact (f : Fld) : v.actF f = s.actF f := by rw [hvframe]; rfl
  let t := v.takeFresh n i
  have hstore : tabGet {} (t.src n).stores i = ({ v with fresh := v.fresh + 1 } : State).begunStore n := by
    rw [v.src_takeFresh n i, tabGet_tabPut_self]
  have hkept : u.regsKept t [A.ING_SSTAT n] := (u.srcState_onlyIngest_of_held n 2 (.inr rfl)).2.trans (v.takeFresh_regsKept n i)
  refine ⟨t, i, hexec, hi, ?_, State.getF_takeStore_writing _ n i, ?_, ?_, ?_, ?_, ?_, ?_, ?_, ?_, ?_, ?_⟩
  · exact (State.getF_takeStore_state _ n i).trans (u.getF_srcState n.isLt (by decide))
  · rw [v.src_takeFresh n i, hvsrc]
  · rw [v.src_takeFresh n i, hvsrc]
  · rw [hstore]; rfl
  · rw [hstore]; exact hact _
  · rw [hstore]; exact hact _
  · rw [hstore]; exact hact _
  · rw [hstore]; exact hact _
  · exact (hkept.getF_eq (F.LAN_DPLINK_SDP_DROP n) (by simpa using (ingSstat_ne_lanDplink n.isLt n).symm)).trans
      (s.getF_sdpCounted n sdps)
  · exact hv.2.trans ((v.takeFresh_regsKept n i).mono (by simp))
  · exact congrArg (fun w : State => { w with regs := t.regs, ing := t.ing, fresh := t.fresh }) hvframe

/-- With no store free the frame is dropped and counted (R143). -/
theorem sourceFrameStart_counts (h : s.Captures n) (hgo : (s.src n).stopAtEnd = false)
    (hfmt : s.formatAgrees n fmt dep il = true) (hfull : s.freeStores n = []) :
    ∃ t, exec (.sourceFrameStart n fmt dep il sdps) s = .next t ∧ t.getF (F.ING_SSTAT_STATE n) = 2 ∧
      t.getF (F.ING_SSTAT_DROPS n) = min (s.getF (F.ING_SSTAT_DROPS n) + 1) 255 ∧ t.bit F.SCN_EVT_SRC_DROP n = true ∧
      t.src n = { s.src n with holdFrom := none } ∧
      s.regsKept t [A.ING_SSTAT n, A.LAN_DPLINK n, A.SCN_EVT] ∧ t = { s with regs := t.regs, ing := t.ing } := by
  let u := s.sdpCounted n sdps
  let v := u.srcState n 2
  obtain ⟨hstate, hdrops⟩ := v.getF_dropFrame n n.isLt
  have hframe : s.onlyIngest (v.dropFrame n) [A.ING_SSTAT n, A.LAN_DPLINK n, A.SCN_EVT] :=
    ((s.capturing_onlyIngest n sdps).mono (by simp)).trans ((v.dropFrame_onlyRegs n).onlyIngest.mono (by simp))
  refine ⟨v.dropFrame n, sourceFrameStart_drops h hgo hfmt hfull, hstate.trans (u.getF_srcState n.isLt (by decide)), ?_,
    State.bit_raiseBit_self _ _ _ (by decide) n.isLt, ?_, hframe.2, hframe.frame (u.out_srcState n 2)⟩
  · rw [hdrops, u.getF_srcState_apart 2 n.isLt (by simp) (by simp) (by simp), s.getF_sdpCounted_sstat sdps n.isLt (by simp)]
  · show v.src n = _
    rw [show v = _ from u.srcState_two n, State.src_setSrc_self]
    rfl

/-- A frame that disagrees is counted, and not stored (R141, R144). -/
theorem sourceFrameStart_refuses (h : s.Captures n) (hgo : (s.src n).stopAtEnd = false)
    (hfmt : s.formatAgrees n fmt dep il = false) :
    ∃ t, exec (.sourceFrameStart n fmt dep il sdps) s = .next t ∧ t.getF (F.ING_SSTAT_STATE n) = 3 ∧
      t.getF (F.ING_SSTAT_FMT_ERR n) = min (s.getF (F.ING_SSTAT_FMT_ERR n) + 1) 255 ∧ (t.src n).filling = (s.src n).filling ∧
      (t.src n).stores = (s.src n).stores ∧ (s.getF (F.ING_SSTAT_STATE n) = 2 → t.bit F.SCN_EVT_SRC_HOLD n = true) ∧
      s.regsKept t [A.ING_SSTAT n, A.LAN_DPLINK n, A.SCN_EVT] ∧ t = { s with regs := t.regs, ing := t.ing } := by
  let u := s.sdpCounted n sdps
  let v := u.bump (F.ING_SSTAT_FMT_ERR n)
  obtain ⟨hstate, herr⟩ := u.getF_rejected n n.isLt
  have hv : s.onlyIngest v [A.ING_SSTAT n, A.LAN_DPLINK n, A.SCN_EVT] :=
    (((s.sdpCounted_onlyRegs n sdps).mono (by simp)).bump (F.ING_SSTAT_FMT_ERR n) (by simp)).onlyIngest
  have hframe : s.onlyIngest (u.rejected n) [A.ING_SSTAT n, A.LAN_DPLINK n, A.SCN_EVT] :=
    hv.trans ((v.srcState_onlyIngest n 3).mono (by simp))
  have hsrc : (u.rejected n).src n = { s.src n with holdFrom := ((u.rejected n).src n).holdFrom } := v.src_srcState n 3
  refine ⟨u.rejected n, sourceFrameStart_rejects h hgo hfmt, hstate, ?_, ?_, ?_, fun hold => ?_, hframe.2,
    hframe.frame (v.out_srcState n 3)⟩
  · rw [herr, s.getF_sdpCounted_sstat sdps n.isLt (by simp)]
  · rw [hsrc]
  · rw [hsrc]
  · have hstill : v.getF (F.ING_SSTAT_STATE n) = u.getF (F.ING_SSTAT_STATE n) :=
      u.getF_setF_apart (F.ING_SSTAT_FMT_ERR n) _ _ (by simp) (by simp)
    exact v.bit_srcState_srcHold 3 n.isLt (hstill.trans ((s.getF_sdpCounted_sstat sdps n.isLt (by simp)).trans hold)) (by decide)

/-- With a stop pending no frame is begun; with none being written the capture stops (R146). -/
theorem sourceFrameStart_ends (h : s.Captures n) (hstop : (s.src n).stopAtEnd = true) :
    ∃ t, exec (.sourceFrameStart n fmt dep il sdps) s = .next t ∧
      t.getF (F.ING_SSTAT_STATE n) = (if (s.src n).filling = [] then 0 else s.getF (F.ING_SSTAT_STATE n)) ∧
      (t.src n).stopAtEnd = !(s.src n).filling.isEmpty ∧ (t.src n).filling = (s.src n).filling ∧ (t.src n).stores = (s.src n).stores ∧
      s.regsKept t [A.ING_SSTAT n, A.LAN_DPLINK n, A.SCN_EVT] ∧ t = { s with regs := t.regs, ing := t.ing } := by
  let u := s.sdpCounted n sdps
  have hu : u.src n = s.src n := rfl
  obtain ⟨hpending, hfilling, hstores⟩ := u.src_captureEnd n
  have hframe : s.onlyIngest (u.captureEnd n) [A.ING_SSTAT n, A.LAN_DPLINK n, A.SCN_EVT] :=
    ((s.sdpCounted_onlyRegs n sdps).onlyIngest.mono (by simp)).trans ((u.captureEnd_onlyIngest n).mono (by simp))
  refine ⟨u.captureEnd n, sourceFrameStart_stopping h hstop, ?_, ?_, hfilling, hstores, hframe.2, hframe.frame (u.out_captureEnd n)⟩
  · simp only [u.getF_captureEnd_state n.isLt, hu, hstop, true_and]
    rw [s.getF_sdpCounted_sstat sdps n.isLt (by simp)]
  · rw [hpending, hu, hstop, Bool.true_and]

/-- The packets that came are counted as discarded even where the source is off (R101). -/
theorem sourceFrameStart_off (h : s.Receives n) (hoff : s.getF (F.ING_SSTAT_STATE n) = 0 ∨ (s.srcPlan n).enable = false) :
    ∃ t, exec (.sourceFrameStart n fmt dep il sdps) s = .next t ∧ s.onlyRegs t [A.LAN_DPLINK n] ∧
      s.wrote t (F.LAN_DPLINK_SDP_DROP n) (min (s.getF (F.LAN_DPLINK_SDP_DROP n) + sdps) 255) :=
  ⟨_, sourceFrameStart_unwatched h hoff, s.sdpCounted_onlyRegs n sdps, s.wrote_setF _ _⟩

end

/-! ### Stores completed (R143, R146) -/

section
variable (s : State) (n : Fin 4) (i : Nat) (rest : List Nat) (st : Store)

/-- A store with its frame, as the newest complete one of its source. -/
def State.storeShown : State :=
  (((s.storeWrite n i st).setSrc n { s.src n with filling := rest, stores := tabPut (s.src n).stores i st }).setF
    (F.ING_SSTAT_NEWEST n) i).raise (F.ING_SSTAT_HAVE n)

theorem State.src_storeShown : (s.storeShown n i rest st).src n =
    { s.src n with filling := rest, stores := tabPut (s.src n).stores i st } := State.src_setSrc_self _ _ _

theorem State.storeWrite_regsKept (l : List Nat) : s.regsKept (s.storeWrite n i st) l := by
  rw [State.storeWrite_frame]
  exact State.regsKept.refl s l

theorem State.getF_storeShown_state :
    (s.storeShown n i rest st).getF (F.ING_SSTAT_STATE n) = s.getF (F.ING_SSTAT_STATE n) := by
  rw [State.storeShown, State.raise, State.getF_setF_apart _ _ _ _ (by simp) (by simp),
    State.getF_setF_apart _ _ _ _ (by simp) (by simp), State.getF_setSrc]
  exact (s.storeWrite_regsKept n i st []).getF_eq _ (by simp)

theorem State.getF_storeShown : (s.storeShown n i rest st).getF (F.ING_SSTAT_NEWEST n) = i % 4 ∧
    (s.storeShown n i rest st).getF (F.ING_SSTAT_HAVE n) = 1 := by
  refine ⟨?_, State.getF_raise_self _ _ (by simp) (by simp)⟩
  rw [State.storeShown, State.raise, State.getF_setF_apart _ _ _ _ (by simp) (by simp), State.getF_setF_self _ _ _ (by simp)]
  simp

theorem State.storeShown_onlyIngest :
    (s.storeWrite n i st).onlyIngest (s.storeShown n i rest st) [A.ING_SSTAT n, A.SCN_EVT] :=
  (((State.onlyIngest.refl _ _).setSrc _ _).setF (F.ING_SSTAT_NEWEST n) i (by simp)).setF (F.ING_SSTAT_HAVE n) 1 (by simp)

end

theorem storeComplete_stores {n : Fin 4} {i : Nat} {rest : List Nat} {s : State} (hfill : (s.src n).filling = i :: rest)
    (hruns : s.memRuns = true) : exec (.storeComplete n) s =
      .next ((s.storeShown n i rest { tabGet {} (s.src n).stores i with complete := true }).captureEnd n) := by
  show execStoreComplete n s = _
  unfold execStoreComplete
  dsimp only
  rw [hfill]
  exact if_pos hruns

/-- A frame whose store completes is the newest complete one, its bytes in the memory (R142, R143, R146). -/
theorem storeComplete_completes (n : Fin 4) (i : Nat) (rest : List Nat) (s : State) (hfill : (s.src n).filling = i :: rest)
    (hruns : s.memRuns = true) :
    ∃ t st, exec (.storeComplete n) s = .next t ∧ st = { tabGet {} (s.src n).stores i with complete := true } ∧
      t.getF (F.ING_SSTAT_NEWEST n) = i % 4 ∧ t.getF (F.ING_SSTAT_HAVE n) = 1 ∧ (t.src n).filling = rest ∧
      (t.src n).stores = tabPut (s.src n).stores i st ∧
      (t.src n).stopAtEnd = ((s.src n).stopAtEnd && !rest.isEmpty) ∧
      t.getF (F.ING_SSTAT_STATE n) = (if (s.src n).stopAtEnd = true ∧ rest = [] then 0 else s.getF (F.ING_SSTAT_STATE n)) ∧
      t.core.mem = (s.storeWrite n i st).core.mem ∧
      (∀ a, (a < lpddr (s.storeBase n i) ∨ lpddr (s.storeBase n i) + st.planes.size ≤ a) → memGet t.core.mem a = memGet s.core.mem a) ∧
      s.regsKept t [A.ING_SSTAT n, A.SCN_EVT] ∧
      t = { s with regs := t.regs, ing := t.ing, core := { s.core with mem := t.core.mem } } := by
  let st : Store := { tabGet {} (s.src n).stores i with complete := true }
  let w := s.storeWrite n i st
  let u := s.storeShown n i rest st
  let t := u.captureEnd n
  obtain ⟨hnewest, hhave⟩ := s.getF_storeShown n i rest st
  obtain ⟨hpending, hfilling, hstores⟩ := u.src_captureEnd n
  have husrc : u.src n = { s.src n with filling := rest, stores := tabPut (s.src n).stores i st } := s.src_storeShown n i rest st
  have hframe : w.onlyIngest t [A.ING_SSTAT n, A.SCN_EVT] := (s.storeShown_onlyIngest n i rest st).trans (u.captureEnd_onlyIngest n)
  have hnext : t = { w with regs := t.regs, ing := t.ing } := hframe.frame (u.out_captureEnd n)
  have hmem : t.core.mem = w.core.mem := by rw [hnext]
  have hapart {f : Fld} (haddr : f.addr = A.ING_SSTAT n) (h : (F.ING_SSTAT_STATE n).apart f = true) (hfit : f.lo + f.width ≤ 32) :
      t.getF f = u.getF f := u.getF_captureEnd_apart n.isLt haddr h hfit
  refine ⟨t, st, storeComplete_stores hfill hruns, rfl, (hapart (by simp) (by simp) (by simp)).trans hnewest,
    (hapart (by simp) (by simp) (by simp)).trans hhave, ?_, ?_, ?_, ?_, hmem, fun a ha => ?_,
    (s.storeWrite_regsKept n i st _).trans hframe.2, ?_⟩
  · rw [hfilling, husrc]
  · rw [hstores, husrc]
  · rw [hpending, husrc]
  · rw [u.getF_captureEnd_state n.isLt, husrc, s.getF_storeShown_state n i rest st]
  · rw [hmem, s.memGet_storeWrite_outside n i st ha]
  · rw [hmem]
    exact hnext.trans (congrArg (fun v : State => { v with regs := t.regs, ing := t.ing }) (s.storeWrite_frame n i st))

/-- With nothing being written, or with the memory out of lock, nothing completes (R45). -/
theorem storeComplete_idle (n : Fin 4) (s : State) (h : (s.src n).filling = [] ∨ s.memRuns = false) :
    exec (.storeComplete n) s = .next s := by
  show execStoreComplete n s = _
  unfold execStoreComplete
  dsimp only
  split
  · next i rest hfill => exact if_neg (by simp [h.resolve_left (by simp [hfill])])
  · rfl

/-- Settles O32. That the bytes of a frame land when its store completes, and that nothing completes while the memory does not
run (R45), is the model's (log entry 70). -/
theorem sourceFramesAreCaptured : Obligations.SourceFramesAreCaptured := by
  unfold Obligations.SourceFramesAreCaptured
  exact ⟨fun n fmt dep il sdps s hhead htrain hon hen => sourceFrameStart_begins ⟨⟨hhead, htrain⟩, hon, hen⟩,
    fun n fmt dep il sdps s hhead htrain hon hen => sourceFrameStart_counts ⟨⟨hhead, htrain⟩, hon, hen⟩,
    fun n fmt dep il sdps s hhead htrain hon hen => sourceFrameStart_refuses ⟨⟨hhead, htrain⟩, hon, hen⟩,
    fun n fmt dep il sdps s hhead htrain hon hen => sourceFrameStart_ends ⟨⟨hhead, htrain⟩, hon, hen⟩,
    fun n fmt dep il sdps s hhead htrain => sourceFrameStart_off ⟨hhead, htrain⟩,
    storeComplete_completes, storeComplete_idle⟩

end Sys2Proof.Machine
end

section
/-!
PROOFS. `ING_CTL` (chapter 07: R146): the captures that its STOP bits end and begin.
-/

namespace Sys2Proof.Machine

/-! ### One source of a sweep over several -/

section
variable {α β : Type} (s : State)

/-- What holds at first and each step over a list keeps, holds of the whole. -/
theorem State.forEach_induction (P : State → Prop) {xs : List α} {f : α → State → State} (hs : P s)
    (hf : ∀ x ∈ xs, ∀ u, P u → P (f x u)) : P (s.forEach xs f) := by
  unfold State.forEach
  induction xs generalizing s with
  | nil => exact hs
  | cons x xs ih =>
    exact ih (f x s) (hf x List.mem_cons_self s hs) fun y hy => hf y (List.mem_cons_of_mem x hy)

/-- A sweep comes to the step at one place of its list with what no other step changes still as it was. -/
theorem State.forEach_reaches (g : State → β) {xs : List Nat} {f : Nat → State → State} {n : Nat} (hn : n ∈ xs) (hxs : xs.Nodup)
    (hother : ∀ k u, k ≠ n → g (f k u) = g u) :
    ∃ u ys, g u = g s ∧ n ∉ ys ∧ s.forEach xs f = (f n u).forEach ys f := by
  induction xs generalizing s with
  | nil => exact absurd hn List.not_mem_nil
  | cons x xs ih =>
    obtain ⟨hx, hrest⟩ := List.nodup_cons.1 hxs
    by_cases hxn : n = x
    · subst hxn
      exact ⟨s, xs, rfl, hx, rfl⟩
    · obtain ⟨u, ys, hu, hys, heq⟩ := ih (f x s) ((List.mem_cons.1 hn).resolve_left hxn) hrest
      exact ⟨u, ys, hu.trans (hother x s (Ne.symm hxn)), hys, heq⟩

end

/-- An operation on the sources that a test names, from the first to the last. -/
def State.atSources (s : State) (p : Nat → Bool) (op : Nat → State → State) : State :=
  s.forEach [0, 1, 2, 3] fun n t => t.when (p n) (op n)

/-- What an operation on a source is stated about: its status register, its part of ingest, and its plan. -/
def State.sourceView (s : State) (n : Nat) : Word × SrcX × SourcePlan := (s.getW (A.ING_SSTAT n), s.src n, s.srcPlan n)

section
variable {s t : State} {n : Nat}

theorem State.sourceView_eq (h : t.sourceView n = s.sourceView n) :
    t.getW (A.ING_SSTAT n) = s.getW (A.ING_SSTAT n) ∧ t.src n = s.src n ∧ t.srcPlan n = s.srcPlan n := by
  simpa only [State.sourceView, Prod.mk.injEq] using h

theorem State.getF_state_of_sourceView (h : t.sourceView n = s.sourceView n) :
    t.getF (F.ING_SSTAT_STATE n) = s.getF (F.ING_SSTAT_STATE n) := by
  obtain ⟨hword, -, -⟩ := State.sourceView_eq h
  exact congrArg (F.ING_SSTAT_STATE n).of hword

/-- What an operation on ingest does at one source, another keeps where neither its register nor its part is changed. -/
theorem State.onlyIngest.sourceView_eq {l : List Nat} (h : s.onlyIngest t l) (hword : A.ING_SSTAT n ∉ l) (hsrc : t.src n = s.src n) :
    t.sourceView n = s.sourceView n := by
  have hplan : t.srcPlan n = s.srcPlan n := by rw [h.1]; rfl
  simp only [State.sourceView, h.2 _ hword, hsrc, hplan]

variable (s) {p : Nat → Bool} {op : Nat → State → State}

theorem State.atSources_onlyIngest {l : List Nat} (hop : ∀ n < 4, ∀ u : State, u.onlyIngest (op n u) l) :
    s.onlyIngest (s.atSources p op) l := by
  refine s.forEach_induction (s.onlyIngest · l) (State.onlyIngest.refl s l) fun n hn u hu => hu.when (p n) (hu.trans (hop n ?_ u))
  simp only [List.mem_cons, List.not_mem_nil, or_false] at hn
  omega

theorem State.atSources_same {β : Type} (g : State → β) (hop : ∀ n u, g (op n u) = g u) : g (s.atSources p op) = g s :=
  s.forEach_same g _ fun n u => u.when_same g (p n) (hop n u)

section
variable (hlocal : ∀ k u, k ≠ n → (op k u).sourceView n = u.sourceView n)
include hlocal

/-- A sweep leaves a source that it does not name. -/
theorem State.atSources_unnamed (hp : p n = false) : (s.atSources p op).sourceView n = s.sourceView n := by
  refine s.forEach_same (State.sourceView · n) _ fun k u => ?_
  by_cases hk : k = n
  · subst hk
    rw [hp]
    rfl
  · exact u.when_same (State.sourceView · n) (p k) (hlocal k u hk)

/-- A sweep does to a source that it names what the operation does to it. -/
theorem State.atSources_named (hn : n < 4) (hp : p n = true) :
    ∃ u ys, u.sourceView n = s.sourceView n ∧ (s.atSources p op).sourceView n = (op n u).sourceView n ∧
      s.atSources p op = (op n u).forEach ys fun k t => t.when (p k) (op k) := by
  have hmem : n ∈ [0, 1, 2, 3] := by
    simp only [List.mem_cons, List.not_mem_nil, or_false]
    omega
  have hother (k : Nat) (u : State) (hk : k ≠ n) : (u.when (p k) (op k)).sourceView n = u.sourceView n :=
    u.when_same (State.sourceView · n) (p k) (hlocal k u hk)
  obtain ⟨u, ys, hu, hys, heq⟩ := s.forEach_reaches (State.sourceView · n) hmem (by decide) hother
  simp only [hp, State.when_true] at heq
  refine ⟨u, ys, hu, ?_, heq⟩
  refine (congrArg (State.sourceView · n) heq).trans (State.forEach_same_of_mem (State.sourceView · n) fun k hk t => ?_)
  exact hother k t fun e => hys (e ▸ hk)

end

end

/-! ### A capture stopped (R146) -/

section
variable (s : State) (n : Nat)

variable {s n} in
theorem State.captureOff_idle (h : (s.src n).filling = []) : s.captureOff n = s.srcState n 0 :=
  if_pos (List.isEmpty_iff.2 h)

variable {s n} in
theorem State.captureOff_filling (h : (s.src n).filling ≠ []) :
    s.captureOff n = s.setSrc n { s.src n with stopAtEnd := true } := if_neg (by rwa [List.isEmpty_iff])

theorem State.captureOff_onlyIngest : s.onlyIngest (s.captureOff n) [A.ING_SSTAT n, A.SCN_EVT] := by
  by_cases h : (s.src n).filling = []
  · rw [State.captureOff_idle h]
    exact s.srcState_onlyIngest n 0
  · rw [State.captureOff_filling h]
    exact (State.onlyIngest.refl s _).setSrc _ _

theorem State.out_captureOff : (s.captureOff n).out = s.out := by
  by_cases h : (s.src n).filling = []
  · rw [State.captureOff_idle h, State.out_srcState]
  · rw [State.captureOff_filling h]
    rfl

theorem State.src_captureOff_ne {k : Nat} (hk : k ≠ n) : (s.captureOff n).src k = s.src k := by
  by_cases h : (s.src n).filling = []
  · rw [State.captureOff_idle h, State.src_srcState_ne _ _ _ hk]
  · rw [State.captureOff_filling h, State.src_setSrc_ne _ _ hk]

theorem State.captureOff_sourceView {k : Nat} (hk : k < 4) (hne : n ≠ k) : (s.captureOff n).sourceView k = s.sourceView k :=
  (s.captureOff_onlyIngest n).sourceView_eq (by simp [ingSstat_inj hne.symm, ingSstat_ne_scnEvt hk]) (s.src_captureOff_ne n hne.symm)

end

/-! ### A capture resumed (R146) -/

section
variable (s : State) (n : Nat)

/-- A source's part as its capture resumes. -/
def State.unstopped : State := s.setSrc n { s.src n with stopAtEnd := false, changed := false }

/-- A source resumed: where it is enabled and stands in state 0, it waits for video. -/
def State.resumed : State :=
  if s.getF (F.ING_SSTAT_STATE n) = 0 ∧ (s.srcPlan n).enable = true then (s.unstopped n).setF (F.ING_SSTAT_STATE n) 1
  else s.unstopped n

theorem State.captureOn_eq : s.captureOn n = (s.resumed n).when (s.src n).changed fun t => t.emit (.hpdPulse n) := by
  have hstart : (s.unstopped n).getF (F.ING_SSTAT_STATE n) = 0 →
      (s.unstopped n).srcState n 1 = (s.unstopped n).setF (F.ING_SSTAT_STATE n) 1 := fun h =>
    (if_neg fun k => by rw [h] at k; exact absurd k.1 (by decide)).trans (if_neg (by decide))
  unfold State.captureOn State.resumed
  dsimp only
  rw [← State.unstopped, show (s.unstopped n).getF (F.ING_SSTAT_STATE n) = s.getF (F.ING_SSTAT_STATE n) from State.getF_setSrc _ _ _ _,
    show (s.unstopped n).srcPlan n = s.srcPlan n from rfl]
  by_cases h : s.getF (F.ING_SSTAT_STATE n) = 0 ∧ (s.srcPlan n).enable = true
  · rw [if_pos h, if_pos h, hstart ((State.getF_setSrc _ _ _ _).trans h.1)]
  · rw [if_neg h, if_neg h]

theorem State.src_captureOn : (s.captureOn n).src n = { s.src n with stopAtEnd := false, changed := false } := by
  have hun : (s.unstopped n).src n = { s.src n with stopAtEnd := false, changed := false } := State.src_setSrc_self _ _ _
  rw [s.captureOn_eq, State.when_same _ (State.src · n) _ rfl]
  unfold State.resumed
  split
  · exact hun
  · exact hun

theorem State.src_captureOn_ne {k : Nat} (hk : k ≠ n) : (s.captureOn n).src k = s.src k := by
  have hun : (s.unstopped n).src k = s.src k := State.src_setSrc_ne _ _ hk
  rw [s.captureOn_eq, State.when_same _ (State.src · k) _ rfl]
  unfold State.resumed
  split
  · exact hun
  · exact hun

theorem State.getF_captureOn_state : (s.captureOn n).getF (F.ING_SSTAT_STATE n) =
    if s.getF (F.ING_SSTAT_STATE n) = 0 ∧ (s.srcPlan n).enable = true then 1 else s.getF (F.ING_SSTAT_STATE n) := by
  rw [s.captureOn_eq, State.when_same _ (State.getF · (F.ING_SSTAT_STATE n)) _ (State.getF_emit _ _ _)]
  unfold State.resumed
  split
  · exact State.getF_setF_self _ _ _ (by simp)
  · exact State.getF_setSrc _ _ _ _

theorem State.captureOn_onlyIngest : s.onlyIngest (s.captureOn n) [A.ING_SSTAT n] := by
  have hun : s.onlyIngest (s.unstopped n) [A.ING_SSTAT n] := (State.onlyIngest.refl s _).setSrc _ _
  have hres : s.onlyIngest (s.resumed n) [A.ING_SSTAT n] := by
    unfold State.resumed
    split
    · exact hun.setF (F.ING_SSTAT_STATE n) 1 (by simp)
    · exact hun
  rw [s.captureOn_eq]
  exact hres.when _ (hres.emit _)

theorem State.captureOn_sourceView {k : Nat} (hne : n ≠ k) : (s.captureOn n).sourceView k = s.sourceView k :=
  (s.captureOn_onlyIngest n).sourceView_eq (by simp [ingSstat_inj hne.symm]) (s.src_captureOn_ne n hne.symm)

/-- Where LANES or MAXRATE changed, the receiver pulses HPD. -/
theorem State.captureOn_pulses (h : (s.src n).changed = true) : Emission.hpdPulse n ∈ (s.captureOn n).out := by
  rw [s.captureOn_eq, h]
  exact List.mem_cons_self

theorem State.mem_out_captureOn {e : Emission} (h : e ∈ s.out) : e ∈ (s.captureOn n).out := by
  have hres : (s.resumed n).out = s.out := by
    unfold State.resumed
    split <;> rfl
  rw [s.captureOn_eq]
  cases (s.src n).changed
  · exact hres.symm ▸ h
  · exact List.mem_cons_of_mem _ (hres.symm ▸ h)

end

end Sys2Proof.Machine
end

section
/-!
PROOFS. `CAPTURE_STOP` and `CAPTURE_START` (chapter 07: R146).
-/

namespace Sys2Proof.Machine

/-! ### `ING_CTL` rewritten -/

/-- The registers that a write of `ING_CTL` may change beside it. -/
def sourceRegs : List Nat := [A.ING_SSTAT 0, A.ING_SSTAT 1, A.ING_SSTAT 2, A.ING_SSTAT 3]

theorem ingSstat_mem_sourceRegs {n : Nat} (hn : n < 4) : A.ING_SSTAT n ∈ sourceRegs := by
  have h : ∀ k < 4, A.ING_SSTAT k ∈ sourceRegs := by decide
  exact h n hn

theorem ingSstat_ne_ingCtl (n : Nat) : A.ING_SSTAT n ≠ A.ING_CTL := by
  simp only [A.ING_SSTAT, A.ING_CTL]
  omega

theorem State.forEach_congr {α : Type} (s : State) {xs : List α} {f g : α → State → State} (h : ∀ x ∈ xs, f x = g x) :
    s.forEach xs f = s.forEach xs g := List.foldl_ext _ _ _ fun t x hx => congrFun (h x hx) t

section
variable (s : State) (mask : BitVec 4)

/-- The sources whose STOP bit a mask raises. -/
def State.stopsAt (n : Nat) : Bool := mask.getLsbD n && !s.bit F.ING_CTL_STOP n

/-- The sources whose STOP bit a mask clears. -/
def State.startsAt (n : Nat) : Bool := mask.getLsbD n && s.bit F.ING_CTL_STOP n

theorem testBit_fifteen_sub {n : Nat} (hn : n < 4) : (15 - mask.toNat).testBit n = !mask.getLsbD n := by
  rw [show 15 - mask.toNat = (~~~mask).toNat by simp [BitVec.toNat_not]]
  exact (BitVec.testBit_toNat _).trans (BitVec.getLsbD_not.trans (by simp [hn]))

/-- STOP bits raised stop the captures of their sources. -/
theorem State.ingCtlWrite_stop : s.ingCtlWrite (s.getF F.ING_CTL_STOP ||| mask.toNat) =
    (s.setF F.ING_CTL_STOP (s.getF F.ING_CTL_STOP ||| mask.toNat)).atSources (s.stopsAt mask) fun n t => t.captureOff n := by
  have hrise (old m : Bool) : ((old || m) && !old) = (m && !old) := by cases old <;> cases m <;> rfl
  have hfall (old m : Bool) : (!(old || m) && old) = false := by cases old <;> cases m <;> rfl
  refine State.forEach_congr _ fun n _ => funext fun t => ?_
  simp only [Nat.testBit_or, BitVec.testBit_toNat, hrise, hfall, State.stopsAt, State.bit, State.when, Bool.false_eq_true, if_false]
  rfl

/-- STOP bits cleared resume them. -/
theorem State.ingCtlWrite_start : s.ingCtlWrite (s.getF F.ING_CTL_STOP &&& (15 - mask.toNat)) =
    (s.setF F.ING_CTL_STOP (s.getF F.ING_CTL_STOP &&& (15 - mask.toNat))).atSources (s.startsAt mask) fun n t => t.captureOn n := by
  have hrise (old m : Bool) : (old && !m && !old) = false := by cases old <;> cases m <;> rfl
  have hfall (old m : Bool) : (!(old && !m) && old) = (m && old) := by cases old <;> cases m <;> rfl
  refine State.forEach_congr _ fun n hn => funext fun t => ?_
  have hlt : n < 4 := by
    simp only [List.mem_cons, List.not_mem_nil, or_false] at hn
    omega
  simp only [Nat.testBit_and, testBit_fifteen_sub mask hlt, hrise, hfall, State.startsAt, State.bit, State.when,
    Bool.false_eq_true, if_false]
  rfl

end

section
variable (s : State) (v : Nat)

theorem State.setStop_sourceView (n : Nat) : (s.setF F.ING_CTL_STOP v).sourceView n = s.sourceView n :=
  ((State.onlyIngest.refl s [A.ING_CTL]).setF F.ING_CTL_STOP v List.mem_cons_self).sourceView_eq
    (by simpa using ingSstat_ne_ingCtl n) rfl

/-- STOP shows what was written, whatever the sources do then. -/
theorem State.getF_stop_of_onlyIngest {s t : State} {v : Nat} {l : List Nat} (h : (s.setF F.ING_CTL_STOP v).onlyIngest t l)
    (hl : A.ING_CTL ∉ l) (hv : v < 16) : t.getF F.ING_CTL_STOP = v :=
  (h.2.getF_eq _ hl).trans ((s.getF_setF_self _ _ (by decide)).trans (Nat.mod_eq_of_lt hv))

end

/-! ### `CAPTURE_STOP` -/

section
variable (s : State) (mask : BitVec 4)

/-- The state after STOP bits were raised. -/
def State.capturesStopped : State := s.ingCtlWrite (s.getF F.ING_CTL_STOP ||| mask.toNat)

theorem State.capturesStopped_sweep : (s.setF F.ING_CTL_STOP (s.getF F.ING_CTL_STOP ||| mask.toNat)).onlyIngest
    (s.capturesStopped mask) (A.SCN_EVT :: sourceRegs) := by
  rw [State.capturesStopped, State.ingCtlWrite_stop]
  exact State.atSources_onlyIngest _ fun n hn u =>
    (u.captureOff_onlyIngest n).mono (by simp [ingSstat_mem_sourceRegs hn])

theorem State.getF_capturesStopped : (s.capturesStopped mask).getF F.ING_CTL_STOP = s.getF F.ING_CTL_STOP ||| mask.toNat :=
  State.getF_stop_of_onlyIngest (s.capturesStopped_sweep mask) (by decide)
    (Nat.or_lt_two_pow (s.getF_lt F.ING_CTL_STOP) mask.isLt)

theorem State.capturesStopped_onlyIngest : s.onlyIngest (s.capturesStopped mask) (A.ING_CTL :: A.SCN_EVT :: sourceRegs) :=
  ((State.onlyIngest.refl s _).setF F.ING_CTL_STOP _ List.mem_cons_self).trans
    ((s.capturesStopped_sweep mask).mono fun _ ha => List.mem_cons_of_mem _ ha)

theorem State.out_capturesStopped : (s.capturesStopped mask).out = s.out := by
  rw [State.capturesStopped, State.ingCtlWrite_stop]
  exact State.atSources_same _ State.out fun n u => u.out_captureOff n

variable {n : Nat} (hn : n < 4)
include hn

theorem State.capturesStopped_unnamed (h : mask.getLsbD n = false ∨ s.bit F.ING_CTL_STOP n = true) :
    (s.capturesStopped mask).sourceView n = s.sourceView n := by
  rw [State.capturesStopped, State.ingCtlWrite_stop, State.atSources_unnamed _ (fun k u hk => u.captureOff_sourceView k hn hk),
    State.setStop_sourceView]
  obtain h | h := h <;> simp [State.stopsAt, h]

/-- A source that is stopped is one that `captureOff` has been applied to. -/
theorem State.capturesStopped_named (hmask : mask.getLsbD n = true) (hgo : s.bit F.ING_CTL_STOP n = false) :
    ∃ u : State, u.sourceView n = s.sourceView n ∧ (s.capturesStopped mask).sourceView n = (u.captureOff n).sourceView n := by
  obtain ⟨u, ys, hu, ht, -⟩ := State.atSources_named (s.setF F.ING_CTL_STOP (s.getF F.ING_CTL_STOP ||| mask.toNat))
    (fun k u hk => u.captureOff_sourceView k hn hk) hn (p := s.stopsAt mask) (by simp [State.stopsAt, hmask, hgo])
  rw [State.capturesStopped, State.ingCtlWrite_stop]
  exact ⟨u, hu.trans (s.setStop_sourceView _ n), ht⟩

theorem State.capturesStopped_idle (hmask : mask.getLsbD n = true) (hgo : s.bit F.ING_CTL_STOP n = false)
    (hidle : (s.src n).filling = []) : (s.capturesStopped mask).getF (F.ING_SSTAT_STATE n) = 0 := by
  obtain ⟨u, hu, ht⟩ := s.capturesStopped_named mask hn hmask hgo
  obtain ⟨-, husrc, -⟩ := State.sourceView_eq hu
  rw [State.getF_state_of_sourceView ht, State.captureOff_idle (by rwa [husrc]), u.getF_srcState hn (by decide)]

theorem State.capturesStopped_filling (hmask : mask.getLsbD n = true) (hgo : s.bit F.ING_CTL_STOP n = false)
    (hfill : (s.src n).filling ≠ []) : (s.capturesStopped mask).getW (A.ING_SSTAT n) = s.getW (A.ING_SSTAT n) ∧
      (s.capturesStopped mask).src n = { s.src n with stopAtEnd := true } := by
  obtain ⟨u, hu, ht⟩ := s.capturesStopped_named mask hn hmask hgo
  obtain ⟨huword, husrc, -⟩ := State.sourceView_eq hu
  obtain ⟨htword, htsrc, -⟩ := State.sourceView_eq ht
  rw [htword, htsrc, State.captureOff_filling (by rwa [husrc]), State.src_setSrc_self, husrc]
  exact ⟨huword, rfl⟩

end

theorem captureStop_stops (who : Initiator) (mask : BitVec 4) (s : State) (hmay : s.mayWrite who A.ING_CTL) :
    ∃ t, exec (.captureStop who mask) s = .next t ∧ t.bus = ⟨0, false⟩ ∧ t.getF F.ING_CTL_STOP = s.getF F.ING_CTL_STOP ||| mask.toNat ∧
      (∀ n, n < 4 → mask.getLsbD n = true → s.bit F.ING_CTL_STOP n = false → (s.src n).filling = [] →
        t.getF (F.ING_SSTAT_STATE n) = 0) ∧
      (∀ n, n < 4 → mask.getLsbD n = true → s.bit F.ING_CTL_STOP n = false → (s.src n).filling ≠ [] →
        t.getW (A.ING_SSTAT n) = s.getW (A.ING_SSTAT n) ∧ t.src n = { s.src n with stopAtEnd := true }) ∧
      (∀ n, n < 4 → (mask.getLsbD n = false ∨ s.bit F.ING_CTL_STOP n = true) →
        t.getW (A.ING_SSTAT n) = s.getW (A.ING_SSTAT n) ∧ t.src n = s.src n) ∧
      s.regsKept t [A.ING_CTL, A.ING_SSTAT 0, A.ING_SSTAT 1, A.ING_SSTAT 2, A.ING_SSTAT 3, A.SCN_EVT] ∧
      t = { s with regs := t.regs, ing := t.ing, bus := t.bus } := by
  let u := s.busOk 0
  let t := u.capturesStopped mask
  have hkept := u.capturesStopped_onlyIngest mask
  have hframe : t = { u with regs := t.regs, ing := t.ing } := hkept.frame (u.out_capturesStopped mask)
  have hbus : t.bus = ⟨0, false⟩ := by rw [hframe]; rfl
  refine ⟨t, congrArg Host.Outcome.next (State.guarded_of_mayWrite _ hmay), hbus, u.getF_capturesStopped mask,
    fun n hn => u.capturesStopped_idle mask hn, fun n hn => u.capturesStopped_filling mask hn, fun n hn h => ?_,
    State.regsKept.mono (t := t) (s := s) hkept.2 (by decide), ?_⟩
  · obtain ⟨hword, hsrc, -⟩ := State.sourceView_eq (u.capturesStopped_unnamed mask hn h)
    exact ⟨hword, hsrc⟩
  · rw [hbus]
    exact hframe

/-! ### `CAPTURE_START` -/

section
variable (s : State) (mask : BitVec 4)

/-- The state after STOP bits were cleared. -/
def State.capturesStarted : State := s.ingCtlWrite (s.getF F.ING_CTL_STOP &&& (15 - mask.toNat))

theorem State.capturesStarted_sweep : (s.setF F.ING_CTL_STOP (s.getF F.ING_CTL_STOP &&& (15 - mask.toNat))).onlyIngest
    (s.capturesStarted mask) sourceRegs := by
  rw [State.capturesStarted, State.ingCtlWrite_start]
  exact State.atSources_onlyIngest _ fun n hn u => (u.captureOn_onlyIngest n).mono (by simp [ingSstat_mem_sourceRegs hn])

theorem State.getF_capturesStarted :
    (s.capturesStarted mask).getF F.ING_CTL_STOP = s.getF F.ING_CTL_STOP &&& (15 - mask.toNat) :=
  State.getF_stop_of_onlyIngest (s.capturesStarted_sweep mask) (by decide)
    (Nat.lt_of_le_of_lt Nat.and_le_left (s.getF_lt F.ING_CTL_STOP))

theorem State.capturesStarted_onlyIngest : s.onlyIngest (s.capturesStarted mask) (A.ING_CTL :: sourceRegs) :=
  ((State.onlyIngest.refl s _).setF F.ING_CTL_STOP _ List.mem_cons_self).trans
    ((s.capturesStarted_sweep mask).mono fun _ ha => List.mem_cons_of_mem _ ha)

variable {n : Nat}

theorem State.capturesStarted_unnamed (h : mask.getLsbD n = false ∨ s.bit F.ING_CTL_STOP n = false) :
    (s.capturesStarted mask).sourceView n = s.sourceView n := by
  rw [State.capturesStarted, State.ingCtlWrite_start, State.atSources_unnamed _ (fun k u hk => u.captureOn_sourceView k hk),
    State.setStop_sourceView]
  obtain h | h := h <;> simp [State.startsAt, h]

/-- A source that is resumed shows what `captureOn` does to it, and puts out what that puts out. -/
theorem State.capturesStarted_named (hn : n < 4) (hmask : mask.getLsbD n = true) (hstop : s.bit F.ING_CTL_STOP n = true) :
    ∃ u : State, u.sourceView n = s.sourceView n ∧ (s.capturesStarted mask).sourceView n = (u.captureOn n).sourceView n ∧
      ∀ e ∈ (u.captureOn n).out, e ∈ (s.capturesStarted mask).out := by
  obtain ⟨u, ys, hu, ht, heq⟩ := State.atSources_named (s.setF F.ING_CTL_STOP (s.getF F.ING_CTL_STOP &&& (15 - mask.toNat)))
    (fun k u hk => u.captureOn_sourceView k hk) hn (p := s.startsAt mask) (by simp [State.startsAt, hmask, hstop])
  rw [State.capturesStarted, State.ingCtlWrite_start]
  refine ⟨u, hu.trans (s.setStop_sourceView _ n), ht, fun e he => ?_⟩
  rw [heq]
  refine State.forEach_induction _ (e ∈ State.out ·) he fun k _ v hv => ?_
  cases s.startsAt mask k
  · exact hv
  · exact v.mem_out_captureOn k hv

end

theorem captureStart_starts (who : Initiator) (mask : BitVec 4) (s : State) (hmay : s.mayWrite who A.ING_CTL) :
    ∃ t, exec (.captureStart who mask) s = .next t ∧ t.bus = ⟨0, false⟩ ∧
      t.getF F.ING_CTL_STOP = s.getF F.ING_CTL_STOP &&& (15 - mask.toNat) ∧
      (∀ n, n < 4 → mask.getLsbD n = true → s.bit F.ING_CTL_STOP n = true →
        t.getF (F.ING_SSTAT_STATE n) = (if s.getF (F.ING_SSTAT_STATE n) = 0 ∧ (s.srcPlan n).enable = true then 1
          else s.getF (F.ING_SSTAT_STATE n)) ∧
        t.src n = { s.src n with stopAtEnd := false, changed := false } ∧
        ((s.src n).changed = true → Emission.hpdPulse n ∈ t.out)) ∧
      (∀ n, n < 4 → (mask.getLsbD n = false ∨ s.bit F.ING_CTL_STOP n = false) →
        t.getW (A.ING_SSTAT n) = s.getW (A.ING_SSTAT n) ∧ t.src n = s.src n) ∧
      s.regsKept t [A.ING_CTL, A.ING_SSTAT 0, A.ING_SSTAT 1, A.ING_SSTAT 2, A.ING_SSTAT 3] ∧
      t = { s with regs := t.regs, ing := t.ing, bus := t.bus, out := t.out } := by
  let w := s.busOk 0
  let t := w.capturesStarted mask
  obtain ⟨hframe, hkept⟩ := w.capturesStarted_onlyIngest mask
  have hbus : t.bus = ⟨0, false⟩ := by rw [show t = _ from hframe]; rfl
  refine ⟨t, congrArg Host.Outcome.next (State.guarded_of_mayWrite _ hmay), hbus, w.getF_capturesStarted mask,
    fun n hn hmask hstop => ?_, fun n _ h => ?_, hkept, ?_⟩
  · obtain ⟨u, hu, ht, hout⟩ := w.capturesStarted_named mask hn hmask hstop
    obtain ⟨-, husrc, huplan⟩ := State.sourceView_eq hu
    obtain ⟨-, htsrc, -⟩ := State.sourceView_eq ht
    refine ⟨?_, ?_, fun hchanged => hout _ (u.captureOn_pulses n (husrc ▸ hchanged))⟩
    · rw [State.getF_state_of_sourceView ht, u.getF_captureOn_state, State.getF_state_of_sourceView hu, huplan]
      rfl
    · rw [htsrc, u.src_captureOn, husrc]
      rfl
  · obtain ⟨hword, hsrc, -⟩ := State.sourceView_eq (w.capturesStarted_unnamed mask h)
    exact ⟨hword, hsrc⟩
  · rw [hbus]
    exact hframe

end Sys2Proof.Machine
end

section
/-!
PROOFS. Read underruns, retirement and the memory's sleep (chapter 07: R157, R158, R160, R161), and the settling of the
captures' ends.
-/

namespace Sys2Proof.Machine

/-! ### Underruns (R157) -/

section
variable (s : State) (e : Fin 64) (x : Nat)

/-- A line cut short by an engine from a canvas column on. -/
def State.cutFrom : State :=
  { s with ing := { s.ing with cuts := (e.val / 16, e.val % 16, s.lineNow - s.plan.ingest.leadLines, x) :: s.ing.cuts } }

/-- An underrun counted, with its engine and its event. -/
def State.underrun : State :=
  (((s.cutFrom e x).bump F.SCN_UNDERRUN_COUNT).setF F.SCN_UNDERRUN_ENGINE e).raise F.SCN_EVT_UNDERRUN

theorem State.underrun_onlyRegs : (s.cutFrom e x).onlyRegs (s.underrun e x) [A.SCN_UNDERRUN, A.SCN_EVT] :=
  (((State.onlyRegs.refl _ _).bump F.SCN_UNDERRUN_COUNT (by decide)).setF F.SCN_UNDERRUN_ENGINE e (by decide)).raise
    F.SCN_EVT_UNDERRUN (by decide)

theorem State.getF_underrun : (s.underrun e x).getF F.SCN_UNDERRUN_ENGINE = e.val ∧
    (s.underrun e x).getF F.SCN_UNDERRUN_COUNT = min (s.getF F.SCN_UNDERRUN_COUNT + 1) 65535 ∧
    (s.underrun e x).getF F.SCN_EVT_UNDERRUN = 1 := by
  refine ⟨?_, ?_, State.getF_raise_self _ _ (by decide) (by decide)⟩ <;>
    rw [State.underrun, State.raise, State.getF_setF_apart _ _ _ _ (by decide) (by decide)]
  · rw [State.getF_setF_self _ _ _ (by decide)]
    exact Nat.mod_eq_of_lt e.isLt
  · rw [State.getF_setF_apart _ _ _ _ (by decide) (by decide), State.getF_bump_self _ _ (by decide)]
    rfl

/-- The layer is cut short in the engine's stripe, from the column on, in the line in scan-out. -/
theorem State.cutAt_underrun {c : Nat} {st : Nat × Nat} (hst : nth s.plan.comp.stripes (e.val / 16) (0, 0) = st) (hx : x ≤ c)
    (hlo : st.1 ≤ c) (hhi : c < st.1 + st.2) :
    (s.underrun e x).cutAt (e.val % 16) c (s.lineNow - s.plan.ingest.leadLines) = true := by
  subst hst
  refine List.any_eq_true.2 ⟨(e.val / 16, e.val % 16, s.lineNow - s.plan.ingest.leadLines, x), List.mem_cons_self, ?_⟩
  simpa using ⟨⟨hx, hlo⟩, hhi⟩

end

theorem readUnderrun_cuts (e : Fin 64) (x : Nat) (s : State) (hhead : s.isHead = true) :
    ∃ t, exec (.readUnderrun e x) s = .next t ∧ s.regsKept t [A.SCN_UNDERRUN, A.SCN_EVT] ∧ t.getF F.SCN_UNDERRUN_ENGINE = e.val ∧
      t.getF F.SCN_UNDERRUN_COUNT = min (s.getF F.SCN_UNDERRUN_COUNT + 1) 65535 ∧ t.getF F.SCN_EVT_UNDERRUN = 1 ∧
      (∀ st, nth s.plan.comp.stripes (e.val / 16) (0, 0) = st → ∀ c, x ≤ c → st.1 ≤ c → c < st.1 + st.2 →
        t.cutAt (e.val % 16) c (s.lineNow - s.plan.ingest.leadLines) = true) ∧
      t = { s with regs := t.regs, ing := { s.ing with cuts := t.ing.cuts } } := by
  obtain ⟨hengine, hcount, hevent⟩ := s.getF_underrun e x
  exact ⟨s.underrun e x, if_pos hhead, (s.underrun_onlyRegs e x).2, hengine, hcount, hevent,
    fun st hst c hx hlo hhi => s.cutAt_underrun e x hst hx hlo hhi, rfl⟩

/-! ### Retirement (R158, R178) -/

section
variable (s : State) (l : Fin 16) (rest : List Nat)

/-- The oldest replaced buffer of a layer off its queue. -/
def State.unqueued : State := { s with ing := { s.ing with unretired := tabPut s.ing.unretired l.val rest } }

/-- A buffer of a layer retired, with its count and its event. -/
def State.retired : State :=
  ((s.unqueued l rest).setF (F.SCN_LSTAT_RETIRE l) ((s.getF (F.SCN_LSTAT_RETIRE l) + 1) % 65536)).raise F.SCN_EVT_RETIRED

theorem State.retired_onlyIngest : s.onlyIngest (s.retired l rest) [A.SCN_LSTAT l, A.SCN_EVT] := by
  have hqueue : s.onlyIngest (s.unqueued l rest) [A.SCN_LSTAT l, A.SCN_EVT] := ⟨rfl, State.regsKept.refl s _⟩
  exact (hqueue.setF (F.SCN_LSTAT_RETIRE l) _ List.mem_cons_self).setF F.SCN_EVT_RETIRED 1
    (List.mem_cons_of_mem _ List.mem_cons_self)

theorem lstatField_apart (l : Fin 16) : F.SCN_EVT_RETIRED.apart (F.SCN_LSTAT_RETIRE l) = true ∧
    F.SCN_EVT_RETIRED.apart (F.SCN_LSTAT_FLIPS l) = true ∧ (F.SCN_LSTAT_RETIRE l).apart (F.SCN_LSTAT_FLIPS l) = true := by
  revert l
  decide

theorem State.getF_retired : (s.retired l rest).getF (F.SCN_LSTAT_RETIRE l) = (s.getF (F.SCN_LSTAT_RETIRE l) + 1) % 65536 ∧
    (s.retired l rest).getF (F.SCN_LSTAT_FLIPS l) = s.getF (F.SCN_LSTAT_FLIPS l) ∧
    (s.retired l rest).getF F.SCN_EVT_RETIRED = 1 := by
  obtain ⟨hretire, hflips, hbeside⟩ := lstatField_apart l
  have hfits : (F.SCN_LSTAT_RETIRE l).lo + (F.SCN_LSTAT_RETIRE l).width ≤ 32 := by simp [F.SCN_LSTAT_RETIRE]
  have hfits' : (F.SCN_LSTAT_FLIPS l).lo + (F.SCN_LSTAT_FLIPS l).width ≤ 32 := by simp [F.SCN_LSTAT_FLIPS]
  refine ⟨?_, ?_, State.getF_raise_self _ _ (by decide) (by decide)⟩
  · rw [State.retired, State.raise, State.getF_setF_apart _ _ _ _ hretire hfits, State.getF_setF_self _ _ _ hfits]
    exact Nat.mod_mod _ _
  · rw [State.retired, State.raise, State.getF_setF_apart _ _ _ _ hflips hfits', State.getF_setF_apart _ _ _ _ hbeside hfits']
    rfl

end

section
variable {l : Fin 16} {b : Nat} {rest : List Nat} {s : State} (hold : tabGet [] s.ing.unretired l.val = b :: rest)
include hold

/-- The oldest replaced buffer is retired unless a rebuild in progress reads it. -/
theorem exec_bufferRetire : exec (.bufferRetire l) s =
    if s.flowBuilding && s.cmp.flowReads.contains (l.val, b) then .next s else .next (s.retired l rest) := by
  show execBufferRetire l s = _
  unfold execBufferRetire
  rw [hold]
  rfl

theorem bufferRetire_retires (hfree : s.flowBuilding = false ∨ s.cmp.flowReads.contains (l.val, b) = false) :
    ∃ t, exec (.bufferRetire l) s = .next t ∧ t = { s with regs := t.regs, ing := t.ing } ∧
      t.ing = { s.ing with unretired := tabPut s.ing.unretired l.val rest } ∧ s.regsKept t [A.SCN_LSTAT l, A.SCN_EVT] ∧
      t.getF (F.SCN_LSTAT_RETIRE l) = (s.getF (F.SCN_LSTAT_RETIRE l) + 1) % 65536 ∧
      t.getF (F.SCN_LSTAT_FLIPS l) = s.getF (F.SCN_LSTAT_FLIPS l) ∧ t.getF F.SCN_EVT_RETIRED = 1 := by
  have hread : (s.flowBuilding && s.cmp.flowReads.contains (l.val, b)) = false := Bool.and_eq_false_iff.2 hfree
  exact ⟨s.retired l rest, (exec_bufferRetire hold).trans (if_neg (Bool.eq_false_iff.1 hread)),
    (s.retired_onlyIngest l rest).frame rfl, rfl, (s.retired_onlyIngest l rest).2, s.getF_retired l rest⟩

theorem bufferRetire_waits (hflow : s.getF F.CMP_STAT_FLOW = 2) (hdone : s.cmp.flowDone = none)
    (hread : s.cmp.flowReads.contains (l.val, b) = true) : exec (.bufferRetire l) s = .next s :=
  (exec_bufferRetire hold).trans (if_pos (by rw [State.flowBuilding, hflow, hdone, hread]; rfl))

end

/-! ### The memory's sleep (R160, R161) -/

theorem memSelfRefreshEntry_sleeps (cs : List MemClient) (s : State) (hhead : s.isHead = true) (hready : s.boot.memReady = true)
    (hsr : s.plan.ingest.srEnable = true) (htol : ∀ c ∈ cs, s.plan.ingest.srMinUs * 1000 ≤ s.tolerance c)
    (hawake : s.flag F.SCN_STAT_MEM_SR = false) :
    ∃ t, exec (.memSelfRefreshEntry cs false) s = .next t ∧ t = { s with regs := t.regs, ing := t.ing } ∧
      s.regsKept t [A.SCN_STAT] ∧ s.wrote t F.SCN_STAT_MEM_SR 1 ∧
      t.ing = { s.ing with srIn := some s.now, srEntries := s.ing.srEntries + 1 } := by
  have hall : cs.all (fun c => decide (s.plan.ingest.srMinUs * 1000 ≤ s.tolerance c)) = true :=
    List.all_eq_true.2 fun c hc => decide_eq_true (htol c hc)
  refine ⟨_, if_pos ?_, rfl, ((State.regsKept.refl s _).raise F.SCN_STAT_MEM_SR List.mem_cons_self).congr rfl, s.wrote_setF _ _, rfl⟩
  rw [hhead, hready, hsr, hawake, hall]
  rfl

theorem memSelfRefreshEntry_waits (cs : List MemClient) (busy : Bool) (s : State)
    (h : busy = true ∨ ∃ c ∈ cs, s.tolerance c < s.plan.ingest.srMinUs * 1000) : exec (.memSelfRefreshEntry cs busy) s = .next s := by
  refine if_neg fun hgo => ?_
  obtain ⟨⟨⟨-, hfree⟩, -⟩, hall⟩ : ((_ ∧ busy = false) ∧ _) ∧ ∀ c ∈ cs, s.plan.ingest.srMinUs * 1000 ≤ s.tolerance c := by
    simpa using hgo
  obtain hbusy | ⟨c, hc, hlow⟩ := h
  · rw [hbusy] at hfree
    exact absurd hfree (by decide)
  · exact absurd (hall c hc) (Nat.not_le_of_lt hlow)

theorem memSelfRefreshExit_wakes (cs : List MemClient) (m : MemClient) (c : Nat) (s : State) (hin : s.ing.srIn = some c) (hm : m ∈ cs)
    (hlow : s.tolerance m ≤ (3 + s.plan.ingest.srGuardUs) * 1000) :
    ∃ t, exec (.memSelfRefreshExit cs) s = .next t ∧ t = { s with regs := t.regs, ing := t.ing } ∧
      s.regsKept t [A.SCN_STAT] ∧ s.wrote t F.SCN_STAT_MEM_SR 0 ∧
      t.ing = { s.ing with srIn := none, srSum := s.ing.srSum + (s.now - c) } := by
  have hany : cs.any (fun x => decide (s.tolerance x ≤ (3 + s.plan.ingest.srGuardUs) * 1000)) = true :=
    List.any_eq_true.2 ⟨m, hm, decide_eq_true hlow⟩
  have hexec : exec (.memSelfRefreshExit cs) s = .next { s.setF F.SCN_STAT_MEM_SR 0 with
      ing := { s.ing with srIn := none, srSum := s.ing.srSum + (s.now - c) } } := by
    show execMemSelfRefreshExit cs s = _
    unfold execMemSelfRefreshExit
    rw [hin]
    exact if_pos hany
  exact ⟨_, hexec, rfl, ((State.regsKept.refl s _).setF F.SCN_STAT_MEM_SR 0 List.mem_cons_self).congr rfl, s.wrote_setF _ _, rfl⟩

/-- Settles O33: the two commands of `ING_CTL`, then the reads, the retirements and the memory's sleep. -/
theorem capturesStopReadsAndMemorySleep : Obligations.CapturesStopReadsAndMemorySleep :=
  ⟨⟨captureStop_stops, captureStart_starts⟩, readUnderrun_cuts, fun _ _ _ _ => bufferRetire_retires,
    fun _ _ _ _ => bufferRetire_waits, memSelfRefreshEntry_sleeps, memSelfRefreshEntry_waits, memSelfRefreshExit_wakes⟩

end Sys2Proof.Machine
end

section
/-!
PROOFS. Shutter inputs (chapter 07: R152), and what a recorded exposure leaves of ingest where it steers a time base
(chapter 14: R313).
-/

namespace Sys2Proof.Machine

/-! ### What the time base of an exposure leaves (R308, R313) -/

/-- The registers that show the steering and the state of a time base other than TB0. -/
def tbRegs (i : Nat) : List Nat := [A.TIM_STAT, A.TIM_EVT, A.TIM_RATE i]

/-- What is stated of an exposure beside its time base: what ingest holds, and a register. -/
def State.ingestAnd (s : State) (a : Nat) : IngState × Word := (s.ing, s.getW a)

section
variable (s : State) {i a : Nat} (ha : a ∉ tbRegs i)
include ha

theorem State.setF_ingestAnd {f : Fld} (hf : f.addr ∈ tbRegs i) (v : Nat) : (s.setF f v).ingestAnd a = s.ingestAnd a :=
  Prod.ext rfl (State.getW_setF_ne _ _ _ fun e => ha (e ▸ hf))

theorem State.setRate_ingestAnd (r : Int) : (s.setRate i r).ingestAnd a = s.ingestAnd a :=
  State.setF_ingestAnd _ ha (f := F.TIM_RATE_RATE i) (by simp [tbRegs, F.TIM_RATE_RATE, A.TIM_RATE]) _

theorem State.tbTo_ingestAnd (hi : i ≠ 0) (v : Nat) : (s.tbTo i v).ingestAnd a = s.ingestAnd a := by
  unfold State.tbTo
  extract_lets old x s1 s2 s3 s4 s5 s6
  split
  · rfl
  · have h1 : s1.ingestAnd a = s.ingestAnd a := s.setF_ingestAnd ha (f := F.TIM_STAT_TB i) List.mem_cons_self v
    have h2 : s2.ingestAnd a = s1.ingestAnd a :=
      s1.when_same (State.ingestAnd · a) _ (s1.setF_ingestAnd ha (f := F.TIM_EVT_LOCK) (by simp [tbRegs, F.TIM_EVT_LOCK, A.TIM_EVT]) _)
    have h3 : s3.ingestAnd a = s2.ingestAnd a :=
      s2.when_same (State.ingestAnd · a) _ (s2.setF_ingestAnd ha (f := F.TIM_EVT_LOST) (by simp [tbRegs, F.TIM_EVT_LOST, A.TIM_EVT]) _)
    have h4 : s4.ingestAnd a = s3.ingestAnd a := s3.when_same (State.ingestAnd · a) _ (State.setRate_ingestAnd _ ha 0)
    rw [h4, h3, h2, h1]

theorem State.tbLose_ingestAnd (hi : i ≠ 0) : (s.tbLose i).ingestAnd a = s.ingestAnd a := by
  unfold State.tbLose
  split
  · exact s.tbTo_ingestAnd ha hi 3
  · rfl

/-- A recorded exposure start steers its time base, and leaves the rest of the record. -/
theorem State.shutterStart_ingestAnd (hi : i ≠ 0) : (s.shutterStart i).ingestAnd a = s.ingestAnd a := by
  unfold State.shutterStart
  split
  · exact (State.tbTo_ingestAnd _ ha hi 2).trans (State.setRate_ingestAnd _ ha _)
  · rfl

end

/-! ### The parts of a shutter input -/

section
variable (s : State) (j : Fin 2)

@[simp] theorem State.shut_setShut (j : Nat) (x : ShutX) : (s.setShut j x).shut j = x := tabGet_tabPut_self _ _ _ _

/-- The bit of `SCN_STAT` that shows a shutter input present. -/
def shutOk (j : Fin 2) : Fld := if j = 0 then F.SCN_STAT_SHUT0_OK else F.SCN_STAT_SHUT1_OK

/-- An exposure of a shutter input shows in registers that no time base has. -/
theorem shutField_notMem_tbRegs : (shutOk j).addr ∉ tbRegs (j.val + 1) ∧ (F.SCN_SHUT_START j).addr ∉ tbRegs (j.val + 1) ∧
    F.SCN_EVT_SHUT_LOST.addr ∉ tbRegs (j.val + 1) := by
  revert j
  decide

theorem shutField_fits : (shutOk j).lo + (shutOk j).width ≤ 32 ∧ 0 < (shutOk j).width ∧
    (F.SCN_SHUT_START j).lo + (F.SCN_SHUT_START j).width ≤ 32 ∧ (F.SCN_SHUTW_WIDTH j).lo + (F.SCN_SHUTW_WIDTH j).width ≤ 32 := by
  revert j
  decide

theorem shutField_apart : (shutOk j).apart (F.SCN_SHUT_START j) = true ∧ (shutOk j).apart F.SCN_EVT_SHUT_LOST = true := by
  revert j
  decide

/-! ### An exposure begun -/

/-- The first exposure of a frame on record, before its time base is steered. -/
def State.exposed : State :=
  (((s.setShut j { s.shut j with level := !(nth s.plan.ingest.shutterPolarity j false) }).setShut j
    { s.shut j with
      level := !(nth s.plan.ingest.shutterPolarity j false), openAt := some s.now, thisStart := some s.frameUnits }).setF
    (F.SCN_SHUT_START j) s.frameUnits).raise (shutOk j)

variable {s j}

/-- A change to the active level is one that a Head looks at. -/
theorem shutterEdge_changes (hhead : s.isHead = true) (hlevel : (s.shut j).level = nth s.plan.ingest.shutterPolarity j false) :
    ¬(!s.isHead || ((!nth s.plan.ingest.shutterPolarity j false) != nth s.plan.ingest.shutterPolarity j false) ==
      ((s.shut j).level != nth s.plan.ingest.shutterPolarity j false)) = true := by
  rw [hhead, hlevel, bne_self_eq_false, Bool.not_bne_self]
  decide

theorem shutterEdge_records (hhead : s.isHead = true) (hlevel : (s.shut j).level = nth s.plan.ingest.shutterPolarity j false)
    (hfirst : (s.shut j).thisStart = none) : exec (.shutterEdge j (!(nth s.plan.ingest.shutterPolarity j false))) s =
      .next ((s.exposed j).shutterStart (j.val + 1)) := by
  exact (if_neg (shutterEdge_changes hhead hlevel)).trans ((if_pos (Bool.not_bne_self _)).trans (if_neg (by rw [hfirst]; decide)))

variable (s j)

theorem State.getF_exposed : (s.exposed j).getF (F.SCN_SHUT_START j) = s.frameUnits % 2 ^ 24 ∧ (s.exposed j).getF (shutOk j) = 1 := by
  obtain ⟨hok, hpos, hstart, -⟩ := shutField_fits j
  refine ⟨?_, State.getF_raise_self _ _ hok hpos⟩
  obtain ⟨hapart, -⟩ := shutField_apart j
  rw [State.exposed, State.raise, State.getF_setF_apart _ _ _ _ hapart hstart, State.getF_setF_self _ _ _ hstart]
  rfl

theorem State.shut_exposed : (s.exposed j).shut j = { s.shut j with
    level := !(nth s.plan.ingest.shutterPolarity j false), openAt := some s.now, thisStart := some s.frameUnits } :=
  State.shut_setShut _ _ _

/-- The steering of the time base leaves what an exposure has recorded. -/
theorem State.steered_keeps (u : State) :
    ((u.shutterStart (j.val + 1)).getF (F.SCN_SHUT_START j) = u.getF (F.SCN_SHUT_START j) ∧
      (u.shutterStart (j.val + 1)).getF (shutOk j) = u.getF (shutOk j)) ∧ (u.shutterStart (j.val + 1)).shut j = u.shut j := by
  obtain ⟨hok, hstart, -⟩ := shutField_notMem_tbRegs j
  have hsame {a : Nat} (ha : a ∉ tbRegs (j.val + 1)) : (u.shutterStart (j.val + 1)).ing = u.ing ∧
      (u.shutterStart (j.val + 1)).getW a = u.getW a := Prod.mk.injEq .. ▸ u.shutterStart_ingestAnd ha (Nat.succ_ne_zero _)
  exact ⟨⟨congrArg (F.SCN_SHUT_START j).of (hsame hstart).2, congrArg (shutOk j).of (hsame hok).2⟩,
    congrArg (fun x : IngState => tabGet ({} : ShutX) x.shut j.val) (hsame hok).1⟩

end

/-- The first exposure of a frame is recorded (R152). -/
theorem shutterEdge_begins (j : Fin 2) (s : State) (hhead : s.isHead = true)
    (hlevel : (s.shut j).level = nth s.plan.ingest.shutterPolarity j false) (hfirst : (s.shut j).thisStart = none) :
    ∃ t, exec (.shutterEdge j (!(nth s.plan.ingest.shutterPolarity j false))) s = .next t ∧
      t.getF (F.SCN_SHUT_START j) = (s.now - s.tim.frameAt) / 4 % 2 ^ 24 ∧
      t.getF (if j = 0 then F.SCN_STAT_SHUT0_OK else F.SCN_STAT_SHUT1_OK) = 1 ∧
      (t.shut j).thisStart = some ((s.now - s.tim.frameAt) / 4) ∧ (t.shut j).openAt = some s.now ∧
      (t.shut j).level = !(nth s.plan.ingest.shutterPolarity j false) := by
  obtain ⟨⟨hstart, hok⟩, hshut⟩ := State.steered_keeps j (s.exposed j)
  obtain ⟨hunits, hpresent⟩ := s.getF_exposed j
  rw [s.shut_exposed j] at hshut
  exact ⟨_, shutterEdge_records hhead hlevel hfirst, hstart.trans hunits, hok.trans hpresent, congrArg ShutX.thisStart hshut,
    congrArg ShutX.openAt hshut, congrArg ShutX.level hshut⟩

/-- A later exposure in the frame records nothing. -/
theorem shutterEdge_again (j : Fin 2) (s : State) (u : Nat) (hhead : s.isHead = true)
    (hlevel : (s.shut j).level = nth s.plan.ingest.shutterPolarity j false) (hbefore : (s.shut j).thisStart = some u) :
    ∃ t, exec (.shutterEdge j (!(nth s.plan.ingest.shutterPolarity j false))) s = .next t ∧ t = { s with ing := t.ing } ∧
      t.shut j = { s.shut j with level := !(nth s.plan.ingest.shutterPolarity j false) } := by
  exact ⟨_, (if_neg (shutterEdge_changes hhead hlevel)).trans ((if_pos (Bool.not_bne_self _)).trans (if_pos (by rw [hbefore]; rfl))),
    rfl, State.shut_setShut _ _ _⟩

/-! ### An exposure ended -/

section
variable (s : State) (j : Fin 2) (c : Nat)

/-- An exposure's width on record. -/
def State.exposedFor : State :=
  ((s.setShut j { s.shut j with level := nth s.plan.ingest.shutterPolarity j false }).setShut j
    { s.shut j with level := nth s.plan.ingest.shutterPolarity j false, openAt := none }).setF (F.SCN_SHUTW_WIDTH j) ((s.now - c) / 4)

theorem State.exposedFor_onlyIngest : s.onlyIngest (s.exposedFor j c) [A.SCN_SHUTW j] :=
  (((State.onlyIngest.refl s _).setShut _ _).setShut _ _).setF (F.SCN_SHUTW_WIDTH j) _ (List.mem_singleton_self _)

theorem State.shut_exposedFor : (s.exposedFor j c).shut j =
    { s.shut j with level := nth s.plan.ingest.shutterPolarity j false, openAt := none } := State.shut_setShut _ _ _

end

/-- The end of an exposure records its width (R152). -/
theorem shutterEdge_ends (j : Fin 2) (s : State) (c : Nat) (hhead : s.isHead = true)
    (hlevel : (s.shut j).level ≠ nth s.plan.ingest.shutterPolarity j false) (hopen : (s.shut j).openAt = some c) :
    ∃ t, exec (.shutterEdge j (nth s.plan.ingest.shutterPolarity j false)) s = .next t ∧
      t.getF (F.SCN_SHUTW_WIDTH j) = (s.now - c) / 4 % 2 ^ 24 ∧ s.regsKept t [A.SCN_SHUTW j] ∧ (t.shut j).openAt = none ∧
      t = { s with regs := t.regs, ing := t.ing } := by
  have hactive : ((s.shut j).level != nth s.plan.ingest.shutterPolarity j false) = true := bne_iff_ne.2 hlevel
  have hedge : (nth s.plan.ingest.shutterPolarity j false != nth s.plan.ingest.shutterPolarity j false) = false :=
    bne_self_eq_false _
  have hexec : exec (.shutterEdge j (nth s.plan.ingest.shutterPolarity j false)) s = .next (s.exposedFor j c) := by
    refine (if_neg (by rw [hhead, hactive, hedge]; decide)).trans ((if_neg (by rw [hedge]; decide)).trans ?_)
    split
    · next d hd =>
      obtain rfl : c = d := Option.some.inj (hopen.symm.trans hd)
      rfl
    · next hnone => exact absurd (hopen.symm.trans hnone) (Option.some_ne_none c)
  obtain ⟨-, -, -, hfits⟩ := shutField_fits j
  exact ⟨s.exposedFor j c, hexec, State.getF_setF_self _ _ _ hfits, (s.exposedFor_onlyIngest j c).2,
    congrArg ShutX.openAt (s.shut_exposedFor j c), (s.exposedFor_onlyIngest j c).frame rfl⟩

/-! ### A shutter lost -/

/-- Two frames without an exposure show the input lost (R152). -/
theorem shutterLost_shows (j : Fin 2) (s : State) (hhead : s.isHead = true) (hthis : (s.shut j).thisStart = none)
    (hlast : (s.shut j).lastStart = none) :
    ∃ t, exec (.shutterLost j) s = .next t ∧ t.bit F.SCN_EVT_SHUT_LOST j = true ∧
      t.getF (if j = 0 then F.SCN_STAT_SHUT0_OK else F.SCN_STAT_SHUT1_OK) = 0 := by
  let u := (s.raiseBit F.SCN_EVT_SHUT_LOST j).setF (shutOk j) 0
  let t := u.when (u.tbSrc (j.val + 1) == 1) fun v => v.tbLose (j.val + 1)
  obtain ⟨hfits, -, -⟩ := shutField_fits j
  obtain ⟨hok, -, hevt⟩ := shutField_notMem_tbRegs j
  obtain ⟨-, hapart⟩ := shutField_apart j
  have hsame {f : Fld} (hf : f.addr ∉ tbRegs (j.val + 1)) : t.getF f = u.getF f :=
    congrArg (fun x : IngState × Word => f.of x.2)
      (u.when_same (State.ingestAnd · f.addr) _ (u.tbLose_ingestAnd hf (Nat.succ_ne_zero _)))
  refine ⟨t, if_pos (by rw [hhead, hthis, hlast]; rfl), ?_, ?_⟩
  · rw [State.bit, hsame hevt]
    exact (State.bit_setF_apart _ _ _ _ _ hapart (by decide)).trans (State.bit_raiseBit_self _ _ _ (by decide) j.isLt)
  · exact (hsame hok).trans ((State.getF_setF_self _ _ _ hfits).trans (Nat.zero_mod _))

/-- Settles O34: an exposure begun, one more in its frame, its end, and the input lost. -/
theorem exposuresAreRecorded : Obligations.ExposuresAreRecorded :=
  ⟨shutterEdge_begins, shutterEdge_again, shutterEdge_ends, shutterLost_shows⟩

end Sys2Proof.Machine
end

section
/-!
PROOFS. Writes of `CMP_COEFDATA` (chapter 08: R168, R169).
-/

namespace Sys2Proof.Machine

/-- What an access that was answered changes in registers alone. -/
theorem State.onlyRegs.after_busOk {s t : State} {d : Word} {l : List Nat} (h : (s.busOk d).onlyRegs t l) :
    t.bus = ⟨d.setWidth 64, false⟩ ∧ s.onlyBus t l := by
  have hbus : t.bus = ⟨d.setWidth 64, false⟩ := h.bus_eq
  refine ⟨hbus, ?_, h.2⟩
  rw [hbus]
  exact h.1

/-! ### The table of coefficients -/

theorem find?_tabDrop_ne {α : Type} (l : List (Nat × α)) {j k : Nat} (h : j ≠ k) :
    (tabDrop l k).find? (fun p => p.1 == j) = l.find? (fun p => p.1 == j) := by
  induction l with
  | nil => rfl
  | cons x t ih =>
    obtain ⟨i, w⟩ := x
    by_cases hi : i = k
    · simpa [tabDrop, hi, Ne.symm h] using ih
    · simp [tabDrop, hi, List.find?_cons, ih]

/-- No two places share a key: the fields of `CMP_COEFADDR` do not overlap (R169). -/
theorem coefKey_inj {l b d ph tap l' b' d' ph' tap' : Nat} (hl : l < 8) (hb : b < 2) (hd : d < 2) (hph : ph < 64)
    (hl' : l' < 8) (hb' : b' < 2) (hd' : d' < 2) (hph' : ph' < 64) (h : coefKey l b d ph tap = coefKey l' b' d' ph' tap') :
    (l, b, d, ph, tap) = (l', b', d', ph', tap') := by
  unfold coefKey at h
  simp only [Prod.mk.injEq]
  omega

/-- A coefficient depends on the plan and on what has been loaded alone. -/
theorem State.coef_congr {s t : State} (hplan : t.plan = s.plan) (hcmp : t.cmp.coef = s.cmp.coef) : t.coef = s.coef := by
  funext l b d ph tap
  simp only [State.coef, hplan, hcmp]

section
variable (s : State) (v : BitVec 12)

/-- The key of the place that `CMP_COEFADDR` names. -/
def State.coefHere : Nat :=
  coefKey (s.getF F.CMP_COEFADDR_LAYER) (s.getF F.CMP_COEFADDR_BANK) (s.getF F.CMP_COEFADDR_DIR)
    (s.getF F.CMP_COEFADDR_PHASE) (s.getF F.CMP_COEFADDR_TAP)

/-- A coefficient stored at the place that `CMP_COEFADDR` names. -/
def State.coefStored : State := { s with cmp := { s.cmp with coef := tabPut s.cmp.coef s.coefHere v } }

theorem State.coef_coefStored_here : (s.coefStored v).coef (s.getF F.CMP_COEFADDR_LAYER) (s.getF F.CMP_COEFADDR_BANK)
    (s.getF F.CMP_COEFADDR_DIR) (s.getF F.CMP_COEFADDR_PHASE) (s.getF F.CMP_COEFADDR_TAP) = toSigned 12 v.toNat := by
  simp [State.coef, State.coefStored, tabPut, State.coefHere]

theorem State.coef_coefStored_elsewhere {l b d ph tap : Nat} (h : coefKey l b d ph tap ≠ s.coefHere) :
    (s.coefStored v).coef l b d ph tap = s.coef l b d ph tap := by
  have hfind : (s.coefStored v).cmp.coef.find? (fun p => p.1 == coefKey l b d ph tap) =
      s.cmp.coef.find? (fun p => p.1 == coefKey l b d ph tap) :=
    (List.find?_cons_of_neg (by simpa using Ne.symm h)).trans (find?_tabDrop_ne _ h)
  unfold State.coef
  rw [hfind]
  rfl

/-! ### The next place -/

/-- The place named moves on by a tap, after tap 7 by a phase, where INC asks for it. -/
def State.coefNext : State :=
  if s.flag F.CMP_COEFADDR_INC then
    (s.setF F.CMP_COEFADDR_TAP ((s.getF F.CMP_COEFADDR_TAP + 1) % 8)).setF F.CMP_COEFADDR_PHASE
      (if s.getF F.CMP_COEFADDR_TAP = 7 then (s.getF F.CMP_COEFADDR_PHASE + 1) % 64 else s.getF F.CMP_COEFADDR_PHASE)
  else s

theorem State.coefNext_onlyRegs : s.onlyRegs s.coefNext [A.CMP_COEFADDR] :=
  (((State.onlyRegs.refl s _).setF _ _ (by decide)).setF _ _ (by decide)).ite (State.onlyRegs.refl s _)

theorem State.coefNext_bus : s.coefNext.bus = s.bus := s.coefNext_onlyRegs.bus_eq

variable {s}

theorem State.coefNext_still (h : s.flag F.CMP_COEFADDR_INC = false) : s.coefNext = s := if_neg (by simp [h])

theorem State.getF_coefNext (h : s.flag F.CMP_COEFADDR_INC = true) :
    s.coefNext.getF F.CMP_COEFADDR_TAP = (s.getF F.CMP_COEFADDR_TAP + 1) % 8 ∧
      s.coefNext.getF F.CMP_COEFADDR_PHASE =
        (if s.getF F.CMP_COEFADDR_TAP = 7 then (s.getF F.CMP_COEFADDR_PHASE + 1) % 64 else s.getF F.CMP_COEFADDR_PHASE) := by
  rw [State.coefNext, if_pos h]
  constructor
  · rw [State.getF_setF_apart _ _ _ _ (by decide) (by decide), State.getF_setF_self _ _ _ (by decide)]
    exact Nat.mod_mod _ _
  · rw [State.getF_setF_self _ _ _ (by decide)]
    refine Nat.mod_eq_of_lt ?_
    split
    · exact Nat.mod_lt _ (by decide)
    · exact s.getF_lt F.CMP_COEFADDR_PHASE

/-! ### A data write -/

variable {v}

theorem State.coefPut_of_busy (h : s.bankBusy (s.getF F.CMP_COEFADDR_LAYER) (s.getF F.CMP_COEFADDR_BANK) = true) :
    s.coefPut v = s.raise F.CMP_EVT_COEF_BUSY := if_pos h

section
variable (hfree : s.bankBusy (s.getF F.CMP_COEFADDR_LAYER) (s.getF F.CMP_COEFADDR_BANK) = false)
include hfree

theorem State.coefPut_of_free (hplace : s.getF F.CMP_COEFADDR_DIR = 0 ∨ s.getF F.CMP_COEFADDR_TAP < 6) :
    s.coefPut v = (s.coefStored v).coefNext := by
  have hstore : ¬(s.getF F.CMP_COEFADDR_DIR = 1 ∧ 6 ≤ s.getF F.CMP_COEFADDR_TAP) := by omega
  simp only [State.coefPut, hfree, Bool.false_eq_true, if_false, hstore]
  rfl

/-- A vertical filter has no taps 6 and 7 (R169). -/
theorem State.coefPut_beyond_taps (hdir : s.getF F.CMP_COEFADDR_DIR = 1) (htap : 6 ≤ s.getF F.CMP_COEFADDR_TAP) :
    s.coefPut v = s.coefNext := by
  simp only [State.coefPut, hfree, Bool.false_eq_true, if_false, if_pos (And.intro hdir htap)]
  rfl

end

end

section
variable (who : Initiator) (v : BitVec 12) (s : State) (hmay : s.mayWrite who A.CMP_COEFDATA)
include hmay

theorem exec_coefWrite : exec (.coefWrite who v) s = .next ((s.busOk 0).coefPut v) :=
  congrArg Host.Outcome.next (State.guarded_of_mayWrite _ hmay)

/-- A coefficient for a free bank is stored, and the place moves on (R169). -/
theorem coefWrite_stores
    (hfree : s.bankBusy (s.getF F.CMP_COEFADDR_LAYER) (s.getF F.CMP_COEFADDR_BANK) = false)
    (hplace : s.getF F.CMP_COEFADDR_DIR = 0 ∨ s.getF F.CMP_COEFADDR_TAP < 6) :
    ∃ t, exec (.coefWrite who v) s = .next t ∧ t.bus = ⟨0, false⟩ ∧
      t.coef (s.getF F.CMP_COEFADDR_LAYER) (s.getF F.CMP_COEFADDR_BANK) (s.getF F.CMP_COEFADDR_DIR)
        (s.getF F.CMP_COEFADDR_PHASE) (s.getF F.CMP_COEFADDR_TAP) = toSigned 12 v.toNat ∧
      (∀ l b d ph tap, l < 8 → b < 2 → d < 2 → ph < 64 → tap < 8 →
        (l, b, d, ph, tap) ≠ (s.getF F.CMP_COEFADDR_LAYER, s.getF F.CMP_COEFADDR_BANK, s.getF F.CMP_COEFADDR_DIR,
          s.getF F.CMP_COEFADDR_PHASE, s.getF F.CMP_COEFADDR_TAP) → t.coef l b d ph tap = s.coef l b d ph tap) ∧
      s.regsKept t [A.CMP_COEFADDR] ∧ (s.flag F.CMP_COEFADDR_INC = false → t.regs = s.regs) ∧
      (s.flag F.CMP_COEFADDR_INC = true → t.getF F.CMP_COEFADDR_TAP = (s.getF F.CMP_COEFADDR_TAP + 1) % 8 ∧
        t.getF F.CMP_COEFADDR_PHASE =
          (if s.getF F.CMP_COEFADDR_TAP = 7 then (s.getF F.CMP_COEFADDR_PHASE + 1) % 64 else s.getF F.CMP_COEFADDR_PHASE)) ∧
      t = { s with regs := t.regs, cmp := { s.cmp with coef := t.cmp.coef }, bus := t.bus } := by
  let u := (s.busOk 0).coefStored v
  obtain ⟨hframe, hkept⟩ := u.coefNext_onlyRegs
  have hcmp : u.coefNext.cmp = u.cmp := by rw [hframe]
  have hcoef : u.coefNext.coef = u.coef := State.coef_congr (by rw [hframe]) (by rw [hcmp])
  refine ⟨u.coefNext, (exec_coefWrite who v s hmay).trans (congrArg _ (State.coefPut_of_free hfree hplace)), u.coefNext_bus,
    ?_, ?_, hkept, fun hinc => ?_, State.getF_coefNext (s := u), ?_⟩
  · rw [hcoef]
    exact (s.busOk 0).coef_coefStored_here v
  · intro l b d ph tap hl hb hd hph _ hne
    rw [hcoef]
    exact (s.busOk 0).coef_coefStored_elsewhere v fun hkey =>
      hne (coefKey_inj hl hb hd hph (s.getF_lt F.CMP_COEFADDR_LAYER) (s.getF_lt F.CMP_COEFADDR_BANK)
        (s.getF_lt F.CMP_COEFADDR_DIR) (s.getF_lt F.CMP_COEFADDR_PHASE) hkey)
  · exact (congrArg State.regs (State.coefNext_still (s := u) hinc) : u.coefNext.regs = u.regs)
  · rw [hcmp, u.coefNext_bus]
    exact hframe

/-- A vertical tap that no filter has stores nothing (R169). -/
theorem coefWrite_ignored_tap
    (hfree : s.bankBusy (s.getF F.CMP_COEFADDR_LAYER) (s.getF F.CMP_COEFADDR_BANK) = false)
    (hdir : s.getF F.CMP_COEFADDR_DIR = 1) (htap : 6 ≤ s.getF F.CMP_COEFADDR_TAP) :
    ∃ t, exec (.coefWrite who v) s = .next t ∧ t.bus = ⟨0, false⟩ ∧ s.onlyBus t [A.CMP_COEFADDR] := by
  let u := s.busOk 0
  exact ⟨u.coefNext, (exec_coefWrite who v s hmay).trans (congrArg _ (State.coefPut_beyond_taps (s := u) hfree hdir htap)),
    u.coefNext_onlyRegs.after_busOk⟩

/-- A bank that is active or selected by a pending commit is not written (R169). -/
theorem coefWrite_busy (hbusy : s.bankBusy (s.getF F.CMP_COEFADDR_LAYER) (s.getF F.CMP_COEFADDR_BANK) = true) :
    ∃ t, exec (.coefWrite who v) s = .next t ∧ t.bus = ⟨0, false⟩ ∧ s.onlyBus t [A.CMP_EVT] ∧ t.getF F.CMP_EVT_COEF_BUSY = 1 :=
  ⟨(s.busOk 0).raise F.CMP_EVT_COEF_BUSY,
    (exec_coefWrite who v s hmay).trans (congrArg _ (State.coefPut_of_busy (s := s.busOk 0) hbusy)), rfl,
    (State.onlyBus.ok s _ 0).raise F.CMP_EVT_COEF_BUSY (by decide), State.getF_raise_self _ _ (by decide) (by decide)⟩

end

/-- Settles O35: a bank that is free at a place it has, at a place it has not, and a busy bank. -/
theorem coefficientsAreLoaded : Obligations.CoefficientsAreLoaded :=
  ⟨coefWrite_stores, coefWrite_ignored_tap, coefWrite_busy⟩

end Sys2Proof.Machine
end
section
/-!
PROOFS. Writes of `CMP_CTL` (chapter 08: R174, R177, R178, R183).
-/

namespace Sys2Proof.Machine

section
variable (s : State)

/-! ### A write by its two bits -/

theorem State.cmpCtlWrite_bits (stop flow : Bool) : s.cmpCtlWrite (BitVec.ofNat 32 (stop.toNat + 2 * flow.toNat)) =
    (if stop = s.flag F.CMP_CTL_STOP ∧ (stop && s.getF F.GEO_STAT_ACTIVE != 31) = false then s else s.cmpStop stop).when flow
      fun t => t.flowRequest := by
  cases stop <;> cases flow <;> rfl

variable {s}

/-- A write of 1 to STOP acts where STOP was 0, and is judged anew where a Geode set is active (R183). -/
theorem State.cmpCtlWrite_stop (h : s.flag F.CMP_CTL_STOP = false ∨ s.getF F.GEO_STAT_ACTIVE ≠ 31) :
    s.cmpCtlWrite 1 = s.cmpStop true := by
  refine (s.cmpCtlWrite_bits true false).trans ((State.when_false _ _).trans (if_neg fun hsame => ?_))
  obtain ⟨hstop, hguard⟩ := hsame
  obtain h | h := h
  · exact absurd (hstop.trans h) (by decide)
  · exact absurd hguard (by simpa using h)

theorem State.cmpCtlWrite_start (h : s.flag F.CMP_CTL_STOP = true) : s.cmpCtlWrite 0 = s.cmpStop false :=
  (s.cmpCtlWrite_bits false false).trans ((State.when_false _ _).trans
    (if_neg fun hsame => absurd (hsame.1.trans h) (by decide)))

/-- A write of 1 to FLOW_REQ with STOP as it stands requests a rebuild and nothing else. -/
theorem State.cmpCtlWrite_flow (h : s.flag F.CMP_CTL_STOP = true → s.getF F.GEO_STAT_ACTIVE = 31) :
    s.cmpCtlWrite (BitVec.ofNat 32 (s.getF F.CMP_CTL_STOP + 2)) = s.flowRequest := by
  have hbit : s.getF F.CMP_CTL_STOP = (s.flag F.CMP_CTL_STOP).toNat := by
    have hlt : s.getF F.CMP_CTL_STOP < 2 := s.getF_lt F.CMP_CTL_STOP
    unfold State.flag
    interval_cases s.getF F.CMP_CTL_STOP <;> rfl
  have hguard : (s.flag F.CMP_CTL_STOP && s.getF F.GEO_STAT_ACTIVE != 31) = false := by
    cases hstop : s.flag F.CMP_CTL_STOP
    · rfl
    · simpa using h hstop
  rw [hbit, show 2 = 2 * true.toNat from rfl, s.cmpCtlWrite_bits, if_pos ⟨rfl, hguard⟩, State.when_true]

variable (s)

/-! ### STOP (R174, R183) -/

/-- STOP set: an image in progress is the last. -/
def State.compStopped : State :=
  if (s.raise F.CMP_CTL_STOP).getF F.CMP_STAT_STATE = 2 then (s.raise F.CMP_CTL_STOP).setF F.CMP_STAT_STATE 1
  else s.raise F.CMP_CTL_STOP

/-- STOP cleared: composition runs. -/
def State.compStarted : State := (s.setF F.CMP_CTL_STOP 0).setF F.CMP_STAT_STATE 2

variable {s} in
theorem State.cmpStop_of_noSet (h : s.getF F.GEO_STAT_ACTIVE = 31) : s.cmpStop true = s.compStopped :=
  if_neg (not_not.2 h)

variable {s} in
theorem State.cmpStop_of_set (h : s.getF F.GEO_STAT_ACTIVE ≠ 31) : s.cmpStop true = s.raise F.CMP_EVT_STOP_GUARD := if_pos h

theorem State.compStopped_onlyRegs : s.onlyRegs s.compStopped [A.CMP_CTL, A.CMP_STAT] := by
  have hstop := (State.onlyRegs.refl s [A.CMP_CTL, A.CMP_STAT]).raise F.CMP_CTL_STOP (by decide)
  exact (hstop.setF F.CMP_STAT_STATE 1 (by decide)).ite hstop

theorem State.getF_compStopped : s.compStopped.getF F.CMP_CTL_STOP = 1 ∧
    s.compStopped.getF F.CMP_STAT_STATE = (if s.getF F.CMP_STAT_STATE = 2 then 1 else s.getF F.CMP_STAT_STATE) := by
  have hstate : (s.raise F.CMP_CTL_STOP).getF F.CMP_STAT_STATE = s.getF F.CMP_STAT_STATE :=
    State.getF_setF_apart _ _ _ _ (by decide) (by decide)
  have hstop : (s.raise F.CMP_CTL_STOP).getF F.CMP_CTL_STOP = 1 := State.getF_raise_self _ _ (by decide) (by decide)
  unfold State.compStopped
  rw [hstate]
  split
  · exact ⟨(State.getF_setF_apart _ _ _ _ (by decide) (by decide)).trans hstop, State.getF_setF_self _ _ _ (by decide)⟩
  · exact ⟨hstop, hstate⟩

theorem State.compStarted_onlyRegs : s.onlyRegs s.compStarted [A.CMP_CTL, A.CMP_STAT] :=
  ((State.onlyRegs.refl s _).setF F.CMP_CTL_STOP 0 (by decide)).setF F.CMP_STAT_STATE 2 (by decide)

theorem State.getF_compStarted : s.compStarted.getF F.CMP_CTL_STOP = 0 ∧ s.compStarted.getF F.CMP_STAT_STATE = 2 ∧
    s.compStarted.getF F.CMP_STAT_FLOW = s.getF F.CMP_STAT_FLOW :=
  ⟨(State.getF_setF_apart _ _ _ _ (by decide) (by decide)).trans (State.getF_setF_self _ _ _ (by decide)),
    State.getF_setF_self _ _ _ (by decide),
    (State.getF_setF_apart _ _ _ _ (by decide) (by decide)).trans (State.getF_setF_apart _ _ _ _ (by decide) (by decide))⟩

/-! ### A rebuild begun or abandoned (R177, R178) -/

/-- What composition holds once a rebuild has begun: the buffers now active are what it reads. -/
def State.flowBegun : CmpState :=
  { s.cmp with flowDone := none, flowReads := s.plan.comp.group.map (fun l => (l, s.actF (F.SCN_LBASE_ADDR l))) }

theorem State.flowStart_frame : s.flowStart = { s with regs := s.flowStart.regs, cmp := s.flowBegun } := rfl

theorem State.flowStart_regsKept : s.regsKept s.flowStart [A.CMP_STAT] :=
  State.regsKept.setF (t := { s with cmp := s.flowBegun }) (State.regsKept.refl s _) F.CMP_STAT_FLOW 2 List.mem_cons_self

theorem State.getF_flowStart : s.flowStart.getF F.CMP_STAT_FLOW = 2 := State.getF_setF_self _ _ _ (by decide)

theorem State.flowAbandon_onlyRegs : s.onlyRegs s.flowAbandon [A.CMP_FLOW, A.CMP_EVT] :=
  (((State.onlyRegs.refl s _).bump F.CMP_FLOW_ABANDONED (by decide)).raise F.CMP_EVT_FLOW_ABANDON (by decide)).ite
    (State.onlyRegs.refl s _)

variable {s} in
theorem State.getF_flowAbandon (h : s.flowBuilding = true) :
    s.flowAbandon.getF F.CMP_FLOW_ABANDONED = min (s.getF F.CMP_FLOW_ABANDONED + 1) 65535 ∧
      s.flowAbandon.getF F.CMP_EVT_FLOW_ABANDON = 1 := by
  rw [State.flowAbandon, if_pos h]
  exact ⟨(State.getF_setF_apart _ _ _ _ (by decide) (by decide)).trans (State.getF_bump_self _ _ (by decide)),
    State.getF_raise_self _ _ (by decide) (by decide)⟩

theorem State.flowAgain_frame : s.flowAbandon.flowStart = { s with regs := s.flowAbandon.flowStart.regs, cmp := s.flowBegun } := by
  obtain ⟨r, hr⟩ : ∃ r, s.flowAbandon = { s with regs := r } := ⟨_, s.flowAbandon_onlyRegs.1⟩
  rw [hr]
  rfl

theorem State.flowAgain_regsKept : s.regsKept s.flowAbandon.flowStart [A.CMP_STAT, A.CMP_FLOW, A.CMP_EVT] :=
  (s.flowAbandon_onlyRegs.2.mono (by decide)).trans (s.flowAbandon.flowStart_regsKept.mono (by decide))

end

/-! ### The commands -/

section
variable (who : Initiator) (s : State) (hmay : s.mayWrite who A.CMP_CTL)
include hmay

/-- `COMP_STOP` without a Geode set (R174). -/
theorem compStop_stops (hgo : s.flag F.CMP_CTL_STOP = false) (hset : s.getF F.GEO_STAT_ACTIVE = 31) :
    ∃ t, exec (.compStop who) s = .next t ∧ t.bus = ⟨0, false⟩ ∧ s.onlyBus t [A.CMP_CTL, A.CMP_STAT] ∧ t.getF F.CMP_CTL_STOP = 1 ∧
      t.getF F.CMP_STAT_STATE = (if s.getF F.CMP_STAT_STATE = 2 then 1 else s.getF F.CMP_STAT_STATE) := by
  let u := s.busOk 0
  obtain ⟨hbus, honly⟩ := u.compStopped_onlyRegs.after_busOk
  have hwrite : u.cmpCtlWrite 1 = u.compStopped := (State.cmpCtlWrite_stop (s := u) (.inl hgo)).trans (State.cmpStop_of_noSet hset)
  exact ⟨u.compStopped, congrArg Host.Outcome.next ((State.guarded_of_mayWrite _ hmay).trans hwrite), hbus, honly,
    u.getF_compStopped⟩

/-- `COMP_STOP` while a Geode set is active (R183). -/
theorem compStop_guarded (hset : s.getF F.GEO_STAT_ACTIVE ≠ 31) :
    ∃ t, exec (.compStop who) s = .next t ∧ t.bus = ⟨0, false⟩ ∧ s.onlyBus t [A.CMP_EVT] ∧ t.getF F.CMP_EVT_STOP_GUARD = 1 := by
  let u := s.busOk 0
  have hwrite : u.cmpCtlWrite 1 = u.raise F.CMP_EVT_STOP_GUARD :=
    (State.cmpCtlWrite_stop (s := u) (.inr hset)).trans (State.cmpStop_of_set hset)
  exact ⟨u.raise F.CMP_EVT_STOP_GUARD, congrArg Host.Outcome.next ((State.guarded_of_mayWrite _ hmay).trans hwrite), rfl,
    (State.onlyBus.ok s _ 0).raise F.CMP_EVT_STOP_GUARD (by decide), State.getF_raise_self _ _ (by decide) (by decide)⟩

/-- `COMP_START` (R174). -/
theorem compStart_starts (hstop : s.flag F.CMP_CTL_STOP = true) :
    ∃ t, exec (.compStart who) s = .next t ∧ t.bus = ⟨0, false⟩ ∧ s.onlyBus t [A.CMP_CTL, A.CMP_STAT] ∧ t.getF F.CMP_CTL_STOP = 0 ∧
      t.getF F.CMP_STAT_STATE = 2 ∧ t.getF F.CMP_STAT_FLOW = s.getF F.CMP_STAT_FLOW := by
  let u := s.busOk 0
  obtain ⟨hbus, honly⟩ := u.compStarted_onlyRegs.after_busOk
  have hwrite : u.cmpCtlWrite 0 = u.compStarted := State.cmpCtlWrite_start (s := u) hstop
  exact ⟨u.compStarted, congrArg Host.Outcome.next ((State.guarded_of_mayWrite _ hmay).trans hwrite), hbus, honly,
    u.getF_compStarted⟩

section
variable (hset : s.flag F.CMP_CTL_STOP = true → s.getF F.GEO_STAT_ACTIVE = 31)
include hset

theorem exec_flowReq : exec (.flowReq who) s = .next (s.busOk 0).flowRequest :=
  congrArg Host.Outcome.next ((State.guarded_of_mayWrite _ hmay).trans (State.cmpCtlWrite_flow (s := s.busOk 0) hset))

/-- `FLOW_REQ` of a group, with what it abandons (R177, R178). -/
theorem flowReq_rebuilds (hgroup : s.getF F.CMP_STAT_FLOW ≠ 0) :
    ∃ t, exec (.flowReq who) s = .next t ∧ t.bus = ⟨0, false⟩ ∧ t.getF F.CMP_STAT_FLOW = 2 ∧
      t.getF F.CMP_CTL_STOP = s.getF F.CMP_CTL_STOP ∧
      (s.getF F.CMP_STAT_FLOW = 2 → s.cmp.flowDone = none →
        t.getF F.CMP_FLOW_ABANDONED = min (s.getF F.CMP_FLOW_ABANDONED + 1) 65535 ∧ t.getF F.CMP_EVT_FLOW_ABANDON = 1) ∧
      s.regsKept t [A.CMP_STAT, A.CMP_FLOW, A.CMP_EVT] ∧ t = { s with regs := t.regs, bus := t.bus, cmp := s.flowBegun } := by
  let u := s.busOk 0
  let t := u.flowAbandon.flowStart
  have hframe : t = { u with regs := t.regs, cmp := u.flowBegun } := u.flowAgain_frame
  have hbus : t.bus = ⟨0, false⟩ := by rw [hframe]; rfl
  refine ⟨t, (exec_flowReq who s hmay hset).trans (congrArg _ (if_neg hgroup)), hbus, State.getF_flowStart _,
    u.flowAgain_regsKept.getF_eq F.CMP_CTL_STOP (by decide), fun hflow hdone => ?_, u.flowAgain_regsKept, ?_⟩
  · have hbuild : u.flowBuilding = true :=
      Bool.and_eq_true_iff.2 ⟨beq_iff_eq.2 hflow, Option.isNone_iff_eq_none.2 hdone⟩
    obtain ⟨hcount, hevent⟩ := State.getF_flowAbandon hbuild
    have hkept := u.flowAbandon.flowStart_regsKept
    exact ⟨(hkept.getF_eq _ (by decide)).trans hcount, (hkept.getF_eq _ (by decide)).trans hevent⟩
  · rw [hbus]
    exact hframe

/-- `FLOW_REQ` where the plan names no group (R176). -/
theorem flowReq_withoutGroup (hgroup : s.getF F.CMP_STAT_FLOW = 0) : exec (.flowReq who) s = .next (s.busOk 0) :=
  (exec_flowReq who s hmay hset).trans (congrArg _ (if_pos hgroup))

end

end

/-- The settle time of a live group runs out (R177). -/
theorem flowSettleExpiry_rebuilds (s : State) (hhead : s.isHead = true) (hlive : s.getF F.CMP_STAT_FLOW = 1) :
    ∃ t, exec .flowSettleExpiry s = .next t ∧ t.getF F.CMP_STAT_FLOW = 2 ∧ s.regsKept t [A.CMP_STAT] ∧
      t = { s with regs := t.regs, cmp := s.flowBegun } :=
  ⟨s.flowStart, if_pos (by rw [hhead, hlive]; rfl), s.getF_flowStart, s.flowStart_regsKept, s.flowStart_frame⟩

end Sys2Proof.Machine
end

section
/-!
PROOFS. What composition writes in the memory (chapter 08: R178, R188), and held layers (R165).
-/

namespace Sys2Proof.Machine

/-! ### A byte beside what is written -/

section
variable (s : State) (a : Nat)

/-- A byte of the memory, with everything but the memory. -/
def State.atByte : State × Byte := (s.besideMem, memGet s.core.mem a)

variable {s a}

theorem State.lpddrPut_atByte {b : Nat} {l : List Byte} (h : a < lpddr b ∨ lpddr b + l.length ≤ a) :
    (s.lpddrPut b l).atByte a = s.atByte a := Prod.ext rfl (memGet_memPuts_outside _ _ _ _ h)

theorem State.memGet_of_atByte {t : State} (h : t.atByte a = s.atByte a) : memGet t.core.mem a = memGet s.core.mem a :=
  congrArg Prod.snd h

/-- A state that differs in the memory alone. -/
theorem State.eq_of_besideMem {t : State} (h : t.besideMem = s.besideMem) :
    t = { s with core := { s.core with mem := t.core.mem } } :=
  congrArg (fun u : State => { u with core := { u.core with mem := t.core.mem } }) h

end

/-! ### The Flowstone cache (R176, R178) -/

theorem State.placeLayers_rgb_length (s : State) (ls : List Nat) (x y : Nat) (b : Premul) :
    (s.placeLayers ls x y b).rgb.length ≤ b.rgb.length := by
  unfold State.placeLayers
  induction ls generalizing b with
  | nil => exact le_refl _
  | cons l ls ih =>
    refine (ih _).trans ?_
    beta_reduce
    split
    · exact (List.length_zipWith ..).trans_le (Nat.min_le_right _ _)
    · exact le_refl _

theorem premulBytes_length (p : Premul) : (premulBytes p).length = 3 * (p.rgb.length + 1) := by
  simp [premulBytes, List.length_flatMap]
  ring

section
variable (s : State) (f half : Nat)

/-- A line of the cache takes at most 12 bytes a pixel. -/
theorem State.flowLine_length (ls : List Nat) (x0 y w : Nat) :
    ((List.range w).flatMap fun j => premulBytes (s.placeLayers ls (x0 + j) y {})).length ≤ 12 * w := by
  have hpix : ∀ n ∈ (List.range w).map (fun j => (premulBytes (s.placeLayers ls (x0 + j) y {})).length), n ≤ 12 := by
    simp only [List.mem_map, List.mem_range, forall_exists_index, and_imp]
    rintro n j - rfl
    have hrgb : (s.placeLayers ls (x0 + j) y {}).rgb.length ≤ 3 := s.placeLayers_rgb_length ls (x0 + j) y {}
    rw [premulBytes_length]
    omega
  rw [List.length_flatMap]
  simpa [Nat.mul_comm] using List.sum_le_card_nsmul _ 12 hpix

theorem State.flowAddr_line (i : Nat) : s.flowAddr f half (s.flowBox f).x0 ((s.flowBox f).y0 + i) =
    s.flowAddr f half (s.flowBox f).x0 (s.flowBox f).y0 + 12 * (i * ((s.flowBox f).x1 - (s.flowBox f).x0)) := by
  simp [State.flowAddr]

/-- An address beside a half of a facet's cache. -/
def State.besideFlow (a : Nat) : Prop :=
  a < lpddr (s.flowAddr f half (s.flowBox f).x0 (s.flowBox f).y0) ∨
    lpddr (s.flowAddr f half (s.flowBox f).x0 (s.flowBox f).y0) +
      12 * (((s.flowBox f).x1 - (s.flowBox f).x0) * ((s.flowBox f).y1 - (s.flowBox f).y0)) ≤ a

theorem State.flowWrite_besideMem : (s.flowWrite f half).besideMem = s.besideMem :=
  State.forEach_same s State.besideMem _ fun _ _ => rfl

variable {s f half} in
/-- A facet's group flattened leaves every byte beside its half of the cache (R178). -/
theorem State.flowWrite_atByte {a : Nat} (h : s.besideFlow f half a) : (s.flowWrite f half).atByte a = s.atByte a := by
  refine State.forEach_induction s (fun u => u.atByte a = s.atByte a) rfl fun i hi u hu => ?_
  have haddr : ∀ y, u.flowAddr f half (s.flowBox f).x0 y = s.flowAddr f half (s.flowBox f).x0 y := fun y =>
    congrArg (fun v : State × Byte => v.1.flowAddr f half (s.flowBox f).x0 y) hu
  have hline := u.flowLine_length (u.groupLayers f) (s.flowBox f).x0 ((s.flowBox f).y0 + i) ((s.flowBox f).x1 - (s.flowBox f).x0)
  have hend := Nat.mul_le_mul_right ((s.flowBox f).x1 - (s.flowBox f).x0) (Nat.succ_le_of_lt (List.mem_range.1 hi))
  refine (State.lpddrPut_atByte ?_).trans hu
  rw [haddr, s.flowAddr_line]
  simp only [State.besideFlow, lpddr, Nat.succ_mul] at h hend ⊢
  rw [Nat.mul_comm (_ - _) (_ - _)] at h
  omega

/-- The facets that the cache holds a group of. -/
def State.flowFacets : List Nat := (List.range s.facets).filter fun f => !(s.groupLayers f).isEmpty

/-- The half of the cache that is not in use, rebuilt. -/
def State.flowRebuilt : State := s.forEach s.flowFacets fun f t => t.flowWrite f (1 - s.cmp.flowHalf)

theorem State.flowRebuilt_besideMem : s.flowRebuilt.besideMem = s.besideMem :=
  State.forEach_same s State.besideMem _ fun f t => t.flowWrite_besideMem f _

variable {s} in
theorem State.memGet_flowRebuilt {a : Nat}
    (h : ∀ f, f < s.facets → s.groupLayers f ≠ [] → s.besideFlow f (1 - s.cmp.flowHalf) a) :
    memGet s.flowRebuilt.core.mem a = memGet s.core.mem a := by
  have hall : s.flowRebuilt.atByte a = s.atByte a := by
    refine State.forEach_induction s (fun u => u.atByte a = s.atByte a) rfl fun f hf u hu => ?_
    obtain ⟨hlt, hgroup⟩ := List.mem_filter.1 hf
    have hbeside : u.besideFlow f (1 - s.cmp.flowHalf) a = s.besideFlow f (1 - s.cmp.flowHalf) a :=
      congrArg (fun v : State × Byte => v.1.besideFlow f (1 - s.cmp.flowHalf) a) hu
    exact (State.flowWrite_atByte (hbeside.mpr (h f (List.mem_range.1 hlt) (by simpa using hgroup)))).trans hu
  exact State.memGet_of_atByte hall

end

/-- A rebuild done is counted, and writes the half that is not in use alone (R178). -/
theorem flowRebuildDone_writes (s : State) (hhead : s.isHead = true) (hflow : s.getF F.CMP_STAT_FLOW = 2)
    (hdone : s.cmp.flowDone = none) (hmem : s.memRuns = true) :
    ∃ t, exec .flowRebuildDone s = .next t ∧ t.getF F.CMP_FLOW_BUILDS = min (s.getF F.CMP_FLOW_BUILDS + 1) 65535 ∧
      s.regsKept t [A.CMP_FLOW] ∧ t.cmp = { s.cmp with flowDone := some s.now, flowReads := [] } ∧
      (∀ a, (∀ f, f < s.facets → s.groupLayers f ≠ [] → s.besideFlow f (1 - s.cmp.flowHalf) a) →
        memGet t.core.mem a = memGet s.core.mem a) ∧
      t = { s with regs := t.regs, cmp := t.cmp, core := { s.core with mem := t.core.mem } } := by
  let u : State := { s with
    cmp := { s.cmp with flowDone := some s.now, flowReads := [] }, core := { s.core with mem := s.flowRebuilt.core.mem } }
  have hbuild : (s.isHead && s.flowBuilding && s.memRuns) = true := by
    rw [State.flowBuilding, hhead, hflow, hdone, hmem]
    rfl
  have hrebuilt : { s.flowRebuilt with
      cmp := { s.flowRebuilt.cmp with flowDone := some s.flowRebuilt.now, flowReads := [] } } = u := by
    rw [State.eq_of_besideMem s.flowRebuilt_besideMem]
  refine ⟨u.bump F.CMP_FLOW_BUILDS,
    (if_pos hbuild).trans (congrArg (fun v : State => Host.Outcome.next (v.bump F.CMP_FLOW_BUILDS)) hrebuilt), u.getF_bump_self _ (by decide), State.regsKept.bump (t := u) (State.regsKept.refl s _) F.CMP_FLOW_BUILDS List.mem_cons_self,
    rfl, fun a ha => State.memGet_flowRebuilt ha, rfl⟩

/-! ### Held layers (R165) -/

theorem layerHoldExpiry_noted (v : Fin 8) (c : Fin 4) (s : State) (hhead : s.isHead = true)
    (hcapture : (s.layer v).capture = some c) (hhold : (nth s.plan.comp.vl v {}).onHold ≠ 0) (hfrom : (s.src c).holdFrom ≠ none) :
    ∃ t, exec (.layerHoldExpiry v) s = .next t ∧
      t = { s with cmp := { s.cmp with holdOut := t.cmp.holdOut } } ∧ (v.val, s.newestStamp c) ∈ t.cmp.holdOut := by
  have hheld : (s.isHead && (nth s.plan.comp.vl v.val {}).onHold != 0 && (s.src c.val).holdFrom.isSome) = true := by
    simp [hhead, hhold, Option.isSome_iff_ne_none, hfrom]
  refine ⟨{ s with cmp := { s.cmp with holdOut := tabPut s.cmp.holdOut v.val (s.newestStamp c) } }, ?_, rfl, List.mem_cons_self⟩
  show execLayerHoldExpiry v s = _
  unfold execLayerHoldExpiry
  rw [hcapture]
  exact if_pos hheld

/-! ### Own-panel buffers (R188) -/

section
variable (s : State) (f half : Nat) (image : Word)

theorem State.panelPixel_length (p : PanelMap) (r c : Nat) : (s.panelPixel p f r c image).length = 3 := by
  unfold State.panelPixel
  split <;> rfl

theorem State.panelRow_length (p : PanelMap) (r : Nat) : (s.panelRow p f r image).length = 1536 := by
  have hpix : ∀ n ∈ (List.range 256).map (fun c =>
      ((s.panelPixel p f r c image).flatMap fun v => bytesLe (v <<< (16 - s.outDepth)) 2).length), n = 6 := by
    simp only [List.mem_map, forall_exists_index, and_imp]
    rintro n c - rfl
    simp [List.length_flatMap, State.panelPixel_length]
  rw [State.panelRow, List.length_flatMap, List.sum_eq_card_nsmul _ 6 hpix, List.length_map, List.length_range]
  rfl

theorem State.ownWrite_besideMem : (s.ownWrite f half image).besideMem = s.besideMem :=
  State.forEach_same s State.besideMem _ fun _ _ => rfl

variable {s f half image} in
theorem State.memGet_ownWrite_outside {a : Nat} (h : a < lpddr (s.ownBase f half) ∨ lpddr (s.ownBase f half) + 393216 ≤ a) :
    memGet (s.ownWrite f half image).core.mem a = memGet s.core.mem a := by
  have hall : (s.ownWrite f half image).atByte a = s.atByte a := by
    refine State.forEach_induction s (fun u => u.atByte a = s.atByte a) rfl fun r hr u hu => ?_
    have hbase : u.ownBase f half = s.ownBase f half := congrArg (fun v : State × Byte => v.1.ownBase f half) hu
    have hlt := List.mem_range.1 hr
    refine (State.lpddrPut_atByte ?_).trans hu
    rw [State.panelRow_length, hbase]
    simp only [lpddr] at h ⊢
    omega
  exact State.memGet_of_atByte hall

/-- A facet's buffer noted as complete. -/
def State.ownNoted : State := { s with cmp := { s.cmp with ownDone := tabPut s.cmp.ownDone (f, half) image } }

theorem State.mem_ownNoted : (s.ownNoted f half image).core.mem = s.core.mem := rfl

theorem State.ownDone_ownNoted : tabGet 0 (s.ownNoted f half image).cmp.ownDone (f, half) = image := tabGet_tabPut_self _ _ _ _

variable {s} in
theorem State.ownNoted_frame {w : State} (h : w.besideMem = s.besideMem) : w.ownNoted f half image = { s with
    cmp := { s.cmp with ownDone := (w.ownNoted f half image).cmp.ownDone }
    core := { s.core with mem := (w.ownNoted f half image).core.mem } } := by
  rw [State.eq_of_besideMem h]
  rfl

theorem State.exec_ownBufferComplete (f : Fin 4) : exec (.ownBufferComplete f) s =
    if s.composing && decide (f.val < s.facets) && s.facetImage f == s.imageNow &&
        s.lineComposed (panelLine s.plan.comp.own 0 256) && !(s.ownRead f ((s.facetImage f).toNat / s.facets % 2)) then
      .next ((s.ownWrite f ((s.facetImage f).toNat / s.facets % 2) (s.facetImage f)).ownNoted f
        ((s.facetImage f).toNat / s.facets % 2) (s.facetImage f))
    else .next s := rfl

end

/-- The own panel's picture of a facet fills its buffer and no other byte (R188). -/
theorem ownBufferComplete_writes (f : Fin 4) (s : State) (hgo : s.composing = true) (hf : f.val < s.facets)
    (himage : s.facetImage f = s.imageNow) (hline : s.lineComposed (panelLine s.plan.comp.own 0 256) = true)
    (hread : s.ownRead f ((s.facetImage f).toNat / s.facets % 2) = false) :
    ∃ t half base, exec (.ownBufferComplete f) s = .next t ∧ half = (s.facetImage f).toNat / s.facets % 2 ∧
      base = lpddr (s.ownBase f half) ∧
      t.core.mem = (s.ownWrite f half (s.facetImage f)).core.mem ∧
      (∀ a, (a < base ∨ base + 393216 ≤ a) → memGet t.core.mem a = memGet s.core.mem a) ∧
      tabGet 0 t.cmp.ownDone (f.val, half) = s.facetImage f ∧
      t = { s with cmp := { s.cmp with ownDone := t.cmp.ownDone }, core := { s.core with mem := t.core.mem } } := by
  have hready : (s.composing && decide (f.val < s.facets) && s.facetImage f == s.imageNow &&
      s.lineComposed (panelLine s.plan.comp.own 0 256) && !(s.ownRead f ((s.facetImage f).toNat / s.facets % 2))) = true := by
    rw [hgo, hline, hread, decide_eq_true hf, beq_iff_eq.2 himage]
    rfl
  exact ⟨_, _, _, (s.exec_ownBufferComplete f).trans (if_pos hready), rfl, rfl, State.mem_ownNoted .., fun a ha =>
    (congrArg (memGet · a) (State.mem_ownNoted ..)).trans (State.memGet_ownWrite_outside ha), State.ownDone_ownNoted ..,
    State.ownNoted_frame f _ _ (s.ownWrite_besideMem ..)⟩

/-- Settles O36: the writes of `CMP_CTL`, the rebuilds, the holds, and the own panel's buffers. -/
theorem compositionStopsAndCaches : Obligations.CompositionStopsAndCaches :=
  ⟨compStop_stops, compStop_guarded, compStart_starts, fun who s hmay hgroup hset => flowReq_rebuilds who s hmay hset hgroup,
    fun who s hmay hgroup hset => flowReq_withoutGroup who s hmay hset hgroup, flowSettleExpiry_rebuilds, flowRebuildDone_writes,
    layerHoldExpiry_noted, ownBufferComplete_writes⟩

end Sys2Proof.Machine
end
section
/-!
PROOFS. Geode commands (chapter 08: R180 to R182).
-/

namespace Sys2Proof.Machine

/-! ### The checks (R180) -/

/-- One check that fails is enough (R180). -/
theorem State.geodeAccepts_eq_false {m : GeodeMsg} {s : State} (h : m.form = false ∨
    ecdsaOk s.geodeKey (m.bytes.take 32) m.sig = false ∨ m.wallId ≠ s.plan.wall.id ∨ m.counter ≤ s.geo.counter ∨
    s.geodeSetOk m.set = false) : s.geodeAccepts m = false := by
  unfold State.geodeAccepts State.geodeSigned
  obtain h | h | h | h | h := h
  · simp [h]
  · simp [h]
  · simp [h]
  · simp [BitVec.not_lt.2 h]
  · simp [h]

/-! ### A record on its way to the Sump (R414) -/

/-- A record's write begun by an idle save engine. -/
theorem State.recordWrite_idle {s : State} {r : Nat} (hr : 1 ≤ r ∧ r ≤ 4) (hsave : s.smp.save = none) : s.recordWrite r =
    ({ s with smp := { s.smp with
      save := some { kind := .record r, rows := (recordRows r).map fun k => (r, k) } } }).setF F.SMP_STAT_STATE 2 := by
  rw [State.recordWrite, if_neg (by omega), hsave]

/-! ### A command taken (R180, R182) -/

section
variable (s : State) (m : GeodeMsg) (target : Word)

/-- A command's counter kept, its set waiting for its target, and its record on the way to the Sump. -/
def State.geodeTaken : State :=
  { s with
    geo := { s.geo with counter := m.counter, pending := s.geo.pending ++ [⟨geodeCode m.set, m.counter, target⟩] }
    smp := { s.smp.setSys { s.smp.sys with geodeSet := geodeCode m.set, geodeCounter := m.counter } with
      save := some { kind := .record 1, rows := (recordRows 1).map fun k => (1, k) } } }

/-- What the registers show of a command taken, but for a late one. -/
def State.geodeShown : State :=
  (((s.geodeTaken m target).setF F.GEO_CNT_COUNTER (m.counter.toNat % 2 ^ 32)).raise F.GEO_EVT_ACCEPT).setF F.SMP_STAT_STATE 2

/-- The target image has begun (R181). -/
def State.geodeLate : Bool := s.tim.image.isSome && decide (0 ≤ diff32 s.imageNow target)

theorem State.geodeShown_onlyRegs :
    (s.geodeTaken m target).onlyRegs (s.geodeShown m target) [A.GEO_CNT, A.GEO_EVT, A.SMP_STAT] :=
  (((State.onlyRegs.refl _ _).setF F.GEO_CNT_COUNTER _ (by decide)).raise F.GEO_EVT_ACCEPT (by decide)).setF F.SMP_STAT_STATE 2
    (by decide)

theorem State.getF_geodeShown : (s.geodeShown m target).getF F.GEO_CNT_COUNTER = m.counter.toNat % 2 ^ 32 ∧
    (s.geodeShown m target).getF F.GEO_EVT_ACCEPT = 1 := by
  constructor <;> rw [State.geodeShown, State.getF_setF_apart _ _ _ _ (by decide) (by decide)]
  · rw [State.raise, State.getF_setF_apart _ _ _ _ (by decide) (by decide), State.getF_setF_self _ _ _ (by decide)]
    exact Nat.mod_mod _ _
  · exact State.getF_raise_self _ _ (by decide) (by decide)

variable {s} (hsave : s.smp.save = none)
include hsave

theorem State.geodeAccept_eq :
    s.geodeAccept m target = (s.geodeShown m target).when (s.geodeLate target) fun t => t.raise F.GEO_EVT_LATE :=
  congrArg (fun t : State => t.when (s.geodeLate target) fun u => u.raise F.GEO_EVT_LATE)
    (State.recordWrite_idle (r := 1) (by decide) hsave)

theorem State.geodeAccept_onlyRegs :
    (s.geodeTaken m target).onlyRegs (s.geodeAccept m target) [A.GEO_CNT, A.GEO_EVT, A.SMP_STAT] := by
  have hshown := s.geodeShown_onlyRegs m target
  rw [State.geodeAccept_eq m target hsave]
  exact hshown.when _ (hshown.raise F.GEO_EVT_LATE (by decide))

theorem State.getF_geodeAccept : (s.geodeAccept m target).getF F.GEO_CNT_COUNTER = m.counter.toNat % 2 ^ 32 ∧
    (s.geodeAccept m target).getF F.GEO_EVT_ACCEPT = 1 := by
  obtain ⟨hcount, haccept⟩ := s.getF_geodeShown m target
  have hsame (f : Fld) (happart : F.GEO_EVT_LATE.apart f = true) (hfits : f.lo + f.width ≤ 32) :
      (s.geodeAccept m target).getF f = (s.geodeShown m target).getF f := by
    rw [State.geodeAccept_eq m target hsave]
    exact State.when_same _ (State.getF · f) _ (State.getF_setF_apart _ _ _ _ happart hfits)
  exact ⟨(hsame _ (by decide) (by decide)).trans hcount, (hsame _ (by decide) (by decide)).trans haccept⟩

theorem State.getF_geodeAccept_late {i : Word} (himage : s.tim.image = some i) (hlate : 0 ≤ diff32 i target) :
    (s.geodeAccept m target).getF F.GEO_EVT_LATE = 1 := by
  have hbegun : s.geodeLate target = true := by
    rw [State.geodeLate, State.imageNow, himage]
    exact decide_eq_true hlate
  rw [State.geodeAccept_eq m target hsave, hbegun, State.when_true]
  exact State.getF_raise_self _ _ (by decide) (by decide)

/-- A command taken stands in the Geode layer and in the Sump; the link and the plan are as before. -/
theorem State.geodeAccept_parts : (s.geodeAccept m target).geo = (s.geodeTaken m target).geo ∧
    (s.geodeAccept m target).smp = (s.geodeTaken m target).smp ∧ (s.geodeAccept m target).lnk = s.lnk ∧
    (s.geodeAccept m target).plan = s.plan := by
  rw [(State.geodeAccept_onlyRegs m target hsave).1]
  exact ⟨rfl, rfl, rfl, rfl⟩

theorem State.geodeAccept_regsKept : s.regsKept (s.geodeAccept m target) [A.GEO_CNT, A.GEO_EVT, A.SMP_STAT] :=
  (State.geodeAccept_onlyRegs m target hsave).2

theorem State.geodeAccept_paired : (s.geodeAccept m target).paired = s.paired := by
  obtain ⟨-, -, -, hplan⟩ := State.geodeAccept_parts m target hsave
  have hkept := State.geodeAccept_regsKept m target hsave
  exact State.paired_congr hplan (hkept.flag_eq F.SUP_STAT_ROLE (by decide)) (hkept.flag_eq F.BOOT_STAT_ROLE_PLAN (by decide))
    (hkept.flag_eq F.SEC_STAT_DEBUG (by decide))

end

/-! ### A command passed on (R181) -/

section
variable {s : State} (m : GeodeMsg) (target : Word)

/-- A command goes to the partner as one packet of the Head's own; a Head without a partner sends nothing. -/
theorem State.geodeRelay_frame : ∃ lnk, s.geodeRelay m target = { s with lnk := lnk } ∧
    (s.paired = true → lnk.own.length = s.lnk.own.length + 1) ∧ (s.paired = false → lnk = s.lnk) := by
  cases hpaired : s.paired
  · exact ⟨s.lnk, if_neg (Bool.eq_false_iff.1 hpaired), fun h => absurd h (by decide), fun _ => rfl⟩
  · have hhead : s.isHead = true := by
      rw [State.paired, Bool.and_assoc] at hpaired
      exact (Bool.and_eq_true_iff.1 hpaired).1
    exact ⟨_, (if_pos hpaired).trans (if_pos hhead), fun _ => List.length_append, fun h => absurd h (by decide)⟩

end

/-! ### The commands -/

section
variable {s : State} (m : GeodeMsg) (target : Word)

/-- The target that a command gets where it is accepted (R181). -/
def State.geodeTarget (s : State) (m : GeodeMsg) : Word :=
  if m.target = 0 then s.imageNow + BitVec.ofNat 32 s.plan.comp.geodeLead else m.target

/-- A Tile, or a Head before release, takes no Geode command (R180). -/
theorem exec_geode_unready (h : s.isHead = false ∨ s.released = false) :
    exec (.geodeCommand m) s = .next s ∧ exec (.geodeRelayReceived m target) s = .next s := by
  have hnot : (!s.isHead || !s.released) = true := by simpa using h
  exact ⟨if_pos hnot, congrArg _ (if_pos hnot)⟩

section
variable (hhead : s.isHead = true) (hrel : s.released = true)
include hhead hrel

theorem exec_geode_ready : exec (.geodeCommand m) s =
      (if s.geodeAccepts m then .next ((s.geodeAccept m (s.geodeTarget m)).geodeRelay m (s.geodeTarget m))
        else .next (s.raise F.GEO_EVT_REJECT)) ∧
    exec (.geodeRelayReceived m target) s =
      .next (if s.geodeAccepts m then s.geodeAccept m target else s.raise F.GEO_EVT_REJECT) := by
  have hready : ¬(!s.isHead || !s.released) = true := by simp [hhead, hrel]
  exact ⟨if_neg hready, congrArg _ (if_neg hready)⟩

/-- A command that fails a check of R180 sets REJECT alone, whichever way it came. -/
theorem geode_rejects (hnot : s.geodeAccepts m = false) :
    (∃ t, exec (.geodeCommand m) s = .next t ∧ s.onlyRegs t [A.GEO_EVT] ∧ t.getF F.GEO_EVT_REJECT = 1) ∧
    (∃ t, exec (.geodeRelayReceived m target) s = .next t ∧ s.onlyRegs t [A.GEO_EVT] ∧ t.getF F.GEO_EVT_REJECT = 1) := by
  obtain ⟨hdirect, hrelayed⟩ := exec_geode_ready m target hhead hrel
  rw [hnot] at hdirect hrelayed
  have honly := (State.onlyRegs.refl s [A.GEO_EVT]).raise F.GEO_EVT_REJECT (by decide)
  have hbit := s.getF_raise_self F.GEO_EVT_REJECT (by decide) (by decide)
  exact ⟨⟨_, hdirect, honly, hbit⟩, ⟨_, hrelayed, honly, hbit⟩⟩

variable (haccepts : s.geodeAccepts m = true) (hsave : s.smp.save = none)
include haccepts hsave

/-- `GEODE_COMMAND` that passes every check (R180 to R182). -/
theorem geodeCommand_accepted :
    ∃ t, exec (.geodeCommand m) s = .next t ∧ t.geo.counter = m.counter ∧
      t.geo.pending = s.geo.pending ++ [⟨if m.set = 255 then 31 else m.set, m.counter,
        if m.target = 0 then s.imageNow + BitVec.ofNat 32 s.plan.comp.geodeLead else m.target⟩] ∧
      t.smp.sys.geodeCounter = m.counter ∧ t.smp.sys.geodeSet = (if m.set = 255 then 31 else m.set) ∧
      (t.smp.save.map (fun x => x.kind)) = some (.record 1) ∧ t.getF F.GEO_CNT_COUNTER = m.counter.toNat % 2 ^ 32 ∧
      t.getF F.GEO_EVT_ACCEPT = 1 ∧ s.regsKept t [A.GEO_CNT, A.GEO_EVT, A.SMP_STAT] ∧
      (s.paired = true → t.lnk.own.length = s.lnk.own.length + 1) ∧ (s.paired = false → t.lnk = s.lnk) := by
  let target := s.geodeTarget m
  let a := s.geodeAccept m target
  obtain ⟨hgeo, hsmp, hlnk, -⟩ := State.geodeAccept_parts m target hsave
  obtain ⟨hcount, haccept⟩ := State.getF_geodeAccept m target hsave
  obtain ⟨lnk, hrelay, hsent, hquiet⟩ := State.geodeRelay_frame (s := a) m target
  rw [show a.paired = s.paired from State.geodeAccept_paired m target hsave, show a.lnk = s.lnk from hlnk] at hsent hquiet
  have hexec : exec (.geodeCommand m) s = .next { a with lnk := lnk } :=
    (exec_geode_ready m target hhead hrel).1.trans ((if_pos haccepts).trans (congrArg _ hrelay))
  exact ⟨{ a with lnk := lnk }, hexec, congrArg GeoState.counter hgeo, congrArg GeoState.pending hgeo,
    congrArg (fun x : SumpState => x.sys.geodeCounter) hsmp, congrArg (fun x : SumpState => x.sys.geodeSet) hsmp,
    congrArg (fun x : SumpState => x.save.map fun y => y.kind) hsmp, hcount, haccept,
    State.geodeAccept_regsKept m target hsave, hsent, hquiet⟩

/-- `GEODE_RELAY_RECEIVED` that passes every check keeps the partner's target (R181). -/
theorem geodeRelayReceived_accepted :
    ∃ t, exec (.geodeRelayReceived m target) s = .next t ∧ t.geo.counter = m.counter ∧
      t.geo.pending = s.geo.pending ++ [⟨if m.set = 255 then 31 else m.set, m.counter, target⟩] ∧
      t.smp.sys.geodeCounter = m.counter ∧ t.getF F.GEO_EVT_ACCEPT = 1 ∧ t.lnk = s.lnk ∧
      s.regsKept t [A.GEO_CNT, A.GEO_EVT, A.SMP_STAT] ∧
      (∀ i, s.tim.image = some i → 0 ≤ diff32 i target → t.getF F.GEO_EVT_LATE = 1) := by
  obtain ⟨hgeo, hsmp, hlnk, -⟩ := State.geodeAccept_parts m target hsave
  obtain ⟨-, haccept⟩ := State.getF_geodeAccept m target hsave
  have hexec : exec (.geodeRelayReceived m target) s = .next (s.geodeAccept m target) :=
    (exec_geode_ready m target hhead hrel).2.trans (congrArg _ (if_pos haccepts))
  exact ⟨s.geodeAccept m target, hexec, congrArg GeoState.counter hgeo, congrArg GeoState.pending hgeo,
    congrArg (fun x : SumpState => x.sys.geodeCounter) hsmp, haccept, hlnk, State.geodeAccept_regsKept m target hsave,
    fun _ => State.getF_geodeAccept_late m target hsave⟩

end

end

/-- Settles O37: a command taken as it came and as the partner passed it on, one refused, and a device that takes none. -/
theorem geodeCommandsAreAcceptedOrRejected : Obligations.GeodeCommandsAreAcceptedOrRejected :=
  ⟨fun m _ hhead hrel => geodeCommand_accepted m hhead hrel,
    fun m target _ hhead hrel => geodeRelayReceived_accepted m target hhead hrel,
    fun m target _ hhead hrel hfails => geode_rejects m target hhead hrel (State.geodeAccepts_eq_false hfails),
    fun m target _ => exec_geode_unready m target⟩

end Sys2Proof.Machine
end
